-- ==== Sys2Proof/Word.lean ====
section
/-!
DEFINITION. The words of the register space and the bit fields that the spec writes `[msb:lsb]`.
-/

namespace Sys2Proof

/-- A register or a Dratus parameter word (R39, R448). -/
abbrev Word := BitVec 32

/-- A byte as a path carries it (R39). -/
abbrev Byte := BitVec 8

/-- A bit field of a word: its lowest bit and its width. -/
structure Fld where
  lo : Nat
  len : Nat
  deriving DecidableEq, Repr, Inhabited

/-- The access codes of R13, with the special forms of the field tables: `w1t` is a W1C count that 1 written to its
top bit clears whole; `ro0` is "RO for n = 0, RWL otherwise" (R73); `src` marks the fields of FLT_SRC_CFG whose access
depends on the source (R338); `wol` is the WO field that only H0 in the Provisioning state writes (R347). -/
inductive Acc where
  | rw | ro | w1c | w1t | w1s | wo | rwl | ro0 | src | wol
  deriving DecidableEq, Repr, Inhabited

/-- One row of a field table: place, access code, value after a chip reset (the value "when absent" for NV), and
whether the field is loaded from the stored settings (reset column NV, R16, R398). -/
structure FldDesc where
  fld : Fld
  acc : Acc
  rst : Nat
  nv : Bool
  deriving DecidableEq, Repr, Inhabited

/-- One register of the map: offset in its block window, (stride, count) per index, fields. -/
structure RegDesc where
  off : Nat
  dims : List (Nat × Nat)
  flds : List FldDesc
  deriving DecidableEq, Repr, Inhabited

end Sys2Proof
end

