-- ==== Sys2Proof/Machine/Bits.lean ====
section
/-!
DEFINITION. Bit fields, signed numbers, byte order and the one CRC routine (R422) that serves every check of the spec.
-/

namespace Sys2Proof.Machine

/-- A word from a number, modulo 2^32. -/
def w32 (n : Nat) : Word := BitVec.ofNat 32 n

/-- The value of field `f` of `w`. -/
def fget (w : Word) (f : Fld) : Nat := (w.toNat >>> f.lo) % 2 ^ f.len

/-- `w` with field `f` replaced by `v` (modulo the width of the field). -/
def fset (w : Word) (f : Fld) (v : Nat) : Word :=
  let mask : Word := w32 ((2 ^ f.len - 1) <<< f.lo)
  (w &&& ~~~ mask) ||| w32 ((v % 2 ^ f.len) <<< f.lo)

/-- Bits `[hi:lo]` of a word, as the spec writes a field. -/
def bits (w : Word) (hi lo : Nat) : Nat := (w.toNat >>> lo) % 2 ^ (hi + 1 - lo)

/-- Bit `k` of a word. -/
def bit (w : Word) (k : Nat) : Bool := w.toNat.testBit k

/-- A flag as a field value. -/
def b2n (b : Bool) : Nat := if b then 1 else 0

/-- The two's complement value of an `n`-bit number. -/
def sgn (n v : Nat) : Int :=
  let v := v % 2 ^ n
  if v < 2 ^ (n - 1) then (v : Int) else (v : Int) - (2 ^ n : Nat)

/-- The `n`-bit two's complement code of an integer (wraps). -/
def unsgn (n : Nat) (i : Int) : Nat := (i % ((2 ^ n : Nat) : Int)).toNat

/-- `i` limited to the range of an `n`-bit two's complement number. -/
def satS (n : Nat) (i : Int) : Int :=
  let hi : Int := (2 ^ (n - 1) : Nat)
  if i ≥ hi then hi - 1 else if i < -hi then -hi else i

/-- `v` limited to `m`. -/
def capN (m v : Nat) : Nat := if v ≤ m then v else m

/-- Bitwise and on numbers used as bit sets: is `k` a member of `m`? -/
def hasBit (m k : Nat) : Bool := m.testBit k

/-- The set `m` with `k` added. -/
def setBit (m k : Nat) : Nat := m ||| (1 <<< k)

/-- The set `m` with `k` removed. -/
def clrBit (m k : Nat) : Nat := if m.testBit k then m - 2 ^ k else m

/-- The members of the bit set `m` below `n`, ascending. -/
def members (n m : Nat) : List Nat := (List.range n).filter (fun k => m.testBit k)

/-- How many members of `m` lie below `n`. -/
def popcount (n m : Nat) : Nat := (members n m).length

/-- The bytes of a word, least significant first (R39). -/
def wordBytes (w : Word) : List Nat :=
  [w.toNat % 256, w.toNat >>> 8 % 256, w.toNat >>> 16 % 256, w.toNat >>> 24]

/-- The bytes of a 16-bit number, least significant first (R39). -/
def halfBytes (n : Nat) : List Nat := [n % 256, n >>> 8 % 256]

/-- The bytes of a list of words, each least significant byte first (R39). -/
def wordsBytes (ws : List Word) : List Nat := ws.flatMap wordBytes

/-- A number from bytes, least significant first. -/
def leNat : List Nat → Nat
  | [] => 0
  | b :: bs => b % 256 + 256 * leNat bs

/-- Words from bytes, least significant byte first; a last part shorter than four bytes is filled with zeros. -/
def bytesWords : List Nat → List Word
  | [] => []
  | a :: b :: c :: d :: rest => w32 (leNat [a, b, c, d]) :: bytesWords rest
  | bs => [w32 (leNat bs)]

/-! ### CRC (R422) -/

/-- The configuration of a CRC of width `w`: polynomial, initial value, reflections and final XOR (R422). -/
structure CrcCfg where
  w : Nat
  poly : Nat
  init : Nat
  refIn : Bool
  refOut : Bool
  xorOut : Nat
  deriving DecidableEq, Repr, Inhabited

/-- The low `n` bits of `v` in reverse order. -/
def reflect : Nat → Nat → Nat
  | 0, _ => 0
  | n + 1, v => (v % 2) * 2 ^ n + reflect n (v / 2)

/-- One shift of the CRC register with message bit `b`. -/
def crcBit (c : CrcCfg) (r : Nat) (b : Bool) : Nat :=
  let sh := (r * 2) % 2 ^ c.w
  if (r.testBit (c.w - 1)) != b then sh ^^^ c.poly else sh

/-- The bits of a byte in the order in which the CRC takes them: least significant first when input is reflected. -/
def crcOrder (c : CrcCfg) (byte : Nat) : List Bool :=
  if c.refIn then [0, 1, 2, 3, 4, 5, 6, 7].map (fun k => byte.testBit k)
  else [7, 6, 5, 4, 3, 2, 1, 0].map (fun k => byte.testBit k)

/-- The register after the bytes. -/
def crcRun (c : CrcCfg) (r : Nat) (bytes : List Nat) : Nat :=
  bytes.foldl (fun r b => (crcOrder c b).foldl (crcBit c) r) r

/-- The value that the register gives at the end of the message. -/
def crcEnd (c : CrcCfg) (r : Nat) : Nat := (if c.refOut then reflect c.w r else r) ^^^ c.xorOut

/-- The CRC of a message given as bytes (R422). -/
def crc (c : CrcCfg) (bytes : List Nat) : Nat := crcEnd c (crcRun c c.init bytes)

/-- The CRC of a message given as bits, first bit first (no input reflection). -/
def crcOfBits (c : CrcCfg) (bs : List Bool) : Nat := crcEnd c (bs.foldl (crcBit c) c.init)

/-- CRC-16/CCITT of the Dratus header (R42). -/
def crc16 : CrcCfg := ⟨16, 0x1021, 0xFFFF, false, false, 0⟩

/-- CRC-32C of the Dratus trailer (R42). -/
def crc32c : CrcCfg := ⟨32, 0x1EDC6F41, 0xFFFFFFFF, true, true, 0xFFFFFFFF⟩

end Sys2Proof.Machine
end

