-- ==== Sys2Proof/Syntax.lean ====
section
/-!
DEFINITION. The commands of the block: one constructor per row of spec/opcode_table.json, with the operands that the spec gives it.
Every command carries its instant in PIX cycles (600 MHz): a Dratus row in its packet, any other row as `t`.
-/

namespace Sys2Proof

/-- A Dratus request as it arrives on a path (R39, R40). MAGIC, VERSION and OPCODE are those of the row that carries
the packet; `hchk` and `trailer` are the words received, right or wrong. `short` says that a CAN or debug carrier ended
before the packet did. `t` is the instant of arrival in PIX cycles (600 MHz), as for every command. -/
structure Packet where
  t : Nat
  path : Fin 29
  flags : Byte
  host : Byte
  queue : Byte
  seq : BitVec 16
  plen : BitVec 16
  status : BitVec 16
  resv : BitVec 16
  params : List Word
  hchk : BitVec 16
  trailer : Word
  short : Bool
  deriving DecidableEq, Repr

/-- A block received on a port after line decoding and the header check (R209, R210): SEQ of its header and the words
of its payload. TYPE, and OP of a LINK block, are those of the row that carries the block. -/
structure Blk where
  t : Nat
  port : Fin 24
  seq : Nat
  words : List Word
  deriving DecidableEq, Repr

/-- A native CAN FD frame that carries a safety envelope (R316). -/
structure CanFrame where
  t : Nat
  can : Fin 2
  xtd : Bool
  id : Nat
  words : List Word
  deriving DecidableEq, Repr

/-- The carrier of a safety envelope: a SAFE_WRITE packet, with the time Onyx took to reach its check 7 in ms, or a
native CAN FD frame (R314, R316, R317). -/
inductive EnvSrc where
  | dratus (p : Packet) (waitMs : Nat)
  | native (f : CanFrame) (waitMs : Nat)
  deriving DecidableEq, Repr

/-- The conversions of one ADC channel in a calibration run (R413, R418): raw codes with the input shorted and at CAL_REF, and those of the
second measurement with the new values on trial. -/
structure AdcCal where
  zero : List Int
  ref : List Int
  zero2 : List Int
  ref2 : List Int
  deriving DecidableEq, Repr

/-- What the measurements of a calibration run gave (R413 to R418): CAL_REF in µV against the internal reference and the codes of its
conversions; the channels of item 0; per instance of item 1 the reading in ppm of full scale where half full scale is applied, and that with
the new gain; per oscillator of item 3 the trim and the frequency in mHz with it; per instance of item 4 its 24 codes and the residual in ppm;
per port the word that its eye scan gives; the instances of items 1, 3 and 4 whose raw readings lie outside their capture range; whether
the Beryl write succeeds. -/
structure CalOut where
  refUv : Nat
  refCodes : List Int
  adc : List AdcCal
  sense : List (Nat × Nat)
  osc : List (Word × Nat)
  term : List (List Word × Int)
  eyes : List (Option Word)
  wild : List Nat
  writeOk : Bool
  deriving DecidableEq, Repr

/-- What the external flash gave at step B6: presence, size, the fastest mode that its SFDP table declares, the copies of the directory
(bits 0 and 1) and the items whose check failed. -/
structure FlashLoad where
  present : Bool
  dirBad : Nat
  size : Nat
  mode : Nat
  unifBad : Nat
  wearBad : Nat
  mapsBad : Nat
  tableBad : Bool
  deriving DecidableEq, Repr

/-- What befalls a band outside the model (R115, R177, R341): the tile, the lines (layer INDEX, raster row) that have
not arrived in their line buffers, whether the clamp checker finds an output outside its bounds, and whether the
engine's check band comes out wrong. -/
structure BandEnv where
  tile : Fin 24
  under : List (Nat × Nat)
  violation : Bool
  checkBad : Bool
  deriving DecidableEq, Repr
/-- What the device measures and receives around a PER tick: the frames returned on RET per port and device, each in the
order received (header, then channels 23 down to 0; R267, R270), the codes that each channel's encoder or Hall pins have
taken since they were last followed, with their instants (R293, R295), the sums of
the 100 conversions of PD0 to PD3 in a 10 ms period (R279), the loops 4 to 9 whose samples overrun (R292), and the channels whose
MOTn_FLT_N is low (R296). -/
structure TickEnv where
  ret : List (List (List Nat))
  pins : List (List (Nat × Nat))
  pd : List Nat
  overs : Nat
  fltLow : Nat
  deriving DecidableEq, Repr

/-- A move that placement decides on (R117, R119): kind (1 buffer pages, 2 frame store, 3 map portion, 4 Opal
assignment), tile, engines and split of an assignment, and DRAM regions (64: none) with the code of their use. `lost`: what can no
longer be read of the content, as tiles or wear slices; `bad`: the items of external flash that fail their check when it is restored
(R120). -/
structure PlanMove where
  kind : Nat
  group : Fin 8
  tile : Fin 24
  engA : Nat
  engB : Nat
  split : Nat
  src : Nat
  dst : Nat
  use : Nat
  lost : List Nat
  bad : Nat
  deriving DecidableEq, Repr

/-- A placement plan, and the pages (buffer INDEX, page) that can no longer be read from a fenced region (R120). -/
structure PlanEnv where
  moves : List PlanMove
  lost : List (Nat × Nat)
  deriving DecidableEq, Repr

/-- A raw channel of a safety input: its level, and the instant since which it has stood (R322). -/
structure RawLevel where
  high : Bool
  since : Nat
  deriving DecidableEq, Repr

/-- The WAKE pin at an instant: its level, and for how many AON cycles it has stood (R375). -/
structure WakeLevel where
  t : Nat
  high : Bool
  cycles : Nat
  deriving DecidableEq, Repr

/-- SAF_ACK high at an instant, and since when (R313). -/
structure AckHigh where
  t : Nat
  since : Nat
  deriving DecidableEq, Repr

/-- What Onyx finds at a SAF tick or a SAF_ACK edge: the levels of SFB0, SFB1 and of the SOUT0, SOUT1 pins (bits 0 and 1), the monitored
clocks that are out of range, whether the LIMP_N readback is wrong, and the level of SAF_ACK (R310, R313, R324, R327). -/
structure SafPins where
  sfb : Nat
  sout : Nat
  clkBad : Nat
  limpBad : Bool
  ack : Bool
  deriving DecidableEq, Repr

/-- A SAF tick: its instant, and what Onyx finds (R312). -/
structure SafReading where
  t : Nat
  pins : SafPins
  deriving DecidableEq, Repr

/-- A rising edge of SAF_ACK: since when the pin had been low, when it rose, and what Onyx finds (R313). -/
structure AckEdge where
  lowAt : Nat
  riseAt : Nat
  pins : SafPins
  deriving DecidableEq, Repr

/-- What befalls, outside the model, the packets that a carrier delivers: whether the Beryl writes succeed, whether a commit
comes too late for the next latch, and the ms that Onyx takes to reach its check 7 (R196, R317, R391, R453). -/
structure PktEnv where
  writeOk : Bool
  late : Bool
  waitMs : Nat
  deriving DecidableEq, Repr

/-- The commands. -/
inductive Instr where
  /-- NOP (R79): Native NOP command; echoes 0 to 8 parameter words in its reply. -/
  | nop (p : Packet)
  /-- IDENTIFY (R80): Returns the identification registers and the firmware version. -/
  | identify (p : Packet)
  /-- CONTEXT_OPEN (R72): Opens or reopens a host context, keeping or freeing its handles as KEEP selects. -/
  | contextOpen (p : Packet)
  /-- CONTEXT_CLOSE (R72): Acts as CONTEXT_OPEN with KEEP = 0, then closes the context. -/
  | contextClose (p : Packet)
  /-- SET_POWER_RUN (R369): SET_POWER with STATE 0 takes the device from IDLE back to RUN. -/
  | setPowerRun (p : Packet)
  /-- SET_POWER_IDLE (R371): SET_POWER with STATE 1 saves the Topaz context and gates the ENG and PIX clocks. -/
  | setPowerIdle (p : Packet)
  /-- SET_POWER_SLEEP (R371): SET_POWER with STATE 2 checks its preconditions, replies, and begins entry to SLEEP. -/
  | setPowerSleep (p : Packet)
  /-- SET_POWER_DEEP (R371): SET_POWER with STATE 3 checks its preconditions, replies, and begins entry to DEEP with a wear snapshot. -/
  | setPowerDeep (p : Packet)
  /-- SET_POWER_OFF (R371): SET_POWER with STATE 4 checks its preconditions, replies, and begins entry to OFF with a wear snapshot. -/
  | setPowerOff (p : Packet)
  /-- GET_STATUS (R80): Returns HUB_DEV_STAT and FLT_SUMMARY. -/
  | getStatus (p : Packet)
  /-- LOAD_QUERY (R80): Returns HUB_LOAD and clears its PEAK field. -/
  | loadQuery (p : Packet)
  /-- PROVISION_LOCK (R453): Sets LOCKED, saves the settings, writes the lock line and replies. -/
  | provisionLock (p : Packet) (writeOk : Bool)
  /-- SET_PERMISSIONS (R80): Writes the WPERM and OPPERM registers of context 1 to 3. -/
  | setPermissions (p : Packet)
  /-- EVENT_SUBSCRIBE (R86): Sets the event mask of the context and binds its event path. -/
  | eventSubscribe (p : Packet)
  /-- PATH_BIND (R53): Writes the enable and bound context of one command path. -/
  | pathBind (p : Packet)
  /-- GROUP_ASSIGN (R80): Sets the owner and the contributors of a timing group. -/
  | groupAssign (p : Packet)
  /-- TIME_GET (R80): Returns the calendar time and its UNCERTAIN flag. -/
  | timeGet (p : Packet)
  /-- RESTART (R454): SYSTEM_RESET KIND 0 replies OK and then chip-resets the device with restart cause 7. -/
  | restart (p : Packet)
  /-- UNPROVISION (R454): SYSTEM_RESET KIND 1 arms an unprovision that waits for a qualified SAF_ACK edge. -/
  | unprovision (p : Packet)
  /-- REG_READ (R80): Reads up to 256 consecutive registers. -/
  | regRead (p : Packet)
  /-- REG_WRITE (R81): Writes consecutive registers, subject to write permission and the RWL lock rules. -/
  | regWrite (p : Packet)
  /-- REG_MODIFY (R82): Atomically read-modifies-writes one register under a mask. -/
  | regModify (p : Packet)
  /-- REG_READ_LIST (R80): Reads a list of 1 to 256 register addresses. -/
  | regReadList (p : Packet)
  /-- REG_WRITE_LIST (R81): Writes a list of address and value pairs. -/
  | regWriteList (p : Packet)
  /-- REG_POLL (R80): Starts polling one register every 1 µs for a masked match. -/
  | regPoll (p : Packet)
  /-- BUF_ALLOC (R98): Allocates a buffer, computes its plane layout and returns its handle. -/
  | bufAlloc (p : Packet)
  /-- BUF_FREE (R103): Frees a buffer, or puts it in RETIRING while a latched frame still references it. -/
  | bufFree (p : Packet)
  /-- BUF_WRITE (R83): Writes data into a buffer at an offset and records the band write times. -/
  | bufWrite (p : Packet)
  /-- BUF_READ (R83): Reads words from a buffer. -/
  | bufRead (p : Packet)
  /-- BUF_INFO (R99): Returns the state, size, format and DAMAGED flag of a buffer. -/
  | bufInfo (p : Packet)
  /-- STREAM_BIND (R106): Binds the inbound stream of a host-role port to a layer and its buffers. -/
  | streamBind (p : Packet)
  /-- STREAM_UNBIND (R106): STREAM_BIND with EN = 0 ends the binding of a port. -/
  | streamUnbind (p : Packet)
  /-- LAYER_CREATE (R108): Creates a layer with a pending descriptor and reserves its line-buffer blocks. -/
  | layerCreate (p : Packet)
  /-- LAYER_DESTROY (R111): Puts a layer handle into the retiring state. -/
  | layerDestroy (p : Packet)
  /-- LAYER_SET (R108): Records a new pending descriptor for a layer. -/
  | layerSet (p : Packet)
  /-- LAYER_ATTACH (R110): Records a pending attachment of a buffer to a layer, or detaches the buffer. -/
  | layerAttach (p : Packet)
  /-- STACK_SET (R129): Replaces the pending blend stack of a timing group. -/
  | stackSet (p : Packet)
  /-- COLOUR_MATRIX_SET (R134): Records a pending colour matrix for a timing group. -/
  | colourMatrixSet (p : Packet)
  /-- COMMIT (R196): Moves the context's pending changes into the committed set and replies with the first frame that shows them. -/
  | commit (p : Packet) (late : Bool)
  /-- COMMIT_STATUS (R197): Returns SCN_COMMIT_STATUS of a group. -/
  | commitStatus (p : Packet)
  /-- TIMING_SET (R202): Checks and sets the geometry, timing, rate, lock and tile mask of a group. -/
  | timingSet (p : Packet)
  /-- RACING_SET (R151): Records a pending racing mode, racing lead and stale limit for a group. -/
  | racingSet (p : Packet)
  /-- WARP_MESH_LOAD (R136): Checks a mesh and copies it into the tile's pending mesh. -/
  | warpMeshLoad (p : Packet)
  /-- POSE_MSG (R141): Feeds a host pose sample to the pose predictor. -/
  | poseMsg (p : Packet)
  /-- POSE_CONFIG (R145): POSE_CONFIG form 0 sets the predictor and IMU registers. -/
  | poseConfig (p : Packet)
  /-- POSE_CONFIG_GROUP (R145): POSE_CONFIG form 1 sets WRP_GRP_POSE of a group. -/
  | poseConfigGroup (p : Packet)
  /-- POSE_CONFIG_TILE (R145): POSE_CONFIG form 2 sets WRP_TILE_K of a tile. -/
  | poseConfigTile (p : Packet)
  /-- PLACEMENT_MAP (R122): Returns a one-generation snapshot of the placement map. -/
  | placementMap (p : Packet)
  /-- GAIN_GLOBAL_SET (R171): Sets the global scale of a group from its next latch. -/
  | gainGlobalSet (p : Packet)
  /-- UNIFORMITY_LOAD (R157): Copies a uniformity map into the tile's store and into flash. -/
  | uniformityLoad (p : Packet)
  /-- WEAR_TABLE_LOAD (R160): Checks and loads the wear table for the whole device. -/
  | wearTableLoad (p : Packet)
  /-- TRANSFER_CURVE_LOAD (R180): Checks a transfer curve, stores it and has Onyx record its CRC. -/
  | transferCurveLoad (p : Packet)
  /-- WEAR_SNAPSHOT (R162): Replies PENDING and writes the remaining slices of the current pass as fast as possible. -/
  | wearSnapshot (p : Packet)
  /-- REPAIR_CONFIG (R168): Sets the repair configuration and the overlap pairs. -/
  | repairConfig (p : Packet)
  /-- DERATE_CONFIG (R170): Sets the derating parameters of a tile. -/
  | derateConfig (p : Packet)
  /-- COMPLIANCE_READ (R178): Returns MAP_CRC and a range of zone words of a map set. -/
  | complianceRead (p : Packet)
  /-- PORT_CONFIG (R244): Applies new port settings and sends the port to TRAIN. -/
  | portConfig (p : Packet)
  /-- PORT_STATUS (R244): Returns the status registers of a port. -/
  | portStatus (p : Packet)
  /-- LOOPBACK_OFF (R233): PORT_LOOPBACK mode 0 ends a loopback and restores the normal path. -/
  | loopbackOff (p : Packet)
  /-- NEAR_END_SERIAL (R233): PORT_LOOPBACK mode 1 loops the serialiser output to the receiver. -/
  | nearEndSerial (p : Packet)
  /-- NEAR_END_PARALLEL (R233): PORT_LOOPBACK mode 2 loops the transmit word to the receive parallel path. -/
  | nearEndParallel (p : Packet)
  /-- FAR_END_REQUEST (R233): PORT_LOOPBACK mode 3 sends LOOP_REQ so that the partner returns the blocks. -/
  | farEndRequest (p : Packet)
  /-- FAR_END_ACCEPT (R233): PORT_LOOPBACK mode 4 permits the partner to ask for a far-end loop. -/
  | farEndAccept (p : Packet)
  /-- EYE_SCAN (R237): Starts an eye scan of a port and replies PENDING. -/
  | eyeScan (p : Packet)
  /-- TILE_ENUMERATE (R264): Returns TIL_STAT of every tile. -/
  | tileEnumerate (p : Packet)
  /-- TILE_INFO (R264): Returns the status, identity and temperature of a tile. -/
  | tileInfo (p : Packet)
  /-- TILE_AUTH_POLICY (R264): TILE_AUTH_POLICY form 0 writes TIL_AUTH_CFG. -/
  | tileAuthPolicy (p : Packet)
  /-- POLICY_TIMEOUTS (R264): TILE_AUTH_POLICY form 1 writes TIL_TMO. -/
  | policyTimeouts (p : Packet)
  /-- POLICY_ANCHOR (R264): TILE_AUTH_POLICY form 2 loads an anchor public key. -/
  | policyAnchor (p : Packet)
  /-- POLICY_TILE (R264): TILE_AUTH_POLICY form 3 writes TIL_CFG and the expected serial of a tile. -/
  | policyTile (p : Packet)
  /-- TWIN_SET (R239): Pairs two tile-role ports as primary and twin for one tile. -/
  | twinSet (p : Packet)
  /-- TWIN_REMOVE (R244): TWIN_SET with EN = 0 removes the pair. -/
  | twinRemove (p : Packet)
  /-- SPARE_SET (R242): Replaces every spare-port assignment. -/
  | spareSet (p : Packet)
  /-- CHAIN_CONFIG (R269): Checks and sets the configuration of a chain port. -/
  | chainConfig (p : Packet)
  /-- CHAIN_WRITE (R273): Sets host duty and current values that apply at the next tick. -/
  | chainWrite (p : Packet)
  /-- CHAIN_READBACK (R281): Returns the returned frames and the diagnosis state of chain devices. -/
  | chainReadback (p : Packet)
  /-- GROUP_CONFIG (R281): Sets the configuration and the members of a function group. -/
  | groupConfig (p : Packet)
  /-- AURORA_LOAD (R274): Checks and loads a program into an Aurora engine. -/
  | auroraLoad (p : Packet)
  /-- GAMMA_LOAD (R281): AURORA_LOAD with ENGINE 8 loads the gamma table. -/
  | gammaLoad (p : Packet)
  /-- AURORA_START (R281): AURORA_RUN with START = 1 starts an engine at ADDR. -/
  | auroraStart (p : Packet)
  /-- AURORA_STOP (R281): AURORA_RUN with START = 0 stops an engine and keeps its levels. -/
  | auroraStop (p : Packet)
  /-- PROBE_CONFIG (R281): Sets the probe parameters of a function group. -/
  | probeConfig (p : Packet)
  /-- COLOUR_LOOP_SET (R280): Sets the white point and the parameters of the colour loop. -/
  | colourLoopSet (p : Packet)
  /-- LOOP_CONFIG (R307): Sets the configuration of a motor channel and takes the channel through OFF. -/
  | loopConfig (p : Packet)
  /-- COEF_LOAD (R289): Checks a coefficient image and copies it into the inactive bank of a loop. -/
  | coefLoad (p : Packet)
  /-- BANK_SWAP (R290): Schedules a bank swap of the loops in MASK and replies with the swap instant. -/
  | bankSwap (p : Packet)
  /-- MOTOR_POSITION (R301): MOTOR_CMD POSITION sets the target of a swivel channel. -/
  | motorPosition (p : Packet)
  /-- MOTOR_SPEED (R301): MOTOR_CMD SPEED sets the speed target of a fan or pump channel. -/
  | motorSpeed (p : Packet)
  /-- MOTOR_PARK (R296): MOTOR_CMD PARK parks a motor channel with CAUSE 7. -/
  | motorPark (p : Packet)
  /-- MOTOR_RELEASE (R296): MOTOR_CMD RELEASE closes a parked or lost channel again. -/
  | motorRelease (p : Packet)
  /-- TUNE_INJECT (R302): Starts injecting a test signal into a loop and capturing records, and replies PENDING. -/
  | tuneInject (p : Packet)
  /-- CAPTURE_READ (R307): Returns records from the capture area. -/
  | captureRead (p : Packet)
  /-- ADC_CONFIG (R303): Sets the configuration of ADC channels, subject to converter load. -/
  | adcConfig (p : Packet)
  /-- LEVEL_SET (R299): Sets the levelling mode and AIM. -/
  | levelSet (p : Packet)
  /-- UPD_BEGIN (R402): Checks an image header and starts receiving into the inactive slot. -/
  | updBegin (p : Packet)
  /-- UPD_CANCEL (R402): UPD_BEGIN with PLEN 0 cancels an update and erases the mark of the inactive slot. -/
  | updCancel (p : Packet)
  /-- UPD_DATA (R403): Writes image data or delta records at UPD_NEXT. -/
  | updData (p : Packet)
  /-- UPD_VERIFY (R404): Starts verification of the received image and replies PENDING. -/
  | updVerify (p : Packet)
  /-- ACTIVATE (R405): Writes the boot record naming the trial slot, then pauses or restarts. -/
  | activate (p : Packet)
  /-- CONFIRM (R408): Makes the trial slot active and raises the rollback floor. -/
  | confirm (p : Packet)
  /-- SETTINGS_SAVE (R399): Writes the settings into the area not in use, with GEN + 1. -/
  | settingsSave (p : Packet) (writeOk : Bool)
  /-- CAL_RUN (R417): Starts a calibration run of the selected items and replies PENDING. -/
  | calRun (p : Packet)
  /-- CAL_RUN_FACTORY (R416): CAL_RUN with FACTORY = 1 writes an integrator record copied from the factory record. -/
  | calRunFactory (p : Packet)
  /-- CV_JOB (R423): Starts a CRC job on a check-value unit and replies PENDING. -/
  | cvJob (p : Packet)
  /-- HEARTBEAT (R319): Safety envelope object that only renews its producer. -/
  | heartbeat (src : EnvSrc)
  /-- BEAM_MODE (R320): Safety envelope object that sets the requested beam mode of the selected groups. -/
  | beamMode (src : EnvSrc)
  /-- MASK_ENABLE (R131): Safety envelope object that sets the mask enable of the selected groups. -/
  | maskEnable (src : EnvSrc)
  /-- COMPLIANCE_MAP (R175): Safety envelope object that starts the copy of a compliance map set and replies PENDING. -/
  | complianceMap (src : EnvSrc)
  /-- OUTPUT (R319): Safety envelope object that commands the selected safety outputs on or off. -/
  | output (src : EnvSrc)
  /-- SAFE_CONFIG (R319): Safety envelope object that writes a SAF register set by SAFE_CONFIG. -/
  | safeConfig (src : EnvSrc)
  /-- SAFE_READ (R319): Returns the current value of a safety object in a reply envelope. -/
  | safeRead (p : Packet)
  /-- SAFE_STATUS (R321): Returns the safety status words in a reply envelope. -/
  | safeStatus (p : Packet)
  /-- BAMUT_ENABLE (R88): Enables Bamut commands for a context and creates its legacy layers. -/
  | bamutEnable (p : Packet)
  /-- LEGACY_NOP (R90): Legacy NOP, acting as native NOP. -/
  | legacyNop (p : Packet)
  /-- GET_ID (R90): Legacy GET_ID, acting as IDENTIFY. -/
  | getId (p : Packet)
  /-- LEGACY_GET_STATUS (R90): Legacy GET_STATUS, acting as native GET_STATUS. -/
  | legacyGetStatus (p : Packet)
  /-- SET_GAIN (R90): Legacy SET_GAIN, acting as GAIN_GLOBAL_SET on the legacy group. -/
  | setGain (p : Packet)
  /-- FRAME_WRITE (R90): Legacy BUF_WRITE into the back buffer of a legacy tile. -/
  | frameWrite (p : Packet)
  /-- FRAME_SHOW (R90): Swaps the legacy buffers and commits the legacy group. -/
  | frameShow (p : Packet) (late : Bool)
  /-- SLEEP (R90): Legacy SLEEP, acting as SET_POWER with STATE 2. -/
  | sleep (p : Packet)
  /-- BAD_OPCODE (R79): A packet whose OPCODE is not defined for its version, or has the reply bit set, is refused with BAD_OPCODE. -/
  | badOpcode (p : Packet) (ver op : Nat)
  /-- POLL_READ (R80): A periodic REG_POLL read; a match sends the reply. -/
  | pollRead (t : Nat) (ctx : Fin 4) (q : Fin 8)
  /-- REG_POLL_TIMEOUT (R80): The REG_POLL timeout expires and TIMEOUT is replied with the last value read. -/
  | regPollTimeout (t : Nat) (ctx : Fin 4) (q : Fin 8)
  /-- EYE_SCAN_DONE (R236): The eye scan completes, CPL_EYE is written and the final reply is sent. -/
  | eyeScanDone (t : Nat) (port : Fin 24) (width height : Nat)
  /-- INJECTION_END (R302): The injection reaches SAMPLES records, or its loop leaves CLOSED, and the final reply is sent. -/
  | injectionEnd (t : Nat)
  /-- VERIFY_DONE (R404): Verification ends, the mark is written or the update fails, and the final reply is sent. -/
  | verifyDone (t : Nat) (writeOk : Bool)
  /-- ACTIVATION_TOPAZ_RESET (R406): Once the retention banks are written, Topaz is reset and the trial slot is started. -/
  | activationTopazReset (t : Nat) (failed : Nat)
  /-- ACTIVATION_OVERRUN (R407): No first heartbeat arrives 250 ms after P2, and the latched cause ACTIVATE is recorded. -/
  | activationOverrun (t : Nat)
  /-- TRIAL_MS_SAVE (R408): Every 10 s of RUN, TRIAL_MS is written into the boot record. -/
  | trialMsSave (t : Nat)
  /-- TRIAL_TIMEOUT (R408): TRIAL_MS reaches 600,000 and the device reverts to the active image. -/
  | trialTimeout (t : Nat)
  /-- CALIBRATION_DONE (R418): The run ends, the record is written and the final reply is sent. -/
  | calibrationDone (t : Nat) (out : CalOut)
  /-- CV_JOB_DONE (R424): The CRC job completes, its result is replied and unit ownership is updated. -/
  | cvJobDone (t : Nat) (unit : Fin 4)
  /-- MAP_COPY_DONE (R175): The Onyx map copy ends, MAP_CRC is checked and the final reply is sent. -/
  | mapCopyDone (t : Nat) (tile : Fin 24)
  /-- MAP_PERSIST (R175): Topaz writes a map set with PERSIST = 1 to external flash. -/
  | mapPersist (t : Nat) (tile : Fin 24) (writeOk : Bool)
  /-- PACKET_DISCARD (R56): A packet failing check 1 is discarded without reply and counted. -/
  | packetDiscard (t : Nat) (path : Fin 29)
  /-- CLASSICAL_CAN_FRAME (R51): A classical CAN frame on the request identifier is discarded and counted. -/
  | classicalCanFrame (t : Nat) (can : Fin 2) (xtd : Bool) (id : Nat)
  /-- WRITE_PKT (R47): CPT transaction that delivers one packet from the host. -/
  | writePkt (t : Nat) (cpt : Fin 2) (bytes : List Byte) (env : PktEnv)
  /-- READ_PKT (R47): CPT transaction that returns the next waiting reply or event. -/
  | readPkt (t : Nat) (cpt : Fin 2)
  /-- READ_STAT (R48): CPT transaction that returns the status byte and clears RX_OVF and RX_ERR. -/
  | readStat (t : Nat) (cpt : Fin 2)
  /-- SCN_RATE_WRITE (R203): A register write to SCN_RATE during provisioning applies the staged timing set after checking it as TIMING_SET. -/
  | scnRateWrite (t : Nat) (ctx : Fin 4) (g : Fin 8) (v : Word)
  /-- CLOSE (R342): A write of 1 to FLT_FIRST_CTL.CLOSE closes the open fault record. -/
  | close (t : Nat) (ctx : Fin 4)
  /-- RELEASE (R344): A write of 1 to FLT_ERRN.RELEASE lets ERR_N go high when its conditions hold. -/
  | release (t : Nat) (ctx : Fin 4)
  /-- FLT_PFENCE_CLR_GO (R347): A write of 1 to GO clears the persistent fences at the next start. -/
  | fltPfenceClrGo (t : Nat) (ctx : Fin 4)
  /-- TELLTALE_CLEAR (R276): A write of 1 to TELLTALE clears the single-lamp failure and relights the group. -/
  | telltaleClear (t : Nat) (ctx : Fin 4) (g : Fin 64)
  /-- RTC_TIME_STAGE (R385): A write to RTC_TIME_LO stages a calendar value. -/
  | rtcTimeStage (t : Nat) (ctx : Fin 4) (v : Word)
  /-- RTC_TIME_LOAD (R385): A write to RTC_TIME_HI loads the staged time and clears UNCERTAIN. -/
  | rtcTimeLoad (t : Nat) (ctx : Fin 4) (v : Word)
  /-- RTC_TIME_LO_READ (R450): A read of RTC_TIME_LO latches RTC_TIME_HI. -/
  | rtcTimeLoRead (t : Nat)
  /-- RTC_AON_CNT_LO_READ (R450): A read of RTC_AON_CNT_LO latches RTC_AON_CNT_HI. -/
  | rtcAonCntLoRead (t : Nat)
  /-- HUB_LOAD_READ (R450): A read of HUB_LOAD clears PEAK. -/
  | hubLoadRead (t : Nat)
  /-- GAR_LOAD_READ (R450): A read of GAR_LOAD clears PEAK. -/
  | garLoadRead (t : Nat) (eng : Fin 2)
  /-- NVM_LOG_SEL_WRITE (R411): A write to NVM_LOG_SEL loads a fault-log entry into NVM_LOG_DATA. -/
  | nvmLogSelWrite (t : Nat) (ctx : Fin 4) (v : Word)
  /-- TOPAZ_HEARTBEAT (R326): Topaz writes its heartbeat mailbox and Onyx checks the count. -/
  | topazHeartbeat (t : Nat) (count : Nat)
  /-- REGISTER_WRITE (R451): A write to any register without a row of its own, subject to permission, access codes and crossing rules. -/
  | registerWrite (t : Nat) (ctx : Fin 4) (addr : Nat) (v : Word)
  /-- POWER_UP (R433): The supplies ramp and the internal power-on reset releases. -/
  | powerUp (t : Nat)
  /-- RESET_N (R435): A low pulse on RESET_N resets every domain except the kept ones. -/
  | resetN (t : Nat) (lowNs : Nat)
  /-- BOOT (R396): The start: journal replay, image choice and verification, then the firmware starts. -/
  | boot (t : Nat) (torn : Nat) (bad : Nat)
  /-- SELF_TEST_END (R329): The Onyx self-test ends and the safety settings, producers and outputs are set up. -/
  | selfTestEnd (t : Nat) (pass safOk : Bool)
  /-- FLASH_LOAD_END (R396): The external-flash loads of step B6 complete. -/
  | flashLoadEnd (t : Nat) (flash : FlashLoad)
  /-- GROUP_START (R396): At step B7, every enabled group whose stored values pass the checks starts with a prime frame. -/
  | groupStart (t : Nat)
  /-- SUPPLY_BROWN_OUT (R434): A core, memory, link or I/O rail falls below its monitor threshold and the chip is reset. -/
  | supplyBrownOut (t : Nat)
  /-- VDD_SAF_EXCURSION (R434): VDD_SAF leaves 0.740 to 0.860 V and the device enters HWSAFE. -/
  | vddSafExcursion (t : Nat)
  /-- SAF_POWER_ON_RESET (R434): VDD_SAF falls below 0.550 V and the FATAL latch clears. -/
  | safPowerOnReset (t : Nat)
  /-- VAON_LOSS (R434): VAON falls below 2.70 V, the AON domain is reset and the counter is lost. -/
  | vaonLoss (t : Nat)
  /-- BKUP_LOST (R386): VBKUP falls below 1.5 V and UNCERTAIN is set. -/
  | bkupLost (t : Nat)
  /-- HWSAFE (R328): A lock-step mismatch, SAF oscillator failure, VDD_SAF fault or watchdog miss drives the hardware safe state. -/
  | hwsafe (t : Nat)
  /-- CLOCK_MONITOR (R327): A monitored clock stays outside ±5 % for 100 µs and CLOCK_IO is recorded. -/
  | clockMonitor (t : Nat) (clk : Fin 5)
  /-- CRYSTAL_STOP (R384): No crystal edge is seen for 2 ms and the AON domain switches to the RC oscillator. -/
  | crystalStop (t : Nat)
  /-- CRYSTAL_RETURN (R384): The crystal has run within ±5 % for 1 s and the AON domain returns to it. -/
  | crystalReturn (t : Nat)
  /-- QUALIFIED_SAF_ACK_EDGE (R313): A qualified SAF_ACK edge takes effect and clears inputs, outputs and latched causes whose conditions
  have ended. -/
  | qualifiedSafAckEdge (t : Nat) (edge : AckEdge)
  /-- UNPROVISION_TIMEOUT (R454): No edge arrives within 10 s and ARMED clears. -/
  | unprovisionTimeout (t : Nat)
  /-- ACK_STUCK (R313): SAF_ACK stays high for more than 60 s and ack-stuck is raised. -/
  | ackStuck (ack : AckHigh)
  /-- SAFETY_INPUT_CHANGE (R322): A filtered safety input channel takes a new level and the input state is re-evaluated. -/
  | safetyInputChange (t : Nat) (n : Fin 4) (a b : RawLevel)
  /-- INPUT_DISCREPANCY (R322): The channels of an input differ for DISC_T × 5 ms and the input enters FAULT. -/
  | inputDiscrepancy (t : Nat) (n : Fin 4)
  /-- INPUT_RATE_WINDOW (R322): At the end of a 100 ms window, an input that changed more than RATE_MAX times enters FAULT. -/
  | inputRateWindow (t : Nat) (n : Fin 4) (changes : Nat)
  /-- TEST_PULSE (R323): A test pulse of TPk ends and every channel it supplies is checked for a low reading. -/
  | testPulse (t : Nat) (k : Fin 4) (levels : Nat)
  /-- OUTPUT_FEEDBACK_MISMATCH (R324): A safety output's feedback disagrees with its command for 1 ms and the output faults. -/
  | outputFeedbackMismatch (t : Nat) (j : Fin 2) (fb pin : Bool)
  /-- LIMP_READBACK (R310): The LIMP_N readback differs from the driven level for 100 µs. -/
  | limpReadback (t : Nat)
  /-- PRODUCER_EXPIRY (R318): A producer's TEXP passes without renewal and its REACT is applied. -/
  | producerExpiry (t : Nat) (k : Fin 4)
  /-- TOPAZ_WATCHDOG (R326): The heartbeat ends, TOPAZ is recorded and Onyx resets Topaz. -/
  | topazWatchdog (t : Nat)
  /-- TOPAZ_RESTARTED (R65): Topaz has restarted and TOPAZ_RESTART and held FAULT events are sent. -/
  | topazRestarted (t : Nat)
  /-- MAP_CRC_SCAN (R177): The periodic MAP_CRC recheck of every valid map set. -/
  | mapCrcScan (t : Nat) (bad : List (Nat × Nat))
  /-- CURVE_CHECK (R180): The periodic CRC check of the transfer curves. -/
  | curveCheck (t : Nat) (bad : Nat)
  /-- SAF_TICK (R312): On the 1 ms SAF tick, LIMP_N goes high if no cause is present. -/
  | safTick (r : SafReading)
  /-- LATCH (R186): The latch instant of a group activates the committed set, advances the frame counter and swaps the store halves. -/
  | latch (t : Nat) (g : Fin 8)
  /-- STOP_INSTANT (R203): A group stopped by TIMING_SET with EN = 0 stops where its next latch would fall. -/
  | stopInstant (t : Nat) (g : Fin 8)
  /-- LINE_START (R185): A line of a group starts from the phase accumulator, and row scan-out begins. -/
  | lineStart (t : Nat) (g : Fin 8) (notReady : Nat)
  /-- BAND_LATCH (R146): An output band is latched, composed, warped and passed through the photometric chain. -/
  | bandLatch (t : Nat) (g : Fin 8) (env : BandEnv)
  /-- BAND_LATE (R148): A band transfer not started 4 lines before scan-out is dropped and counted. -/
  | bandLate (t : Nat) (g : Fin 8) (tile : Fin 24) (band : Nat)
  /-- FILL (R220): An inbound FILL block is taken or deleted by the elastic buffer. -/
  | fill (b : Blk)
  /-- PIXEL (R106): An inbound PIXEL block on a host port is written to the layer pool. -/
  | pixel (b : Blk)
  /-- ROW_START (R106): An inbound ROW_START names the row the stream writer writes next. -/
  | rowStart (b : Blk)
  /-- FRAME_START (R107): An inbound FRAME_START completes a stream frame and may switch ping-pong buffers. -/
  | frameStart (b : Blk)
  /-- COMMAND (R211): An inbound COMMAND block delivers Dratus bytes on a host port. -/
  | command (b : Blk) (env : PktEnv)
  /-- TRAIN (R228): A TRAIN marker is received, ending a fast exit from idle. -/
  | train (b : Blk)
  /-- TRAIN_SEQ (R230): A TRAIN_SEQ block advances full training or resync, up to entry to UP. -/
  | trainSeq (b : Blk)
  /-- IDLE_REQ (R227): An IDLE_REQ is received and the receiver expects LOS within 1 µs. -/
  | idleReq (b : Blk)
  /-- IDLE_REQ_TIMEOUT (R227): No LOS follows IDLE_REQ within 1 µs and the request is ignored. -/
  | idleReqTimeout (t : Nat) (port : Fin 24)
  /-- RETRAIN_REQ (R231): A RETRAIN_REQ is received and the port leaves UP for TRAIN. -/
  | retrainReq (b : Blk)
  /-- LOOP_REQ (R233): A LOOP_REQ starts or ends a far-end loop, or is ignored without mode 4. -/
  | loopReq (b : Blk)
  /-- TEST (R235): A returned TEST block is compared and its bit errors are counted. -/
  | test (b : Blk)
  /-- HEALTH (R250): A HEALTH report updates tile temperature, faults and limp state. -/
  | health (b : Blk)
  /-- SIGNATURE (R200): A SIGNATURE report is compared with the kept frame signatures. -/
  | signature (b : Blk)
  /-- DEAD_LIST (R250): A DEAD_LIST part is taken and a complete list replaces the tile's list. -/
  | deadList (b : Blk)
  /-- DEAD_LIST_TIMEOUT (R250): A list not complete 50 ms after its first part is discarded. -/
  | deadListTimeout (t : Nat) (tile : Fin 24)
  /-- IDENT (R258): An IDENT report is taken and checks 2 to 4 run. -/
  | ident (b : Blk)
  /-- AUTH_RESP (R255): An AUTH_RESP report is taken for signature verification. -/
  | authResp (b : Blk)
  /-- AUTHENTICATION_END (R255): Signature verification ends and the tile becomes READY, GENERIC, REFUSED or MISMATCH. -/
  | authenticationEnd (t : Nat) (tile : Fin 24)
  /-- IDENT_TIMEOUT (R258): IDENT_TMO expires; IDENT_REQ is resent, or the third time the tile enters NO_ID. -/
  | identTimeout (t : Nat) (tile : Fin 24)
  /-- AUTH_TIMEOUT (R255): AUTH_TMO expires without an AUTH_RESP and the check fails with cause 5. -/
  | authTimeout (t : Nat) (tile : Fin 24)
  /-- NO_ID_RETRY (R258): After 1 s in NO_ID, SETUP and IDENT_REQ are sent again. -/
  | noIdRetry (t : Nat) (tile : Fin 24)
  /-- SILENT_TIMEOUT (R258): No HEALTH for SILENT_TMO moves the tile to SILENT. -/
  | silentTimeout (t : Nat) (tile : Fin 24)
  /-- TILE_ABSENT (R258): No port of the tile has been in UP for 1 s and the tile becomes ABSENT. -/
  | tileAbsent (t : Nat) (tile : Fin 24)
  /-- REPORT_FLOOD (R252): More than 1,000 flood discards within a 1 s window raise tile-report-flood. -/
  | reportFlood (t : Nat) (tile : Fin 24)
  /-- LOS (R222): The LOS detector asserts on a receiver. -/
  | los (t : Nat) (port : Fin 24)
  /-- LOS_HOLD_EXPIRY (R223): LOS has lasted LOS_HOLD and the port leaves UP, TRAIN or DETECT. -/
  | losHoldExpiry (t : Nat) (port : Fin 24)
  /-- LOL (R222): Loss of lock ends UP and the port retrains. -/
  | lol (t : Nat) (port : Fin 24)
  /-- LOA (R222): Loss of alignment ends UP and the port retrains. -/
  | loa (t : Nat) (port : Fin 24)
  /-- ERROR_RATE_EXCEEDED (R222): More than ERR_MAX errored blocks in a 1 ms window end UP. -/
  | errorRateExceeded (t : Nat) (port : Fin 24)
  /-- SQUELCH_EXIT (R231): A receiver in RX_IDLE detects swing and starts its exit timer. -/
  | squelchExit (t : Nat) (port : Fin 24)
  /-- EXIT_TIMER (R231): The 1 µs exit timer expires without TRAIN markers and the port retrains. -/
  | exitTimer (t : Nat) (port : Fin 24)
  /-- DETECT_COMPLETE (R231): LOS has been clear for 1 µs in DETECT and training starts. -/
  | detectComplete (t : Nat) (port : Fin 24)
  /-- TRAINING_FAILURE (R230): RX_OK is not set within 50 µs, or the partner's within 1 ms; the failure is counted, and at the third the
  port fails. -/
  | trainingFailure (t : Nat) (port : Fin 24)
  /-- FAILED_TIMEOUT (R231): After 10 ms in FAILED the port returns to DETECT. -/
  | failedTimeout (t : Nat) (port : Fin 24)
  /-- RESYNC_TIMEOUT (R231): RESYNC lasts 20 µs without completing and the port retrains. -/
  | resyncTimeout (t : Nat) (port : Fin 24)
  /-- TX_IDLE_ENTRY (R227): Only FILL has been sent for TX_IDLE_DLY and the transmitter enters electrical idle. -/
  | txIdleEntry (t : Nat) (port : Fin 24)
  /-- TX_IDLE_EXIT (R228): A block is queued at an idle transmitter and the exit sequence starts. -/
  | txIdleExit (t : Nat) (port : Fin 24)
  /-- PORT_REFERENCE_LOSS (R223): The port reference is lost and every port goes to electrical idle. -/
  | portReferenceLoss (t : Nat)
  /-- PORT_REFERENCE_RESTORED (R231): The port reference is in range for 1 ms and the ports return to DETECT. -/
  | portReferenceRestored (t : Nat)
  /-- SPARE_BRING_IN (R242): No port carrying a tile has been in UP for 100 µs and its spare leaves STANDBY. -/
  | spareBringIn (t : Nat) (tile : Fin 24)
  /-- TWIN_REJOIN (R241): A lost twin member has been in UP for 100 ms and rejoins at the next latch. -/
  | twinRejoin (t : Nat) (tile : Fin 24)
  /-- SPARE_RETURN (R242): The former carrying port has been in UP for 100 ms and becomes the new spare. -/
  | spareReturn (t : Nat) (tile : Fin 24)
  /-- TICK (R269): The 1 kHz PER tick starts the chain updates and the outer control-loop samples. -/
  | tick (t : Nat) (env : TickEnv)
  /-- CURRENT_SAMPLE (R285): A 20 kHz current-loop sample converts the phase currents and updates the PWM shadows. -/
  | currentSample (t : Nat) (chan : Fin 4) (adcU adcV : Nat) (pins : List (Nat × Nat))
  /-- LOOP_OVERRUN (R292): A loop misses its deadline, keeps its previous output and parks its channel at the third overrun. -/
  | loopOverrun (t : Nat) (l : Fin 10)
  /-- BANK_SWITCH (R290): At the scheduled sample start, the loops in MASK change to their other bank. -/
  | bankSwitch (t : Nat)
  /-- COEF_CHECK (R291): Garnet rechecks every valid bank and parks on an active-bank mismatch. -/
  | coefCheck (t : Nat) (bad : Nat)
  /-- FROZEN_FEEDBACK (R298): The freeze timer reaches FRZ_T and the channel enters LOST with its brake applied. -/
  | frozenFeedback (t : Nat) (chan : Fin 4)
  /-- ENCODER_ERRORS (R295): More than 16 encoder errors in 10 ms take the channel to LOST. -/
  | encoderErrors (t : Nat) (chan : Fin 4)
  /-- HOMING_COMPLETE (R296): The count is unchanged for 50 ms at the end stop and the channel is HOMED and CLOSED. -/
  | homingComplete (t : Nat) (chan : Fin 4)
  /-- HOMING_TIMEOUT (R296): HOME_T elapses and the channel parks with homing failed. -/
  | homingTimeout (t : Nat) (chan : Fin 4)
  /-- MOTOR_DRIVER_FAULT (R296): MOTn_FLT_N goes low and the channel's gates turn off and it parks. -/
  | motorDriverFault (t : Nat) (chan : Fin 4)
  /-- ADC_CONVERSION (R304): A conversion completes, ADC_RES is updated and limits are checked. -/
  | adcConversion (t : Nat) (k : Fin 24) (raw : Int)
  /-- IMU_SAMPLE (R144): An IMU transaction on period or data-ready completes and feeds the predictor. -/
  | imuSample (t : Nat) (bytes : List Byte)
  /-- HOST_POSE_TIMEOUT (R142): No POSE_MSG for TMO ms marks host messages lost. -/
  | hostPoseTimeout (t : Nat)
  /-- IMU_ONLY_TIMEOUT (R142): IMU-only mode lasting more than 2 s moves the predictor to fallback. -/
  | imuOnlyTimeout (t : Nat)
  /-- THERMAL_SAMPLE (R357): A sensor sample updates T_gov, the rise rates and the throttling targets. -/
  | thermalSample (t : Nat) (reads : List (Option Int)) (pw : List (List Nat))
  /-- MODEL_BASE_UPDATE (R354): Every 1 s the thermal model base B is recomputed and MODEL_BAD is judged. -/
  | modelBaseUpdate (t : Nat)
  /-- SHUTDOWN_STOP (R363): Once the Beryl write ends, the held domains are stopped and the device is in thermal hold. -/
  | shutdownStop (t : Nat)
  /-- HOLD_SENSOR_SAMPLE (R363): In thermal hold the SAF domain reads the sensors every 10 ms. -/
  | holdSensorSample (t : Nat) (reads : List (Option Int))
  /-- THERMAL_HOLD_END (R365): Every sensor has been below T_SHUT − SHUT_HYST for 1 s and the device restarts. -/
  | thermalHoldEnd (t : Nat)
  /-- SLEEP_SENSOR_SAMPLE (R376): In SLEEP, the SAF domain samples the die sensors every 1 s. -/
  | sleepSensorSample (t : Nat) (reads : List (Option Int))
  /-- WAIT_FOR_STATE (R371): Topaz executes its wait-for-state instruction and abort point AP2 is tested. -/
  | waitForState (t : Nat)
  /-- ENTRY_DRAIN (R371): The last reply has left, AP3 is tested and the point of no return begins. -/
  | entryDrain (t : Nat)
  /-- STATE_REACHED (R371): After the final chain latch, DRAM, retention, clocks and domains are set for the target state. -/
  | stateReached (t : Nat)
  /-- WAKE_PIN (R375): WAKE held at its active level for WAKE_FILT AON cycles wakes the device or aborts entry. -/
  | wakePin (w : WakeLevel)
  /-- CALENDAR_ALARM (R375): RTC_TIME reaches RTC_ALARM and wakes the device. -/
  | calendarAlarm (t : Nat)
  /-- WAKE_TIMER (R375): The wake timer reaches PWR_WAKE_TMR ticks and wakes the device. -/
  | wakeTimer (t : Nat)
  /-- EXIT_COMPLETE (R378): The device returns to RUN and restores its state as the exited state allows. -/
  | exitComplete (t : Nat) (failed : Nat)
  /-- LOAD_WINDOW (R76): A 10 ms window ends, HUB_LOAD is published and deferral is updated. -/
  | loadWindow (t : Nat) (load gar0 gar1 : Nat)
  /-- PLACEMENT_PLAN (R117): Placement decides a plan of moves and reserves its destinations. -/
  | placementPlan (t : Nat) (plan : PlanEnv)
  /-- MIGRATION_COPY_DONE (R119): A migration copy or table load completes and the move awaits its boundary. -/
  | migrationCopyDone (t : Nat) (g : Fin 8)
  /-- PAGE_RETURN (R104): Pages of a released handle return to the pool and HANDLE_RELEASED is sent. -/
  | pageReturn (t : Nat) (handle : Nat)
  /-- WEAR_SLICE_WRITE (R161): A wear-map slice of the current pass is written to flash. -/
  | wearSliceWrite (t : Nat)
  /-- FAULT_ARRIVAL (R331): A fault source arrives at Jasper, is classified, recorded and given its reactions. -/
  | faultArrival (t : Nat) (hits : List (Nat × Word))
  /-- RETRY_END (R337): A fault retry ends and the fault is transient or lasting. -/
  | retryEnd (t : Nat) (src : Fin 320) (passed : Bool)
  /-- REC_HOLD_EXPIRY (R342): REC_HOLD passes with no merge and the record closes. -/
  | recHoldExpiry (t : Nat)
  /-- PARITY_SCAN (R343): The 1 ms parity scan of FLT registers runs. -/
  | parityScan (t : Nat) (bad : Bool)
  /-- FIRST_REGISTER_SCAN (R344): Jasper's first register scan passes and ERR_N goes high if nothing else holds it. -/
  | firstRegisterScan (t : Nat)
  /-- LOG_WRITE (R350): Topaz writes a closed record to the fault log. -/
  | logWrite (t : Nat) (writeOk : Bool)
  /-- CALIBRATION_CHECK (R420): Every 10 s Topaz checks the calibration record in use against its check word. -/
  | calibrationCheck (t : Nat) (agree : Bool)
  /-- TRANSMIT_PLL_LOSS_OF_LOCK (R223): Loss of lock of one port's transmit PLL ends that port's UP state with LAST_CAUSE 2. -/
  | transmitPllLossOfLock (t : Nat) (port : Fin 24)
  /-- HEADER_CHECK_FAILURE (R210): A received block whose header CHK is wrong is discarded and counted in CPL_BLK_ERR[p].HDR. -/
  | headerCheckFailure (t : Nat) (port : Fin 24)
  /-- CODE_VIOLATION (R216): A bit in a stuffed position that is not the complement of the bit before it discards the block, is counted in
  CV, and makes the receiver search for the next marker. -/
  | codeViolation (t : Nat) (port : Fin 24)
  /-- RESERVED_BLOCK_TYPE (R211): A block of reserved type 0x8 to 0xF, or a LINK block with an undefined OP, is discarded and counted in
  CPL_BLK_ERR[p].TYPE. -/
  | reservedBlockType (b : Blk) (type : Fin 16)
  deriving DecidableEq, Repr

end Sys2Proof
end

