-- ==== Sys2Proof/Decode.lean ====
section
/-!
DEFINITION. The host's `decodeTableWord`: no row of spec/opcode_table.json has bits. A Dratus packet as bytes (R39, R40); Carriers.lean
reads it back.
-/

namespace Sys2Proof

open Sys2Proof.Machine

/-- No row of the table gives bits, so no word spells a command. -/
def decodeTableWord (_nbits _w : Nat) : Option Instr := none

/-- The bytes of a packet in sending order: header, parameter words, trailer (R39, R40). -/
def encodePacket (ver op : Nat) (p : Packet) : List Nat :=
  [0xD7, ver % 256, op % 256, p.flags.toNat, p.host.toNat, p.queue.toNat] ++ halfBytes p.seq.toNat ++
    halfBytes p.plen.toNat ++ halfBytes p.status.toNat ++ halfBytes p.resv.toNat ++ halfBytes p.hchk.toNat ++
    wordsBytes p.params ++ wordBytes p.trailer

end Sys2Proof
end

