-- ==== Sys2Proof/Machine/Line.lean ====
section
/-!
DEFINITION. The block on the line: header and CHK (R209, R210), scrambler (R213, R214), stuffing (R215, R216), the
packing of a tile row (R217), rates and block times (R206), and the fit of a row in a line (R218).
-/

namespace Sys2Proof.Machine

/-- Bits `n − 1` down to 0 of a number. -/
def msbBits : Nat → Nat → List Bool
  | 0, _ => []
  | n + 1, v => v.testBit n :: msbBits n v

/-- Bits 0 up to `n − 1` of a number. -/
def lsbBits (n v : Nat) : List Bool := (List.range n).map (fun k => v.testBit k)

/-- CRC-4 of the header (R210). -/
def crc4 : CrcCfg := ⟨4, 0x3, 0xF, false, false, 0⟩

/-- CHK over TYPE and SEQ (R210). -/
def headerChk (type seq : Nat) : Nat := crcOfBits crc4 (msbBits 12 (type % 16 * 256 + seq % 256))

/-- The 16-bit header of a block (R210). -/
def header (type seq : Nat) : Nat := (type % 16) * 4096 + (seq % 256) * 16 + headerChk type seq

/-- The payload bits of a block in sending order: word 0 first, least significant bit first (R213). -/
def payloadBits (words : List Word) : List Bool := words.flatMap (fun w => lsbBits 32 w.toNat)

/-- The seed of the scrambler for a block (R214). -/
def scrambleSeed (seq : Nat) : Nat := (0x5D3AC96B ^^^ (seq % 256 * 0x01010101)) % 2 ^ 31

/-- The scrambler over the payload bits (R214); it is its own inverse. -/
def scramble : Nat → List Bool → List Bool
  | _, [] => []
  | s, d :: ds =>
    let f := s.testBit 30 != s.testBit 27
    (d != f) :: scramble ((s * 2 + b2n f) % 2 ^ 31) ds

/-- The unstuffed bits of a block from line bit 29 on: the zeros of the marker, the header, the scrambled payload. -/
def countedBits (type seq : Nat) (words : List Word) : List Bool :=
  [false, false, false, false] ++ msbBits 16 (header type seq) ++ scramble (scrambleSeed seq) (payloadBits words)

/-- Stuffing (R215): after 24 identical bits of the unstuffed stream one complement bit goes in, and the count starts
again; never after the last bit. `last` and `n` are the last bit counted and how many like it came together. -/
def stuff : Option Bool → Nat → List Bool → List Bool
  | _, _, [] => []
  | last, n, b :: bs =>
    let n := if last = some b then n + 1 else 1
    if n = 24 ∧ bs ≠ [] then b :: (!b) :: stuff none 0 bs
    else b :: stuff (some b) n bs

/-- Removal of the stuffed bits (R216): `none` is a code violation. -/
def unstuff : Option Bool → Nat → List Bool → Option (List Bool)
  | _, _, [] => some []
  | last, n, b :: bs =>
    let n := if last = some b then n + 1 else 1
    if n = 24 then
      match bs with
      | [] => some [b]
      | c :: cs => if c = !b then (unstuff none 0 cs).map (fun r => b :: r) else none
    else (unstuff (some b) n bs).map (fun r => b :: r)

/-- The line bits of a block (R209). -/
def lineBits (type seq : Nat) (words : List Word) : List Bool :=
  List.replicate 28 true ++ stuff none 0 (countedBits type seq words)

/-- The bytes of a tile row of codes of `b` bits: the codes form one bit string, least significant bit first (R217). -/
def rowBytes (b : Nat) (codes : List Nat) : List Nat :=
  let v := codes.reverse.foldl (fun acc c => acc * 2 ^ b + c % 2 ^ b) 0
  (List.range ((codes.length * b + 7) / 8)).map (fun j => v / 256 ^ j % 256)

/-- Lists of at most `n` elements each, in order. -/
def chunks {α : Type} (n : Nat) : Nat → List α → List (List α)
  | 0, _ => []
  | k + 1, l => if l.isEmpty then [] else l.take n :: chunks n k (l.drop n)

/-- A list brought to 64 words with zeros. -/
def pad64 (ws : List Word) : List Word := (ws ++ List.replicate 64 0).take 64

/-- The payloads of the PIXEL blocks of a row (R217). -/
def rowBlocks (b : Nat) (codes : List Nat) : List (List Word) :=
  let bytes := rowBytes b codes
  (chunks 256 (bytes.length / 256 + 1) bytes).map (fun c => pad64 (bytesWords c))

/-- The line rate of a code in bit/s (R206); an invalid code gives 0. -/
def lineRate (code : Nat) : Nat :=
  match code with
  | 0 => 1250000000 | 1 => 2500000000 | 2 => 5000000000 | 3 => 8000000000 | 4 => 10000000000 | _ => 0

/-- Does a tile row of width `w` at `b` bits fit a line (R218)? The frame rate is `num`/`den` in 1/16 Hz, and the line
period 1 / (frame rate × VTOTAL). -/
def rowFits (rateCode w b num den vtotal : Nat) : Bool :=
  let blocks := 1 + (w * b + 2047) / 2048
  if num * vtotal = 0 then false
  else decide ((blocks + 1) * 2182 ≤ lineRate rateCode * 16 * den / (num * vtotal))

end Sys2Proof.Machine
end

