-- ==== Sys2Proof/Config.lean ====
section
/-!
DEFINITION. What one device or its environment fixes and the spec leaves open. Every constant without a body is a free
value: nothing in Lean can evaluate it, so a claim holds whatever it is.
-/

namespace Sys2Proof.Config

/-- The programmed identifier (R457), before the two excluded values are taken away. -/
opaque uidRaw : BitVec 64

/-- The 64-bit device unique identifier; never zero and never all ones (R457). -/
def uid : Nat := if uidRaw = 0 ∨ uidRaw = BitVec.allOnes 64 then 1 else uidRaw.toNat

/-- A fresh value for each draw `n`: nonces, and the random draws of the wear programme. -/
opaque freeWord : Nat → Word

/-- Whether a RESET_N pulse of 1 to 10 µs (its length in ns) resets the device (R435). -/
opaque shortReset : Nat → Bool

/-- The frequency of the AON counter's oscillator, before it is brought into 700 to 1,400 Hz (R387). -/
opaque aonHzRaw : Nat

/-- The frequency of the AON counter's oscillator in Hz (R387). -/
def aonHz : Nat := 700 + aonHzRaw % 701

/-- The share of the difference, in 1/65,536, that a first-order filter with the time constant τ takes over in 1 ms (R354), before it is brought
into its range: the spec gives τ no unit. -/
opaque filterShareRaw : Word → Nat

/-- The share, 0 to 1. -/
def filterShare (tau : Word) : Nat := filterShareRaw tau % 65537

/-- θ of sensor `k` and region `j`, and τ of sensor `k` (j = 6), of a device without a calibration record (R354, R420): the spec gives none. -/
opaque modelBare : Nat → Nat → Word

/-- The median of an even number of values whose two middle ones differ (R354): the spec does not say. -/
opaque evenMedian : Int → Int → Int

/-- The whole number of °C/s that shows a rate of rise which is none (R357), from 16 times the rate. -/
opaque riseRound : Int → Int

/-- The boot-ROM signing keys as affine P-256 points, by KEY_ID (R401). -/
opaque romKey : Nat → Nat × Nat

/-- The format of the settings that the running image writes and the oldest that it reads, for the image that runs
before any update (R398, R401). -/
opaque baseSetFmt : Nat × Nat

/-- VERSION and STATE_FMT of the image that runs before any update (R401). -/
opaque baseVersion : Nat × Nat

/-- The body of the image that the device is delivered with (R401): the spec gives no content. -/
opaque baseBody : List Byte

/-- What CPL_DIAG reads: Holsulo diagnostics of which the spec gives no content (R245). -/
opaque diag : Nat → Nat → Word

/-- The value that a signed 16.16 quantity of a control loop takes where the exact result lies outside the format (R286). -/
opaque fxOut : Int → Int

/-- The q-axis and d-axis currents from the phase currents U and V and the electrical rotor angle, as a count out of REV (R283,
R294): the spec names the quantities and not the transform. -/
opaque park : Int → Int → Int → Int → Int × Int

/-- The three phase compare values from the q-axis and d-axis voltages and the electrical rotor angle, as a count out of REV (R283,
R293). -/
opaque phases : Int → Int → Int → Int → Nat × Nat × Nat

/-- Whether sample `n` of the sine of TUNE_INJECT is rounded up to the next 2^−16: amplitude, frequency (12.4 Hz), sample rate, n (R302 names no
rounding). -/
opaque sine : Int → Nat → Nat → Nat → Bool

/-- A colour trim where R280 divides by zero: MIN_SIG is 0 and no light is measured, or a target share is 0. -/
opaque clrOut : Nat → Nat

/-- A chroma sample beyond the edge of its plane (R97), from the nearest sample and the position: the spec states none. -/
opaque chromaEdge : Nat → Int → Int → Nat

/-- A rate of change over no time at all (R141), from the change: the spec states none. -/
opaque poseRate : Rat → Rat

/-- Whether the line period of FRAME_START, where it is no multiple of 1/256 ns, is rounded up (R187), from RATE_EFF and
VTOTAL: the spec does not say. -/
opaque lineRound : Nat → Nat → Bool

/-- Whether the table region has room for one more map set (R175), from the zones that the sets hold and the zones wanted:
the spec gives the region no size. -/
opaque mapRoom : Nat → Nat → Bool

/-- Whether content of a tile lies in a DRAM region that was given the content of a number (R25, R37): the spec gives no layout. -/
opaque regionHolds : Nat → Nat → Bool

/-- The copy progress of a move of a plan (R123), from the number of its plan and the PIX cycles since its decision: the spec gives
bounds for copies, no speed. -/
opaque copyProgress : Nat → Nat → Nat

/-- Word `k` of the block of item `i` in the factory record (R413, R419); i = 6: the halves of its calendar time. -/
opaque factoryWord : Nat → Nat → Word

/-- The mid code of the port trims, which they hold without a calibration record (R420): the spec gives no width. -/
opaque trimMid : Word

/-- SET_FMT and SET_FMT_MIN, then VERSION and STATE_FMT of the golden image (R395, R401). -/
opaque goldenImage : (Nat × Nat) × (Nat × Nat)

/-- The bytes that the flash directory lays out for the geometries of the 24 tiles (R400): the spec gives no layout. -/
opaque layoutBytes : List (Nat × Nat) → Nat

/-- Whether the items of a tile have moved when the directory is rebuilt for new geometries (R400): old, new, tile. -/
opaque flashMoved : List (Nat × Nat) → List (Nat × Nat) → Nat → Bool

/-- LB_LINES and URG_WM of the legacy layer of a tile (R89), before they are brought into range: the spec gives none. -/
opaque legacyLinesRaw : Nat → Nat × Nat

/-- LB_LINES, 4 to 64, and URG_WM, 1 to LB_LINES − 1, of the legacy layer of a tile (R89, R108). -/
def legacyLines (t : Nat) : Nat × Nat :=
  let n := 4 + (legacyLinesRaw t).1 % 61
  (n, 1 + (legacyLinesRaw t).2 % (n - 1))

end Sys2Proof.Config
end

