-- ==== Sys2Proof/Machine/RegMap.lean ====
section
/-!
DEFINITION. The register map (R447, R456 and the register tables of every chapter): where each register lies, its fields, their access
codes (R13) and their values after a chip reset (R16). `r<REGISTER>` is an address, `f<REGISTER>_<FIELD>` a field.
-/

namespace Sys2Proof.Machine

/-! ### Block 0, HUB -/

/-- HUB_DEV_ID (R456). -/
def rHUB_DEV_ID : Nat := 0x40000000
def fHUB_DEV_ID_PART : Fld := ⟨16, 16⟩
def fHUB_DEV_ID_VENDOR : Fld := ⟨8, 8⟩
def fHUB_DEV_ID_FAMILY : Fld := ⟨0, 8⟩
/-- HUB_REV (R456). -/
def rHUB_REV : Nat := 0x40000004
def fHUB_REV_LETTER : Fld := ⟨16, 8⟩
def fHUB_REV_STEP : Fld := ⟨0, 8⟩
/-- HUB_UID_LO (R456). -/
def rHUB_UID_LO : Nat := 0x40000008
def fHUB_UID_LO_UID : Fld := ⟨0, 32⟩
/-- HUB_UID_HI (R456). -/
def rHUB_UID_HI : Nat := 0x4000000C
def fHUB_UID_HI_UID : Fld := ⟨0, 32⟩
/-- HUB_FEAT (R457). -/
def rHUB_FEAT : Nat := 0x40000010
def fHUB_FEAT_FEAT : Fld := ⟨0, 32⟩
/-- HUB_DEV_STAT (R457). -/
def rHUB_DEV_STAT : Nat := 0x40000040
def fHUB_DEV_STAT_LIMP : Fld := ⟨31, 1⟩
def fHUB_DEV_STAT_STOP : Fld := ⟨30, 1⟩
def fHUB_DEV_STAT_HWSAFE : Fld := ⟨29, 1⟩
def fHUB_DEV_STAT_ERRN : Fld := ⟨28, 1⟩
def fHUB_DEV_STAT_FATAL : Fld := ⟨27, 1⟩
def fHUB_DEV_STAT_GOLDEN : Fld := ⟨26, 1⟩
def fHUB_DEV_STAT_PROV : Fld := ⟨25, 1⟩
def fHUB_DEV_STAT_THROTTLE : Fld := ⟨24, 1⟩
def fHUB_DEV_STAT_PSTATE : Fld := ⟨21, 3⟩
def fHUB_DEV_STAT_RESTART : Fld := ⟨16, 4⟩
def fHUB_DEV_STAT_STARTS : Fld := ⟨0, 16⟩
/-- HUB_LOCK (R457). -/
def rHUB_LOCK : Nat := 0x40000044
def fHUB_LOCK_LOCKED : Fld := ⟨31, 1⟩
def fHUB_LOCK_ARMED : Fld := ⟨30, 1⟩
def fHUB_LOCK_LOCK_CNT : Fld := ⟨0, 16⟩
/-- HUB_CTRL (R457). -/
def rHUB_CTRL : Nat := 0x40000048
def fHUB_CTRL_JTAG_DBG : Fld := ⟨31, 1⟩
/-- HUB_SCRATCH (R457). -/
def rHUB_SCRATCH (a : Nat) : Nat := 0x40000050 + 0x4 * a
def fHUB_SCRATCH_VALUE : Fld := ⟨0, 32⟩
/-- HUB_EVT_STAT (R457). -/
def rHUB_EVT_STAT (a : Nat) : Nat := 0x40000100 + 0x10 * a
def fHUB_EVT_STAT_QUEUED : Fld := ⟨24, 8⟩
def fHUB_EVT_STAT_DROPPED : Fld := ⟨16, 8⟩
/-- HUB_EVT_SEEN (R457). -/
def rHUB_EVT_SEEN (a : Nat) : Nat := 0x40000104 + 0x10 * a
def fHUB_EVT_SEEN_SEEN : Fld := ⟨1, 8⟩
/-- HUB_EVT_PATH (R457). -/
def rHUB_EVT_PATH (a : Nat) : Nat := 0x40000108 + 0x10 * a
def fHUB_EVT_PATH_PATH : Fld := ⟨0, 5⟩
/-- HUB_PATH_BIND (R53). -/
def rHUB_PATH_BIND (a : Nat) : Nat := 0x40000200 + 0x4 * a
def fHUB_PATH_BIND_EN : Fld := ⟨31, 1⟩
def fHUB_PATH_BIND_CTX : Fld := ⟨0, 2⟩
/-- HUB_CTX_CFG (R73). -/
def rHUB_CTX_CFG (a : Nat) : Nat := 0x40000300 + 0x20 * a
def fHUB_CTX_CFG_OPEN : Fld := ⟨31, 1⟩
def fHUB_CTX_CFG_BAMUT_CMD : Fld := ⟨30, 1⟩
def fHUB_CTX_CFG_EVT_MASK : Fld := ⟨0, 16⟩
/-- HUB_CTX_WPERM (R73). -/
def rHUB_CTX_WPERM (a : Nat) : Nat := 0x40000304 + 0x20 * a
def fHUB_CTX_WPERM_BLK_HI : Fld := ⟨15, 11⟩
def fHUB_CTX_WPERM_BLK_SAF : Fld := ⟨14, 1⟩
def fHUB_CTX_WPERM_BLK_LO : Fld := ⟨0, 14⟩
/-- HUB_CTX_OPPERM (R73). -/
def rHUB_CTX_OPPERM (a : Nat) : Nat := 0x40000308 + 0x20 * a
def fHUB_CTX_OPPERM_GRP : Fld := ⟨1, 8⟩
def fHUB_CTX_OPPERM_GRP_SYS : Fld := ⟨0, 1⟩
/-- HUB_CTX_STAT (R73). -/
def rHUB_CTX_STAT (a : Nat) : Nat := 0x4000030C + 0x20 * a
def fHUB_CTX_STAT_DEFER_CNT : Fld := ⟨16, 16⟩
def fHUB_CTX_STAT_SEQGAP_CNT : Fld := ⟨0, 16⟩
/-- HUB_LOAD (R77). -/
def rHUB_LOAD : Nat := 0x40000380
def fHUB_LOAD_LOAD : Fld := ⟨24, 8⟩
def fHUB_LOAD_PEAK : Fld := ⟨16, 8⟩
def fHUB_LOAD_NORMAL_DEFER : Fld := ⟨1, 1⟩
def fHUB_LOAD_BULK_DEFER : Fld := ⟨0, 1⟩
/-- HUB_DEFER_CFG (R77). -/
def rHUB_DEFER_CFG : Nat := 0x40000384
def fHUB_DEFER_CFG_BULK_ON : Fld := ⟨24, 8⟩
def fHUB_DEFER_CFG_BULK_OFF : Fld := ⟨16, 8⟩
def fHUB_DEFER_CFG_NORMAL_ON : Fld := ⟨8, 8⟩
def fHUB_DEFER_CFG_NORMAL_OFF : Fld := ⟨0, 8⟩
/-- HUB_RX_ERR (R74). -/
def rHUB_RX_ERR (a : Nat) : Nat := 0x40000400 + 0x4 * a
def fHUB_RX_ERR_HDR_ERR : Fld := ⟨16, 16⟩
def fHUB_RX_ERR_DISC : Fld := ⟨0, 16⟩

/-- The registers of block HUB. -/
def blkHUB : List RegDesc := [
  ⟨0x0, [], [⟨fHUB_DEV_ID_PART, .ro, 0x3024, false⟩, ⟨fHUB_DEV_ID_VENDOR, .ro, 1, false⟩, ⟨fHUB_DEV_ID_FAMILY, .ro, 0x48, false⟩]⟩,
  ⟨0x4, [], [⟨fHUB_REV_LETTER, .ro, 0x41, false⟩, ⟨fHUB_REV_STEP, .ro, 1, false⟩]⟩,
  ⟨0x8, [], [⟨fHUB_UID_LO_UID, .ro, 0, false⟩]⟩,
  ⟨0xc, [], [⟨fHUB_UID_HI_UID, .ro, 0, false⟩]⟩,
  ⟨0x10, [], [⟨fHUB_FEAT_FEAT, .ro, 0, false⟩]⟩,
  ⟨0x40, [], [⟨fHUB_DEV_STAT_LIMP, .ro, 1, false⟩, ⟨fHUB_DEV_STAT_STOP, .ro, 0, false⟩, ⟨fHUB_DEV_STAT_HWSAFE, .ro, 0, false⟩, ⟨fHUB_DEV_STAT_ERRN, .ro, 1, false⟩, ⟨fHUB_DEV_STAT_FATAL, .ro, 0, false⟩, ⟨fHUB_DEV_STAT_GOLDEN, .ro, 0, false⟩, ⟨fHUB_DEV_STAT_PROV, .ro, 1, false⟩, ⟨fHUB_DEV_STAT_THROTTLE, .ro, 0, false⟩, ⟨fHUB_DEV_STAT_PSTATE, .ro, 0, false⟩, ⟨fHUB_DEV_STAT_RESTART, .ro, 0, false⟩, ⟨fHUB_DEV_STAT_STARTS, .ro, 0, false⟩]⟩,
  ⟨0x44, [], [⟨fHUB_LOCK_LOCKED, .ro, 0, false⟩, ⟨fHUB_LOCK_ARMED, .ro, 0, false⟩, ⟨fHUB_LOCK_LOCK_CNT, .ro, 0, false⟩]⟩,
  ⟨0x48, [], [⟨fHUB_CTRL_JTAG_DBG, .rwl, 1, true⟩]⟩,
  ⟨0x50, [(0x4, 4)], [⟨fHUB_SCRATCH_VALUE, .rw, 0, false⟩]⟩,
  ⟨0x100, [(0x10, 4)], [⟨fHUB_EVT_STAT_QUEUED, .ro, 0, false⟩, ⟨fHUB_EVT_STAT_DROPPED, .w1t, 0, false⟩]⟩,
  ⟨0x104, [(0x10, 4)], [⟨fHUB_EVT_SEEN_SEEN, .w1c, 0, false⟩]⟩,
  ⟨0x108, [(0x10, 4)], [⟨fHUB_EVT_PATH_PATH, .ro, 0x1f, false⟩]⟩,
  ⟨0x200, [(0x4, 29)], [⟨fHUB_PATH_BIND_EN, .rwl, 1, true⟩, ⟨fHUB_PATH_BIND_CTX, .rwl, 0, true⟩]⟩,
  ⟨0x300, [(0x20, 4)], [⟨fHUB_CTX_CFG_OPEN, .ro, 0, false⟩, ⟨fHUB_CTX_CFG_BAMUT_CMD, .rwl, 0, true⟩, ⟨fHUB_CTX_CFG_EVT_MASK, .ro, 0, false⟩]⟩,
  ⟨0x304, [(0x20, 4)], [⟨fHUB_CTX_WPERM_BLK_HI, .ro0, 0, true⟩, ⟨fHUB_CTX_WPERM_BLK_SAF, .ro, 0, false⟩, ⟨fHUB_CTX_WPERM_BLK_LO, .ro0, 0, true⟩]⟩,
  ⟨0x308, [(0x20, 4)], [⟨fHUB_CTX_OPPERM_GRP, .ro0, 0x83, true⟩, ⟨fHUB_CTX_OPPERM_GRP_SYS, .ro, 1, false⟩]⟩,
  ⟨0x30c, [(0x20, 4)], [⟨fHUB_CTX_STAT_DEFER_CNT, .ro, 0, false⟩, ⟨fHUB_CTX_STAT_SEQGAP_CNT, .ro, 0, false⟩]⟩,
  ⟨0x380, [], [⟨fHUB_LOAD_LOAD, .ro, 0, false⟩, ⟨fHUB_LOAD_PEAK, .ro, 0, false⟩, ⟨fHUB_LOAD_NORMAL_DEFER, .ro, 0, false⟩, ⟨fHUB_LOAD_BULK_DEFER, .ro, 0, false⟩]⟩,
  ⟨0x384, [], [⟨fHUB_DEFER_CFG_BULK_ON, .rwl, 0x55, true⟩, ⟨fHUB_DEFER_CFG_BULK_OFF, .rwl, 0x46, true⟩, ⟨fHUB_DEFER_CFG_NORMAL_ON, .rwl, 0x5f, true⟩, ⟨fHUB_DEFER_CFG_NORMAL_OFF, .rwl, 0x55, true⟩]⟩,
  ⟨0x400, [(0x4, 29)], [⟨fHUB_RX_ERR_HDR_ERR, .w1t, 0, false⟩, ⟨fHUB_RX_ERR_DISC, .w1t, 0, false⟩]⟩]

/-! ### Block 1, PLC -/

/-- PLC_GEN (R123). -/
def rPLC_GEN : Nat := 0x40010000
def fPLC_GEN_GEN : Fld := ⟨0, 32⟩
/-- PLC_POOL_STAT (R123). -/
def rPLC_POOL_STAT : Nat := 0x40010004
def fPLC_POOL_STAT_USED : Fld := ⟨16, 15⟩
def fPLC_POOL_STAT_FREE : Fld := ⟨0, 15⟩
/-- PLC_MIG_STAT (R123). -/
def rPLC_MIG_STAT : Nat := 0x40010008
def fPLC_MIG_STAT_ACTIVE : Fld := ⟨31, 1⟩
def fPLC_MIG_STAT_GROUP : Fld := ⟨16, 5⟩
def fPLC_MIG_STAT_KIND : Fld := ⟨8, 8⟩
def fPLC_MIG_STAT_DONE : Fld := ⟨0, 8⟩
/-- PLC_QUOTA (R123). -/
def rPLC_QUOTA (a : Nat) : Nat := 0x40010010 + 0x4 * a
def fPLC_QUOTA_PAGES : Fld := ⟨0, 15⟩
/-- PLC_ENG_MAP (R123). -/
def rPLC_ENG_MAP : Nat := 0x40010020
def fPLC_ENG_MAP_FENCED : Fld := ⟨16, 12⟩
def fPLC_ENG_MAP_ASSIGNED : Fld := ⟨0, 12⟩
/-- PLC_TILE_MAP (R123). -/
def rPLC_TILE_MAP (a : Nat) : Nat := 0x40010100 + 0x4 * a
def fPLC_TILE_MAP_VALID : Fld := ⟨31, 1⟩
def fPLC_TILE_MAP_PORT : Fld := ⟨26, 5⟩
def fPLC_TILE_MAP_TWIN : Fld := ⟨21, 5⟩
def fPLC_TILE_MAP_GROUP : Fld := ⟨16, 5⟩
def fPLC_TILE_MAP_ENG_A : Fld := ⟨12, 4⟩
def fPLC_TILE_MAP_ENG_B : Fld := ⟨8, 4⟩
def fPLC_TILE_MAP_SPLIT : Fld := ⟨0, 8⟩
/-- PLC_REGION_MAP (R123). -/
def rPLC_REGION_MAP (a : Nat) : Nat := 0x40010200 + 0x4 * a
def fPLC_REGION_MAP_USE : Fld := ⟨0, 32⟩

/-- The registers of block PLC. -/
def blkPLC : List RegDesc := [
  ⟨0x0, [], [⟨fPLC_GEN_GEN, .ro, 0, false⟩]⟩,
  ⟨0x4, [], [⟨fPLC_POOL_STAT_USED, .ro, 0, false⟩, ⟨fPLC_POOL_STAT_FREE, .ro, 0x4000, false⟩]⟩,
  ⟨0x8, [], [⟨fPLC_MIG_STAT_ACTIVE, .ro, 0, false⟩, ⟨fPLC_MIG_STAT_GROUP, .ro, 0, false⟩, ⟨fPLC_MIG_STAT_KIND, .ro, 0, false⟩, ⟨fPLC_MIG_STAT_DONE, .ro, 0, false⟩]⟩,
  ⟨0x10, [(0x4, 4)], [⟨fPLC_QUOTA_PAGES, .rwl, 0x4000, true⟩]⟩,
  ⟨0x20, [], [⟨fPLC_ENG_MAP_FENCED, .ro, 0, false⟩, ⟨fPLC_ENG_MAP_ASSIGNED, .ro, 0, false⟩]⟩,
  ⟨0x100, [(0x4, 24)], [⟨fPLC_TILE_MAP_VALID, .ro, 0, false⟩, ⟨fPLC_TILE_MAP_PORT, .ro, 0, false⟩, ⟨fPLC_TILE_MAP_TWIN, .ro, 0x1f, false⟩, ⟨fPLC_TILE_MAP_GROUP, .ro, 0, false⟩, ⟨fPLC_TILE_MAP_ENG_A, .ro, 0, false⟩, ⟨fPLC_TILE_MAP_ENG_B, .ro, 0xf, false⟩, ⟨fPLC_TILE_MAP_SPLIT, .ro, 0, false⟩]⟩,
  ⟨0x200, [(0x4, 8)], [⟨fPLC_REGION_MAP_USE, .ro, 0, false⟩]⟩]

/-! ### Block 2, LYR -/

/-- LYR_DESC_CTL (R108). -/
def rLYR_DESC_CTL (a : Nat) : Nat := 0x40020000 + 0x20 * a
def fLYR_DESC_CTL_EN : Fld := ⟨31, 1⟩
def fLYR_DESC_CTL_REPY : Fld := ⟨29, 2⟩
def fLYR_DESC_CTL_REPX : Fld := ⟨27, 2⟩
def fLYR_DESC_CTL_TILE : Fld := ⟨22, 5⟩
def fLYR_DESC_CTL_FORMAT : Fld := ⟨14, 8⟩
def fLYR_DESC_CTL_LB_LINES : Fld := ⟨7, 7⟩
def fLYR_DESC_CTL_URG_WM : Fld := ⟨1, 6⟩
/-- LYR_DESC_DST (R108). -/
def rLYR_DESC_DST (a : Nat) : Nat := 0x40020004 + 0x20 * a
def fLYR_DESC_DST_DST_Y : Fld := ⟨16, 16⟩
def fLYR_DESC_DST_DST_X : Fld := ⟨0, 16⟩
/-- LYR_DESC_SIZE (R108). -/
def rLYR_DESC_SIZE (a : Nat) : Nat := 0x40020008 + 0x20 * a
def fLYR_DESC_SIZE_HEIGHT : Fld := ⟨16, 13⟩
def fLYR_DESC_SIZE_WIDTH : Fld := ⟨0, 13⟩
/-- LYR_DESC_SRC (R108). -/
def rLYR_DESC_SRC (a : Nat) : Nat := 0x4002000C + 0x20 * a
def fLYR_DESC_SRC_SRC_Y : Fld := ⟨16, 12⟩
def fLYR_DESC_SRC_SRC_X : Fld := ⟨0, 12⟩
/-- LYR_DESC_FILL (R108). -/
def rLYR_DESC_FILL (a : Nat) : Nat := 0x40020010 + 0x20 * a
def fLYR_DESC_FILL_FILL : Fld := ⟨0, 16⟩
/-- LYR_DESC_BUF (R108). -/
def rLYR_DESC_BUF (a : Nat) : Nat := 0x40020014 + 0x20 * a
def fLYR_DESC_BUF_BUF : Fld := ⟨0, 32⟩
/-- LYR_UNDERRUN (R115). -/
def rLYR_UNDERRUN (a : Nat) : Nat := 0x40024000 + 0x4 * a
def fLYR_UNDERRUN_COUNT : Fld := ⟨0, 16⟩
/-- LYR_STREAM_DROP (R115). -/
def rLYR_STREAM_DROP (a : Nat) : Nat := 0x40024400 + 0x4 * a
def fLYR_STREAM_DROP_COUNT : Fld := ⟨0, 16⟩

/-- The registers of block LYR. -/
def blkLYR : List RegDesc := [
  ⟨0x0, [(0x20, 256)], [⟨fLYR_DESC_CTL_EN, .ro, 0, false⟩, ⟨fLYR_DESC_CTL_REPY, .ro, 0, false⟩, ⟨fLYR_DESC_CTL_REPX, .ro, 0, false⟩, ⟨fLYR_DESC_CTL_TILE, .ro, 0, false⟩, ⟨fLYR_DESC_CTL_FORMAT, .ro, 0, false⟩, ⟨fLYR_DESC_CTL_LB_LINES, .ro, 0, false⟩, ⟨fLYR_DESC_CTL_URG_WM, .ro, 0, false⟩]⟩,
  ⟨0x4, [(0x20, 256)], [⟨fLYR_DESC_DST_DST_Y, .ro, 0, false⟩, ⟨fLYR_DESC_DST_DST_X, .ro, 0, false⟩]⟩,
  ⟨0x8, [(0x20, 256)], [⟨fLYR_DESC_SIZE_HEIGHT, .ro, 0, false⟩, ⟨fLYR_DESC_SIZE_WIDTH, .ro, 0, false⟩]⟩,
  ⟨0xc, [(0x20, 256)], [⟨fLYR_DESC_SRC_SRC_Y, .ro, 0, false⟩, ⟨fLYR_DESC_SRC_SRC_X, .ro, 0, false⟩]⟩,
  ⟨0x10, [(0x20, 256)], [⟨fLYR_DESC_FILL_FILL, .ro, 0, false⟩]⟩,
  ⟨0x14, [(0x20, 256)], [⟨fLYR_DESC_BUF_BUF, .ro, 0, false⟩]⟩,
  ⟨0x4000, [(0x4, 256)], [⟨fLYR_UNDERRUN_COUNT, .w1t, 0, false⟩]⟩,
  ⟨0x4400, [(0x4, 24)], [⟨fLYR_STREAM_DROP_COUNT, .w1t, 0, false⟩]⟩]

/-! ### Block 3, CMP -/

/-- CMP_STACK (R127). -/
def rCMP_STACK (a : Nat) (b : Nat) : Nat := 0x40030000 + 0x100 * a + 0x4 * b
def fCMP_STACK_VALID : Fld := ⟨31, 1⟩
def fCMP_STACK_GFM : Fld := ⟨30, 1⟩
def fCMP_STACK_MODE : Fld := ⟨27, 3⟩
def fCMP_STACK_LAYER : Fld := ⟨16, 8⟩
def fCMP_STACK_OPACITY : Fld := ⟨0, 16⟩
/-- CMP_GRP_CFG (R151). -/
def rCMP_GRP_CFG (a : Nat) : Nat := 0x40030080 + 0x100 * a
def fCMP_GRP_CFG_RACING : Fld := ⟨31, 1⟩
def fCMP_GRP_CFG_LEAD : Fld := ⟨16, 10⟩
def fCMP_GRP_CFG_STALE : Fld := ⟨8, 4⟩
def fCMP_GRP_CFG_COUNT : Fld := ⟨0, 6⟩
/-- CMP_RACE_STAT (R151). -/
def rCMP_RACE_STAT (a : Nat) : Nat := 0x40030084 + 0x100 * a
def fCMP_RACE_STAT_LEAD_EFF : Fld := ⟨16, 10⟩
def fCMP_RACE_STAT_LEAD_MIN : Fld := ⟨0, 10⟩
/-- CMP_EVT_CNT (R151). -/
def rCMP_EVT_CNT (a : Nat) : Nat := 0x40030088 + 0x100 * a
def fCMP_EVT_CNT_STALE : Fld := ⟨16, 16⟩
def fCMP_EVT_CNT_LATE : Fld := ⟨0, 16⟩
/-- CMP_MATRIX (R133). -/
def rCMP_MATRIX (a : Nat) (b : Nat) : Nat := 0x40030090 + 0x100 * a + 0x4 * b
def fCMP_MATRIX_W : Fld := ⟨0, 32⟩

/-- The registers of block CMP. -/
def blkCMP : List RegDesc := [
  ⟨0x0, [(0x100, 8), (0x4, 32)], [⟨fCMP_STACK_VALID, .ro, 0, false⟩, ⟨fCMP_STACK_GFM, .ro, 0, false⟩, ⟨fCMP_STACK_MODE, .ro, 0, false⟩, ⟨fCMP_STACK_LAYER, .ro, 0, false⟩, ⟨fCMP_STACK_OPACITY, .ro, 0, false⟩]⟩,
  ⟨0x80, [(0x100, 8)], [⟨fCMP_GRP_CFG_RACING, .ro, 0, false⟩, ⟨fCMP_GRP_CFG_LEAD, .ro, 0x180, false⟩, ⟨fCMP_GRP_CFG_STALE, .ro, 0, false⟩, ⟨fCMP_GRP_CFG_COUNT, .ro, 0, false⟩]⟩,
  ⟨0x84, [(0x100, 8)], [⟨fCMP_RACE_STAT_LEAD_EFF, .ro, 0x180, false⟩, ⟨fCMP_RACE_STAT_LEAD_MIN, .ro, 0x10, false⟩]⟩,
  ⟨0x88, [(0x100, 8)], [⟨fCMP_EVT_CNT_STALE, .w1t, 0, false⟩, ⟨fCMP_EVT_CNT_LATE, .w1t, 0, false⟩]⟩,
  ⟨0x90, [(0x100, 8), (0x4, 6)], [⟨fCMP_MATRIX_W, .ro, 0, false⟩]⟩]

/-! ### Block 4, WRP -/

/-- WRP_MESH_STAT (R136). -/
def rWRP_MESH_STAT (a : Nat) : Nat := 0x40040000 + 0x4 * a
def fWRP_MESH_STAT_VALID : Fld := ⟨31, 1⟩
def fWRP_MESH_STAT_SPAN : Fld := ⟨16, 5⟩
/-- WRP_TILE_K (R145). -/
def rWRP_TILE_K (a : Nat) : Nat := 0x40040100 + 0x4 * a
def fWRP_TILE_K_KY : Fld := ⟨16, 16⟩
def fWRP_TILE_K_KX : Fld := ⟨0, 16⟩
/-- WRP_POSE_CFG (R145). -/
def rWRP_POSE_CFG : Nat := 0x40040200
def fWRP_POSE_CFG_IMU_EN : Fld := ⟨31, 1⟩
def fWRP_POSE_CFG_HOST_EN : Fld := ⟨30, 1⟩
def fWRP_POSE_CFG_KA : Fld := ⟨20, 4⟩
def fWRP_POSE_CFG_KB : Fld := ⟨16, 4⟩
def fWRP_POSE_CFG_HMAX : Fld := ⟨8, 8⟩
def fWRP_POSE_CFG_TMO : Fld := ⟨0, 8⟩
/-- WRP_POSE_FB (R145). -/
def rWRP_POSE_FB : Nat := 0x40040204
def fWRP_POSE_FB_FB_PITCH : Fld := ⟨0, 32⟩
/-- WRP_IMU_CFG (R145). -/
def rWRP_IMU_CFG : Nat := 0x40040208
def fWRP_IMU_CFG_DRDY : Fld := ⟨31, 1⟩
def fWRP_IMU_CFG_MODE3 : Fld := ⟨30, 1⟩
def fWRP_IMU_CFG_CHK_VAL : Fld := ⟨22, 8⟩
def fWRP_IMU_CFG_DIV : Fld := ⟨10, 8⟩
def fWRP_IMU_CFG_PERIOD : Fld := ⟨0, 10⟩
/-- WRP_IMU_XFER (R145). -/
def rWRP_IMU_XFER : Nat := 0x4004020C
def fWRP_IMU_XFER_CMD : Fld := ⟨24, 8⟩
def fWRP_IMU_XFER_LEN : Fld := ⟨19, 5⟩
def fWRP_IMU_XFER_P_OFS : Fld := ⟨14, 5⟩
def fWRP_IMU_XFER_Y_OFS : Fld := ⟨9, 5⟩
def fWRP_IMU_XFER_CHK_OFS : Fld := ⟨4, 5⟩
/-- WRP_IMU_SCALE (R145). -/
def rWRP_IMU_SCALE : Nat := 0x40040210
def fWRP_IMU_SCALE_P_SCALE : Fld := ⟨16, 16⟩
def fWRP_IMU_SCALE_Y_SCALE : Fld := ⟨0, 16⟩
/-- WRP_POSE_STAT (R145). -/
def rWRP_POSE_STAT : Nat := 0x40040220
def fWRP_POSE_STAT_MODE : Fld := ⟨28, 4⟩
def fWRP_POSE_STAT_CLAMPS : Fld := ⟨0, 16⟩
/-- WRP_PITCH (R145). -/
def rWRP_PITCH : Nat := 0x40040224
def fWRP_PITCH_PITCH : Fld := ⟨0, 32⟩
/-- WRP_YAW (R145). -/
def rWRP_YAW : Nat := 0x40040228
def fWRP_YAW_YAW : Fld := ⟨0, 32⟩
/-- WRP_GRP_POSE (R145). -/
def rWRP_GRP_POSE (a : Nat) : Nat := 0x40040300 + 0x4 * a
def fWRP_GRP_POSE_PITCH_EN : Fld := ⟨31, 1⟩
def fWRP_GRP_POSE_YAW_EN : Fld := ⟨30, 1⟩
def fWRP_GRP_POSE_MASK_AGE : Fld := ⟨0, 16⟩

/-- The registers of block WRP. -/
def blkWRP : List RegDesc := [
  ⟨0x0, [(0x4, 24)], [⟨fWRP_MESH_STAT_VALID, .ro, 0, false⟩, ⟨fWRP_MESH_STAT_SPAN, .ro, 9, false⟩]⟩,
  ⟨0x100, [(0x4, 24)], [⟨fWRP_TILE_K_KY, .rwl, 0, true⟩, ⟨fWRP_TILE_K_KX, .rwl, 0, true⟩]⟩,
  ⟨0x200, [], [⟨fWRP_POSE_CFG_IMU_EN, .rwl, 0, true⟩, ⟨fWRP_POSE_CFG_HOST_EN, .rwl, 0, true⟩, ⟨fWRP_POSE_CFG_KA, .rwl, 3, true⟩, ⟨fWRP_POSE_CFG_KB, .rwl, 8, true⟩, ⟨fWRP_POSE_CFG_HMAX, .rwl, 0xa, true⟩, ⟨fWRP_POSE_CFG_TMO, .rwl, 0x64, true⟩]⟩,
  ⟨0x204, [], [⟨fWRP_POSE_FB_FB_PITCH, .rwl, 0xfffccccd, true⟩]⟩,
  ⟨0x208, [], [⟨fWRP_IMU_CFG_DRDY, .rwl, 0, true⟩, ⟨fWRP_IMU_CFG_MODE3, .rwl, 0, true⟩, ⟨fWRP_IMU_CFG_CHK_VAL, .rwl, 0, true⟩, ⟨fWRP_IMU_CFG_DIV, .rwl, 4, true⟩, ⟨fWRP_IMU_CFG_PERIOD, .rwl, 0x3e8, true⟩]⟩,
  ⟨0x20c, [], [⟨fWRP_IMU_XFER_CMD, .rwl, 0, true⟩, ⟨fWRP_IMU_XFER_LEN, .rwl, 2, true⟩, ⟨fWRP_IMU_XFER_P_OFS, .rwl, 0, true⟩, ⟨fWRP_IMU_XFER_Y_OFS, .rwl, 0, true⟩, ⟨fWRP_IMU_XFER_CHK_OFS, .rwl, 0x1f, true⟩]⟩,
  ⟨0x210, [], [⟨fWRP_IMU_SCALE_P_SCALE, .rwl, 0, true⟩, ⟨fWRP_IMU_SCALE_Y_SCALE, .rwl, 0, true⟩]⟩,
  ⟨0x220, [], [⟨fWRP_POSE_STAT_MODE, .ro, 0, false⟩, ⟨fWRP_POSE_STAT_CLAMPS, .w1t, 0, false⟩]⟩,
  ⟨0x224, [], [⟨fWRP_PITCH_PITCH, .ro, 0, false⟩]⟩,
  ⟨0x228, [], [⟨fWRP_YAW_YAW, .ro, 0, false⟩]⟩,
  ⟨0x300, [(0x4, 8)], [⟨fWRP_GRP_POSE_PITCH_EN, .rwl, 0, true⟩, ⟨fWRP_GRP_POSE_YAW_EN, .rwl, 0, true⟩, ⟨fWRP_GRP_POSE_MASK_AGE, .rwl, 0, true⟩]⟩]

/-! ### Block 5, PHO -/

/-- PHO_GAIN_GLOBAL (R181). -/
def rPHO_GAIN_GLOBAL (a : Nat) : Nat := 0x40050000 + 0x4 * a
def fPHO_GAIN_GLOBAL_SCALE : Fld := ⟨0, 16⟩
/-- PHO_DERATE_A (R181). -/
def rPHO_DERATE_A (a : Nat) : Nat := 0x40050100 + 0x10 * a
def fPHO_DERATE_A_SLOPE : Fld := ⟨16, 16⟩
def fPHO_DERATE_A_FLOOR : Fld := ⟨0, 16⟩
/-- PHO_DERATE_B (R181). -/
def rPHO_DERATE_B (a : Nat) : Nat := 0x40050104 + 0x10 * a
def fPHO_DERATE_B_KNEE : Fld := ⟨0, 8⟩
/-- PHO_THERM (R181). -/
def rPHO_THERM (a : Nat) : Nat := 0x40050108 + 0x10 * a
def fPHO_THERM_G_TILE : Fld := ⟨16, 16⟩
def fPHO_THERM_G_APPLIED : Fld := ⟨0, 16⟩
/-- PHO_TILE_STAT (R181). -/
def rPHO_TILE_STAT (a : Nat) : Nat := 0x4005010C + 0x10 * a
def fPHO_TILE_STAT_DEGRADED : Fld := ⟨31, 1⟩
def fPHO_TILE_STAT_CARRY : Fld := ⟨30, 1⟩
def fPHO_TILE_STAT_DEAD : Fld := ⟨16, 11⟩
def fPHO_TILE_STAT_CLUSTER : Fld := ⟨8, 8⟩
/-- PHO_REPAIR_CFG (R181). -/
def rPHO_REPAIR_CFG : Nat := 0x40050300
def fPHO_REPAIR_CFG_SPREAD : Fld := ⟨16, 16⟩
def fPHO_REPAIR_CFG_CLUSTER_MAX : Fld := ⟨8, 8⟩
/-- PHO_OVL_PAIR (R181). -/
def rPHO_OVL_PAIR (a : Nat) : Nat := 0x40050310 + 0x4 * a
def fPHO_OVL_PAIR_EN : Fld := ⟨31, 1⟩
def fPHO_OVL_PAIR_TILE_A : Fld := ⟨24, 5⟩
def fPHO_OVL_PAIR_TILE_B : Fld := ⟨16, 5⟩
def fPHO_OVL_PAIR_SHARE_A : Fld := ⟨0, 16⟩
/-- PHO_WEAR_STAT (R181). -/
def rPHO_WEAR_STAT : Nat := 0x40050380
def fPHO_WEAR_STAT_ACTIVE : Fld := ⟨31, 1⟩
def fPHO_WEAR_STAT_LOST : Fld := ⟨30, 1⟩
def fPHO_WEAR_STAT_DONE : Fld := ⟨16, 8⟩
def fPHO_WEAR_STAT_PASS : Fld := ⟨0, 16⟩
/-- PHO_CLAMP_CNT (R181). -/
def rPHO_CLAMP_CNT (a : Nat) : Nat := 0x40050400 + 0x4 * a
def fPHO_CLAMP_CNT_CEIL : Fld := ⟨16, 16⟩
def fPHO_CLAMP_CNT_FLOOR : Fld := ⟨0, 16⟩
/-- PHO_MAP_STAT (R181). -/
def rPHO_MAP_STAT (a : Nat) : Nat := 0x40050480 + 0x4 * a
def fPHO_MAP_STAT_CURVE : Fld := ⟨31, 1⟩
def fPHO_MAP_STAT_VALID : Fld := ⟨8, 4⟩
def fPHO_MAP_STAT_BEAM : Fld := ⟨0, 2⟩

/-- The registers of block PHO. -/
def blkPHO : List RegDesc := [
  ⟨0x0, [(0x4, 8)], [⟨fPHO_GAIN_GLOBAL_SCALE, .ro, 0x8000, false⟩]⟩,
  ⟨0x100, [(0x10, 24)], [⟨fPHO_DERATE_A_SLOPE, .rwl, 0x28f, true⟩, ⟨fPHO_DERATE_A_FLOOR, .rwl, 0x4000, true⟩]⟩,
  ⟨0x104, [(0x10, 24)], [⟨fPHO_DERATE_B_KNEE, .rwl, 0x7d, true⟩]⟩,
  ⟨0x108, [(0x10, 24)], [⟨fPHO_THERM_G_TILE, .ro, 0x8000, false⟩, ⟨fPHO_THERM_G_APPLIED, .ro, 0x8000, false⟩]⟩,
  ⟨0x10c, [(0x10, 24)], [⟨fPHO_TILE_STAT_DEGRADED, .ro, 0, false⟩, ⟨fPHO_TILE_STAT_CARRY, .ro, 0, false⟩, ⟨fPHO_TILE_STAT_DEAD, .ro, 0, false⟩, ⟨fPHO_TILE_STAT_CLUSTER, .ro, 0, false⟩]⟩,
  ⟨0x300, [], [⟨fPHO_REPAIR_CFG_SPREAD, .rwl, 0x6000, true⟩, ⟨fPHO_REPAIR_CFG_CLUSTER_MAX, .rwl, 0x10, true⟩]⟩,
  ⟨0x310, [(0x4, 12)], [⟨fPHO_OVL_PAIR_EN, .rwl, 0, true⟩, ⟨fPHO_OVL_PAIR_TILE_A, .rwl, 0, true⟩, ⟨fPHO_OVL_PAIR_TILE_B, .rwl, 0, true⟩, ⟨fPHO_OVL_PAIR_SHARE_A, .rwl, 0x4000, true⟩]⟩,
  ⟨0x380, [], [⟨fPHO_WEAR_STAT_ACTIVE, .ro, 0, false⟩, ⟨fPHO_WEAR_STAT_LOST, .ro, 0, false⟩, ⟨fPHO_WEAR_STAT_DONE, .ro, 0, false⟩, ⟨fPHO_WEAR_STAT_PASS, .ro, 0, false⟩]⟩,
  ⟨0x400, [(0x4, 24)], [⟨fPHO_CLAMP_CNT_CEIL, .ro, 0, false⟩, ⟨fPHO_CLAMP_CNT_FLOOR, .ro, 0, false⟩]⟩,
  ⟨0x480, [(0x4, 24)], [⟨fPHO_MAP_STAT_CURVE, .ro, 0, false⟩, ⟨fPHO_MAP_STAT_VALID, .ro, 0, false⟩, ⟨fPHO_MAP_STAT_BEAM, .ro, 0, false⟩]⟩]

/-! ### Block 6, SCN -/

/-- SCN_GEOM (R204). -/
def rSCN_GEOM (a : Nat) : Nat := 0x40060000 + 0x40 * a
def fSCN_GEOM_DEPTH : Fld := ⟨30, 2⟩
def fSCN_GEOM_HEIGHT : Fld := ⟨16, 13⟩
def fSCN_GEOM_WIDTH : Fld := ⟨0, 13⟩
/-- SCN_HTIME (R204). -/
def rSCN_HTIME (a : Nat) : Nat := 0x40060004 + 0x40 * a
def fSCN_HTIME_SYNC : Fld := ⟨24, 8⟩
def fSCN_HTIME_PORCH : Fld := ⟨12, 12⟩
/-- SCN_VTIME (R204). -/
def rSCN_VTIME (a : Nat) : Nat := 0x40060008 + 0x40 * a
def fSCN_VTIME_SYNC : Fld := ⟨24, 8⟩
def fSCN_VTIME_PORCH : Fld := ⟨12, 12⟩
/-- SCN_RATE (R204). -/
def rSCN_RATE (a : Nat) : Nat := 0x4006000C + 0x40 * a
def fSCN_RATE_EN : Fld := ⟨31, 1⟩
def fSCN_RATE_RATE : Fld := ⟨0, 13⟩
/-- SCN_SYNC (R204). -/
def rSCN_SYNC (a : Nat) : Nat := 0x40060010 + 0x40 * a
def fSCN_SYNC_LOCK : Fld := ⟨31, 1⟩
def fSCN_SYNC_MASTER : Fld := ⟨24, 3⟩
def fSCN_SYNC_RATIO : Fld := ⟨20, 3⟩
def fSCN_SYNC_OFFSET : Fld := ⟨0, 12⟩
/-- SCN_TILES (R204). -/
def rSCN_TILES (a : Nat) : Nat := 0x40060014 + 0x40 * a
def fSCN_TILES_MASK : Fld := ⟨0, 24⟩
/-- SCN_FRAME_CNT (R204). -/
def rSCN_FRAME_CNT (a : Nat) : Nat := 0x40060018 + 0x40 * a
def fSCN_FRAME_CNT_FRAME : Fld := ⟨0, 32⟩
/-- SCN_COMMIT_STATUS (R204). -/
def rSCN_COMMIT_STATUS (a : Nat) : Nat := 0x4006001C + 0x40 * a
def fSCN_COMMIT_STATUS_PEND : Fld := ⟨31, 1⟩
def fSCN_COMMIT_STATUS_REL : Fld := ⟨28, 2⟩
def fSCN_COMMIT_STATUS_CTX : Fld := ⟨24, 2⟩
def fSCN_COMMIT_STATUS_FIRST : Fld := ⟨0, 24⟩
/-- SCN_GRP_STAT (R204). -/
def rSCN_GRP_STAT (a : Nat) : Nat := 0x40060020 + 0x40 * a
def fSCN_GRP_STAT_RUN : Fld := ⟨31, 1⟩
def fSCN_GRP_STAT_LOCKED : Fld := ⟨30, 1⟩
def fSCN_GRP_STAT_PRIME : Fld := ⟨29, 1⟩
def fSCN_GRP_STAT_STORE : Fld := ⟨28, 1⟩
def fSCN_GRP_STAT_LINE : Fld := ⟨16, 12⟩
def fSCN_GRP_STAT_CFG_ERR : Fld := ⟨15, 1⟩
def fSCN_GRP_STAT_RATE_EFF : Fld := ⟨0, 13⟩
/-- SCN_SIG_CNT (R204). -/
def rSCN_SIG_CNT (a : Nat) : Nat := 0x40060400 + 0x10 * a
def fSCN_SIG_CNT_MISMATCH : Fld := ⟨24, 8⟩
def fSCN_SIG_CNT_MISS : Fld := ⟨16, 8⟩
def fSCN_SIG_CNT_UNDERRUN : Fld := ⟨8, 8⟩
def fSCN_SIG_CNT_STRAY : Fld := ⟨0, 8⟩
/-- SCN_SIG_FRM (R204). -/
def rSCN_SIG_FRM (a : Nat) : Nat := 0x40060404 + 0x10 * a
def fSCN_SIG_FRM_VALUE : Fld := ⟨0, 32⟩
/-- SCN_SIG_EXP (R204). -/
def rSCN_SIG_EXP (a : Nat) : Nat := 0x40060408 + 0x10 * a
def fSCN_SIG_EXP_VALUE : Fld := ⟨0, 32⟩
/-- SCN_SIG_GOT (R204). -/
def rSCN_SIG_GOT (a : Nat) : Nat := 0x4006040C + 0x10 * a
def fSCN_SIG_GOT_VALUE : Fld := ⟨0, 32⟩
/-- SCN_SIG_CFG (R204). -/
def rSCN_SIG_CFG : Nat := 0x40060600
def fSCN_SIG_CFG_SIG_EN : Fld := ⟨31, 1⟩
def fSCN_SIG_CFG_SIG_WIN : Fld := ⟨8, 4⟩
def fSCN_SIG_CFG_MISS_MAX : Fld := ⟨0, 8⟩

/-- The registers of block SCN. -/
def blkSCN : List RegDesc := [
  ⟨0x0, [(0x40, 8)], [⟨fSCN_GEOM_DEPTH, .rwl, 0, true⟩, ⟨fSCN_GEOM_HEIGHT, .rwl, 0, true⟩, ⟨fSCN_GEOM_WIDTH, .rwl, 0, true⟩]⟩,
  ⟨0x4, [(0x40, 8)], [⟨fSCN_HTIME_SYNC, .rwl, 0, true⟩, ⟨fSCN_HTIME_PORCH, .rwl, 0, true⟩]⟩,
  ⟨0x8, [(0x40, 8)], [⟨fSCN_VTIME_SYNC, .rwl, 0, true⟩, ⟨fSCN_VTIME_PORCH, .rwl, 0, true⟩]⟩,
  ⟨0xc, [(0x40, 8)], [⟨fSCN_RATE_EN, .rwl, 0, true⟩, ⟨fSCN_RATE_RATE, .rwl, 0xf00, true⟩]⟩,
  ⟨0x10, [(0x40, 8)], [⟨fSCN_SYNC_LOCK, .rwl, 0, true⟩, ⟨fSCN_SYNC_MASTER, .rwl, 0, true⟩, ⟨fSCN_SYNC_RATIO, .rwl, 0, true⟩, ⟨fSCN_SYNC_OFFSET, .rwl, 0, true⟩]⟩,
  ⟨0x14, [(0x40, 8)], [⟨fSCN_TILES_MASK, .rwl, 0, true⟩]⟩,
  ⟨0x18, [(0x40, 8)], [⟨fSCN_FRAME_CNT_FRAME, .ro, 0, false⟩]⟩,
  ⟨0x1c, [(0x40, 8)], [⟨fSCN_COMMIT_STATUS_PEND, .ro, 0, false⟩, ⟨fSCN_COMMIT_STATUS_REL, .ro, 0, false⟩, ⟨fSCN_COMMIT_STATUS_CTX, .ro, 0, false⟩, ⟨fSCN_COMMIT_STATUS_FIRST, .ro, 0, false⟩]⟩,
  ⟨0x20, [(0x40, 8)], [⟨fSCN_GRP_STAT_RUN, .ro, 0, false⟩, ⟨fSCN_GRP_STAT_LOCKED, .ro, 0, false⟩, ⟨fSCN_GRP_STAT_PRIME, .ro, 0, false⟩, ⟨fSCN_GRP_STAT_STORE, .ro, 0, false⟩, ⟨fSCN_GRP_STAT_LINE, .ro, 0, false⟩, ⟨fSCN_GRP_STAT_CFG_ERR, .w1c, 0, false⟩, ⟨fSCN_GRP_STAT_RATE_EFF, .ro, 0, false⟩]⟩,
  ⟨0x400, [(0x10, 24)], [⟨fSCN_SIG_CNT_MISMATCH, .w1t, 0, false⟩, ⟨fSCN_SIG_CNT_MISS, .w1t, 0, false⟩, ⟨fSCN_SIG_CNT_UNDERRUN, .w1t, 0, false⟩, ⟨fSCN_SIG_CNT_STRAY, .w1t, 0, false⟩]⟩,
  ⟨0x404, [(0x10, 24)], [⟨fSCN_SIG_FRM_VALUE, .ro, 0, false⟩]⟩,
  ⟨0x408, [(0x10, 24)], [⟨fSCN_SIG_EXP_VALUE, .ro, 0, false⟩]⟩,
  ⟨0x40c, [(0x10, 24)], [⟨fSCN_SIG_GOT_VALUE, .ro, 0, false⟩]⟩,
  ⟨0x600, [], [⟨fSCN_SIG_CFG_SIG_EN, .rwl, 1, true⟩, ⟨fSCN_SIG_CFG_SIG_WIN, .rwl, 2, true⟩, ⟨fSCN_SIG_CFG_MISS_MAX, .rwl, 3, true⟩]⟩]

/-! ### Block 7, CPL -/

/-- CPL_CFG (R245). -/
def rCPL_CFG (a : Nat) : Nat := 0x40070000 + 0x400 * a
def fCPL_CFG_ROLE : Fld := ⟨29, 3⟩
def fCPL_CFG_TX_RATE : Fld := ⟨24, 3⟩
def fCPL_CFG_RX_RATE : Fld := ⟨20, 3⟩
def fCPL_CFG_POL_TX : Fld := ⟨15, 1⟩
def fCPL_CFG_POL_RX : Fld := ⟨14, 1⟩
def fCPL_CFG_TX_IDLE_EN : Fld := ⟨13, 1⟩
/-- CPL_TXEQ (R245). -/
def rCPL_TXEQ (a : Nat) : Nat := 0x40070004 + 0x400 * a
def fCPL_TXEQ_SWING : Fld := ⟨20, 3⟩
def fCPL_TXEQ_DEEMPH : Fld := ⟨12, 4⟩
def fCPL_TXEQ_PRE : Fld := ⟨8, 3⟩
/-- CPL_RXEQ_CFG (R245). -/
def rCPL_RXEQ_CFG (a : Nat) : Nat := 0x40070008 + 0x400 * a
def fCPL_RXEQ_CFG_ADAPT_EN : Fld := ⟨31, 1⟩
def fCPL_RXEQ_CFG_CTLE_FIX : Fld := ⟨30, 1⟩
def fCPL_RXEQ_CFG_CTLE_CODE : Fld := ⟨24, 4⟩
def fCPL_RXEQ_CFG_DFE_EN : Fld := ⟨16, 1⟩
/-- CPL_DET_CFG (R245). -/
def rCPL_DET_CFG (a : Nat) : Nat := 0x4007000C + 0x400 * a
def fCPL_DET_CFG_LOS_TH : Fld := ⟨28, 4⟩
def fCPL_DET_CFG_ERR_MAX : Fld := ⟨16, 8⟩
def fCPL_DET_CFG_LOS_HOLD : Fld := ⟨8, 8⟩
/-- CPL_IDLE_CFG (R245). -/
def rCPL_IDLE_CFG (a : Nat) : Nat := 0x40070010 + 0x400 * a
def fCPL_IDLE_CFG_IDLE_MAX : Fld := ⟨16, 16⟩
def fCPL_IDLE_CFG_TX_IDLE_DLY : Fld := ⟨0, 16⟩
/-- CPL_LOOP (R245). -/
def rCPL_LOOP (a : Nat) : Nat := 0x40070014 + 0x400 * a
def fCPL_LOOP_ACTIVE : Fld := ⟨31, 1⟩
def fCPL_LOOP_MODE : Fld := ⟨8, 3⟩
/-- CPL_STATE (R245). -/
def rCPL_STATE (a : Nat) : Nat := 0x40070020 + 0x400 * a
def fCPL_STATE_STATE : Fld := ⟨28, 4⟩
def fCPL_STATE_TX_IDLE : Fld := ⟨27, 1⟩
def fCPL_STATE_PARTNER_OK : Fld := ⟨26, 1⟩
def fCPL_STATE_DOWN_CNT : Fld := ⟨16, 8⟩
def fCPL_STATE_LAST_CAUSE : Fld := ⟨0, 4⟩
/-- CPL_DET_STAT (R245). -/
def rCPL_DET_STAT (a : Nat) : Nat := 0x40070024 + 0x400 * a
def fCPL_DET_STAT_LOS : Fld := ⟨31, 1⟩
def fCPL_DET_STAT_LOL : Fld := ⟨30, 1⟩
def fCPL_DET_STAT_LOA : Fld := ⟨29, 1⟩
def fCPL_DET_STAT_SQ : Fld := ⟨28, 1⟩
def fCPL_DET_STAT_LOS_S : Fld := ⟨15, 1⟩
def fCPL_DET_STAT_LOL_S : Fld := ⟨14, 1⟩
def fCPL_DET_STAT_LOA_S : Fld := ⟨13, 1⟩
def fCPL_DET_STAT_EB_OVF : Fld := ⟨12, 1⟩
def fCPL_DET_STAT_CV_S : Fld := ⟨11, 1⟩
def fCPL_DET_STAT_ERR_RATE : Fld := ⟨10, 1⟩
/-- CPL_BLK_ERR (R245). -/
def rCPL_BLK_ERR (a : Nat) : Nat := 0x40070028 + 0x400 * a
def fCPL_BLK_ERR_HDR : Fld := ⟨24, 8⟩
def fCPL_BLK_ERR_SEQ : Fld := ⟨16, 8⟩
def fCPL_BLK_ERR_CV : Fld := ⟨8, 8⟩
def fCPL_BLK_ERR_TYPE : Fld := ⟨0, 8⟩
/-- CPL_EB (R245). -/
def rCPL_EB (a : Nat) : Nat := 0x4007002C + 0x400 * a
def fCPL_EB_LEVEL : Fld := ⟨16, 4⟩
def fCPL_EB_DEL : Fld := ⟨8, 8⟩
def fCPL_EB_INS : Fld := ⟨0, 8⟩
/-- CPL_RXEQ_STAT (R245). -/
def rCPL_RXEQ_STAT (a : Nat) : Nat := 0x40070030 + 0x400 * a
def fCPL_RXEQ_STAT_CTLE : Fld := ⟨28, 4⟩
def fCPL_RXEQ_STAT_FROZEN : Fld := ⟨27, 1⟩
/-- CPL_EYE (R245). -/
def rCPL_EYE (a : Nat) : Nat := 0x40070034 + 0x400 * a
def fCPL_EYE_VALID : Fld := ⟨31, 1⟩
def fCPL_EYE_WIDTH : Fld := ⟨16, 7⟩
def fCPL_EYE_HEIGHT : Fld := ⟨0, 10⟩
/-- CPL_TEST_ERR (R245). -/
def rCPL_TEST_ERR (a : Nat) : Nat := 0x40070038 + 0x400 * a
def fCPL_TEST_ERR_BITS : Fld := ⟨0, 32⟩
/-- CPL_TRAIN_CNT (R245). -/
def rCPL_TRAIN_CNT (a : Nat) : Nat := 0x4007003C + 0x400 * a
def fCPL_TRAIN_CNT_FULL : Fld := ⟨16, 16⟩
def fCPL_TRAIN_CNT_FAST : Fld := ⟨0, 16⟩
/-- CPL_DIAG (R245). -/
def rCPL_DIAG (a : Nat) (b : Nat) : Nat := 0x40070100 + 0x400 * a + 0x4 * b
def fCPL_DIAG_V : Fld := ⟨0, 32⟩
/-- CPL_TRIM (R245). -/
def rCPL_TRIM (a : Nat) (b : Nat) : Nat := 0x40070200 + 0x400 * a + 0x4 * b
def fCPL_TRIM_V : Fld := ⟨0, 32⟩
/-- CPL_TWIN (R245). -/
def rCPL_TWIN (a : Nat) : Nat := 0x40076000 + 0x4 * a
def fCPL_TWIN_EN : Fld := ⟨31, 1⟩
def fCPL_TWIN_STAT : Fld := ⟨29, 2⟩
def fCPL_TWIN_TWIN : Fld := ⟨8, 5⟩
def fCPL_TWIN_PRIMARY : Fld := ⟨0, 5⟩
/-- CPL_SPARE (R245). -/
def rCPL_SPARE (a : Nat) : Nat := 0x40076080 + 0x4 * a
def fCPL_SPARE_EN : Fld := ⟨31, 1⟩
def fCPL_SPARE_IN_USE : Fld := ⟨30, 1⟩
def fCPL_SPARE_PORT : Fld := ⟨8, 5⟩
def fCPL_SPARE_TILE : Fld := ⟨0, 5⟩
/-- CPL_REF_STAT (R245). -/
def rCPL_REF_STAT : Nat := 0x40076100
def fCPL_REF_STAT_REF_OK : Fld := ⟨31, 1⟩
def fCPL_REF_STAT_REF_LOSS : Fld := ⟨15, 1⟩

/-- The registers of block CPL. -/
def blkCPL : List RegDesc := [
  ⟨0x0, [(0x400, 24)], [⟨fCPL_CFG_ROLE, .rwl, 0, true⟩, ⟨fCPL_CFG_TX_RATE, .rwl, 4, true⟩, ⟨fCPL_CFG_RX_RATE, .rwl, 0, true⟩, ⟨fCPL_CFG_POL_TX, .rwl, 0, true⟩, ⟨fCPL_CFG_POL_RX, .rwl, 0, true⟩, ⟨fCPL_CFG_TX_IDLE_EN, .rwl, 1, true⟩]⟩,
  ⟨0x4, [(0x400, 24)], [⟨fCPL_TXEQ_SWING, .rwl, 6, true⟩, ⟨fCPL_TXEQ_DEEMPH, .rwl, 7, true⟩, ⟨fCPL_TXEQ_PRE, .rwl, 0, true⟩]⟩,
  ⟨0x8, [(0x400, 24)], [⟨fCPL_RXEQ_CFG_ADAPT_EN, .rwl, 1, true⟩, ⟨fCPL_RXEQ_CFG_CTLE_FIX, .rwl, 0, true⟩, ⟨fCPL_RXEQ_CFG_CTLE_CODE, .rwl, 8, true⟩, ⟨fCPL_RXEQ_CFG_DFE_EN, .rwl, 1, true⟩]⟩,
  ⟨0xc, [(0x400, 24)], [⟨fCPL_DET_CFG_LOS_TH, .rwl, 8, true⟩, ⟨fCPL_DET_CFG_ERR_MAX, .rwl, 0x20, true⟩, ⟨fCPL_DET_CFG_LOS_HOLD, .rwl, 1, true⟩]⟩,
  ⟨0x10, [(0x400, 24)], [⟨fCPL_IDLE_CFG_IDLE_MAX, .rwl, 0x3e8, true⟩, ⟨fCPL_IDLE_CFG_TX_IDLE_DLY, .rwl, 0xc8, true⟩]⟩,
  ⟨0x14, [(0x400, 24)], [⟨fCPL_LOOP_ACTIVE, .ro, 0, false⟩, ⟨fCPL_LOOP_MODE, .ro, 0, false⟩]⟩,
  ⟨0x20, [(0x400, 24)], [⟨fCPL_STATE_STATE, .ro, 0, false⟩, ⟨fCPL_STATE_TX_IDLE, .ro, 0, false⟩, ⟨fCPL_STATE_PARTNER_OK, .ro, 0, false⟩, ⟨fCPL_STATE_DOWN_CNT, .w1t, 0, false⟩, ⟨fCPL_STATE_LAST_CAUSE, .ro, 0, false⟩]⟩,
  ⟨0x24, [(0x400, 24)], [⟨fCPL_DET_STAT_LOS, .ro, 0, false⟩, ⟨fCPL_DET_STAT_LOL, .ro, 0, false⟩, ⟨fCPL_DET_STAT_LOA, .ro, 0, false⟩, ⟨fCPL_DET_STAT_SQ, .ro, 0, false⟩, ⟨fCPL_DET_STAT_LOS_S, .w1c, 0, false⟩, ⟨fCPL_DET_STAT_LOL_S, .w1c, 0, false⟩, ⟨fCPL_DET_STAT_LOA_S, .w1c, 0, false⟩, ⟨fCPL_DET_STAT_EB_OVF, .w1c, 0, false⟩, ⟨fCPL_DET_STAT_CV_S, .w1c, 0, false⟩, ⟨fCPL_DET_STAT_ERR_RATE, .w1c, 0, false⟩]⟩,
  ⟨0x28, [(0x400, 24)], [⟨fCPL_BLK_ERR_HDR, .w1t, 0, false⟩, ⟨fCPL_BLK_ERR_SEQ, .w1t, 0, false⟩, ⟨fCPL_BLK_ERR_CV, .w1t, 0, false⟩, ⟨fCPL_BLK_ERR_TYPE, .w1t, 0, false⟩]⟩,
  ⟨0x2c, [(0x400, 24)], [⟨fCPL_EB_LEVEL, .ro, 0, false⟩, ⟨fCPL_EB_DEL, .w1t, 0, false⟩, ⟨fCPL_EB_INS, .w1t, 0, false⟩]⟩,
  ⟨0x30, [(0x400, 24)], [⟨fCPL_RXEQ_STAT_CTLE, .ro, 0, false⟩, ⟨fCPL_RXEQ_STAT_FROZEN, .ro, 1, false⟩]⟩,
  ⟨0x34, [(0x400, 24)], [⟨fCPL_EYE_VALID, .ro, 0, false⟩, ⟨fCPL_EYE_WIDTH, .ro, 0, false⟩, ⟨fCPL_EYE_HEIGHT, .ro, 0, false⟩]⟩,
  ⟨0x38, [(0x400, 24)], [⟨fCPL_TEST_ERR_BITS, .w1t, 0, false⟩]⟩,
  ⟨0x3c, [(0x400, 24)], [⟨fCPL_TRAIN_CNT_FULL, .w1t, 0, false⟩, ⟨fCPL_TRAIN_CNT_FAST, .w1t, 0, false⟩]⟩,
  ⟨0x100, [(0x400, 24), (0x4, 34)], [⟨fCPL_DIAG_V, .ro, 0, false⟩]⟩,
  ⟨0x200, [(0x400, 24), (0x4, 48)], [⟨fCPL_TRIM_V, .ro, 0, false⟩]⟩,
  ⟨0x6000, [(0x4, 24)], [⟨fCPL_TWIN_EN, .rwl, 0, true⟩, ⟨fCPL_TWIN_STAT, .ro, 0, false⟩, ⟨fCPL_TWIN_TWIN, .rwl, 0, true⟩, ⟨fCPL_TWIN_PRIMARY, .rwl, 0, true⟩]⟩,
  ⟨0x6080, [(0x4, 8)], [⟨fCPL_SPARE_EN, .rwl, 0, true⟩, ⟨fCPL_SPARE_IN_USE, .ro, 0, false⟩, ⟨fCPL_SPARE_PORT, .rwl, 0, true⟩, ⟨fCPL_SPARE_TILE, .rwl, 0, true⟩]⟩,
  ⟨0x6100, [], [⟨fCPL_REF_STAT_REF_OK, .ro, 0, false⟩, ⟨fCPL_REF_STAT_REF_LOSS, .w1c, 0, false⟩]⟩]

/-! ### Block 8, TIL -/

/-- TIL_CFG (R265). -/
def rTIL_CFG (a : Nat) : Nat := 0x40080000 + 0x40 * a
def fTIL_CFG_EN : Fld := ⟨31, 1⟩
def fTIL_CFG_PIN : Fld := ⟨30, 1⟩
def fTIL_CFG_PORT : Fld := ⟨0, 5⟩
/-- TIL_STAT (R265). -/
def rTIL_STAT (a : Nat) : Nat := 0x40080004 + 0x40 * a
def fTIL_STAT_STATE : Fld := ⟨28, 4⟩
def fTIL_STAT_PLACED : Fld := ⟨27, 1⟩
def fTIL_STAT_AUTH : Fld := ⟨26, 1⟩
def fTIL_STAT_IN : Fld := ⟨24, 2⟩
def fTIL_STAT_HOLDING : Fld := ⟨23, 1⟩
def fTIL_STAT_LIMP : Fld := ⟨22, 1⟩
def fTIL_STAT_TFAULT : Fld := ⟨21, 1⟩
def fTIL_STAT_CAUSE : Fld := ⟨16, 4⟩
def fTIL_STAT_FAULT_CODE : Fld := ⟨8, 8⟩
def fTIL_STAT_PORT : Fld := ⟨0, 5⟩
/-- TIL_INFO (R265). -/
def rTIL_INFO (a : Nat) : Nat := 0x40080008 + 0x40 * a
def fTIL_INFO_TYPE : Fld := ⟨31, 1⟩
def fTIL_INFO_LOWBEAM : Fld := ⟨30, 1⟩
def fTIL_INFO_HEIGHT : Fld := ⟨16, 13⟩
def fTIL_INFO_DEPTHS : Fld := ⟨13, 3⟩
def fTIL_INFO_WIDTH : Fld := ⟨0, 13⟩
/-- TIL_TEMP (R265). -/
def rTIL_TEMP (a : Nat) : Nat := 0x4008000C + 0x40 * a
def fTIL_TEMP_AGE : Fld := ⟨16, 16⟩
def fTIL_TEMP_TEMP : Fld := ⟨0, 16⟩
/-- TIL_ERR (R265). -/
def rTIL_ERR (a : Nat) : Nat := 0x40080010 + 0x40 * a
def fTIL_ERR_CHECK : Fld := ⟨24, 8⟩
def fTIL_ERR_IMPLAUS : Fld := ⟨16, 8⟩
def fTIL_ERR_FLOOD : Fld := ⟨8, 8⟩
def fTIL_ERR_AUTH_FAIL : Fld := ⟨0, 8⟩
/-- TIL_ID_LO (R265). -/
def rTIL_ID_LO (a : Nat) : Nat := 0x40080014 + 0x40 * a
def fTIL_ID_LO_VALUE : Fld := ⟨0, 32⟩
/-- TIL_ID_HI (R265). -/
def rTIL_ID_HI (a : Nat) : Nat := 0x40080018 + 0x40 * a
def fTIL_ID_HI_VALUE : Fld := ⟨0, 32⟩
/-- TIL_EXPECT_LO (R265). -/
def rTIL_EXPECT_LO (a : Nat) : Nat := 0x4008001C + 0x40 * a
def fTIL_EXPECT_LO_VALUE : Fld := ⟨0, 32⟩
/-- TIL_EXPECT_HI (R265). -/
def rTIL_EXPECT_HI (a : Nat) : Nat := 0x40080020 + 0x40 * a
def fTIL_EXPECT_HI_VALUE : Fld := ⟨0, 32⟩
/-- TIL_AUTH_CFG (R265). -/
def rTIL_AUTH_CFG : Nat := 0x40080800
def fTIL_AUTH_CFG_AUTH_EN : Fld := ⟨31, 1⟩
def fTIL_AUTH_CFG_POLICY : Fld := ⟨30, 1⟩
def fTIL_AUTH_CFG_ANCHOR_EN : Fld := ⟨16, 4⟩
def fTIL_AUTH_CFG_GEN_CAP : Fld := ⟨0, 16⟩
/-- TIL_TMO (R265). -/
def rTIL_TMO : Nat := 0x40080804
def fTIL_TMO_IDENT_TMO : Fld := ⟨24, 8⟩
def fTIL_TMO_AUTH_TMO : Fld := ⟨16, 8⟩
def fTIL_TMO_SILENT_TMO : Fld := ⟨8, 8⟩
def fTIL_TMO_HOLD : Fld := ⟨0, 8⟩
/-- TIL_ANCHOR (R265). -/
def rTIL_ANCHOR (a : Nat) (b : Nat) : Nat := 0x40080900 + 0x40 * a + 0x4 * b
def fTIL_ANCHOR_KEY : Fld := ⟨0, 32⟩

/-- The registers of block TIL. -/
def blkTIL : List RegDesc := [
  ⟨0x0, [(0x40, 24)], [⟨fTIL_CFG_EN, .rwl, 0, true⟩, ⟨fTIL_CFG_PIN, .rwl, 0, true⟩, ⟨fTIL_CFG_PORT, .rwl, 0, true⟩]⟩,
  ⟨0x4, [(0x40, 24)], [⟨fTIL_STAT_STATE, .ro, 0, false⟩, ⟨fTIL_STAT_PLACED, .ro, 0, false⟩, ⟨fTIL_STAT_AUTH, .ro, 0, false⟩, ⟨fTIL_STAT_IN, .ro, 0, false⟩, ⟨fTIL_STAT_HOLDING, .ro, 0, false⟩, ⟨fTIL_STAT_LIMP, .ro, 0, false⟩, ⟨fTIL_STAT_TFAULT, .ro, 0, false⟩, ⟨fTIL_STAT_CAUSE, .ro, 0, false⟩, ⟨fTIL_STAT_FAULT_CODE, .ro, 0, false⟩, ⟨fTIL_STAT_PORT, .ro, 0, false⟩]⟩,
  ⟨0x8, [(0x40, 24)], [⟨fTIL_INFO_TYPE, .ro, 0, false⟩, ⟨fTIL_INFO_LOWBEAM, .ro, 0, false⟩, ⟨fTIL_INFO_HEIGHT, .ro, 0, false⟩, ⟨fTIL_INFO_DEPTHS, .ro, 0, false⟩, ⟨fTIL_INFO_WIDTH, .ro, 0, false⟩]⟩,
  ⟨0xc, [(0x40, 24)], [⟨fTIL_TEMP_AGE, .ro, 0xffff, false⟩, ⟨fTIL_TEMP_TEMP, .ro, 0, false⟩]⟩,
  ⟨0x10, [(0x40, 24)], [⟨fTIL_ERR_CHECK, .w1t, 0, false⟩, ⟨fTIL_ERR_IMPLAUS, .w1t, 0, false⟩, ⟨fTIL_ERR_FLOOD, .w1t, 0, false⟩, ⟨fTIL_ERR_AUTH_FAIL, .w1t, 0, false⟩]⟩,
  ⟨0x14, [(0x40, 24)], [⟨fTIL_ID_LO_VALUE, .ro, 0, false⟩]⟩,
  ⟨0x18, [(0x40, 24)], [⟨fTIL_ID_HI_VALUE, .ro, 0, false⟩]⟩,
  ⟨0x1c, [(0x40, 24)], [⟨fTIL_EXPECT_LO_VALUE, .rwl, 0, true⟩]⟩,
  ⟨0x20, [(0x40, 24)], [⟨fTIL_EXPECT_HI_VALUE, .rwl, 0, true⟩]⟩,
  ⟨0x800, [], [⟨fTIL_AUTH_CFG_AUTH_EN, .rwl, 1, true⟩, ⟨fTIL_AUTH_CFG_POLICY, .rwl, 1, true⟩, ⟨fTIL_AUTH_CFG_ANCHOR_EN, .rwl, 0, true⟩, ⟨fTIL_AUTH_CFG_GEN_CAP, .rwl, 0x2000, true⟩]⟩,
  ⟨0x804, [], [⟨fTIL_TMO_IDENT_TMO, .rwl, 0xa, true⟩, ⟨fTIL_TMO_AUTH_TMO, .rwl, 0x14, true⟩, ⟨fTIL_TMO_SILENT_TMO, .rwl, 0x14, true⟩, ⟨fTIL_TMO_HOLD, .rwl, 0x32, true⟩]⟩,
  ⟨0x900, [(0x40, 4), (0x4, 16)], [⟨fTIL_ANCHOR_KEY, .rwl, 0, true⟩]⟩]

/-! ### Block 9, CHN -/

/-- CHN_PORT_CFG (R282). -/
def rCHN_PORT_CFG (a : Nat) : Nat := 0x40090000 + 0x10 * a
def fCHN_PORT_CFG_EN : Fld := ⟨31, 1⟩
def fCHN_PORT_CFG_RET_DLY : Fld := ⟨29, 2⟩
def fCHN_PORT_CFG_SCK_DIV : Fld := ⟨24, 3⟩
def fCHN_PORT_CFG_DEVICES : Fld := ⟨16, 5⟩
def fCHN_PORT_CFG_PWM_PER : Fld := ⟨8, 8⟩
/-- CHN_PORT_STAT (R282). -/
def rCHN_PORT_STAT (a : Nat) : Nat := 0x40090004 + 0x10 * a
def fCHN_PORT_STAT_RUN : Fld := ⟨31, 1⟩
def fCHN_PORT_STAT_BREAK : Fld := ⟨30, 1⟩
/-- CHN_PORT_ERR (R282). -/
def rCHN_PORT_ERR (a : Nat) : Nat := 0x40090008 + 0x10 * a
def fCHN_PORT_ERR_CRC : Fld := ⟨24, 8⟩
def fCHN_PORT_ERR_POS : Fld := ⟨16, 8⟩
def fCHN_PORT_ERR_ECHO : Fld := ⟨8, 8⟩
/-- CHN_GRP_CFG (R282). -/
def rCHN_GRP_CFG (a : Nat) : Nat := 0x40091000 + 0x10 * a
def fCHN_GRP_CFG_EN : Fld := ⟨31, 1⟩
def fCHN_GRP_CFG_SLF : Fld := ⟨30, 1⟩
def fCHN_GRP_CFG_SOURCE : Fld := ⟨29, 1⟩
def fCHN_GRP_CFG_CLR : Fld := ⟨28, 1⟩
def fCHN_GRP_CFG_ENGINE : Fld := ⟨24, 3⟩
def fCHN_GRP_CFG_CONFIRM : Fld := ⟨20, 4⟩
def fCHN_GRP_CFG_MEMBERS : Fld := ⟨8, 7⟩
def fCHN_GRP_CFG_TSRC : Fld := ⟨3, 5⟩
/-- CHN_GRP_DER (R282). -/
def rCHN_GRP_DER (a : Nat) : Nat := 0x40091004 + 0x10 * a
def fCHN_GRP_DER_KNEE : Fld := ⟨24, 8⟩
def fCHN_GRP_DER_FLOOR : Fld := ⟨16, 8⟩
def fCHN_GRP_DER_SLOPE : Fld := ⟨0, 12⟩
/-- CHN_GRP_PROBE (R282). -/
def rCHN_GRP_PROBE (a : Nat) : Nat := 0x40091008 + 0x10 * a
def fCHN_GRP_PROBE_PROBE_EN : Fld := ⟨31, 1⟩
def fCHN_GRP_PROBE_T_MIN : Fld := ⟨16, 8⟩
def fCHN_GRP_PROBE_VIS_BOUND : Fld := ⟨8, 8⟩
def fCHN_GRP_PROBE_PROBE_INT : Fld := ⟨0, 8⟩
/-- CHN_GRP_STAT (R282). -/
def rCHN_GRP_STAT (a : Nat) : Nat := 0x4009100C + 0x10 * a
def fCHN_GRP_STAT_TELLTALE : Fld := ⟨31, 1⟩
def fCHN_GRP_STAT_OFF : Fld := ⟨30, 1⟩
def fCHN_GRP_STAT_FAILED : Fld := ⟨16, 7⟩
def fCHN_GRP_STAT_UNDIAG : Fld := ⟨8, 7⟩
def fCHN_GRP_STAT_G : Fld := ⟨0, 8⟩
/-- CHN_CLR_CFG (R282). -/
def rCHN_CLR_CFG : Nat := 0x40092000
def fCHN_CLR_CFG_EN : Fld := ⟨31, 1⟩
def fCHN_CLR_CFG_AMB : Fld := ⟨30, 1⟩
def fCHN_CLR_CFG_TARGET : Fld := ⟨29, 1⟩
def fCHN_CLR_CFG_GROUP : Fld := ⟨23, 6⟩
def fCHN_CLR_CFG_TILE : Fld := ⟨18, 5⟩
def fCHN_CLR_CFG_TIA : Fld := ⟨8, 2⟩
def fCHN_CLR_CFG_KI : Fld := ⟨0, 8⟩
/-- CHN_CLR_TGT (R282). -/
def rCHN_CLR_TGT : Nat := 0x40092004
def fCHN_CLR_TGT_TR : Fld := ⟨16, 16⟩
def fCHN_CLR_TGT_TG : Fld := ⟨0, 16⟩
/-- CHN_CLR_LIM (R282). -/
def rCHN_CLR_LIM : Nat := 0x40092008
def fCHN_CLR_LIM_MIN_SIG : Fld := ⟨16, 16⟩
def fCHN_CLR_LIM_TRIM_MIN : Fld := ⟨0, 10⟩
/-- CHN_CLR_TRIM (R282). -/
def rCHN_CLR_TRIM : Nat := 0x4009200C
def fCHN_CLR_TRIM_STATE : Fld := ⟨30, 2⟩
def fCHN_CLR_TRIM_R : Fld := ⟨20, 10⟩
def fCHN_CLR_TRIM_G : Fld := ⟨10, 10⟩
def fCHN_CLR_TRIM_B : Fld := ⟨0, 10⟩

/-- The registers of block CHN. -/
def blkCHN : List RegDesc := [
  ⟨0x0, [(0x10, 4)], [⟨fCHN_PORT_CFG_EN, .rwl, 0, true⟩, ⟨fCHN_PORT_CFG_RET_DLY, .rwl, 0, true⟩, ⟨fCHN_PORT_CFG_SCK_DIV, .rwl, 0, true⟩, ⟨fCHN_PORT_CFG_DEVICES, .rwl, 0, true⟩, ⟨fCHN_PORT_CFG_PWM_PER, .rwl, 0x32, true⟩]⟩,
  ⟨0x4, [(0x10, 4)], [⟨fCHN_PORT_STAT_RUN, .ro, 0, false⟩, ⟨fCHN_PORT_STAT_BREAK, .ro, 0, false⟩]⟩,
  ⟨0x8, [(0x10, 4)], [⟨fCHN_PORT_ERR_CRC, .w1t, 0, false⟩, ⟨fCHN_PORT_ERR_POS, .w1t, 0, false⟩, ⟨fCHN_PORT_ERR_ECHO, .w1t, 0, false⟩]⟩,
  ⟨0x1000, [(0x10, 64)], [⟨fCHN_GRP_CFG_EN, .rwl, 0, true⟩, ⟨fCHN_GRP_CFG_SLF, .rwl, 0, true⟩, ⟨fCHN_GRP_CFG_SOURCE, .rwl, 0, true⟩, ⟨fCHN_GRP_CFG_CLR, .rwl, 0, true⟩, ⟨fCHN_GRP_CFG_ENGINE, .rwl, 0, true⟩, ⟨fCHN_GRP_CFG_CONFIRM, .rwl, 3, true⟩, ⟨fCHN_GRP_CFG_MEMBERS, .ro, 0, false⟩, ⟨fCHN_GRP_CFG_TSRC, .rwl, 0, true⟩]⟩,
  ⟨0x1004, [(0x10, 64)], [⟨fCHN_GRP_DER_KNEE, .rwl, 0x7d, true⟩, ⟨fCHN_GRP_DER_FLOOR, .rwl, 0x80, true⟩, ⟨fCHN_GRP_DER_SLOPE, .rwl, 0x52, true⟩]⟩,
  ⟨0x1008, [(0x10, 64)], [⟨fCHN_GRP_PROBE_PROBE_EN, .rwl, 1, true⟩, ⟨fCHN_GRP_PROBE_T_MIN, .rwl, 0x14, true⟩, ⟨fCHN_GRP_PROBE_VIS_BOUND, .rwl, 0x10, true⟩, ⟨fCHN_GRP_PROBE_PROBE_INT, .rwl, 0xa, true⟩]⟩,
  ⟨0x100c, [(0x10, 64)], [⟨fCHN_GRP_STAT_TELLTALE, .w1c, 0, false⟩, ⟨fCHN_GRP_STAT_OFF, .ro, 0, false⟩, ⟨fCHN_GRP_STAT_FAILED, .ro, 0, false⟩, ⟨fCHN_GRP_STAT_UNDIAG, .ro, 0, false⟩, ⟨fCHN_GRP_STAT_G, .ro, 0xff, false⟩]⟩,
  ⟨0x2000, [], [⟨fCHN_CLR_CFG_EN, .rwl, 0, true⟩, ⟨fCHN_CLR_CFG_AMB, .rwl, 0, true⟩, ⟨fCHN_CLR_CFG_TARGET, .rwl, 0, true⟩, ⟨fCHN_CLR_CFG_GROUP, .rwl, 0, true⟩, ⟨fCHN_CLR_CFG_TILE, .rwl, 0, true⟩, ⟨fCHN_CLR_CFG_TIA, .rwl, 1, true⟩, ⟨fCHN_CLR_CFG_KI, .rwl, 0x10, true⟩]⟩,
  ⟨0x2004, [], [⟨fCHN_CLR_TGT_TR, .rwl, 0x5555, true⟩, ⟨fCHN_CLR_TGT_TG, .rwl, 0x5555, true⟩]⟩,
  ⟨0x2008, [], [⟨fCHN_CLR_LIM_MIN_SIG, .rwl, 0x100, true⟩, ⟨fCHN_CLR_LIM_TRIM_MIN, .rwl, 0x100, true⟩]⟩,
  ⟨0x200c, [], [⟨fCHN_CLR_TRIM_STATE, .ro, 0, false⟩, ⟨fCHN_CLR_TRIM_R, .ro, 0x200, false⟩, ⟨fCHN_CLR_TRIM_G, .ro, 0x200, false⟩, ⟨fCHN_CLR_TRIM_B, .ro, 0x200, false⟩]⟩]

/-! ### Block 10, AUR -/

/-- AUR_CFG (R282). -/
def rAUR_CFG (a : Nat) : Nat := 0x400A0000 + 0x10 * a
def fAUR_CFG_AUTO : Fld := ⟨31, 1⟩
def fAUR_CFG_ADDR : Fld := ⟨8, 6⟩
/-- AUR_STAT (R282). -/
def rAUR_STAT (a : Nat) : Nat := 0x400A0004 + 0x10 * a
def fAUR_STAT_RUN : Fld := ⟨31, 1⟩
def fAUR_STAT_ERR : Fld := ⟨30, 1⟩
def fAUR_STAT_PC : Fld := ⟨8, 6⟩
/-- AUR_PROG (R282). -/
def rAUR_PROG (a : Nat) (b : Nat) : Nat := 0x400A0400 + 0x100 * a + 0x4 * b
def fAUR_PROG_V : Fld := ⟨0, 32⟩
/-- AUR_GAMMA (R282). -/
def rAUR_GAMMA (a : Nat) : Nat := 0x400A1000 + 0x4 * a
def fAUR_GAMMA_ODD : Fld := ⟨16, 12⟩
def fAUR_GAMMA_EVEN : Fld := ⟨0, 12⟩

/-- The registers of block AUR. -/
def blkAUR : List RegDesc := [
  ⟨0x0, [(0x10, 8)], [⟨fAUR_CFG_AUTO, .rwl, 0, true⟩, ⟨fAUR_CFG_ADDR, .rwl, 0, true⟩]⟩,
  ⟨0x4, [(0x10, 8)], [⟨fAUR_STAT_RUN, .ro, 0, false⟩, ⟨fAUR_STAT_ERR, .w1c, 0, false⟩, ⟨fAUR_STAT_PC, .ro, 0, false⟩]⟩,
  ⟨0x400, [(0x100, 8), (0x4, 64)], [⟨fAUR_PROG_V, .ro, 0, false⟩]⟩,
  ⟨0x1000, [(0x4, 128)], [⟨fAUR_GAMMA_ODD, .ro, 0, false⟩, ⟨fAUR_GAMMA_EVEN, .ro, 0, false⟩]⟩]

/-! ### Block 11, GAR -/

/-- GAR_TICK (R308). -/
def rGAR_TICK : Nat := 0x400B0000
def fGAR_TICK_TICK : Fld := ⟨0, 32⟩
/-- GAR_LEVEL (R308). -/
def rGAR_LEVEL : Nat := 0x400B0004
def fGAR_LEVEL_MODE : Fld := ⟨0, 2⟩
/-- GAR_AIM (R308). -/
def rGAR_AIM : Nat := 0x400B0008
def fGAR_AIM_AIM : Fld := ⟨0, 32⟩
/-- GAR_LOAD (R308). -/
def rGAR_LOAD (a : Nat) : Nat := 0x400B0010 + 0x4 * a
def fGAR_LOAD_LOAD : Fld := ⟨24, 8⟩
def fGAR_LOAD_PEAK : Fld := ⟨16, 8⟩
/-- GAR_CAP_STAT (R308). -/
def rGAR_CAP_STAT : Nat := 0x400B0018
def fGAR_CAP_STAT_ACTIVE : Fld := ⟨31, 1⟩
def fGAR_CAP_STAT_VALID : Fld := ⟨30, 1⟩
def fGAR_CAP_STAT_LOOP : Fld := ⟨16, 4⟩
def fGAR_CAP_STAT_SAMPLES : Fld := ⟨0, 13⟩
/-- GAR_LOOP_STAT (R308). -/
def rGAR_LOOP_STAT (a : Nat) : Nat := 0x400B0100 + 0x4 * a
def fGAR_LOOP_STAT_ACTIVE : Fld := ⟨31, 1⟩
def fGAR_LOOP_STAT_VALID_A : Fld := ⟨30, 1⟩
def fGAR_LOOP_STAT_VALID_B : Fld := ⟨29, 1⟩
def fGAR_LOOP_STAT_SWAP_PEND : Fld := ⟨28, 1⟩
def fGAR_LOOP_STAT_CONSEC : Fld := ⟨26, 2⟩
def fGAR_LOOP_STAT_OVR : Fld := ⟨0, 16⟩

/-- The registers of block GAR. -/
def blkGAR : List RegDesc := [
  ⟨0x0, [], [⟨fGAR_TICK_TICK, .ro, 0, false⟩]⟩,
  ⟨0x4, [], [⟨fGAR_LEVEL_MODE, .rw, 0, true⟩]⟩,
  ⟨0x8, [], [⟨fGAR_AIM_AIM, .rw, 0, true⟩]⟩,
  ⟨0x10, [(0x4, 2)], [⟨fGAR_LOAD_LOAD, .ro, 0, false⟩, ⟨fGAR_LOAD_PEAK, .ro, 0, false⟩]⟩,
  ⟨0x18, [], [⟨fGAR_CAP_STAT_ACTIVE, .ro, 0, false⟩, ⟨fGAR_CAP_STAT_VALID, .ro, 0, false⟩, ⟨fGAR_CAP_STAT_LOOP, .ro, 0, false⟩, ⟨fGAR_CAP_STAT_SAMPLES, .ro, 0, false⟩]⟩,
  ⟨0x100, [(0x4, 10)], [⟨fGAR_LOOP_STAT_ACTIVE, .ro, 0, false⟩, ⟨fGAR_LOOP_STAT_VALID_A, .ro, 0, false⟩, ⟨fGAR_LOOP_STAT_VALID_B, .ro, 0, false⟩, ⟨fGAR_LOOP_STAT_SWAP_PEND, .ro, 0, false⟩, ⟨fGAR_LOOP_STAT_CONSEC, .ro, 0, false⟩, ⟨fGAR_LOOP_STAT_OVR, .w1t, 0, false⟩]⟩]

/-! ### Block 12, MOT -/

/-- MOT_CFG (R308). -/
def rMOT_CFG (a : Nat) : Nat := 0x400C0000 + 0x40 * a
def fMOT_CFG_FUNC : Fld := ⟨29, 3⟩
def fMOT_CFG_HOME : Fld := ⟨28, 1⟩
def fMOT_CFG_BRK_POL : Fld := ⟨27, 1⟩
def fMOT_CFG_POLES : Fld := ⟨20, 4⟩
def fMOT_CFG_DT : Fld := ⟨12, 8⟩
def fMOT_CFG_PARK_DUTY : Fld := ⟨0, 12⟩
/-- MOT_ENC (R308). -/
def rMOT_ENC (a : Nat) : Nat := 0x400C0004 + 0x40 * a
def fMOT_ENC_KIND : Fld := ⟨31, 1⟩
def fMOT_ENC_DIR : Fld := ⟨30, 1⟩
def fMOT_ENC_SCALE : Fld := ⟨12, 18⟩
def fMOT_ENC_REV : Fld := ⟨0, 12⟩
/-- MOT_LIM (R308). -/
def rMOT_LIM (a : Nat) : Nat := 0x400C0008 + 0x40 * a
def fMOT_LIM_POS_MIN : Fld := ⟨16, 16⟩
def fMOT_LIM_POS_MAX : Fld := ⟨0, 16⟩
/-- MOT_FRZ (R308). -/
def rMOT_FRZ (a : Nat) : Nat := 0x400C000C + 0x40 * a
def fMOT_FRZ_FRZ_T : Fld := ⟨24, 8⟩
def fMOT_FRZ_FRZ_ERR : Fld := ⟨16, 8⟩
def fMOT_FRZ_FRZ_I : Fld := ⟨0, 16⟩
/-- MOT_ISENSE (R308). -/
def rMOT_ISENSE (a : Nat) : Nat := 0x400C0010 + 0x40 * a
def fMOT_ISENSE_CH_U : Fld := ⟨24, 5⟩
def fMOT_ISENSE_CH_V : Fld := ⟨16, 5⟩
def fMOT_ISENSE_ISCALE : Fld := ⟨0, 16⟩
/-- MOT_HOME (R308). -/
def rMOT_HOME (a : Nat) : Nat := 0x400C0014 + 0x40 * a
def fMOT_HOME_HOME_I : Fld := ⟨16, 16⟩
def fMOT_HOME_HOME_T : Fld := ⟨8, 8⟩
/-- MOT_TILES (R308). -/
def rMOT_TILES (a : Nat) : Nat := 0x400C0018 + 0x40 * a
def fMOT_TILES_MASK : Fld := ⟨0, 24⟩
/-- MOT_STAT (R308). -/
def rMOT_STAT (a : Nat) : Nat := 0x400C001C + 0x40 * a
def fMOT_STAT_STATE : Fld := ⟨29, 3⟩
def fMOT_STAT_HOMED : Fld := ⟨28, 1⟩
def fMOT_STAT_NOCOEF : Fld := ⟨27, 1⟩
def fMOT_STAT_DRV_FLT : Fld := ⟨26, 1⟩
def fMOT_STAT_CAUSE : Fld := ⟨16, 8⟩
def fMOT_STAT_ENC_ERR : Fld := ⟨8, 8⟩
/-- MOT_POS (R308). -/
def rMOT_POS (a : Nat) : Nat := 0x400C0020 + 0x40 * a
def fMOT_POS_POS : Fld := ⟨0, 32⟩
/-- MOT_TGT (R308). -/
def rMOT_TGT (a : Nat) : Nat := 0x400C0024 + 0x40 * a
def fMOT_TGT_TGT : Fld := ⟨0, 32⟩

/-- The registers of block MOT. -/
def blkMOT : List RegDesc := [
  ⟨0x0, [(0x40, 4)], [⟨fMOT_CFG_FUNC, .rwl, 0, true⟩, ⟨fMOT_CFG_HOME, .rwl, 0, true⟩, ⟨fMOT_CFG_BRK_POL, .rwl, 0, true⟩, ⟨fMOT_CFG_POLES, .rwl, 4, true⟩, ⟨fMOT_CFG_DT, .rwl, 0x32, true⟩, ⟨fMOT_CFG_PARK_DUTY, .rwl, 0x800, true⟩]⟩,
  ⟨0x4, [(0x40, 4)], [⟨fMOT_ENC_KIND, .rwl, 0, true⟩, ⟨fMOT_ENC_DIR, .rwl, 0, true⟩, ⟨fMOT_ENC_SCALE, .rwl, 0x1000, true⟩, ⟨fMOT_ENC_REV, .rwl, 0x18, true⟩]⟩,
  ⟨0x8, [(0x40, 4)], [⟨fMOT_LIM_POS_MIN, .rwl, 0xfd00, true⟩, ⟨fMOT_LIM_POS_MAX, .rwl, 0x300, true⟩]⟩,
  ⟨0xc, [(0x40, 4)], [⟨fMOT_FRZ_FRZ_T, .rwl, 0x32, true⟩, ⟨fMOT_FRZ_FRZ_ERR, .rwl, 0xd, true⟩, ⟨fMOT_FRZ_FRZ_I, .rwl, 0xc8, true⟩]⟩,
  ⟨0x10, [(0x40, 4)], [⟨fMOT_ISENSE_CH_U, .rwl, 0, true⟩, ⟨fMOT_ISENSE_CH_V, .rwl, 0xc, true⟩, ⟨fMOT_ISENSE_ISCALE, .rwl, 0x100, true⟩]⟩,
  ⟨0x14, [(0x40, 4)], [⟨fMOT_HOME_HOME_I, .rwl, 0x12c, true⟩, ⟨fMOT_HOME_HOME_T, .rwl, 0x32, true⟩]⟩,
  ⟨0x18, [(0x40, 4)], [⟨fMOT_TILES_MASK, .rwl, 0, true⟩]⟩,
  ⟨0x1c, [(0x40, 4)], [⟨fMOT_STAT_STATE, .ro, 0, false⟩, ⟨fMOT_STAT_HOMED, .ro, 0, false⟩, ⟨fMOT_STAT_NOCOEF, .ro, 0, false⟩, ⟨fMOT_STAT_DRV_FLT, .ro, 0, false⟩, ⟨fMOT_STAT_CAUSE, .ro, 0, false⟩, ⟨fMOT_STAT_ENC_ERR, .w1t, 0, false⟩]⟩,
  ⟨0x20, [(0x40, 4)], [⟨fMOT_POS_POS, .ro, 0, false⟩]⟩,
  ⟨0x24, [(0x40, 4)], [⟨fMOT_TGT_TGT, .ro, 0, false⟩]⟩]

/-! ### Block 13, ADC -/

/-- ADC_CH_CFG (R308). -/
def rADC_CH_CFG (a : Nat) : Nat := 0x400D0000 + 0x10 * a
def fADC_CH_CFG_EN : Fld := ⟨31, 1⟩
def fADC_CH_CFG_RATE : Fld := ⟨29, 2⟩
def fADC_CH_CFG_KIND : Fld := ⟨28, 1⟩
/-- ADC_CH_SCALE (R308). -/
def rADC_CH_SCALE (a : Nat) : Nat := 0x400D0004 + 0x10 * a
def fADC_CH_SCALE_OFFSET : Fld := ⟨16, 16⟩
def fADC_CH_SCALE_GAIN : Fld := ⟨0, 16⟩
/-- ADC_CH_LIM (R308). -/
def rADC_CH_LIM (a : Nat) : Nat := 0x400D0008 + 0x10 * a
def fADC_CH_LIM_LIM_EN : Fld := ⟨31, 1⟩
def fADC_CH_LIM_HI : Fld := ⟨16, 12⟩
def fADC_CH_LIM_LO : Fld := ⟨0, 12⟩
/-- ADC_RES (R308). -/
def rADC_RES (a : Nat) : Nat := 0x400D000C + 0x10 * a
def fADC_RES_VALUE : Fld := ⟨16, 16⟩
def fADC_RES_CODE : Fld := ⟨4, 12⟩
def fADC_RES_OUT : Fld := ⟨3, 1⟩
/-- ADC_STAT (R308). -/
def rADC_STAT : Nat := 0x400D0200
def fADC_STAT_LOAD_A : Fld := ⟨24, 8⟩
def fADC_STAT_LOAD_B : Fld := ⟨16, 8⟩

/-- The registers of block ADC. -/
def blkADC : List RegDesc := [
  ⟨0x0, [(0x10, 24)], [⟨fADC_CH_CFG_EN, .rwl, 0, true⟩, ⟨fADC_CH_CFG_RATE, .rwl, 0, true⟩, ⟨fADC_CH_CFG_KIND, .rwl, 0, true⟩]⟩,
  ⟨0x4, [(0x10, 24)], [⟨fADC_CH_SCALE_OFFSET, .rwl, 0, true⟩, ⟨fADC_CH_SCALE_GAIN, .rwl, 0, true⟩]⟩,
  ⟨0x8, [(0x10, 24)], [⟨fADC_CH_LIM_LIM_EN, .rwl, 0, true⟩, ⟨fADC_CH_LIM_HI, .rwl, 0xfff, true⟩, ⟨fADC_CH_LIM_LO, .rwl, 0, true⟩]⟩,
  ⟨0xc, [(0x10, 24)], [⟨fADC_RES_VALUE, .ro, 0, false⟩, ⟨fADC_RES_CODE, .ro, 0, false⟩, ⟨fADC_RES_OUT, .ro, 0, false⟩]⟩,
  ⟨0x200, [], [⟨fADC_STAT_LOAD_A, .ro, 0, false⟩, ⟨fADC_STAT_LOAD_B, .ro, 0, false⟩]⟩]

/-! ### Block 14, SAF -/

/-- SAF_STAT (R330). -/
def rSAF_STAT : Nat := 0x400E0000
def fSAF_STAT_LIMP : Fld := ⟨31, 1⟩
def fSAF_STAT_STOP : Fld := ⟨30, 1⟩
def fSAF_STAT_HWSAFE : Fld := ⟨29, 1⟩
def fSAF_STAT_ACK_WAIT : Fld := ⟨28, 1⟩
def fSAF_STAT_STARTED : Fld := ⟨27, 1⟩
def fSAF_STAT_ACK_REJ : Fld := ⟨16, 8⟩
/-- SAF_CAUSE (R330). -/
def rSAF_CAUSE : Nat := 0x400E0004
def fSAF_CAUSE_LATCHED : Fld := ⟨16, 8⟩
def fSAF_CAUSE_HELD : Fld := ⟨0, 7⟩
/-- SAF_BEAM (R330). -/
def rSAF_BEAM : Nat := 0x400E0008
def fSAF_BEAM_REQ : Fld := ⟨16, 16⟩
def fSAF_BEAM_FORCE : Fld := ⟨0, 16⟩
/-- SAF_MASK_EN (R330). -/
def rSAF_MASK_EN : Nat := 0x400E000C
def fSAF_MASK_EN_EN : Fld := ⟨0, 8⟩
/-- SAF_GEN_CFG (R330). -/
def rSAF_GEN_CFG : Nat := 0x400E0010
def fSAF_GEN_CFG_AUTO_START : Fld := ⟨31, 1⟩
def fSAF_GEN_CFG_FB_BEAM : Fld := ⟨28, 2⟩
def fSAF_GEN_CFG_ACK_LOW : Fld := ⟨12, 8⟩
def fSAF_GEN_CFG_TOPAZ_WD : Fld := ⟨0, 8⟩
/-- SAF_CAN (R330). -/
def rSAF_CAN : Nat := 0x400E0014
def fSAF_CAN_EN : Fld := ⟨31, 1⟩
def fSAF_CAN_XTD : Fld := ⟨30, 1⟩
def fSAF_CAN_CTRL : Fld := ⟨29, 1⟩
def fSAF_CAN_ID : Fld := ⟨0, 29⟩
/-- SAF_PROD_ID (R330). -/
def rSAF_PROD_ID (a : Nat) : Nat := 0x400E0100 + 0x10 * a
def fSAF_PROD_ID_ID : Fld := ⟨0, 32⟩
/-- SAF_PROD_CFG (R330). -/
def rSAF_PROD_CFG (a : Nat) : Nat := 0x400E0104 + 0x10 * a
def fSAF_PROD_CFG_EN : Fld := ⟨31, 1⟩
def fSAF_PROD_CFG_REACT : Fld := ⟨29, 2⟩
def fSAF_PROD_CFG_SEQ_WIN : Fld := ⟨24, 3⟩
def fSAF_PROD_CFG_TEXP : Fld := ⟨16, 8⟩
def fSAF_PROD_CFG_GMASK : Fld := ⟨8, 8⟩
def fSAF_PROD_CFG_OBJ : Fld := ⟨0, 8⟩
/-- SAF_PROD_STAT (R330). -/
def rSAF_PROD_STAT (a : Nat) : Nat := 0x400E0108 + 0x10 * a
def fSAF_PROD_STAT_SYNC : Fld := ⟨31, 1⟩
def fSAF_PROD_STAT_EXPIRED : Fld := ⟨30, 1⟩
def fSAF_PROD_STAT_FALLBACK : Fld := ⟨29, 1⟩
def fSAF_PROD_STAT_LAST_SEQ : Fld := ⟨0, 16⟩
/-- SAF_PROD_REJ (R330). -/
def rSAF_PROD_REJ (a : Nat) : Nat := 0x400E010C + 0x10 * a
def fSAF_PROD_REJ_REJ : Fld := ⟨24, 8⟩
def fSAF_PROD_REJ_EXPIRY : Fld := ⟨16, 8⟩
def fSAF_PROD_REJ_LAST : Fld := ⟨8, 8⟩
/-- SAF_IN_CFG (R330). -/
def rSAF_IN_CFG (a : Nat) : Nat := 0x400E0200 + 0x8 * a
def fSAF_IN_CFG_FUNC : Fld := ⟨29, 3⟩
def fSAF_IN_CFG_SRC_A : Fld := ⟨27, 2⟩
def fSAF_IN_CFG_SRC_B : Fld := ⟨25, 2⟩
def fSAF_IN_CFG_FILT : Fld := ⟨20, 5⟩
def fSAF_IN_CFG_DISC_T : Fld := ⟨16, 4⟩
def fSAF_IN_CFG_RATE_MAX : Fld := ⟨8, 8⟩
def fSAF_IN_CFG_GMASK : Fld := ⟨0, 8⟩
/-- SAF_IN_STAT (R330). -/
def rSAF_IN_STAT (a : Nat) : Nat := 0x400E0204 + 0x8 * a
def fSAF_IN_STAT_STATE : Fld := ⟨30, 2⟩
def fSAF_IN_STAT_A : Fld := ⟨29, 1⟩
def fSAF_IN_STAT_B : Fld := ⟨28, 1⟩
def fSAF_IN_STAT_FCAUSE : Fld := ⟨24, 4⟩
/-- SAF_TP_CFG (R330). -/
def rSAF_TP_CFG : Nat := 0x400E0240
def fSAF_TP_CFG_PERIOD : Fld := ⟨24, 8⟩
def fSAF_TP_CFG_WIDTH : Fld := ⟨16, 8⟩
def fSAF_TP_CFG_TPCHK : Fld := ⟨0, 4⟩
/-- SAF_OUT_CFG (R330). -/
def rSAF_OUT_CFG (a : Nat) : Nat := 0x400E0280 + 0x8 * a
def fSAF_OUT_CFG_EN : Fld := ⟨31, 1⟩
def fSAF_OUT_CFG_FB_POL : Fld := ⟨30, 1⟩
def fSAF_OUT_CFG_HW_SAFE : Fld := ⟨29, 1⟩
def fSAF_OUT_CFG_FB_T : Fld := ⟨16, 8⟩
/-- SAF_OUT_STAT (R330). -/
def rSAF_OUT_STAT (a : Nat) : Nat := 0x400E0284 + 0x8 * a
def fSAF_OUT_STAT_OUT : Fld := ⟨31, 1⟩
def fSAF_OUT_STAT_FB : Fld := ⟨30, 1⟩
def fSAF_OUT_STAT_PIN : Fld := ⟨29, 1⟩
def fSAF_OUT_STAT_FAULT : Fld := ⟨28, 1⟩
def fSAF_OUT_STAT_FCAUSE : Fld := ⟨24, 4⟩

/-- The registers of block SAF. -/
def blkSAF : List RegDesc := [
  ⟨0x0, [], [⟨fSAF_STAT_LIMP, .ro, 1, false⟩, ⟨fSAF_STAT_STOP, .ro, 0, false⟩, ⟨fSAF_STAT_HWSAFE, .ro, 0, false⟩, ⟨fSAF_STAT_ACK_WAIT, .ro, 0, false⟩, ⟨fSAF_STAT_STARTED, .ro, 0, false⟩, ⟨fSAF_STAT_ACK_REJ, .ro, 0, false⟩]⟩,
  ⟨0x4, [], [⟨fSAF_CAUSE_LATCHED, .ro, 0, false⟩, ⟨fSAF_CAUSE_HELD, .ro, 1, false⟩]⟩,
  ⟨0x8, [], [⟨fSAF_BEAM_REQ, .ro, 0, false⟩, ⟨fSAF_BEAM_FORCE, .ro, 0, false⟩]⟩,
  ⟨0xc, [], [⟨fSAF_MASK_EN_EN, .ro, 0, false⟩]⟩,
  ⟨0x10, [], [⟨fSAF_GEN_CFG_AUTO_START, .ro, 1, true⟩, ⟨fSAF_GEN_CFG_FB_BEAM, .ro, 0, true⟩, ⟨fSAF_GEN_CFG_ACK_LOW, .ro, 0x32, true⟩, ⟨fSAF_GEN_CFG_TOPAZ_WD, .ro, 0x14, true⟩]⟩,
  ⟨0x14, [], [⟨fSAF_CAN_EN, .ro, 0, true⟩, ⟨fSAF_CAN_XTD, .ro, 0, true⟩, ⟨fSAF_CAN_CTRL, .ro, 0, true⟩, ⟨fSAF_CAN_ID, .ro, 0x100, true⟩]⟩,
  ⟨0x100, [(0x10, 4)], [⟨fSAF_PROD_ID_ID, .ro, 0, true⟩]⟩,
  ⟨0x104, [(0x10, 4)], [⟨fSAF_PROD_CFG_EN, .ro, 0, true⟩, ⟨fSAF_PROD_CFG_REACT, .ro, 1, true⟩, ⟨fSAF_PROD_CFG_SEQ_WIN, .ro, 4, true⟩, ⟨fSAF_PROD_CFG_TEXP, .ro, 0x64, true⟩, ⟨fSAF_PROD_CFG_GMASK, .ro, 0xff, true⟩, ⟨fSAF_PROD_CFG_OBJ, .ro, 0x1e, true⟩]⟩,
  ⟨0x108, [(0x10, 4)], [⟨fSAF_PROD_STAT_SYNC, .ro, 1, false⟩, ⟨fSAF_PROD_STAT_EXPIRED, .ro, 0, false⟩, ⟨fSAF_PROD_STAT_FALLBACK, .ro, 0, false⟩, ⟨fSAF_PROD_STAT_LAST_SEQ, .ro, 0, false⟩]⟩,
  ⟨0x10c, [(0x10, 4)], [⟨fSAF_PROD_REJ_REJ, .ro, 0, false⟩, ⟨fSAF_PROD_REJ_EXPIRY, .ro, 0, false⟩, ⟨fSAF_PROD_REJ_LAST, .ro, 0, false⟩]⟩,
  ⟨0x200, [(0x8, 4)], [⟨fSAF_IN_CFG_FUNC, .ro, 0, true⟩, ⟨fSAF_IN_CFG_SRC_A, .ro, 0, true⟩, ⟨fSAF_IN_CFG_SRC_B, .ro, 0, true⟩, ⟨fSAF_IN_CFG_FILT, .ro, 5, true⟩, ⟨fSAF_IN_CFG_DISC_T, .ro, 4, true⟩, ⟨fSAF_IN_CFG_RATE_MAX, .ro, 0x14, true⟩, ⟨fSAF_IN_CFG_GMASK, .ro, 0xff, true⟩]⟩,
  ⟨0x204, [(0x8, 4)], [⟨fSAF_IN_STAT_STATE, .ro, 0, false⟩, ⟨fSAF_IN_STAT_A, .ro, 0, false⟩, ⟨fSAF_IN_STAT_B, .ro, 0, false⟩, ⟨fSAF_IN_STAT_FCAUSE, .ro, 0, false⟩]⟩,
  ⟨0x240, [], [⟨fSAF_TP_CFG_PERIOD, .ro, 0x64, true⟩, ⟨fSAF_TP_CFG_WIDTH, .ro, 0x32, true⟩, ⟨fSAF_TP_CFG_TPCHK, .ro, 0xf, true⟩]⟩,
  ⟨0x280, [(0x8, 2)], [⟨fSAF_OUT_CFG_EN, .ro, 0, true⟩, ⟨fSAF_OUT_CFG_FB_POL, .ro, 0, true⟩, ⟨fSAF_OUT_CFG_HW_SAFE, .ro, 0, true⟩, ⟨fSAF_OUT_CFG_FB_T, .ro, 0x14, true⟩]⟩,
  ⟨0x284, [(0x8, 2)], [⟨fSAF_OUT_STAT_OUT, .ro, 0, false⟩, ⟨fSAF_OUT_STAT_FB, .ro, 0, false⟩, ⟨fSAF_OUT_STAT_PIN, .ro, 0, false⟩, ⟨fSAF_OUT_STAT_FAULT, .ro, 0, false⟩, ⟨fSAF_OUT_STAT_FCAUSE, .ro, 0, false⟩]⟩]

/-! ### Block 15, FLT -/

/-- FLT_SRC_CFG (R351). -/
def rFLT_SRC_CFG (a : Nat) : Nat := 0x400F0000 + 0x4 * a
def fFLT_SRC_CFG_CLASS : Fld := ⟨29, 3⟩
def fFLT_SRC_CFG_DEFCLASS : Fld := ⟨26, 3⟩
def fFLT_SRC_CFG_FENCEABLE : Fld := ⟨25, 1⟩
def fFLT_SRC_CFG_RETRY : Fld := ⟨24, 1⟩
def fFLT_SRC_CFG_TRANS_MAX : Fld := ⟨16, 8⟩
def fFLT_SRC_CFG_F : Fld := ⟨5, 1⟩
def fFLT_SRC_CFG_E : Fld := ⟨4, 1⟩
def fFLT_SRC_CFG_C : Fld := ⟨3, 1⟩
def fFLT_SRC_CFG_B : Fld := ⟨2, 1⟩
def fFLT_SRC_CFG_N : Fld := ⟨1, 1⟩
def fFLT_SRC_CFG_I : Fld := ⟨0, 1⟩
/-- FLT_LIVE (R351). -/
def rFLT_LIVE (a : Nat) : Nat := 0x400F0800 + 0x4 * a
def fFLT_LIVE_LIVE : Fld := ⟨0, 32⟩
/-- FLT_STICKY (R351). -/
def rFLT_STICKY (a : Nat) : Nat := 0x400F0840 + 0x4 * a
def fFLT_STICKY_STICKY : Fld := ⟨0, 32⟩
/-- FLT_FIRST_SRC (R351). -/
def rFLT_FIRST_SRC : Nat := 0x400F0900
def fFLT_FIRST_SRC_OPEN : Fld := ⟨31, 1⟩
def fFLT_FIRST_SRC_CLASS : Fld := ⟨28, 3⟩
def fFLT_FIRST_SRC_FCLASS : Fld := ⟨25, 3⟩
def fFLT_FIRST_SRC_LAST : Fld := ⟨16, 9⟩
def fFLT_FIRST_SRC_MERGED : Fld := ⟨9, 7⟩
def fFLT_FIRST_SRC_SRC : Fld := ⟨0, 9⟩
/-- FLT_FIRST_DET (R351). -/
def rFLT_FIRST_DET : Nat := 0x400F0904
def fFLT_FIRST_DET_DETAIL : Fld := ⟨0, 32⟩
/-- FLT_FIRST_TIME (R351). -/
def rFLT_FIRST_TIME : Nat := 0x400F0908
def fFLT_FIRST_TIME_TIME : Fld := ⟨0, 32⟩
/-- FLT_FIRST_CTL (R351). -/
def rFLT_FIRST_CTL : Nat := 0x400F090C
def fFLT_FIRST_CTL_CLOSE : Fld := ⟨0, 1⟩
/-- FLT_SUMMARY (R351). -/
def rFLT_SUMMARY : Nat := 0x400F0A00
def fFLT_SUMMARY_HIGHEST : Fld := ⟨29, 3⟩
def fFLT_SUMMARY_ANY : Fld := ⟨28, 1⟩
def fFLT_SUMMARY_RECORDS : Fld := ⟨0, 16⟩
/-- FLT_ERRN (R351). -/
def rFLT_ERRN : Nat := 0x400F0A04
def fFLT_ERRN_ACTIVE : Fld := ⟨31, 1⟩
def fFLT_ERRN_FATAL : Fld := ⟨30, 1⟩
def fFLT_ERRN_HWSAFE : Fld := ⟨29, 1⟩
def fFLT_ERRN_RELEASE : Fld := ⟨0, 1⟩
/-- FLT_CFG (R351). -/
def rFLT_CFG : Nat := 0x400F0A08
def fFLT_CFG_REC_HOLD : Fld := ⟨16, 16⟩
def fFLT_CFG_CE_MAX : Fld := ⟨0, 16⟩
/-- FLT_FATAL (R351). -/
def rFLT_FATAL : Nat := 0x400F0A0C
def fFLT_FATAL_SET : Fld := ⟨31, 1⟩
def fFLT_FATAL_SRC : Fld := ⟨0, 9⟩
/-- FLT_LOG_STAT (R351). -/
def rFLT_LOG_STAT : Nat := 0x400F0A10
def fFLT_LOG_STAT_QUEUED : Fld := ⟨24, 8⟩
def fFLT_LOG_STAT_LOST : Fld := ⟨16, 8⟩
/-- FLT_FENCE_PORT (R351). -/
def rFLT_FENCE_PORT : Nat := 0x400F0B00
def fFLT_FENCE_PORT_FENCED : Fld := ⟨0, 24⟩
/-- FLT_FENCE_TILE (R351). -/
def rFLT_FENCE_TILE : Nat := 0x400F0B04
def fFLT_FENCE_TILE_FENCED : Fld := ⟨0, 24⟩
/-- FLT_FENCE_OPAL (R351). -/
def rFLT_FENCE_OPAL : Nat := 0x400F0B08
def fFLT_FENCE_OPAL_FENCED : Fld := ⟨0, 12⟩
/-- FLT_FENCE_DRAM (R351). -/
def rFLT_FENCE_DRAM (a : Nat) : Nat := 0x400F0B10 + 0x4 * a
def fFLT_FENCE_DRAM_FENCED : Fld := ⟨0, 32⟩
/-- FLT_FENCE_MISC (R351). -/
def rFLT_FENCE_MISC : Nat := 0x400F0B18
def fFLT_FENCE_MISC_MOTOR : Fld := ⟨8, 4⟩
def fFLT_FENCE_MISC_CHAIN : Fld := ⟨0, 4⟩
/-- FLT_PFENCE_CLR (R351). -/
def rFLT_PFENCE_CLR : Nat := 0x400F0B20
def fFLT_PFENCE_CLR_GO : Fld := ⟨0, 1⟩
/-- FLT_TRANS (R351). -/
def rFLT_TRANS (a : Nat) : Nat := 0x400F1000 + 0x4 * a
def fFLT_TRANS_COUNT : Fld := ⟨0, 16⟩

/-- The registers of block FLT. -/
def blkFLT : List RegDesc := [
  ⟨0x0, [(0x4, 320)], [⟨fFLT_SRC_CFG_CLASS, .src, 0, true⟩, ⟨fFLT_SRC_CFG_DEFCLASS, .ro, 0, false⟩, ⟨fFLT_SRC_CFG_FENCEABLE, .ro, 0, false⟩, ⟨fFLT_SRC_CFG_RETRY, .ro, 0, false⟩, ⟨fFLT_SRC_CFG_TRANS_MAX, .rwl, 0x10, true⟩, ⟨fFLT_SRC_CFG_F, .src, 0, true⟩, ⟨fFLT_SRC_CFG_E, .src, 0, true⟩, ⟨fFLT_SRC_CFG_C, .src, 0, true⟩, ⟨fFLT_SRC_CFG_B, .rwl, 0, true⟩, ⟨fFLT_SRC_CFG_N, .rwl, 0, true⟩, ⟨fFLT_SRC_CFG_I, .rwl, 0, true⟩]⟩,
  ⟨0x800, [(0x4, 10)], [⟨fFLT_LIVE_LIVE, .ro, 0, false⟩]⟩,
  ⟨0x840, [(0x4, 10)], [⟨fFLT_STICKY_STICKY, .w1c, 0, false⟩]⟩,
  ⟨0x900, [], [⟨fFLT_FIRST_SRC_OPEN, .ro, 0, false⟩, ⟨fFLT_FIRST_SRC_CLASS, .ro, 0, false⟩, ⟨fFLT_FIRST_SRC_FCLASS, .ro, 0, false⟩, ⟨fFLT_FIRST_SRC_LAST, .ro, 0, false⟩, ⟨fFLT_FIRST_SRC_MERGED, .ro, 0, false⟩, ⟨fFLT_FIRST_SRC_SRC, .ro, 0, false⟩]⟩,
  ⟨0x904, [], [⟨fFLT_FIRST_DET_DETAIL, .ro, 0, false⟩]⟩,
  ⟨0x908, [], [⟨fFLT_FIRST_TIME_TIME, .ro, 0, false⟩]⟩,
  ⟨0x90c, [], [⟨fFLT_FIRST_CTL_CLOSE, .wo, 0, false⟩]⟩,
  ⟨0xa00, [], [⟨fFLT_SUMMARY_HIGHEST, .ro, 0, false⟩, ⟨fFLT_SUMMARY_ANY, .ro, 0, false⟩, ⟨fFLT_SUMMARY_RECORDS, .ro, 0, false⟩]⟩,
  ⟨0xa04, [], [⟨fFLT_ERRN_ACTIVE, .ro, 1, false⟩, ⟨fFLT_ERRN_FATAL, .ro, 0, false⟩, ⟨fFLT_ERRN_HWSAFE, .ro, 0, false⟩, ⟨fFLT_ERRN_RELEASE, .wo, 0, false⟩]⟩,
  ⟨0xa08, [], [⟨fFLT_CFG_REC_HOLD, .rwl, 0x3e8, true⟩, ⟨fFLT_CFG_CE_MAX, .rwl, 0x40, true⟩]⟩,
  ⟨0xa0c, [], [⟨fFLT_FATAL_SET, .ro, 0, false⟩, ⟨fFLT_FATAL_SRC, .ro, 0, false⟩]⟩,
  ⟨0xa10, [], [⟨fFLT_LOG_STAT_QUEUED, .ro, 0, false⟩, ⟨fFLT_LOG_STAT_LOST, .w1t, 0, false⟩]⟩,
  ⟨0xb00, [], [⟨fFLT_FENCE_PORT_FENCED, .ro, 0, false⟩]⟩,
  ⟨0xb04, [], [⟨fFLT_FENCE_TILE_FENCED, .ro, 0, false⟩]⟩,
  ⟨0xb08, [], [⟨fFLT_FENCE_OPAL_FENCED, .ro, 0, false⟩]⟩,
  ⟨0xb10, [(0x4, 2)], [⟨fFLT_FENCE_DRAM_FENCED, .ro, 0, false⟩]⟩,
  ⟨0xb18, [], [⟨fFLT_FENCE_MISC_MOTOR, .ro, 0, false⟩, ⟨fFLT_FENCE_MISC_CHAIN, .ro, 0, false⟩]⟩,
  ⟨0xb20, [], [⟨fFLT_PFENCE_CLR_GO, .wol, 0, false⟩]⟩,
  ⟨0x1000, [(0x4, 320)], [⟨fFLT_TRANS_COUNT, .w1t, 0, false⟩]⟩]

/-! ### Block 16, THM -/

/-- THM_CFG (R367). -/
def rTHM_CFG : Nat := 0x40100000
def fTHM_CFG_T_THR : Fld := ⟨24, 8⟩
def fTHM_CFG_T_FLOOR : Fld := ⟨16, 8⟩
def fTHM_CFG_T_SHUT : Fld := ⟨8, 8⟩
def fTHM_CFG_SHUT_HYST : Fld := ⟨0, 8⟩
/-- THM_RISE (R367). -/
def rTHM_RISE : Nat := 0x40100004
def fTHM_RISE_RISE_MAX : Fld := ⟨24, 8⟩
def fTHM_RISE_RISE_ADV : Fld := ⟨16, 8⟩
def fTHM_RISE_SUB_MARGIN : Fld := ⟨8, 8⟩
/-- THM_TOL (R367). -/
def rTHM_TOL : Nat := 0x40100008
def fTHM_TOL_M_TOL : Fld := ⟨24, 8⟩
def fTHM_TOL_N_TOL : Fld := ⟨16, 8⟩
/-- THM_GAIN (R367). -/
def rTHM_GAIN : Nat := 0x4010000C
def fTHM_GAIN_KG : Fld := ⟨16, 16⟩
def fTHM_GAIN_GD_MIN : Fld := ⟨0, 16⟩
/-- THM_RATE (R367). -/
def rTHM_RATE : Nat := 0x40100010
def fTHM_RATE_KR : Fld := ⟨16, 16⟩
def fTHM_RATE_FR_MIN : Fld := ⟨0, 16⟩
/-- THM_STAT (R367). -/
def rTHM_STAT : Nat := 0x40100020
def fTHM_STAT_THROTTLE : Fld := ⟨31, 1⟩
def fTHM_STAT_FAST : Fld := ⟨30, 1⟩
def fTHM_STAT_SUBGOV : Fld := ⟨29, 1⟩
def fTHM_STAT_THERMAL : Fld := ⟨28, 1⟩
def fTHM_STAT_MODEL_BAD : Fld := ⟨27, 1⟩
def fTHM_STAT_RISING : Fld := ⟨26, 1⟩
def fTHM_STAT_GOV : Fld := ⟨20, 4⟩
def fTHM_STAT_T_GOV : Fld := ⟨0, 16⟩
/-- THM_OUT (R367). -/
def rTHM_OUT : Nat := 0x40100024
def fTHM_OUT_G_DIE : Fld := ⟨16, 16⟩
def fTHM_OUT_RATE_F : Fld := ⟨0, 16⟩
/-- THM_SENS (R367). -/
def rTHM_SENS (a : Nat) : Nat := 0x40100100 + 0x4 * a
def fTHM_SENS_FAILED : Fld := ⟨31, 1⟩
def fTHM_SENS_SUB : Fld := ⟨30, 1⟩
def fTHM_SENS_SUSPECT : Fld := ⟨24, 2⟩
def fTHM_SENS_RISE : Fld := ⟨16, 8⟩
def fTHM_SENS_T : Fld := ⟨0, 16⟩
/-- THM_MODEL (R367). -/
def rTHM_MODEL (a : Nat) : Nat := 0x40100140 + 0x4 * a
def fTHM_MODEL_EST : Fld := ⟨0, 16⟩
/-- THM_PWR (R367). -/
def rTHM_PWR (a : Nat) : Nat := 0x40100180 + 0x4 * a
def fTHM_PWR_P : Fld := ⟨0, 16⟩
/-- THM_SHUT (R367). -/
def rTHM_SHUT : Nat := 0x40100200
def fTHM_SHUT_COUNT : Fld := ⟨24, 8⟩
def fTHM_SHUT_LOCK : Fld := ⟨23, 1⟩
def fTHM_SHUT_LAST_T : Fld := ⟨0, 16⟩
/-- THM_FAN (R367). -/
def rTHM_FAN (a : Nat) : Nat := 0x40100300 + 0x4 * a
def fTHM_FAN_KNEE : Fld := ⟨24, 8⟩
def fTHM_FAN_SLOPE : Fld := ⟨16, 8⟩
def fTHM_FAN_MAX : Fld := ⟨0, 16⟩

/-- The registers of block THM. -/
def blkTHM : List RegDesc := [
  ⟨0x0, [], [⟨fTHM_CFG_T_THR, .rwl, 0xa5, true⟩, ⟨fTHM_CFG_T_FLOOR, .rwl, 0xb4, true⟩, ⟨fTHM_CFG_T_SHUT, .rwl, 0xb9, true⟩, ⟨fTHM_CFG_SHUT_HYST, .rwl, 0x14, true⟩]⟩,
  ⟨0x4, [], [⟨fTHM_RISE_RISE_MAX, .rwl, 5, true⟩, ⟨fTHM_RISE_RISE_ADV, .rwl, 0xa, true⟩, ⟨fTHM_RISE_SUB_MARGIN, .rwl, 5, true⟩]⟩,
  ⟨0x8, [], [⟨fTHM_TOL_M_TOL, .rwl, 8, true⟩, ⟨fTHM_TOL_N_TOL, .rwl, 0xa, true⟩]⟩,
  ⟨0xc, [], [⟨fTHM_GAIN_KG, .rwl, 0x7ae, true⟩, ⟨fTHM_GAIN_GD_MIN, .rwl, 0x4000, true⟩]⟩,
  ⟨0x10, [], [⟨fTHM_RATE_KR, .rwl, 0x51f, true⟩, ⟨fTHM_RATE_FR_MIN, .rwl, 0x4000, true⟩]⟩,
  ⟨0x20, [], [⟨fTHM_STAT_THROTTLE, .ro, 0, false⟩, ⟨fTHM_STAT_FAST, .ro, 0, false⟩, ⟨fTHM_STAT_SUBGOV, .ro, 0, false⟩, ⟨fTHM_STAT_THERMAL, .ro, 0, false⟩, ⟨fTHM_STAT_MODEL_BAD, .ro, 0, false⟩, ⟨fTHM_STAT_RISING, .ro, 0, false⟩, ⟨fTHM_STAT_GOV, .ro, 0, false⟩, ⟨fTHM_STAT_T_GOV, .ro, 0, false⟩]⟩,
  ⟨0x24, [], [⟨fTHM_OUT_G_DIE, .ro, 0x8000, false⟩, ⟨fTHM_OUT_RATE_F, .ro, 0x8000, false⟩]⟩,
  ⟨0x100, [(0x4, 12)], [⟨fTHM_SENS_FAILED, .ro, 0, false⟩, ⟨fTHM_SENS_SUB, .ro, 0, false⟩, ⟨fTHM_SENS_SUSPECT, .ro, 0, false⟩, ⟨fTHM_SENS_RISE, .ro, 0, false⟩, ⟨fTHM_SENS_T, .ro, 0, false⟩]⟩,
  ⟨0x140, [(0x4, 12)], [⟨fTHM_MODEL_EST, .ro, 0, false⟩]⟩,
  ⟨0x180, [(0x4, 6)], [⟨fTHM_PWR_P, .ro, 0, false⟩]⟩,
  ⟨0x200, [], [⟨fTHM_SHUT_COUNT, .ro, 0, false⟩, ⟨fTHM_SHUT_LOCK, .ro, 0, false⟩, ⟨fTHM_SHUT_LAST_T, .ro, 0, false⟩]⟩,
  ⟨0x300, [(0x4, 4)], [⟨fTHM_FAN_KNEE, .rwl, 0x73, true⟩, ⟨fTHM_FAN_SLOPE, .rwl, 0xa, true⟩, ⟨fTHM_FAN_MAX, .rwl, 0x1770, true⟩]⟩]

/-! ### Block 17, PWR -/

/-- PWR_CFG (R389). -/
def rPWR_CFG : Nat := 0x40110000
def fPWR_CFG_BAMUT_ENTRY : Fld := ⟨31, 1⟩
def fPWR_CFG_WAKE_FILT : Fld := ⟨16, 8⟩
def fPWR_CFG_WAKE_POL : Fld := ⟨15, 1⟩
/-- PWR_TARGET (R389). -/
def rPWR_TARGET : Nat := 0x40110004
def fPWR_TARGET_PEND : Fld := ⟨31, 1⟩
def fPWR_TARGET_MODE : Fld := ⟨0, 3⟩
/-- PWR_STAT (R389). -/
def rPWR_STAT : Nat := 0x40110008
def fPWR_STAT_STATE : Fld := ⟨29, 3⟩
def fPWR_STAT_ENTRY : Fld := ⟨28, 1⟩
def fPWR_STAT_ABORT_AP : Fld := ⟨26, 2⟩
def fPWR_STAT_WAKE : Fld := ⟨20, 4⟩
def fPWR_STAT_LAST_REQ : Fld := ⟨16, 3⟩
def fPWR_STAT_RESTART : Fld := ⟨12, 4⟩
/-- PWR_WAKE_EN (R389). -/
def rPWR_WAKE_EN : Nat := 0x4011000C
def fPWR_WAKE_EN_EN : Fld := ⟨0, 9⟩
/-- PWR_WAKE_SRC (R389). -/
def rPWR_WAKE_SRC : Nat := 0x40110010
def fPWR_WAKE_SRC_SRC : Fld := ⟨0, 9⟩
/-- PWR_WAKE_TMR (R389). -/
def rPWR_WAKE_TMR : Nat := 0x40110014
def fPWR_WAKE_TMR_TICKS : Fld := ⟨0, 32⟩
/-- PWR_SLEEP_TIME (R389). -/
def rPWR_SLEEP_TIME : Nat := 0x40110018
def fPWR_SLEEP_TIME_BOUND : Fld := ⟨31, 1⟩
def fPWR_SLEEP_TIME_MS : Fld := ⟨0, 31⟩
/-- PWR_AON_BUSY (R389). -/
def rPWR_AON_BUSY : Nat := 0x4011001C
def fPWR_AON_BUSY_BUSY : Fld := ⟨0, 1⟩
/-- PWR_RET_STAT (R389). -/
def rPWR_RET_STAT : Nat := 0x40110020
def fPWR_RET_STAT_FENCED : Fld := ⟨16, 16⟩
def fPWR_RET_STAT_FAILED : Fld := ⟨0, 16⟩

/-- The registers of block PWR. -/
def blkPWR : List RegDesc := [
  ⟨0x0, [], [⟨fPWR_CFG_BAMUT_ENTRY, .rwl, 0, true⟩, ⟨fPWR_CFG_WAKE_FILT, .rwl, 0x20, true⟩, ⟨fPWR_CFG_WAKE_POL, .rwl, 1, true⟩]⟩,
  ⟨0x4, [], [⟨fPWR_TARGET_PEND, .ro, 0, false⟩, ⟨fPWR_TARGET_MODE, .ro, 0, false⟩]⟩,
  ⟨0x8, [], [⟨fPWR_STAT_STATE, .ro, 0, false⟩, ⟨fPWR_STAT_ENTRY, .ro, 0, false⟩, ⟨fPWR_STAT_ABORT_AP, .ro, 0, false⟩, ⟨fPWR_STAT_WAKE, .ro, 0, false⟩, ⟨fPWR_STAT_LAST_REQ, .ro, 0, false⟩, ⟨fPWR_STAT_RESTART, .ro, 0, false⟩]⟩,
  ⟨0xc, [], [⟨fPWR_WAKE_EN_EN, .rw, 0x1c1, false⟩]⟩,
  ⟨0x10, [], [⟨fPWR_WAKE_SRC_SRC, .w1c, 0, false⟩]⟩,
  ⟨0x14, [], [⟨fPWR_WAKE_TMR_TICKS, .rw, 0, false⟩]⟩,
  ⟨0x18, [], [⟨fPWR_SLEEP_TIME_BOUND, .ro, 0, false⟩, ⟨fPWR_SLEEP_TIME_MS, .ro, 0, false⟩]⟩,
  ⟨0x1c, [], [⟨fPWR_AON_BUSY_BUSY, .ro, 0, false⟩]⟩,
  ⟨0x20, [], [⟨fPWR_RET_STAT_FENCED, .ro, 0, false⟩, ⟨fPWR_RET_STAT_FAILED, .w1c, 0, false⟩]⟩]

/-! ### Block 18, CLK -/

/-- CLK_STAT (R458). -/
def rCLK_STAT : Nat := 0x40120000
def fCLK_STAT_SYS_OK : Fld := ⟨31, 1⟩
def fCLK_STAT_HUB_OK : Fld := ⟨30, 1⟩
def fCLK_STAT_PIX_OK : Fld := ⟨29, 1⟩
def fCLK_STAT_PER_OK : Fld := ⟨28, 1⟩
def fCLK_STAT_MEM_OK : Fld := ⟨27, 1⟩
def fCLK_STAT_PREF_OK : Fld := ⟨26, 1⟩
def fCLK_STAT_AON_RC : Fld := ⟨25, 1⟩
def fCLK_STAT_SYS_S : Fld := ⟨15, 1⟩
def fCLK_STAT_HUB_S : Fld := ⟨14, 1⟩
def fCLK_STAT_PIX_S : Fld := ⟨13, 1⟩
def fCLK_STAT_PER_S : Fld := ⟨12, 1⟩
def fCLK_STAT_MEM_S : Fld := ⟨11, 1⟩
/-- CLK_ENG (R458). -/
def rCLK_ENG : Nat := 0x40120004
def fCLK_ENG_MHZ : Fld := ⟨0, 12⟩

/-- The registers of block CLK. -/
def blkCLK : List RegDesc := [
  ⟨0x0, [], [⟨fCLK_STAT_SYS_OK, .ro, 0, false⟩, ⟨fCLK_STAT_HUB_OK, .ro, 0, false⟩, ⟨fCLK_STAT_PIX_OK, .ro, 0, false⟩, ⟨fCLK_STAT_PER_OK, .ro, 0, false⟩, ⟨fCLK_STAT_MEM_OK, .ro, 0, false⟩, ⟨fCLK_STAT_PREF_OK, .ro, 0, false⟩, ⟨fCLK_STAT_AON_RC, .ro, 0, false⟩, ⟨fCLK_STAT_SYS_S, .w1c, 0, false⟩, ⟨fCLK_STAT_HUB_S, .w1c, 0, false⟩, ⟨fCLK_STAT_PIX_S, .w1c, 0, false⟩, ⟨fCLK_STAT_PER_S, .w1c, 0, false⟩, ⟨fCLK_STAT_MEM_S, .w1c, 0, false⟩]⟩,
  ⟨0x4, [], [⟨fCLK_ENG_MHZ, .ro, 0, false⟩]⟩]

/-! ### Block 19, CAL -/

/-- CAL_STAT (R421). -/
def rCAL_STAT : Nat := 0x40130000
def fCAL_STAT_SRC : Fld := ⟨30, 2⟩
def fCAL_STAT_RUN : Fld := ⟨29, 1⟩
def fCAL_STAT_ORIGIN : Fld := ⟨27, 2⟩
def fCAL_STAT_CAUSE : Fld := ⟨24, 3⟩
def fCAL_STAT_FAILED : Fld := ⟨16, 8⟩
def fCAL_STAT_PASSED : Fld := ⟨8, 6⟩
def fCAL_STAT_GEN : Fld := ⟨0, 8⟩
/-- CAL_ADC (R421). -/
def rCAL_ADC (a : Nat) : Nat := 0x40130100 + 0x4 * a
def fCAL_ADC_OFS : Fld := ⟨16, 16⟩
def fCAL_ADC_GAIN : Fld := ⟨0, 16⟩
/-- CAL_RES (R421). -/
def rCAL_RES (a : Nat) : Nat := 0x40130200 + 0x4 * a
def fCAL_RES_RESIDUAL : Fld := ⟨0, 32⟩
/-- CAL_EYE (R421). -/
def rCAL_EYE (a : Nat) : Nat := 0x40130400 + 0x4 * a
def fCAL_EYE_EYE : Fld := ⟨0, 32⟩

/-- The registers of block CAL. -/
def blkCAL : List RegDesc := [
  ⟨0x0, [], [⟨fCAL_STAT_SRC, .ro, 0, false⟩, ⟨fCAL_STAT_RUN, .ro, 0, false⟩, ⟨fCAL_STAT_ORIGIN, .ro, 0, false⟩, ⟨fCAL_STAT_CAUSE, .ro, 0, false⟩, ⟨fCAL_STAT_FAILED, .ro, 0, false⟩, ⟨fCAL_STAT_PASSED, .ro, 0, false⟩, ⟨fCAL_STAT_GEN, .ro, 0, false⟩]⟩,
  ⟨0x100, [(0x4, 24)], [⟨fCAL_ADC_OFS, .ro, 0, false⟩, ⟨fCAL_ADC_GAIN, .ro, 0x8000, false⟩]⟩,
  ⟨0x200, [(0x4, 110)], [⟨fCAL_RES_RESIDUAL, .ro, 0, false⟩]⟩,
  ⟨0x400, [(0x4, 24)], [⟨fCAL_EYE_EYE, .ro, 0, false⟩]⟩]

/-! ### Block 20, RTC -/

/-- RTC_TIME_LO (R389). -/
def rRTC_TIME_LO : Nat := 0x40140000
def fRTC_TIME_LO_TIME : Fld := ⟨0, 32⟩
/-- RTC_TIME_HI (R389). -/
def rRTC_TIME_HI : Nat := 0x40140004
def fRTC_TIME_HI_TIME : Fld := ⟨0, 16⟩
/-- RTC_ALARM_LO (R389). -/
def rRTC_ALARM_LO : Nat := 0x40140008
def fRTC_ALARM_LO_ALARM : Fld := ⟨0, 32⟩
/-- RTC_ALARM_HI (R389). -/
def rRTC_ALARM_HI : Nat := 0x4014000C
def fRTC_ALARM_HI_EN : Fld := ⟨31, 1⟩
def fRTC_ALARM_HI_ALARM : Fld := ⟨0, 16⟩
/-- RTC_STAT (R389). -/
def rRTC_STAT : Nat := 0x40140010
def fRTC_STAT_UNCERTAIN : Fld := ⟨31, 1⟩
def fRTC_STAT_BKUP_LOST : Fld := ⟨30, 1⟩
def fRTC_STAT_OSC_STOP : Fld := ⟨29, 1⟩
def fRTC_STAT_SRC : Fld := ⟨28, 1⟩
/-- RTC_AON_CNT_LO (R389). -/
def rRTC_AON_CNT_LO : Nat := 0x40140014
def fRTC_AON_CNT_LO_CNT : Fld := ⟨0, 32⟩
/-- RTC_AON_CNT_HI (R389). -/
def rRTC_AON_CNT_HI : Nat := 0x40140018
def fRTC_AON_CNT_HI_CNT : Fld := ⟨0, 16⟩

/-- The registers of block RTC. -/
def blkRTC : List RegDesc := [
  ⟨0x0, [], [⟨fRTC_TIME_LO_TIME, .rw, 0, false⟩]⟩,
  ⟨0x4, [], [⟨fRTC_TIME_HI_TIME, .rw, 0, false⟩]⟩,
  ⟨0x8, [], [⟨fRTC_ALARM_LO_ALARM, .rw, 0, false⟩]⟩,
  ⟨0xc, [], [⟨fRTC_ALARM_HI_EN, .rw, 0, false⟩, ⟨fRTC_ALARM_HI_ALARM, .rw, 0, false⟩]⟩,
  ⟨0x10, [], [⟨fRTC_STAT_UNCERTAIN, .ro, 1, false⟩, ⟨fRTC_STAT_BKUP_LOST, .w1c, 1, false⟩, ⟨fRTC_STAT_OSC_STOP, .w1c, 0, false⟩, ⟨fRTC_STAT_SRC, .ro, 0, false⟩]⟩,
  ⟨0x14, [], [⟨fRTC_AON_CNT_LO_CNT, .ro, 0, false⟩]⟩,
  ⟨0x18, [], [⟨fRTC_AON_CNT_HI_CNT, .ro, 0, false⟩]⟩]

/-! ### Block 21, NVM -/

/-- NVM_STAT (R412). -/
def rNVM_STAT : Nat := 0x40150000
def fNVM_STAT_REPLAYED : Fld := ⟨0, 16⟩
/-- NVM_SPARE (R412). -/
def rNVM_SPARE : Nat := 0x40150004
def fNVM_SPARE_USED : Fld := ⟨16, 16⟩
def fNVM_SPARE_FREE : Fld := ⟨0, 16⟩
/-- NVM_SET_STAT (R412). -/
def rNVM_SET_STAT : Nat := 0x40150008
def fNVM_SET_STAT_CUR : Fld := ⟨31, 1⟩
def fNVM_SET_STAT_A_OK : Fld := ⟨30, 1⟩
def fNVM_SET_STAT_B_OK : Fld := ⟨29, 1⟩
def fNVM_SET_STAT_FMT : Fld := ⟨16, 8⟩
def fNVM_SET_STAT_GEN : Fld := ⟨0, 16⟩
/-- NVM_BOOT_CFG (R412). -/
def rNVM_BOOT_CFG : Nat := 0x4015000C
def fNVM_BOOT_CFG_TILE_WAIT : Fld := ⟨16, 16⟩
/-- NVM_XSPI_CFG (R412). -/
def rNVM_XSPI_CFG : Nat := 0x40150020
def fNVM_XSPI_CFG_MODE : Fld := ⟨30, 2⟩
/-- NVM_XSPI_STAT (R412). -/
def rNVM_XSPI_STAT : Nat := 0x40150024
def fNVM_XSPI_STAT_PRESENT : Fld := ⟨31, 1⟩
def fNVM_XSPI_STAT_MODE : Fld := ⟨29, 2⟩
def fNVM_XSPI_STAT_SIZE : Fld := ⟨16, 8⟩
/-- NVM_LOG_SEL (R412). -/
def rNVM_LOG_SEL : Nat := 0x40150030
def fNVM_LOG_SEL_BAD : Fld := ⟨31, 1⟩
def fNVM_LOG_SEL_ENTRY : Fld := ⟨0, 15⟩
/-- NVM_LOG_HEAD (R412). -/
def rNVM_LOG_HEAD : Nat := 0x40150034
def fNVM_LOG_HEAD_GENERAL : Fld := ⟨16, 15⟩
def fNVM_LOG_HEAD_SAFETY : Fld := ⟨0, 11⟩
/-- NVM_LOG_DATA (R412). -/
def rNVM_LOG_DATA (a : Nat) : Nat := 0x40150040 + 0x4 * a
def fNVM_LOG_DATA_DATA : Fld := ⟨0, 32⟩

/-- The registers of block NVM. -/
def blkNVM : List RegDesc := [
  ⟨0x0, [], [⟨fNVM_STAT_REPLAYED, .ro, 0, false⟩]⟩,
  ⟨0x4, [], [⟨fNVM_SPARE_USED, .ro, 0, false⟩, ⟨fNVM_SPARE_FREE, .ro, 0x478, false⟩]⟩,
  ⟨0x8, [], [⟨fNVM_SET_STAT_CUR, .ro, 0, false⟩, ⟨fNVM_SET_STAT_A_OK, .ro, 0, false⟩, ⟨fNVM_SET_STAT_B_OK, .ro, 0, false⟩, ⟨fNVM_SET_STAT_FMT, .ro, 0, false⟩, ⟨fNVM_SET_STAT_GEN, .ro, 0, false⟩]⟩,
  ⟨0xc, [], [⟨fNVM_BOOT_CFG_TILE_WAIT, .rwl, 0xc8, true⟩]⟩,
  ⟨0x20, [], [⟨fNVM_XSPI_CFG_MODE, .rwl, 3, true⟩]⟩,
  ⟨0x24, [], [⟨fNVM_XSPI_STAT_PRESENT, .ro, 0, false⟩, ⟨fNVM_XSPI_STAT_MODE, .ro, 0, false⟩, ⟨fNVM_XSPI_STAT_SIZE, .ro, 0, false⟩]⟩,
  ⟨0x30, [], [⟨fNVM_LOG_SEL_BAD, .ro, 0, false⟩, ⟨fNVM_LOG_SEL_ENTRY, .rw, 0, false⟩]⟩,
  ⟨0x34, [], [⟨fNVM_LOG_HEAD_GENERAL, .ro, 0x800, false⟩, ⟨fNVM_LOG_HEAD_SAFETY, .ro, 0, false⟩]⟩,
  ⟨0x40, [(0x4, 8)], [⟨fNVM_LOG_DATA_DATA, .ro, 0, false⟩]⟩]

/-! ### Block 22, UPD -/

/-- UPD_CFG (R412). -/
def rUPD_CFG : Nat := 0x40160000
def fUPD_CFG_MODE : Fld := ⟨30, 2⟩
/-- UPD_STAT (R412). -/
def rUPD_STAT : Nat := 0x40160004
def fUPD_STAT_STATE : Fld := ⟨29, 3⟩
def fUPD_STAT_RUN_SLOT : Fld := ⟨28, 1⟩
def fUPD_STAT_GOLDEN : Fld := ⟨27, 1⟩
def fUPD_STAT_START_CNT : Fld := ⟨24, 3⟩
def fUPD_STAT_CAUSE : Fld := ⟨16, 8⟩
/-- UPD_NEXT (R412). -/
def rUPD_NEXT : Nat := 0x40160008
def fUPD_NEXT_NEXT : Fld := ⟨0, 32⟩
/-- UPD_RUN_VER (R412). -/
def rUPD_RUN_VER : Nat := 0x4016000C
def fUPD_RUN_VER_VERSION : Fld := ⟨0, 32⟩
/-- UPD_SLOT_VER (R412). -/
def rUPD_SLOT_VER (a : Nat) : Nat := 0x40160010 + 0x4 * a
def fUPD_SLOT_VER_VERSION : Fld := ⟨0, 32⟩
/-- UPD_TRIAL_MS (R412). -/
def rUPD_TRIAL_MS : Nat := 0x40160018
def fUPD_TRIAL_MS_MS : Fld := ⟨0, 32⟩
/-- UPD_FLOOR (R412). -/
def rUPD_FLOOR : Nat := 0x4016001C
def fUPD_FLOOR_FLOOR : Fld := ⟨0, 32⟩

/-- The registers of block UPD. -/
def blkUPD : List RegDesc := [
  ⟨0x0, [], [⟨fUPD_CFG_MODE, .rwl, 0, true⟩]⟩,
  ⟨0x4, [], [⟨fUPD_STAT_STATE, .ro, 0, false⟩, ⟨fUPD_STAT_RUN_SLOT, .ro, 0, false⟩, ⟨fUPD_STAT_GOLDEN, .ro, 0, false⟩, ⟨fUPD_STAT_START_CNT, .ro, 0, false⟩, ⟨fUPD_STAT_CAUSE, .ro, 0, false⟩]⟩,
  ⟨0x8, [], [⟨fUPD_NEXT_NEXT, .ro, 0, false⟩]⟩,
  ⟨0xc, [], [⟨fUPD_RUN_VER_VERSION, .ro, 0, false⟩]⟩,
  ⟨0x10, [(0x4, 2)], [⟨fUPD_SLOT_VER_VERSION, .ro, 0, false⟩]⟩,
  ⟨0x18, [], [⟨fUPD_TRIAL_MS_MS, .ro, 0, false⟩]⟩,
  ⟨0x1c, [], [⟨fUPD_FLOOR_FLOOR, .ro, 0, false⟩]⟩]

/-! ### Block 23, CVU -/

/-- CVU_STAT (R425). -/
def rCVU_STAT (a : Nat) : Nat := 0x40170000 + 0x40 * a
def fCVU_STAT_OWNED : Fld := ⟨31, 1⟩
def fCVU_STAT_RUN : Fld := ⟨30, 1⟩
def fCVU_STAT_OWNER : Fld := ⟨28, 2⟩
def fCVU_STAT_JOBS : Fld := ⟨0, 16⟩
/-- CVU_CFG (R425). -/
def rCVU_CFG (a : Nat) : Nat := 0x40170004 + 0x40 * a
def fCVU_CFG_CFG : Fld := ⟨0, 32⟩
/-- CVU_RES_LO (R425). -/
def rCVU_RES_LO (a : Nat) : Nat := 0x40170008 + 0x40 * a
def fCVU_RES_LO_RES : Fld := ⟨0, 32⟩
/-- CVU_RES_HI (R425). -/
def rCVU_RES_HI (a : Nat) : Nat := 0x4017000C + 0x40 * a
def fCVU_RES_HI_RES : Fld := ⟨0, 32⟩
/-- CVU_POLY_LO (R425). -/
def rCVU_POLY_LO (a : Nat) : Nat := 0x40170010 + 0x40 * a
def fCVU_POLY_LO_POLY : Fld := ⟨0, 32⟩
/-- CVU_POLY_HI (R425). -/
def rCVU_POLY_HI (a : Nat) : Nat := 0x40170014 + 0x40 * a
def fCVU_POLY_HI_POLY : Fld := ⟨0, 32⟩

/-- The registers of block CVU. -/
def blkCVU : List RegDesc := [
  ⟨0x0, [(0x40, 4)], [⟨fCVU_STAT_OWNED, .ro, 0, false⟩, ⟨fCVU_STAT_RUN, .ro, 0, false⟩, ⟨fCVU_STAT_OWNER, .ro, 0, false⟩, ⟨fCVU_STAT_JOBS, .ro, 0, false⟩]⟩,
  ⟨0x4, [(0x40, 4)], [⟨fCVU_CFG_CFG, .ro, 0, false⟩]⟩,
  ⟨0x8, [(0x40, 4)], [⟨fCVU_RES_LO_RES, .ro, 0, false⟩]⟩,
  ⟨0xc, [(0x40, 4)], [⟨fCVU_RES_HI_RES, .ro, 0, false⟩]⟩,
  ⟨0x10, [(0x40, 4)], [⟨fCVU_POLY_LO_POLY, .ro, 0, false⟩]⟩,
  ⟨0x14, [(0x40, 4)], [⟨fCVU_POLY_HI_POLY, .ro, 0, false⟩]⟩]

/-! ### Block 24, CAN -/

/-- CAN_DRATUS_ID (R52). -/
def rCAN_DRATUS_ID (a : Nat) : Nat := 0x40180040 + 0x1000 * a
def fCAN_DRATUS_ID_EN : Fld := ⟨31, 1⟩
def fCAN_DRATUS_ID_XTD : Fld := ⟨30, 1⟩
def fCAN_DRATUS_ID_REQ_ID : Fld := ⟨0, 29⟩

/-- The registers of block CAN. -/
def blkCAN : List RegDesc := [
  ⟨0x40, [(0x1000, 2)], [⟨fCAN_DRATUS_ID_EN, .rwl, 0, true⟩, ⟨fCAN_DRATUS_ID_XTD, .rwl, 0, true⟩, ⟨fCAN_DRATUS_ID_REQ_ID, .rwl, 0x600, true⟩]⟩]

/-! ### Block 25, CPT -/

/-- CPT_CFG (R50). -/
def rCPT_CFG (a : Nat) : Nat := 0x40190000 + 0x100 * a
def fCPT_CFG_QUAD : Fld := ⟨0, 1⟩

/-- The registers of block CPT. -/
def blkCPT : List RegDesc := [
  ⟨0x0, [(0x100, 2)], [⟨fCPT_CFG_QUAD, .rwl, 0, true⟩]⟩]

/-- The registers of block `b` (R447); the windows of blocks 26 to 31 are reserved. -/
def blockRegs (b : Nat) : List RegDesc :=
  match b with
  | 0 => blkHUB
  | 1 => blkPLC
  | 2 => blkLYR
  | 3 => blkCMP
  | 4 => blkWRP
  | 5 => blkPHO
  | 6 => blkSCN
  | 7 => blkCPL
  | 8 => blkTIL
  | 9 => blkCHN
  | 10 => blkAUR
  | 11 => blkGAR
  | 12 => blkMOT
  | 13 => blkADC
  | 14 => blkSAF
  | 15 => blkFLT
  | 16 => blkTHM
  | 17 => blkPWR
  | 18 => blkCLK
  | 19 => blkCAL
  | 20 => blkRTC
  | 21 => blkNVM
  | 22 => blkUPD
  | 23 => blkCVU
  | 24 => blkCAN
  | 25 => blkCPT
  | _ => []

/-- The index of the instance of a register that lies `d` bytes after its first instance (R11, R447). -/
def dimIndex : List (Nat × Nat) → Nat → Option (List Nat)
  | [], d => if d = 0 then some [] else none
  | (s, c) :: rest, d =>
    if d / s < c then (dimIndex rest (d % s)).map (fun is => (d / s) :: is) else none

/-- The register assigned to offset `o` of a block, with its instance. -/
def findReg : List RegDesc → Nat → Option (RegDesc × List Nat)
  | [], _ => none
  | r :: rest, o =>
    if r.off ≤ o then
      match dimIndex r.dims (o - r.off) with
      | some is => some (r, is)
      | none => findReg rest o
    else findReg rest o

/-- The block of an address of the register space (R447). -/
def addrBlock (a : Nat) : Nat := (a - 0x40000000) / 0x10000

/-- The register at an address, if one is assigned to it (R449). -/
def regAt (a : Nat) : Option (RegDesc × List Nat) :=
  if a < 0x40000000 then none else findReg (blockRegs (addrBlock a)) ((a - 0x40000000) % 0x10000)

/-- Is the address one that a register-access packet may name (R448): aligned and in a window of blocks 0 to 25? -/
def addrOk (a : Nat) : Bool := a % 4 == 0 && decide (0x40000000 ≤ a) && decide (a < 0x401A0000)

end Sys2Proof.Machine
end

