-- ==== Sys2Proof/Machine/FaultTable.lean ====
section
/-!
DEFINITION. The fault-source table of R338: class, default reactions, fenceable, retry.
-/

namespace Sys2Proof.Machine

/-- The defaults of a fault source. `react` holds F E C B N I in bits 5 to 0, as FLT_SRC_CFG does. -/
structure SrcDef where
  cls : Nat
  react : Nat
  fenceable : Bool
  retry : Bool
  deriving DecidableEq, Repr, Inhabited

/-- One row of the table of R338: first number, number of instances, defaults. -/
def srcTable : List (Nat × Nat × SrcDef) := [
  (0, 1, ⟨4, 0x18, false, false⟩), (1, 1, ⟨1, 0x01, false, false⟩), (2, 1, ⟨4, 0x18, false, false⟩),
  (3, 7, ⟨3, 0x11, false, false⟩), (10, 4, ⟨2, 0x01, false, false⟩), (14, 1, ⟨1, 0x01, false, false⟩),
  (15, 3, ⟨3, 0x11, false, false⟩), (18, 1, ⟨2, 0x01, false, false⟩), (19, 1, ⟨1, 0x01, false, false⟩),
  (20, 2, ⟨3, 0x11, false, false⟩), (22, 2, ⟨2, 0x01, false, false⟩), (24, 12, ⟨1, 0x01, false, false⟩),
  (36, 64, ⟨2, 0x23, true, true⟩), (100, 1, ⟨0, 0, false, false⟩), (101, 24, ⟨2, 0x23, true, true⟩),
  (125, 1, ⟨2, 0x01, false, false⟩), (126, 4, ⟨1, 0x01, false, false⟩), (130, 1, ⟨0, 0, false, false⟩),
  (131, 2, ⟨1, 0x01, false, false⟩)] ++ [
  (133, 24, ⟨2, 0x21, true, true⟩), (157, 24, ⟨1, 0x01, true, true⟩), (181, 24, ⟨1, 0x01, false, false⟩),
  (205, 24, ⟨2, 0x21, true, true⟩), (229, 24, ⟨1, 0x01, false, false⟩), (253, 24, ⟨2, 0x01, true, false⟩),
  (277, 1, ⟨2, 0x01, false, false⟩), (278, 5, ⟨1, 0x01, false, false⟩), (283, 1, ⟨2, 0x01, true, false⟩),
  (284, 1, ⟨1, 0x01, false, false⟩), (285, 4, ⟨2, 0x01, true, false⟩), (289, 4, ⟨1, 0x01, true, false⟩),
  (293, 1, ⟨2, 0x01, false, false⟩), (294, 2, ⟨1, 0x01, false, false⟩), (296, 1, ⟨0, 0, false, false⟩),
  (297, 2, ⟨1, 0x01, false, false⟩), (299, 8, ⟨2, 0x01, true, false⟩), (307, 4, ⟨1, 0x01, true, false⟩),
  (311, 2, ⟨2, 0x01, false, false⟩), (313, 1, ⟨1, 0x01, false, false⟩), (314, 1, ⟨2, 0x01, false, true⟩),
  (315, 1, ⟨0, 0, false, false⟩), (316, 1, ⟨1, 0x05, false, true⟩), (317, 1, ⟨1, 0x01, false, false⟩),
  (318, 1, ⟨2, 0x01, false, false⟩), (319, 1, ⟨1, 0x01, false, false⟩)]

/-- The row of source `s` among `rows`. -/
def srcFind : List (Nat × Nat × SrcDef) → Nat → SrcDef
  | [], _ => ⟨0, 0, false, false⟩
  | (lo, n, d) :: rest, s => if lo ≤ s ∧ s < lo + n then d else srcFind rest s

/-- The defaults of source `s` (R338). -/
def srcDef (s : Nat) : SrcDef := srcFind srcTable s

/-- FLT_SRC_CFG[s] when the stored settings are absent (R351). -/
def srcCfgReset (s : Nat) : Word :=
  let d := srcDef s
  w32 (d.cls <<< 29 + d.cls <<< 26 + (if d.fenceable then 1 else 0) <<< 25 + (if d.retry then 1 else 0) <<< 24 +
    16 <<< 16 + d.react)

end Sys2Proof.Machine
end

