-- ==== Sys2Proof/Machine/Fields.lean ====
section
/-!
DEFINITION. What a write does to one register, field by field (R13 to R15, R82, R351).
-/

namespace Sys2Proof.Machine

/-- What a field holds after a write, and whether the write was refused under R15. -/
structure FldRes where
  word : Word
  refused : Bool
  deriving DecidableEq, Repr

/-- The bits of a field in their places. -/
def fldMask (f : Fld) : Word := w32 ((2 ^ f.len - 1) <<< f.lo)

/-- A field under the rules of RWL. -/
def writeRwl (may : Bool) (f : Fld) (v old : Word) : FldRes := if may then ⟨fset old f (fget v f), false⟩ else ⟨old, true⟩

/-- A field of FLT_SRC_CFG[s] whose access depends on the source (R351). -/
def writeSrc (may : Bool) (s : Nat) (f : Fld) (v old : Word) : FldRes :=
  let d := srcDef s
  if f = fFLT_SRC_CFG_CLASS then
    if 3 ≤ d.cls then ⟨old, false⟩
    else if may && decide (5 ≤ fget v f) then ⟨old, false⟩
    else writeRwl may f v old
  else if f = fFLT_SRC_CFG_F ∧ d.fenceable = false then ⟨old, false⟩
  else if f = fFLT_SRC_CFG_E ∧ 3 ≤ d.cls then ⟨old, false⟩
  else if f = fFLT_SRC_CFG_C ∧ d.cls = 4 then ⟨old, false⟩
  else writeRwl may f v old

/-- One field of a register, instance `i`. `fresh` holds what the hardware has set or counted in the present HUB cycle: a clear
leaves it (R14). -/
def writeFld (may : Bool) (i : Nat) (d : FldDesc) (fresh v old : Word) : FldRes :=
  match d.acc with
  | .rw => ⟨fset old d.fld (fget v d.fld), false⟩
  | .ro => ⟨old, false⟩
  | .w1c => ⟨old &&& ~~~(v &&& ~~~ fresh &&& fldMask d.fld), false⟩
  | .w1t => ⟨if bit v (d.fld.lo + d.fld.len - 1) then fset old d.fld (fget fresh d.fld) else old, false⟩
  | .w1s => ⟨old ||| (v &&& fldMask d.fld), false⟩
  | .wo => ⟨old, false⟩
  | .wol => ⟨old, !may⟩
  | .rwl => writeRwl may d.fld v old
  | .ro0 => if i = 0 then ⟨old, false⟩ else writeRwl may d.fld v old
  | .src => writeSrc may i d.fld v old

/-- Every field of a register. -/
def writeFlds (may : Bool) (i : Nat) (flds : List FldDesc) (fresh v old : Word) : FldRes :=
  flds.foldl (fun r d =>
    let x := writeFld may i d fresh v r.word
    ⟨x.word, r.refused || x.refused⟩) ⟨old, false⟩

end Sys2Proof.Machine
end

