-- ==== Sys2Proof/Machine/Tab.lean ====
section
/-!
DEFINITION. Sparse tables keyed by a number: lists of (key, value) with keys strictly rising and no entry equal to the
value an unlisted key reads as. Registers, buffer bytes and the per-tile, per-port and per-group records are held so.
-/

namespace Sys2Proof.Machine

/-- A sparse table. -/
abbrev Tab (α : Type) := List (Nat × α)

/-- The value at `k`; `d` where nothing is listed. -/
def tget {α : Type} (d : α) : Tab α → Nat → α
  | [], _ => d
  | (j, v) :: rest, k => if j = k then v else tget d rest k

/-- The table with the entry (`k`, `v`) in its place. -/
def tset {α : Type} : Tab α → Nat → α → Tab α
  | [], k, v => [(k, v)]
  | (j, x) :: rest, k, v =>
    if j = k then (k, v) :: rest
    else if k < j then (k, v) :: (j, x) :: rest
    else (j, x) :: tset rest k v

/-- The table with `v` at `k`, an entry equal to `d` left out. What is read at `k` afterwards is `v`, and at every other key what was
read there before, whatever the table. -/
def tput {α : Type} [DecidableEq α] (d : α) (t : Tab α) (k : Nat) (v : α) : Tab α :=
  if v = d then t.filter (fun e => e.1 != k) else tset t k v

/-- Keys strictly rise from `lo` on, and no value is `d`. -/
def twfFrom {α : Type} [DecidableEq α] (d : α) : Nat → Tab α → Bool
  | _, [] => true
  | lo, (k, v) :: rest => decide (lo ≤ k) && decide (v ≠ d) && twfFrom d (k + 1) rest

/-- The canonical form of a table. -/
def twf {α : Type} [DecidableEq α] (d : α) (t : Tab α) : Bool := twfFrom d 0 t

/-- The table without the keys from `lo` up to but not including `hi`. -/
def tdrop {α : Type} (lo hi : Nat) (t : Tab α) : Tab α :=
  t.filter (fun e => decide (e.1 < lo) || decide (hi ≤ e.1))

end Sys2Proof.Machine
end

