-- ==== Sys2Proof/Machine/State.lean ====
section
/-!
DEFINITION. What the block holds (INVENTORY.md lists it), as plain data, and the state after reset.
-/

namespace Sys2Proof.Machine

/-! ### Hosts: contexts, queues and replies -/

/-- A reply or event packet as the device sends it (R40, R43, R86). -/
structure OutPkt where
  path : Nat := 0
  ver : Nat := 1
  op : Nat := 0
  flags : Nat := 0
  host : Nat := 0
  queue : Nat := 0
  seq : Nat := 0
  status : Nat := 0
  params : List Word := []
  deriving DecidableEq, Repr, Inhabited

/-- A reply or event that waits on a path which the host reads (CPT0, CPT1; R47, R86). -/
inductive OutItem where
  | reply (r : OutPkt)
  | event (ctx path code : Nat) (data : List Word)
  deriving DecidableEq, Repr, Inhabited

/-- A CAN FD frame that the device sends (R51): controller, identifier and its format, the data bytes with their padding. -/
structure CanOut where
  t : Nat := 0
  can : Nat := 0
  xtd : Bool := false
  id : Nat := 0
  bytes : List Nat := []
  deriving DecidableEq, Repr, Inhabited

/-- One command queue of a context (R57 to R59). -/
structure QueueRec where
  expected : Nat := 0
  /-- some packet has been accepted since the context was opened -/
  any : Bool := false
  /-- the last reply sent, kept for a duplicate (R59) -/
  stored : Option OutPkt := none
  /-- the last accepted packet has an opcode that only reads -/
  reads : Bool := false
  /-- the last accepted packet was answered PENDING -/
  pend : Bool := false
  deriving DecidableEq, Repr, Inhabited

/-- The event state of a context that no register shows (R86). -/
structure CtxRec where
  evtSeq : Nat := 0
  ovf : Bool := false
  deriving DecidableEq, Repr, Inhabited

/-- What identifies the reply to a packet (R43). -/
structure ReplyTo where
  path : Nat := 0
  ver : Nat := 1
  op : Nat := 0
  host : Nat := 0
  queue : Nat := 0
  seq : Nat := 0
  noAck : Bool := false
  deriving DecidableEq, Repr, Inhabited

/-- A packet that has arrived and waits: before acceptance (a CPT, CAN or port buffer) or after it (its queue). -/
structure Held where
  instr : Instr
  /-- what identifies its reply -/
  dest : ReplyTo
  accepted : Bool
  path : Nat
  ctx : Nat
  queue : Nat
  topaz : Bool
  cls : Nat
  barrier : Bool
  bytes : Nat
  /-- the packet has arrived in an activation pause (R406) -/
  paused : Bool := false
  deriving DecidableEq, Repr

/-- An outstanding REG_POLL (R80). -/
structure PollRec where
  dest : ReplyTo := {}
  addr : Nat := 0
  mask : Word := 0
  expect : Word := 0
  last : Word := 0
  endsAt : Nat := 0
  deriving DecidableEq, Repr, Inhabited

/-- The operations that answer PENDING, and the TIMING_SET that answers at its latch (R63, R64). -/
inductive PendKind where
  | wear | eye | inject | verify | cal | cv | map | timing
  deriving DecidableEq, Repr, Inhabited

/-- An outstanding operation; `key` names the port, tile, unit or group. Nobody is answered once the context has been opened
again (R72). -/
structure PendRec where
  kind : PendKind := .wear
  key : Nat := 0
  dest : Option ReplyTo := none
  deriving DecidableEq, Repr, Inhabited

/-- The part of a CPT target that READ_STAT shows (R48). -/
structure CptRec where
  ovf : Bool := false
  err : Bool := false
  deriving DecidableEq, Repr, Inhabited

/-- The Dratus byte stream of a host port (R44, R211): the bytes received of packets that are not complete, and whether the
receiver is searching for a header (R56). -/
structure RxRec where
  buf : List Nat := []
  lost : Bool := false
  deriving DecidableEq, Repr, Inhabited

/-! ### Faults -/

/-- A closed fault record (R340, R350). -/
structure LogRec where
  src : Nat := 0
  cls : Nat := 0
  fcls : Nat := 0
  merged : Nat := 0
  last : Nat := 0
  det : Word := 0
  timeMs : Nat := 0
  uncertain : Bool := false
  openMs : Nat := 0
  fatal : Bool := false
  deriving DecidableEq, Repr, Inhabited

/-- A fault retry under way (R337). -/
structure RetryRec where
  src : Nat := 0
  det : Word := 0
  at_ : Nat := 0
  /-- signatures compared since, and whether one of them disagreed -/
  frames : Nat := 0
  bad : Bool := false
  deriving DecidableEq, Repr, Inhabited

/-- The state of Jasper that its registers do not show (R331 to R350). -/
structure FltState where
  /-- calendar time and instant at which the record in FLT_FIRST_* opened -/
  openMs : Nat := 0
  openUnc : Bool := false
  openAt : Nat := 0
  lastMerge : Nat := 0
  /-- the class of the fault in FLT_FIRST_SRC.LAST (R341), and the HUB cycle, plus one, in which the FATAL latch was set (R348) -/
  lastCls : Nat := 0
  fatalAt : Nat := 0
  logQ : List LogRec := []
  retries : List RetryRec := []
  /-- RUN-time instants of the transients of each source within the last 3,600 s (R337) -/
  trans : Tab (List Nat) := []
  /-- RUN-time instants of the corrected errors of each DRAM region (R339) -/
  corr : Tab (List Nat) := []
  /-- ERR_N is low only because Jasper's first register scan is awaited (R344) -/
  errStart : Bool := true
  errLowAt : Nat := 0
  /-- sources whose reaction I is held back while Topaz is reset (R349) -/
  heldI : List Nat := []
  /-- the record copied into the AON domain (R348, R363), and whether a start since has found the FATAL latch clear -/
  aonRec : Option LogRec := none
  aonDue : Bool := false
  dramLost : Bool := false
  /-- monitored clocks outside ±5 %, one bit each: SYS, HUB, PIX, PER, MEM (R327) -/
  clkBad : Nat := 0
  limpBad : Bool := false
  ackHigh : Bool := false
  /-- tiles whose LIMP bit disagrees with LIMP_N (R262) -/
  limpDiff : Nat := 0
  /-- tiles fenced under R346 -/
  opalTiles : Nat := 0
  /-- units whose fence or block reset falls due at the end of the command (R333), and the RESTART cause of a chip
  reset that does: 2 for a FATAL source or reaction C, 7 for SYSTEM_RESET and the restart form of ACTIVATE -/
  due : List (Nat × Word) := []
  dueReset : Option Nat := none
  deriving DecidableEq, Repr, Inhabited

/-! ### Safety (Onyx) -/

/-- A safety input: consecutive failed test-pulse periods per channel, a rate violation, since when the channels differ. -/
structure SafIn where
  failA : Nat := 0
  failB : Nat := 0
  rateBad : Bool := false
  differAt : Nat := 0
  /-- the raw levels of channels A and B, and since when each has been stable -/
  rawA : Bool := false
  rawB : Bool := false
  aAt : Nat := 0
  bAt : Nat := 0
  /-- the end of the last 100 ms window that has been judged (R459) -/
  ratedAt : Nat := 0
  deriving DecidableEq, Repr, Inhabited

/-- The state of Onyx that its registers do not show. -/
structure SafState where
  /-- the conditions of the causes of R311 that are present, bit by bit -/
  cond : Nat := 1
  /-- the SAF cycle in which each latched cause was last recorded, plus one (R313) -/
  recAt : Tab Nat := []
  /-- a qualified SAF_ACK edge has arrived since start (R324) -/
  ackSeen : Bool := false
  /-- when that edge took effect, and the last SAF tick (R312, R313) -/
  ackAt : Nat := 0
  tickAt : Nat := 0
  selfTested : Bool := false
  /-- the state of banks 0 and 1 has been restored after DEEP, so that the self-test loads nothing (R378) -/
  restored : Bool := false
  /-- groups started at B7 that have not yet sent frame 1 (R311 bit 0); `started` once B7 has run -/
  awaitFrame : Nat := 0
  started : Bool := false
  unprov : Option Nat := none
  replyCnt : Nat := 0
  /-- LAST_SEQ and SYNC of the built-in provisioning producer (R318) -/
  provLast : Nat := 0
  provSync : Bool := true
  /-- the instant at which each producer was last renewed -/
  renewed : Tab Nat := []
  ins : Tab SafIn := []
  /-- per test-pulse output, the end of the last pulse that has been judged (R323) -/
  pulseAt : Tab Nat := []
  /-- when each output was last switched (R324) -/
  drivenAt : Tab Nat := []
  /-- outputs that the last OUTPUT object switched off (R324) -/
  offBy : Nat := 0
  /-- outputs whose pin stays high, and whose feedback is wrong -/
  pinHigh : Nat := 0
  hb : Option Nat := none
  hbAt : Nat := 0
  /-- Onyx has suspended the heartbeat check for an activation pause (R406) -/
  hbPaused : Bool := false
  topazDown : Bool := false
  /-- the first heartbeat after a Topaz reset has not yet come (R326) -/
  hbAwait : Bool := false
  /-- the pins as they stand: LIMP_N high, SOUT0 and SOUT1 (bits 0 and 1) -/
  limpHigh : Bool := false
  deriving DecidableEq, Repr, Inhabited

/-! ### Power and time -/

/-- A power-state entry under way (R371): target, the state it began from, the step reached (1 to 6) and the wake seen. -/
structure EntryRec where
  target : Nat := 2
  fromIdle : Bool := false
  step : Nat := 1
  wake : Option Nat := none
  deriving DecidableEq, Repr, Inhabited

/-- A register write on its way to the AON domain (R31): whether RWL fields may be written, the address, the word. -/
structure AonWr where
  may : Bool
  addr : Nat
  word : Word
  deriving DecidableEq, Repr

/-- What is held on the fabric while a write crosses to the AON domain (R31): further writes, and the reply of a packet whose writes are
held before it (R60, R61). -/
inductive AonItem where
  | write (w : AonWr)
  | reply (dest : ReplyTo) (status : Nat) (params : List Word)
  deriving DecidableEq, Repr

/-- The device's power condition: 0 RUN, 1 IDLE, 2 SLEEP, 3 DEEP, 4 OFF, 5 thermal hold, 6 held in reset or unpowered. -/
structure PwrState where
  st : Nat := 0
  entry : Option EntryRec := none
  /-- a wake that occurred after AP3: exit starts as soon as the state has been reached (R373) -/
  exiting : Bool := false
  runAcc : Nat := 0
  runSince : Nat := 0
  /-- instants at which the HUB and the SAF clock last started (R459) -/
  hubAt : Nat := 0
  safAt : Nat := 0
  /-- RESET_N is low until this instant; it alone still holds the device in reset (R433, R435) -/
  rstLow : Nat := 0
  pinHeld : Bool := false
  /-- calendar: value in ms at the instant `rtcAt` (R385) -/
  rtcMs : Nat := 0
  rtcAt : Nat := 0
  /-- the crystal has stopped, and with it the calendar (R384, R385) -/
  rtcStopped : Bool := false
  rtcStaged : Nat := 0
  rtcHi : Option Nat := none
  /-- AON counter: value at the instant `aonAt` (R387) -/
  aonCnt : Nat := 0
  aonAt : Nat := 0
  aonHi : Option Nat := none
  aonBusyTo : Nat := 0
  /-- writes that are held until those before them have crossed, and the replies that wait for them (R31) -/
  aonQ : List AonItem := []
  /-- the end of the last 10 ms window whose load has been published (R76, R459) -/
  loadAt : Nat := 0
  /-- calendar time and AON count recorded at E6 (R388) -/
  recMs : Nat := 0
  recAon : Nat := 0
  vaonLost : Bool := false
  /-- the last calendar time stored in Beryl (R388) -/
  berylMs : Nat := 0
  deriving DecidableEq, Repr, Inhabited

/-! ### Thermal management -/

/-- The state of the thermal block that its registers do not show (R352 to R365). -/
structure ThmState where
  /-- base B of the model, in 1/16 °C, the end of the last 1 s window in which it was computed, and the filtered power of region j for
  sensor k in 1/65,536 mW, keyed 6k + j (R354) -/
  base : Int := 0
  baseAt : Nat := 0
  filt : Tab Nat := []
  /-- the instant of the last sample; since when more, and no more, than half the sensors differ from their estimates -/
  sampledAt : Nat := 0
  badSince : Option Nat := none
  goodSince : Option Nat := none
  /-- readings or substitutes of the samples of the last 100 ms and the one before, newest first, with their instants (R357) -/
  hist : List (Nat × List Int) := []
  /-- consecutive suspect samples by sensor, and the sensors that failed in SLEEP, whose source is raised at the wake (R355, R376) -/
  suspect : Tab Nat := []
  late : Nat := 0
  /-- a rise above RISE_MAX in the last sample, when one was last seen, and when T_gov was last at T_ON − 12 °C or above -/
  fastRise : Bool := false
  riseAt : Option Nat := none
  hotAt : Option Nat := none
  /-- excursions open, bit 0 above the onset and bit 1 above T_FLOOR, and since when T_gov has been 2 °C or more below (R352) -/
  exc : Nat := 0
  below : Tab Nat := []
  /-- since when T_gov has been below T_FLOOR − 5 °C -/
  coolSince : Option Nat := none
  /-- the instant of the last loosening step of G and F (R359) -/
  looseAt : Nat := 0
  shutHits : Nat := 0
  /-- shutdown decided, the held domains not yet stopped (R363 steps 1 to 3) -/
  shutting : Bool := false
  /-- the instant of that decision -/
  shutAt : Nat := 0
  holdCool : Option Nat := none
  /-- calendar time in ms of the first shutdown of the present series (R365, R388) -/
  series : Option Nat := none
  demand : Tab Nat := []
  deriving DecidableEq, Repr, Inhabited

/-! ### The Beryl store, update and calibration -/

/-- What a settings area holds (R398). `regs`: the registers with an NV field, by address, where they differ from the absent
value. `banks`: coefficient banks, keyed 2 × loop + bank, and `active` the loops whose bank B is active. `progs`: the words of
AUR_PROG and AUR_GAMMA by address; `lens`: the lengths of the programs; `others`: records unknown to the firmware, as tag and words.
`magic`, `len` and `crc` are those of the header. -/
structure Settings where
  magic : Nat := 0x5E771A6B
  fmt : Nat := 0
  gen : Nat := 0
  len : Nat := 0
  crc : Word := 0
  others : List (Nat × List Word) := []
  regs : Tab Word := []
  curves : Tab (List Nat) := []
  banks : Tab (List Nat) := []
  active : Nat := 0
  members : Tab (List Nat) := []
  progs : Tab Word := []
  lens : Tab Nat := []
  deriving DecidableEq, Repr, Inhabited

/-- A firmware slot (R401): header bytes, body bytes and verification mark; `fresh`: verified and not activated since (R410). -/
structure SlotRec where
  header : List Byte := []
  body : List Byte := []
  mark : Bool := false
  fresh : Bool := false
  deriving DecidableEq, Repr, Inhabited

/-- A copy of the boot record (R397). -/
structure BootRec where
  gen : Nat := 0
  active : Nat := 0
  trial : Option Nat := none
  startCnt : Nat := 0
  trialMs : Nat := 0
  floor : Nat := 0
  deriving DecidableEq, Repr, Inhabited

/-- A copy of the persistent fences (R347, R393): Opal engines, DRAM regions, retention banks, and the request to clear them at the next
start. -/
structure FenceRec where
  gen : Nat := 0
  opal : Nat := 0
  dram : Nat := 0
  bank : Nat := 0
  clear : Bool := false
  deriving DecidableEq, Repr, Inhabited

/-- Consecutive records of the journal (R392): the first line that they write, in lines of 64 bytes from the start of Beryl (R390), their
number, the sequence of the first, the instant, and whether the last stands OPEN. Their new bytes are what the areas hold. -/
structure JrnRec where
  line : Nat
  n : Nat
  seq : Nat
  t : Nat
  opened : Bool
  deriving DecidableEq, Repr, Inhabited

/-- A calibration record (R419): its header, the words of the block of each item by the item's bit, and the check word. `mask` is the item
mask, `len` the length of the blocks in bytes. -/
structure CalRec where
  magic : Nat := 0xCA1B0A7E
  fmt : Nat := 1
  origin : Nat := 0
  mask : Nat := 0
  gen : Nat := 0
  uid : Nat := 0
  time : Nat := 0
  len : Nat := 0
  blocks : Tab (List Word) := []
  crc : Word := 0
  deriving DecidableEq, Repr, Inhabited

/-- The words of an item's block (R413, R419). DESIGN CHOICE: per instance of CAL_RES, in its order, the stored values and then the residual:
item 0 OFS and GAIN as in CAL_ADC; item 1 the gain; item 2 offset and gain as halves, θ of the six regions, τ; item 3 the trim and the
frequency in Hz; item 4 codes 0 to 23 of CPL_TRIM for the transmitter of a port, 24 to 47 for its receiver; item 5 the eye word of each
port and no residual. -/
def calItemWords : List Nat := [48, 44, 108, 12, 1200, 24]

/-- The header and the blocks of a record, as bytes (R419). -/
def calBytes (r : CalRec) : List Nat :=
  let le (n v : Nat) : List Nat := (List.range n).map (fun k => v / 256 ^ k % 256)
  let head := le 4 r.magic ++ le 2 r.fmt ++ [r.origin % 256, r.mask % 256] ++ le 4 r.gen ++ le 8 r.uid ++ le 8 r.time ++ le 4 r.len ++ List.replicate 32 0
  head ++ (List.range 6).flatMap (fun i =>
    if r.mask.testBit i then
      let ws := tget [] r.blocks i
      le 4 (i * 2 ^ 24 + ws.length) ++ wordsBytes ws
    else [])

/-- The check word of a record (R419). -/
def calCrc (r : CalRec) : Word := BitVec.ofNat 32 (crc crc32c (calBytes r))

/-- A record with its length and its check word. -/
def calSealed (r : CalRec) : CalRec :=
  let r := { r with len := (((List.range 6).filter (fun i => r.mask.testBit i)).map (fun i => 4 + 4 * (tget [] r.blocks i).length)).sum }
  { r with crc := calCrc r }

/-- The factory record (R419). DESIGN CHOICE: it holds items 0 to 4; the eye of a port is no factory item. -/
def factoryRecord : CalRec :=
  calSealed { mask := 0x1F, uid := Config.uid, time := (Config.factoryWord 6 0).toNat + (Config.factoryWord 6 1).toNat % 2 ^ 16 * 2 ^ 32,
              blocks := (List.range 5).map (fun i => (i, (List.range (calItemWords.getD i 0)).map (Config.factoryWord i))) }

/-- A compliance map set (R174): geometry, zone words, MAP_CRC, PERSIST. -/
structure MapSet where
  w : Nat := 0
  h : Nat := 0
  zones : List Word := []
  crc : Word := 0
  persist : Bool := false
  deriving DecidableEq, Repr, Inhabited

/-- A slice of a wear map in external flash (R161): its pass and its counters, keyed as in the wear map. -/
structure WearSlice where
  pass : Nat := 0
  cells : Tab Nat := []
  deriving DecidableEq, Repr, Inhabited

/-- The contents of the Beryl store and of the external flash that outlive a reset. -/
structure NvmState where
  setA : Option Settings := none
  setB : Option Settings := none
  /-- the lock line: LOCKED and LOCK_CNT (R452) -/
  lock : Option (Bool × Nat) := none
  /-- the two copies of the persistent fences (R347, R382) and of the boot record (R397): one that fails its check is none -/
  fence0 : Option FenceRec := some {}
  fence1 : Option FenceRec := none
  boot0 : Option BootRec := some {}
  boot1 : Option BootRec := none
  /-- at delivery slot 0 holds the image of Config.baseBody, which an empty header stands for -/
  slot0 : SlotRec := { mark := true }
  slot1 : SlotRec := {}
  /-- fault-log entries by number, eight words each (R350), and the start counter -/
  log : Tab (List Word) := []
  starts : Nat := 0
  safHead : Nat := 0
  genHead : Nat := 2048
  safAny : Bool := false
  genAny : Bool := false
  /-- the factory record and the integrator copies (R419) -/
  calFactory : Option CalRec := some factoryRecord
  cal0 : Option CalRec := none
  cal1 : Option CalRec := none
  /-- external flash: uniformity codes by tile, persistent map sets (4 × tile + mode), the wear table's bytes, the wear
  slices of both copies (copy × 2^16 + 64 × tile + slice), and the number of the current pass -/
  unif : Tab (List Nat) := []
  maps : Tab MapSet := []
  wearTab : List Nat := []
  wear : Tab (Option WearSlice) := []
  wearPass : Nat := 0
  /-- the two copies of the flash directory: generation, and the geometries of the tiles that it lays out (R400) -/
  dir0 : Option (Nat × List (Nat × Nat)) := none
  dir1 : Option (Nat × List (Nat × Nat)) := none
  /-- Beryl sectors of 4 KiB by number: corrected reads over the life, those with a lasting uncorrectable read, both copies of the table
  of the spares that replace the remapped ones, and how many spares are taken (R393) -/
  ceReads : Tab Nat := []
  ueSectors : List Nat := []
  remap : Tab Nat := []
  remap1 : Tab Nat := []
  spares : Nat := 0
  /-- the journal, newest first, of 2,048 records at most, and the sequence of the next record (R392) -/
  jrn : List JrnRec := []
  jrnSeq : Nat := 0
  deriving DecidableEq, Repr, Inhabited

/-- An update in progress (R402 to R408). -/
structure UpdState where
  /-- words of a delta record that spans packets, and the bytes taken from the stream so far -/
  part : List Word := []
  /-- an activation pause: the instant of P2, and whether Topaz has been reset (R406) -/
  pause : Option Nat := none
  pauseReset : Bool := false
  /-- RUN time at which TRIAL_MS was last brought up to date -/
  trialAt : Nat := 0
  booted : Bool := false
  /-- the instant of step B5 of the start (R396) -/
  bootAt : Nat := 0
  deriving DecidableEq, Repr, Inhabited

/-- A check-value unit (R422 to R425). -/
structure CvRec where
  reg : Nat := 0
  cfg : CrcCfg := ⟨0, 0, 0, false, false, 0⟩
  keep : Bool := false
  handle : Nat := 0
  off : Nat := 0
  len : Nat := 0
  fold : Nat := 0
  foldWord : Word := 0
  deriving DecidableEq, Repr, Inhabited

/-! ### Ports -/

/-- A block that the device has sent (R209 to R212). -/
structure TxBlk where
  t : Nat := 0
  port : Nat := 0
  type : Nat := 0
  seq : Nat := 0
  words : List Word := []
  deriving DecidableEq, Repr, Inhabited

/-- The state of a port that its registers do not show (R220 to R243). -/
structure PortRec where
  /-- consecutive training failures (R230) -/
  fails : Nat := 0
  /-- the port has left UP and is not yet in UP again (R336) -/
  lost : Bool := false
  upSince : Nat := 0
  losAt : Option Nat := none
  detectAt : Nat := 0
  trainAt : Nat := 0
  /-- line bits of the TRAIN_SEQ blocks sent since 2 µs after the entry to TRAIN (R230), or of the TEST blocks sent in LOOP (R235) -/
  trainBits : Nat := 0
  /-- TRAIN_SEQ blocks since the entry to TRAIN or RESYNC, and the instant of alignment -/
  seqs : Nat := 0
  alignAt : Option Nat := none
  rxOk : Bool := false
  rxOkAt : Nat := 0
  idleReqAt : Option Nat := none
  rxIdleAt : Nat := 0
  exitAt : Nat := 0
  /-- TRAIN markers of the burst in progress -/
  markers : Nat := 0
  resyncAt : Nat := 0
  failedAt : Nat := 0
  txIdleAt : Nat := 0
  lastTx : Nat := 0
  partnerMax : Nat := 0
  seqIn : Option Nat := none
  seqOut : Nat := 0
  /-- number of the TEST block that the checker expects next, and of the one that is sent next (R235) -/
  testN : Nat := 0
  testOut : Nat := 0
  /-- the loopback mode that LOOP carries, and the instant from which it carries data (R233) -/
  loopMode : Nat := 0
  loopUp : Option Nat := none
  /-- blocks other than FILL sent since the last FILL (R219) -/
  runOut : Nat := 0
  /-- blocks other than FILL received since the last FILL (R220), and qualifying blocks since the last step of the CTLE (R226) -/
  noFill : Nat := 0
  eqN : Nat := 0
  /-- the instant at which LOL asserted last (R222) -/
  lolAt : Option Nat := none
  /-- the 1 ms window of the last errored block, its errored blocks, and whether their excess has been taken (R222, R459) -/
  errIx : Nat := 0
  errN : Nat := 0
  errHit : Bool := false
  /-- the LRX cycle of the last event of R231 that was taken, and its place in the list of R232 -/
  evCycle : Nat := 0
  evRank : Nat := 0
  deriving DecidableEq, Repr, Inhabited

/-! ### Tiles -/

/-- An identity exchange with a tile on a port (R255, R258). `stage`: 1 IDENT awaited, 2 AUTH_RESP awaited, 3 signature
being verified, 4 identified and waiting for the latch (R242). -/
structure Exchange where
  port : Nat := 0
  stage : Nat := 0
  tries : Nat := 0
  sentAt : Nat := 0
  mseq : Nat := 0
  nonce : List Word := []
  sigWords : List Word := []
  /-- words of the IDENT report taken, and POLICY as it stood when the exchange began (R260) -/
  ident : List Word := []
  generic : Bool := false
  deriving DecidableEq, Repr, Inhabited

/-- A dead-pixel list under assembly (R250). -/
structure DeadAsm where
  total : Nat := 0
  startAt : Nat := 0
  parts : Tab (List (Nat × Nat)) := []
  deriving DecidableEq, Repr, Inhabited

/-- The state of a logical tile that its registers do not show (R246 to R263). -/
structure TileRec where
  known : Bool := false
  /-- payloads of the messages that wait for a sync or porch line (R219, R248) -/
  msgQ : List (List Word) := []
  /-- the words of the IDENT that the tile was recorded from, or placed on in generic mode (R247, R253, R264), and the certificate recorded
  once it has been verified (R255) -/
  ident : List Word := []
  cert : List Word := []
  /-- the port that carries the tile, once one has -/
  carry : Option Nat := none
  /-- the state before SILENT, and the state that the last authentication gave (READY 3 or GENERIC 4) -/
  before : Nat := 3
  authGave : Nat := 3
  ex : Option Exchange := none
  /-- the identity checks on other ports of the tile (R247), in order -/
  checks : List Exchange := []
  noIdAt : Nat := 0
  healthAt : Nat := 0
  tempAt : Option Nat := none
  /-- the last TEMP received, plausible or not, and its instant (R250) -/
  lastTemp : Option (Int × Nat) := none
  noUpAt : Nat := 0
  failAt : List Nat := []
  downAt : List Nat := []
  /-- REFUSED until the next start: three failures within 10 s, or R263 -/
  stuck : Bool := false
  unstable : Bool := false
  /-- (KIND, RSEQ, PART) of the last 16 reports taken (R251) -/
  recent : List (Nat × Nat × Nat) := []
  /-- reports taken in the present 1 ms window, and flood discards in the present 1 s window (R252) -/
  win : Nat × Nat := (0, 0)
  flood : Nat × Nat := (0, 0)
  /-- the flood of the present window has been raised -/
  flooded : Bool := false
  /-- dead-pixel lists under assembly, by LIST_GEN -/
  asms : Tab DeadAsm := []
  /-- ports on which another SERIAL was presented (R247), as a bit set -/
  badPorts : Nat := 0
  mseqOut : Nat := 0
  mode : Option Nat := none
  /-- scan-out to the tile resumes at the next latch of its group -/
  resume : Bool := false
  deriving DecidableEq, Repr, Inhabited

/-! ### Control loops and motors -/

/-- The states of one control loop (R286), signed 16.16, the second axis of a current loop, its two banks as images of
688 bytes (R288), and the swap instant (tick, sample) when one is scheduled (R290). -/
structure LoopRec where
  i : Int := 0
  d : Int := 0
  ePrev : Int := 0
  uPrev : Int := 0
  rPrev : Int := 0
  i2 : Int := 0
  d2 : Int := 0
  ePrev2 : Int := 0
  uPrev2 : Int := 0
  bankA : List Nat := []
  bankB : List Nat := []
  swapAt : Option (Nat × Nat) := none
  deriving DecidableEq, Repr, Inhabited

/-- A motor channel beyond its registers (R293 to R301). -/
structure MotRec where
  count : Int := 0
  endStop : Int := 0
  /-- the code that the encoder or Hall pins show, since when each of the three shows its level, and the code behind the glitch filter (R429) -/
  pinCode : Nat := 0
  pinAt : List Nat := [0, 0, 0]
  pinFilt : Nat := 0
  /-- the last code taken into the count, the last 10 count changes with their instants, and the instants of the last
  encoder errors (R295) -/
  encCode : Nat := 0
  changes : List (Nat × Int) := []
  errAt : List Nat := []
  /-- encoder count at the previous tick, whether it has moved since the tick before, and for how many ticks it has not -/
  prevCount : Int := 0
  moved : Bool := false
  still : Nat := 0
  frz : Nat := 0
  /-- reference and error of the last sample of the outer loop, in 16.16 (R298), and the target as SLEW lets it move (R301) -/
  outR : Int := 0
  outE : Int := 0
  ref : Int := 0
  heldPos : Int := 0
  homeAt : Nat := 0
  zu : Nat := 0
  zv : Nat := 0
  iq : Int := 0
  /-- the current reference from the outer loop, and the one that takes effect at T + 500 µs -/
  iref : Int := 0
  irefNext : Int := 0
  /-- the compare values in force and those of the period before, the shadow that takes effect at the next PWM period, and the start of the
  present one (R285, R293) -/
  duty : Nat × Nat × Nat := (0, 0, 0)
  dutyWas : Nat × Nat × Nat := (0, 0, 0)
  shadow : Nat × Nat × Nat := (0, 0, 0)
  pwmAt : Nat := 0
  /-- what the current sample of the present period replaced: the loop's states, the shadow and CONSEC (R292) -/
  before : Option (LoopRec × (Nat × Nat × Nat) × Nat) := none
  gates : Bool := false
  brake : Bool := false
  /-- the zero codes are to be taken at the next conversion -/
  zeroing : Bool := false
  cmdPos : Int := 0
  cmdSpeed : Nat := 0
  /-- loop 8's target for a levelling channel, and the position held in ELECTRONIC -/
  level : Int := 0
  elecPos : Option Int := none
  reconfig : Bool := false
  deriving DecidableEq, Repr, Inhabited

/-- A test injection (R302). -/
structure InjRec where
  lp : Nat := 0
  point : Nat := 0
  signal : Nat := 0
  ampl : Int := 0
  freq : Nat := 0
  samples : Nat := 1
  decim : Nat := 1
  n : Nat := 0
  prbs : Nat := 0x1FF
  deriving DecidableEq, Repr, Inhabited

/-- An ADC channel beyond its registers: consecutive conversions outside its limits, instant of the last one. -/
structure AdcRec where
  outs : Nat := 0
  at_ : Option Nat := none
  deriving DecidableEq, Repr, Inhabited
/-! ### Chain ports, function groups, Aurora engines -/

/-- What waits for the next t0 (R273, R281). -/
inductive ChnStage where
  | host (ch v : Nat)
  | members (g : Nat) (list : List Nat)
  | prog (e : Nat) (words : List Word)
  | gamma (words : List Word)
  deriving DecidableEq, Repr, Inhabited

/-- An Aurora engine within its instruction (R274): ticks done, the slot levels at its start, the counts of its LOOPs. -/
structure AurRec where
  j : Nat := 0
  start : List Nat := []
  loops : Tab Nat := []
  len : Nat := 0
  deriving DecidableEq, Repr, Inhabited

/-- One chain channel in diagnosis (R270, R277). -/
structure ChanRec where
  echo : Nat := 0
  openN : Nat := 0
  shortN : Nat := 0
  isOpen : Bool := false
  isShort : Bool := false
  /-- the present run of captures has confirmed OPEN, SHORT -/
  openHit : Bool := false
  shortHit : Bool := false
  /-- with a duty above 0: updates since it rose or since a used capture showed DIAG_VALID; and whether the channel is undiagnosable -/
  noDiag : Option Nat := none
  undiag : Bool := false
  /-- a used capture since the last probe instant, other than the probe's own, has shown DIAG_VALID; the update that probed last -/
  seen : Bool := false
  probedAt : Option Nat := none
  deriving DecidableEq, Repr, Inhabited

/-- The chain block (R266 to R280). Devices are keyed 32 × port + position, channels by their global number. -/
structure ChnState where
  tick : Nat := 0
  stage : List ChnStage := []
  /-- host values, DUTY × 256 + CURRENT -/
  host : Tab Nat := []
  /-- members of each group in slot order, COLOUR × 4,096 + channel -/
  members : Tab (List Nat) := []
  /-- levels, 64 × engine + slot -/
  levels : Tab Nat := []
  eng : Tab AurRec := []
  /-- frames sent in the last update and frames returned in it, header first and then channels 0 to 23 -/
  out : Tab (List Nat) := []
  ret : Tab (List Nat) := []
  /-- updates since the port was enabled, and consecutive updates in which every frame passed -/
  upd : Tab Nat := []
  good : Tab Nat := []
  /-- per device: consecutive failing updates, and the last TEMP (code + 1) with its instant -/
  fails : Tab Nat := []
  temps : Tab (Nat × Nat) := []
  chans : Tab ChanRec := []
  /-- for each trim, the consecutive colour samples that left it at TRIM_MIN -/
  clrMin : List Nat := [0, 0, 0]
  deriving DecidableEq, Repr, Inhabited

/-! ### The layer pool, layers and the pixel path -/

/-- A buffer, by INDEX (R92 to R103). `gen` is the generation of the INDEX once it has been used; `due` says that the
release instant of a retiring buffer has come (R104); `times` holds, for each 8-row band, the µs of its last write, plus
one (R132). -/
structure BufRec where
  used : Bool := false
  gen : Option Nat := none
  ctx : Nat := 0
  fmt : Nat := 0
  w : Nat := 0
  h : Nat := 0
  size : Nat := 0
  retiring : Bool := false
  due : Bool := false
  damaged : Bool := false
  times : Tab Nat := []
  deriving DecidableEq, Repr, Inhabited

/-- A layer, by INDEX (R92, R108 to R112): descriptor words and buffer in the pending and the committed set, and those
of a commit that joins the committed set only after the next latch (R196). The active ones are in LYR_DESC_*. -/
structure LayRec where
  used : Bool := false
  gen : Option Nat := none
  ctx : Nat := 0
  retiring : Bool := false
  /-- the layer has left the stacks since it retires (R111) -/
  left : Bool := false
  due : Bool := false
  blocks : Nat := 0
  pend : Option (List Word) := none
  com : Option (List Word) := none
  late : Option (List Word) := none
  pendBuf : Option Nat := none
  comBuf : Option Nat := none
  lateBuf : Option Nat := none
  deriving DecidableEq, Repr, Inhabited

/-- The stream binding of a host-role port and its writer (R106, R107). `row` is the row under way with the bytes of it
received so far; `cur` the buffer written (0 for A). -/
structure StreamRec where
  on : Bool := false
  ctx : Nat := 0
  layer : Nat := 0
  bufA : Nat := 0
  bufB : Nat := 0
  pingpong : Bool := false
  cur : Nat := 0
  started : Bool := false
  row : Option Nat := none
  got : Nat := 0
  deriving DecidableEq, Repr, Inhabited

/-- A mesh point (R135): SX and SY in 1/1024, and BLANK. -/
abbrev MeshPt := Int × Int × Bool

/-- Changes of a group other than its layers (R195): entries as CMP_STACK holds them, the six words of the matrix, the
racing word of R151, and meshes by tile. -/
structure GSet where
  stack : Option (List Word) := none
  matrix : Option (List Word) := none
  racing : Option Word := none
  meshes : Tab (List MeshPt) := []
  deriving DecidableEq, Repr, Inhabited

/-- A stack entry as latched, with its layer's descriptor and buffer. -/
structure EntCfg where
  layer : Nat := 0
  gfm : Bool := false
  mode : Nat := 0
  op : Nat := 0
  desc : List Word := []
  buf : Nat := 0
  deriving DecidableEq, Repr, Inhabited

/-- The values of a tile that a latch takes (R149, R155). No mesh points: the identity mesh; no curve: the default one. -/
structure TileCfg where
  mesh : List MeshPt := []
  dead : List (Nat × Nat) := []
  curve : List Nat := []
  gt : Nat := 0x8000
  gs : Nat := 0x8000
  share : Option Nat := none
  deriving DecidableEq, Repr, Inhabited

/-- What a group latches (R149, R155): the stack, the buffers that its layers name (R102), geometry and rate, and the
values per tile. No wear bytes: the values of R160 without a table. -/
structure GrpCfg where
  ents : List EntCfg := []
  bufs : List Nat := []
  matrix : List Word := []
  racing : Bool := false
  /-- LEAD_EFF as it stood at the latch (R147) -/
  lead : Nat := 0
  stale : Nat := 0
  pitchEn : Bool := false
  yawEn : Bool := false
  maskAge : Nat := 0
  wear : List Nat := []
  tiles : Tab TileCfg := []
  deriving DecidableEq, Repr, Inhabited

/-- A timing group beyond its registers. -/
structure GrpRec where
  com : GSet := {}
  late : GSet := {}
  /-- contexts with a commit in the committed set, and in the late one (bit sets) -/
  comCtx : Nat := 0
  lateCtx : Nat := 0
  /-- the configuration of the last latch, and that of the latch before it (R149) -/
  cur : GrpCfg := {}
  prev : GrpCfg := {}
  /-- the half that the frame of `cur` is composed into -/
  half : Nat := 0
  /-- an accepted TIMING_SET that waits for the latch: its words 1 to 6 (R203) -/
  tset : Option (List Word) := none
  /-- register writes staged during provisioning, by place 0 to 5 -/
  staged : Tab (Option Word) := []
  /-- the group has been enabled and its first latch is awaited -/
  starting : Bool := false
  /-- since when -/
  startAt : Nat := 0
  /-- the instants of the last latch and of the one before it -/
  latchAt : Nat := 0
  latchWas : Nat := 0
  /-- a new SCALE for the next latch (R171) -/
  gain : Option Nat := none
  /-- the rate to which placement lowers the group (R346) -/
  plcRate : Option Nat := none
  /-- mask enable and beam mode before their last change, and the instants of these (R131, R172) -/
  maskWas : Nat := 0
  maskAt : Nat := 0
  beamWas : Nat := 0
  beamAt : Nat := 0
  deriving DecidableEq, Repr, Inhabited

/-- A kept frame signature (R199 to R201). -/
structure SigRec where
  frame : Nat := 0
  sig : Nat := 0
  compared : Bool := false
  excluded : Bool := false
  deriving DecidableEq, Repr, Inhabited

/-- The copy of a compliance map set under way (R174, R175): beam mode, buffer handle, MAP_CRC, PERSIST, geometry when the
envelope was checked, the producer slot of the envelope, whether it came in a SAFE_WRITE, and whether table space was
lacking. -/
structure MapCopy where
  beam : Nat := 0
  handle : Nat := 0
  crc : Word := 0
  persist : Bool := false
  w : Nat := 0
  h : Nat := 0
  slot : Option Nat := none
  dratus : Bool := false
  noSpace : Bool := false
  deriving DecidableEq, Repr, Inhabited

/-- A tile in the pixel path. -/
structure TilePix where
  /-- the band that is latched next and the frame it belongs to -/
  band : Nat := 0
  frame : Nat := 0
  mesh : List MeshPt := []
  /-- uniformity codes in use (none: 128 everywhere) and those that the next latch takes -/
  unif : List Nat := []
  unifNew : Option (List Nat) := none
  /-- dead-pixel lists with the instant of their reception, newest first (R165) -/
  deads : List (Nat × List (Nat × Nat)) := []
  /-- the loaded transfer curve (none: the default table), and whether the latch has yet to take it -/
  curve : List Nat := []
  /-- the last changes of the tile's being lost, oldest first: the instant of each, and whether it was lost before it (R167) -/
  loss : List (Nat × Bool) := []
  /-- values lowered and raised by the clamp in the frame under way -/
  ceilN : Nat := 0
  floorN : Nat := 0
  /-- mask rows as fetched for the frame under way in racing mode (R146), by GFM buffer row -/
  maskRows : Tab (List Nat) := []
  /-- racing bands in Opal memory whose transfer has not been made, by band: rows of codes (R148) -/
  waiting : Tab (List (List Nat)) := []
  /-- the signature of the frame under way, and whether that frame is excluded (R199, R201) -/
  sigReg : Nat := 0xFFFFFFFF
  sigOut : Bool := true
  sigs : List SigRec := []
  misses : Nat := 0
  /-- the lost twin member rejoins at the next latch (R241) -/
  rejoin : Bool := false
  /-- a spare brought in whose switch waits for the next latch (R242) -/
  toSpare : Option Nat := none
  /-- the carrying port that a spare has replaced (R242), and a TWIN_SET that waits for the latch (R244) -/
  former : Option Nat := none
  twinNew : Option Word := none
  sets : Tab MapSet := []
  /-- map sets copied and verified that wait for the latch, and sets to be written to flash, by beam mode -/
  setsNew : Tab MapSet := []
  toFlash : List Nat := []
  copies : List MapCopy := []
  deriving DecidableEq, Repr, Inhabited

/-- A move of a placement plan (R117 to R119). `wait` counts the frame boundaries until it takes effect once its copy is
done; `src` and `dst` are DRAM regions, `use` the code of
their content. -/
structure MoveRec where
  /-- the plan, and the instant of its decision -/
  plan : Nat := 0
  at_ : Nat := 0
  kind : Nat := 0
  group : Nat := 0
  /-- the groups that its object serves, and those whose boundary has yet to come, as bit sets (R117) -/
  groups : Nat := 0
  left : Nat := 0
  tile : Nat := 0
  engA : Nat := 0
  engB : Nat := 0xF
  split : Nat := 0
  src : Option Nat := none
  dst : Option Nat := none
  use : Nat := 0
  /-- what can no longer be read of the content (tiles, or wear slices), and flash items that fail their check when it is restored -/
  lost : List Nat := []
  bad : Nat := 0
  copied : Bool := false
  wait : Nat := 0
  /-- the instant at which its source is released, once the move has taken effect -/
  freeAt : Option Nat := none
  deriving DecidableEq, Repr, Inhabited

/-- The pose predictor (R141, R142), in exact degrees and seconds. -/
structure PoseState where
  p : Rat := 0
  y : Rat := 0
  q : Rat := 0
  r : Rat := 0
  bp : Rat := 0
  by_ : Rat := 0
  /-- (instant, p, y) of the last 256 ms, newest first -/
  hist : List (Nat × Rat × Rat) := []
  /-- instant of the last update of p and y -/
  at_ : Nat := 0
  /-- camera instant of the last message, once one has come; per axis the camera instant and angle of the last message that was valid for
  it; the arrival of the last message -/
  lastTc : Option Int := none
  lastP : Option (Int × Rat) := none
  lastY : Option (Int × Rat) := none
  msgAt : Option Nat := none
  /-- consecutive invalid or missing samples, consecutive valid ones, whether the IMU is present -/
  miss : Nat := 0
  good : Nat := 0
  imuOk : Bool := true
  lastImu : Option Nat := none
  /-- start and end of the last transaction of the IMU port, and the command byte that it sent (R144) -/
  xfer : Option (Nat × Nat) := none
  /-- the instant of the last missed sample period -/
  missAt : Nat := 0
  cmdSent : Nat := 0
  hostOk : Bool := true
  /-- since when the predictor has been in IMU-only mode, and whether that has lasted more than 2 s -/
  imuOnlyAt : Nat := 0
  overlong : Bool := false
  deriving DecidableEq, Repr, Inhabited

/-- A byte of the layer pool as it was before a write, by its key, and the instant of the write (R18). -/
structure PoolWr where
  at_ : Nat
  key : Nat
  old : Byte
  deriving DecidableEq, Repr

/-- The write time of a band of a buffer as it was before a write (R18, R132). -/
structure BandWr where
  at_ : Nat
  buf : Nat
  band : Nat
  old : Nat
  deriving DecidableEq, Repr

/-- A legacy tile of a Bamut context (R88, R89): its tile, the handles of its layer and of its two buffers. -/
structure BamutTile where
  tile : Nat := 0
  layer : Nat := 0
  front : Nat := 0
  back : Nat := 0
  deriving DecidableEq, Repr, Inhabited

/-- The legacy timing group and the mapped legacy tiles 0 to 11 of a Bamut context; `on`: BAMUT_ENABLE has made them. -/
structure BamutRec where
  on : Bool := false
  grp : Nat := 0
  tiles : Tab (Option BamutTile) := []
  deriving DecidableEq, Repr, Inhabited

/-- The pixel path. Frame-store codes are keyed ((tile × 2 + half) × 1,536 + row) × 2,048 + column, wear counters
tile × 2^22 + row × 2,048 + column. -/
structure PixState where
  bufs : Tab BufRec := []
  lays : Tab LayRec := []
  streams : Tab StreamRec := []
  /-- pending changes of a context to a group, keyed 8 × context + group, and pending meshes, 32 × context + tile -/
  gpend : Tab GSet := []
  meshPend : Tab (List MeshPt) := []
  grps : Tab GrpRec := []
  tiles : Tab TilePix := []
  store : Tab Nat := []
  wear : Tab Nat := []
  /-- the wear table in force for the next latch of each group (none: the values of R160 without a table) -/
  wearTab : List Nat := []
  pose : PoseState := {}
  /-- moves under way, the number of the last plan, and the plans of which no move has taken effect -/
  plan : List MoveRec := []
  planId : Nat := 0
  planNew : List Nat := []
  /-- which content each DRAM region holds, by the model's own numbers, and the tiles whose content in a fenced region has not been built
  again (R37), as a bit set keyed 64 × use + region -/
  content : Tab Nat := []
  lost : Tab Nat := []
  /-- pool bytes and band times overwritten since the oldest deadline that still matters, newest first (R18, R19) -/
  undo : List PoolWr := []
  undoT : List BandWr := []
  /-- snapshot pass under way: slices of it already written, and a request to finish it quickly (R162) -/
  slices : List Nat := []
  /-- the loads of step B6 have been made since the start or the wake from DEEP -/
  loaded : Bool := false
  /-- the legacy layers of each Bamut context (R88 to R90) -/
  bamut : Tab BamutRec := []
  deriving DecidableEq, Repr, Inhabited

/-! ### The whole state -/

/-- The block's state but for the queue of waiting commands and the contents of the layer pool. -/
structure Mach where
  /-- the present instant and the instant of the last release of reset, in PIX cycles -/
  now : Nat := 0
  bornAt : Nat := 0
  /-- the model's own counter of free values drawn (no part of the hardware) -/
  free : Nat := 0
  /-- every register of the map, sparse against its reset value -/
  regs : Tab Word := []
  /-- the HUB cycle of the last event on a W1C bit or a counter, and the bits and counts of that cycle by register (R14) -/
  evAt : Nat := 0
  evs : Tab Word := []
  /-- the value that the last register read by a row of its own returned -/
  rdata : Word := 0
  /-- `step` is resuming a held packet that has already been accepted -/
  resuming : Bool := false
  held : List Held := []
  /-- per class, the context after the last one that Topaz served (R77) -/
  rr : Tab Nat := []
  queues : Tab QueueRec := []
  ctxs : Tab CtxRec := []
  wait : List OutItem := []
  sent : List OutPkt := []
  /-- CAN FD frames sent, and the data phase that the last READ_PKT gave the host (R47, R51) -/
  canTx : List CanOut := []
  spiOut : List Nat := []
  polls : List PollRec := []
  pends : List PendRec := []
  cpt : Tab CptRec := []
  rx : Tab RxRec := []
  flt : FltState := {}
  saf : SafState := {}
  pwr : PwrState := {}
  thm : ThmState := {}
  nvm : NvmState := {}
  /-- what the Beryl store holds where the line write of the newest journal record comes to nothing (R392) -/
  nvmWas : Option NvmState := none
  upd : UpdState := {}
  cvs : Tab CvRec := []
  ports : Tab PortRec := []
  tx : List TxBlk := []
  tiles : Tab TileRec := []
  /-- the instant at which LIMP_N last changed (R262) -/
  limpAt : Nat := 0
  /-- tiles at MISS_MAX or more consecutive signature misses (R336) -/
  sigMissed : Nat := 0
  /-- chain members confirmed OPEN and SHORT, as counts (R336) -/
  lampOpen : Nat := 0
  lampShort : Nat := 0
  /-- owner and contributors of each timing group (GROUP_ASSIGN) -/
  owners : Tab (Nat × Nat) := []
  loops : Tab LoopRec := []
  mots : Tab MotRec := []
  /-- loop 8: the low-passed pitch x (16.16), and the colour loop's sample count -/
  levelX : Int := 0
  /-- AIM as the last sample of loop 8 took it (R299) -/
  aim : Int := 0
  inject : Option InjRec := none
  /-- the capture area: r, y, u and e of each record (R302) -/
  capture : List (Int × Int × Int × Int) := []
  adcs : Tab AdcRec := []
  chn : ChnState := {}
  pix : PixState := {}
  /-- instant of the last PER tick (R284) -/
  tickAt : Nat := 0

  /-- the calibration record in use (R420) -/
  cal : Option CalRec := none
  /-- the instant at which the calibration run under way began (R417) -/
  calAt : Nat := 0
  /-- the retraining after the termination item has taken place; the ports that fail the eye item, once its scans have begun (R417) -/
  calTrained : Bool := false
  calEye : Option Nat := none
  deriving DecidableEq, Repr, Inhabited

/-- The whole state: the commands that wait (first in, first out), the bytes of the layer pool (R92), and the rest. -/
structure State where
  pending : List Instr := []
  mem : Tab Byte := []
  blk : Mach := {}
  deriving DecidableEq, Repr

/-- Why a step could stop with a fault. No command of this block does. -/
inductive Fault where
  /-- Raised by nobody: every condition that the spec describes is recorded in the state instead. Safe. -/
  | unused
  deriving DecidableEq, Repr

/-- Why a command could be refused. -/
inductive Refusal where
  /-- Raised by the dispatcher for a row that has no meaning yet. Safe: the machine stops. -/
  | notModelled (mnemonic : String)
  deriving DecidableEq, Repr

/-- The state right after reset (R16, R329, R344): every register at its reset value, so that no register is listed. -/
def State.reset : State := {}

end Sys2Proof.Machine
end

