-- ==== Sys2Proof/Machine/Regs.lean ====
section
/-!
DEFINITION. The named operations over the registers and tables, writes into the AON domain (R31), and the clock readings.
-/

namespace Sys2Proof.Machine

/-! ### Reset values -/

/-- Does code `c` lie at or below the exact value for entry `i`, half a step taken off? -/
def gammaFits (i c : Nat) : Bool := decide ((2 * c - 1) ^ 5 * 255 ^ 11 ≤ 8190 ^ 5 * i ^ 11)

/-- Entry `i` of the gamma table when no table is stored: 4,095 × (i / 255)^2.2 rounded to the nearest integer (R274), as the largest
`e` with (2e − 1)^5 × 255^11 ≤ (2 × 4,095)^5 × i^11, bit by bit. -/
def gammaDefault (i : Nat) : Nat :=
  [2048, 1024, 512, 256, 128, 64, 32, 16, 8, 4, 2, 1].foldl (fun e b => if gammaFits i (e + b) then e + b else e) 0

/-- The reset words of CMP_MATRIX (R133). -/
def matrixReset (k : Nat) : Word :=
  match k with
  | 0 => 0x00002000 | 1 => 0x00003265 | 2 => 0xFA022000 | 3 => 0x0000F105 | 4 => 0x3B612000 | _ => 0

/-- The reset value that the field table of a register gives. -/
def descReset (flds : List FldDesc) : Word := flds.foldl (fun w d => fset w d.fld d.rst) 0

/-- The value of the register at address `a` after a chip reset (R16), NV fields at the value "when absent". -/
def regReset (a : Nat) : Word :=
  match regAt a with
  | none => 0
  | some (r, is) =>
    let i := is.headD 0
    let k := is.getD 1 0
    let b := addrBlock a
    if b = 0 ∧ r.off = 0x200 then
      fset (descReset r.flds) fHUB_PATH_BIND_EN (if i = 24 ∨ i = 28 then 1 else 0)
    else if b = 0 ∧ r.off = 0x304 ∧ i = 0 then 0x03FFBFFF
    else if b = 0 ∧ r.off = 0x308 ∧ i = 0 then 0x1FF
    else if b = 0 ∧ r.off = 0x8 then w32 Config.uid
    else if b = 0 ∧ r.off = 0xC then w32 (Config.uid >>> 32)
    else if b = 3 ∧ r.off = 0x90 then matrixReset k
    else if b = 7 ∧ r.off = 0x100 then Config.diag i k
    else if b = 8 ∧ r.off = 0 then fset (descReset r.flds) fTIL_CFG_PORT i
    else if b = 10 ∧ r.off = 0x1000 then w32 (gammaDefault (2 * i + 1) <<< 16 + gammaDefault (2 * i))
    else if b = 14 ∧ r.off = 0x200 then
      fset (fset (descReset r.flds) fSAF_IN_CFG_SRC_A i) fSAF_IN_CFG_SRC_B ((i + 1) % 4)
    else if b = 15 ∧ r.off = 0 then srcCfgReset i
    else descReset r.flds

/-! ### Registers -/

/-- The stored word of the register at `a`. -/
def reg (m : Mach) (a : Nat) : Word := tget (regReset a) m.regs a

/-- The register at `a` takes `w`. -/
def setReg (a : Nat) (w : Word) (m : Mach) : Mach := { m with regs := tput (regReset a) m.regs a w }

/-- Field `f` of the register at `a`. -/
def getF (m : Mach) (a : Nat) (f : Fld) : Nat := fget (reg m a) f

/-- Field `f` of the register at `a`, as a flag. -/
def flag (m : Mach) (a : Nat) (f : Fld) : Bool := getF m a f != 0

/-- Field `f` of the register at `a` takes `v`. -/
def setF (a : Nat) (f : Fld) (v : Nat) (m : Mach) : Mach := setReg a (fset (reg m a) f v) m

/-- Field `f` of the register at `a` takes a flag. -/
def setB (a : Nat) (f : Fld) (v : Bool) (m : Mach) : Mach := setF a f (b2n v) m

/-- The present HUB cycle (400 MHz). -/
def hubCycle (m : Mach) : Nat := m.now * 2 / 3

/-- What the hardware set or counted in the register at `a` in the HUB cycle of instant `t` (R14). -/
def freshAt (t : Nat) (m : Mach) (a : Nat) : Word := if m.evAt = t * 2 / 3 then tget 0 m.evs a else 0

/-- What it has set or counted there in the present HUB cycle. -/
def fresh (m : Mach) (a : Nat) : Word := freshAt m.now m a

/-- The register at `a` has had the event bits or counts `w` in the present HUB cycle. -/
def setFresh (a : Nat) (w : Word) (m : Mach) : Mach :=
  { m with evAt := hubCycle m, evs := tput 0 (if m.evAt = hubCycle m then m.evs else []) a w }

/-- An event sets the bits `v` of the W1C field `f`; a clear in the same HUB cycle leaves them (R14). -/
def latchBits (a : Nat) (f : Fld) (v : Nat) (m : Mach) : Mach :=
  let w := fresh m a
  m |> setF a f (getF m a f ||| v) |> setFresh a (fset w f (fget w f ||| v))

/-- An event sets the one-bit W1C field `f`. -/
def latchBit (a : Nat) (f : Fld) (m : Mach) : Mach := latchBits a f 1 m

/-- A counter field counts `n` and stops at its maximum; a clear in the same HUB cycle leaves the `n` (R14). -/
def bumpBy (n : Nat) (a : Nat) (f : Fld) (m : Mach) : Mach :=
  let w := fresh m a
  m |> setF a f (capN (2 ^ f.len - 1) (getF m a f + n)) |>
    setFresh a (fset w f (capN (2 ^ f.len - 1) (fget w f + n)))

/-- A counter field counts one and stops at its maximum. -/
def bump (a : Nat) (f : Fld) (m : Mach) : Mach := bumpBy 1 a f m

/-- A counter field counts one and wraps. -/
def wrapInc (a : Nat) (f : Fld) (m : Mach) : Mach := setF a f (getF m a f + 1) m

/-- The register at `a` returns to its reset value. -/
def clearReg (a : Nat) (m : Mach) : Mach := setReg a (regReset a) m

/-- Do `f m` for every element of a list in order. -/
def forEach {α : Type} (l : List α) (f : α → Mach → Mach) (m : Mach) : Mach := l.foldl (fun m x => f x m) m

/-- Apply `f` when `c` holds. -/
def when (c : Bool) (f : Mach → Mach) (m : Mach) : Mach := if c then f m else m

/-! ### Time -/

/-- PIX cycles in a microsecond, a millisecond and a second. -/
def us (n : Nat) : Nat := 600 * n
def ms (n : Nat) : Nat := 600000 * n
def sec (n : Nat) : Nat := 600000000 * n

/-- Three AON cycles in PIX cycles, the longest that a write takes to cross (R28, R31). -/
def aonCross : Nat := 54932

/-- Does the register lie in the AON or the VBKUP domain (R389)? -/
def aonReg (a : Nat) : Bool := a == rPWR_WAKE_EN || a == rPWR_WAKE_SRC || a == rPWR_WAKE_TMR || addrBlock a == 20

/-- A write to RTC_TIME_LO stages a value (R385). -/
def stageTime (v : Word) (m : Mach) : Mach := { m with pwr := { m.pwr with rtcStaged := v.toNat } }

/-- A write to RTC_TIME_HI loads the staged value at instant `t` and clears UNCERTAIN (R385, R386). -/
def loadTime (t : Nat) (v : Word) (m : Mach) : Mach :=
  { m with pwr := { m.pwr with rtcMs := bits v 15 0 * 2 ^ 32 + m.pwr.rtcStaged, rtcAt := t } } |>
    setB rRTC_STAT fRTC_STAT_UNCERTAIN false

/-- A write to a register of the AON domain takes effect at instant `t` and is under way for as long as it crosses (R31). The
calendar's two registers keep no word. -/
def aonApply (t : Nat) (w : AonWr) (m : Mach) : Mach :=
  let m := { m with pwr := { m.pwr with aonBusyTo := t + aonCross } }
  if w.addr = rRTC_TIME_LO then stageTime w.word m
  else if w.addr = rRTC_TIME_HI then loadTime t w.word m
  else match regAt w.addr with
    | none => m
    | some (r, is) => setReg w.addr (writeFlds w.may (is.headD 0) r.flds (freshAt t m w.addr) w.word (reg m w.addr)).word m

/-- A write to the AON domain: at once, or held while another is under way (R31). -/
def aonWrite (w : AonWr) (m : Mach) : Mach :=
  if m.now < m.pwr.aonBusyTo then { m with pwr := { m.pwr with aonQ := m.pwr.aonQ ++ [.write w] } } else aonApply m.now w m

/-- The AON domain once every held write has taken effect: what a read of it, which waits for them, finds (R30). -/
def aonSettled (m : Mach) : Mach :=
  m.pwr.aonQ.foldl (fun m x => match x with
    | .write w => aonApply m.pwr.aonBusyTo w m
    | .reply _ _ _ => m) m

/-- The use code of DRAM region `r` (PLC_REGION_MAP). -/
def regionUse (m : Mach) (r : Nat) : Nat := fget (reg m (rPLC_REGION_MAP (r / 8))) ⟨4 * (r % 8), 4⟩
def setRegionUse (r v : Nat) (m : Mach) : Mach := setF (rPLC_REGION_MAP (r / 8)) ⟨4 * (r % 8), 4⟩ v m

/-- Is region `r` fenced? -/
def dramFenced (m : Mach) (r : Nat) : Bool := hasBit (getF m (rFLT_FENCE_DRAM (r / 32)) fFLT_FENCE_DRAM_FENCED) (r % 32)

/-- The source of a move is released (R117); a fenced one stays so. -/
def releaseSource (v : MoveRec) (m : Mach) : Mach :=
  match v.src with
  | some r => setRegionUse r (if dramFenced m r then 14 else 0) m
  | none => m

/-- Is the source of a move to be released by instant `t`? -/
def MoveRec.over (t : Nat) (v : MoveRec) : Bool :=
  match v.freeAt with
  | some a => decide (a ≤ t)
  | none => false

/-- The sources whose time has come are released, and their moves are over. -/
def planDrain (m : Mach) : Mach :=
  let ends := m.pix.plan.filter (MoveRec.over m.now)
  if ends.isEmpty then m
  else forEach ends releaseSource { m with pix := { m.pix with plan := m.pix.plan.filter (fun v => !v.over m.now) } }

/-- The end of the last whole window of length `len` in the series that began at `start` (R459). -/
def windowEnd (start len : Nat) (m : Mach) : Nat := start + len * ((m.now - start) / len)

/-- Has a window of the series ended since the one that ended at `last`? -/
def windowDue (start len last : Nat) (m : Mach) : Bool :=
  decide (start < windowEnd start len m) && decide (last < windowEnd start len m)

/-- Microseconds since the release of reset, wrapping at 2^32 (R351, FLT_FIRST_TIME). -/
def usNow (m : Mach) : Nat := (m.now - m.bornAt) / 600

/-- The calendar time in ms (R385), 48 bits. -/
def calMs (m : Mach) : Nat :=
  (m.pwr.rtcMs + (if m.pwr.rtcStopped then 0 else (m.now - m.pwr.rtcAt) / 600000)) % 2 ^ 48

/-- RTC_STAT.UNCERTAIN (R386). -/
def uncertain (m : Mach) : Bool := flag m rRTC_STAT fRTC_STAT_UNCERTAIN

/-- The AON counter (R387), 48 bits. -/
def aonCount (m : Mach) : Nat := (m.pwr.aonCnt + (m.now - m.pwr.aonAt) * Config.aonHz / 600000000) % 2 ^ 48

/-- Is the device in RUN? -/
def inRun (m : Mach) : Bool := m.pwr.st == 0

/-- Is the HUB domain running (RUN or IDLE)? -/
def hubRuns (m : Mach) : Bool := m.pwr.st == 0 || m.pwr.st == 1

/-- Does the golden image run (R395)? -/
def golden (m : Mach) : Bool := flag m rUPD_STAT fUPD_STAT_GOLDEN

/-- Time spent in RUN (R388), in PIX cycles. -/
def runTime (m : Mach) : Nat := m.pwr.runAcc + (if inRun m then m.now - m.pwr.runSince else 0)

/-- Change the power condition, keeping the account of RUN time. -/
def setPower (st : Nat) (m : Mach) : Mach :=
  let acc := runTime m
  { m with pwr := { m.pwr with st := st, runAcc := acc, runSince := m.now } } |>
    setF rPWR_STAT fPWR_STAT_STATE (if st ≤ 4 then st else 0)

/-- Draw a fresh free value (the model's own counter advances). -/
def draw (m : Mach) : Word × Mach := (Config.freeWord m.free, { m with free := m.free + 1 })

/-! ### The Beryl store -/

def setNvm (f : NvmState → NvmState) (m : Mach) : Mach := { m with nvm := f m.nvm }

/-- The copy to use of two that carry a generation (R397): of those that pass their check, the one of the higher generation. -/
def newerCopy {α : Type} (gen : α → Nat) : Option α → Option α → Option α
  | some a, some b => if gen a < gen b then some b else some a
  | some a, none => some a
  | none, b => b

/-- Is the copy that a change writes copy 0: the one that is not in use (R397)? -/
def writesZero {α : Type} (gen : α → Nat) : Option α → Option α → Bool
  | some a, some b => decide (gen a < gen b)
  | some _, none => false
  | none, _ => true

/-- The boot record in use (R397). DESIGN CHOICE (the spec names no values): where both copies fail, that of a device with slot 0 active, no
trial and FLOOR 0. -/
def NvmState.boot (s : NvmState) : BootRec := (newerCopy BootRec.gen s.boot0 s.boot1).getD {}

/-- The persistent fences in use (R347); none where both copies fail. -/
def NvmState.fences (s : NvmState) : FenceRec := (newerCopy FenceRec.gen s.fence0 s.fence1).getD {}

def NvmState.pfOpal (s : NvmState) : Nat := s.fences.opal
def NvmState.pfDram (s : NvmState) : Nat := s.fences.dram
def NvmState.pfBank (s : NvmState) : Nat := s.fences.bank

/-- The geometries of the tiles that the flash directory lays out (R400). -/
def NvmState.geoms (s : NvmState) : List (Nat × Nat) := ((newerCopy Prod.fst s.dir0 s.dir1).map Prod.snd).getD []

/-! ### Table accessors -/

def queueOf (m : Mach) (ctx q : Nat) : QueueRec := tget {} m.queues (8 * ctx + q)
def setQueue (ctx q : Nat) (r : QueueRec) (m : Mach) : Mach := { m with queues := tput {} m.queues (8 * ctx + q) r }
def ctxOf (m : Mach) (n : Nat) : CtxRec := tget {} m.ctxs n
def setCtx (n : Nat) (r : CtxRec) (m : Mach) : Mach := { m with ctxs := tput {} m.ctxs n r }
def cptOf (m : Mach) (n : Nat) : CptRec := tget {} m.cpt n
def setCpt (n : Nat) (r : CptRec) (m : Mach) : Mach := { m with cpt := tput {} m.cpt n r }
def cvOf (m : Mach) (u : Nat) : CvRec := tget {} m.cvs u
def setCv (u : Nat) (r : CvRec) (m : Mach) : Mach := { m with cvs := tput {} m.cvs u r }

/-- Is the context open (R73)? -/
def ctxOpen (m : Mach) (n : Nat) : Bool := flag m (rHUB_CTX_CFG n) fHUB_CTX_CFG_OPEN

/-! Ports and tiles. -/

def portOf (m : Mach) (p : Nat) : PortRec := tget {} m.ports p
def setPort (p : Nat) (r : PortRec) (m : Mach) : Mach := { m with ports := tput {} m.ports p r }
def tileOf (m : Mach) (t : Nat) : TileRec := tget {} m.tiles t
def setTile (t : Nat) (r : TileRec) (m : Mach) : Mach := { m with tiles := tput {} m.tiles t r }

/-- The state code of port `p` (R231). -/
def portState (m : Mach) (p : Nat) : Nat := getF m (rCPL_STATE p) fCPL_STATE_STATE

/-- HUB_LOCK.LOCKED (R452). -/
def locked (m : Mach) : Bool := flag m rHUB_LOCK fHUB_LOCK_LOCKED

/-- Is the path one that the host reads (CPT0, CPT1)? -/
def isCpt (path : Nat) : Bool := path == 24 || path == 25

end Sys2Proof.Machine
end

