-- ==== Sys2Proof/Machine/Transmit.lean ====
section
/-!
DEFINITION. What leaves the device: blocks on the ports (R209 to R212, R219, R228 to R230), and the bytes of replies and events on their
paths (R39, R40, R42, R44, R51).
-/

namespace Sys2Proof.Machine

/-! ### Blocks -/

/-- The idle limit of a link in µs (R229). -/
def idleEff (m : Mach) (p : Nat) : Nat :=
  let own := getF m (rCPL_IDLE_CFG p) fCPL_IDLE_CFG_IDLE_MAX
  let part := (portOf m p).partnerMax
  if part = 0 then own else min own part

/-- Record a block as sent, without a change of SEQ, with the blocks sent since the last FILL (R219). -/
def txRaw (p type seq : Nat) (words : List Word) (m : Mach) : Mach :=
  setPort p { portOf m p with runOut := if type = 0 then 0 else (portOf m p).runOut + 1 }
    { m with tx := m.tx ++ [⟨m.now, p, type, seq, words⟩] }

/-- The transmitter has nothing else to send and sends FILL, which carries the SEQ of the next other block (R211, R212, R219). One
entry stands for the run of FILL up to the next block of the port. -/
def txFill (p : Nat) (m : Mach) : Mach := txRaw p 0 (portOf m p).seqOut (List.replicate 64 0) m

/-- The words of a LINK block (R211). -/
def linkWords (op : Nat) (rest : List Word) : List Word := pad64 (w32 (op <<< 24) :: rest)

/-- A TRAIN_SEQ block of the device (R211, R230). -/
def trainSeqWords (m : Mach) (p : Nat) : List Word :=
  linkWords 1 [w32 (getF m (rCPL_IDLE_CFG p) fCPL_IDLE_CFG_IDLE_MAX <<< 16 + b2n (portOf m p).rxOk)]

/-- Have 1,023 blocks other than FILL gone out in a row (R219)? -/
def runFull (m : Mach) (p : Nat) : Bool := decide (1023 ≤ (portOf m p).runOut)

/-- A block other than FILL and TRAIN goes out with the port's SEQ (R212), after a FILL where the run without one is at its limit. -/
def txSeq (p type : Nat) (words : List Word) (m : Mach) : Mach :=
  let m := when (runFull m p) (txFill p) m
  let m := txRaw p type (portOf m p).seqOut words m
  setPort p { portOf m p with seqOut := ((portOf m p).seqOut + 1) % 256, lastTx := m.now } m

/-- Does a far-end loop last on port `p`? Both directions then use LOOP_RATE (R233). -/
def farLoop (m : Mach) (p : Nat) : Bool := portState m p == 8 && decide (3 ≤ (portOf m p).loopMode)

/-- The rate codes in force (R206, R233). -/
def farRate (m : Mach) (p : Nat) : Nat := min (getF m (rCPL_CFG p) fCPL_CFG_TX_RATE) (getF m (rCPL_CFG p) fCPL_CFG_RX_RATE)
def txRate (m : Mach) (p : Nat) : Nat := if farLoop m p then farRate m p else getF m (rCPL_CFG p) fCPL_CFG_TX_RATE
def rxRate (m : Mach) (p : Nat) : Nat := if farLoop m p then farRate m p else getF m (rCPL_CFG p) fCPL_CFG_RX_RATE

/-- The bits that port `p` sends in `t` PIX cycles (R206). -/
def txBits (m : Mach) (p t : Nat) : Nat := lineRate (txRate m p) * t / 600000000

/-- LINK blocks back to back, each made by `words` and sent by `send`, `used` line bits after the first one began: further ones begin
until `avail` bits have passed, a FILL where R219 asks for one. What remains is the bits used. -/
def txRun (p avail : Nat) (words : Mach → List Word) (send : List Word → Mach → Mach) : Nat → Nat → Mach → Nat × Mach
  | 0, used, m => (used, m)
  | n + 1, used, m =>
    if avail ≤ used then (used, m)
    else
      let ws := words m
      let gap := if runFull m p then (lineBits 0 (portOf m p).seqOut (List.replicate 64 0)).length else 0
      txRun p avail words send n (used + gap + (lineBits 6 (portOf m p).seqOut ws).length) (send ws m)

/-- TRAIN_SEQ blocks back to back (R229, R230). -/
def txTrainSeqs (p avail : Nat) : Nat → Nat → Mach → Nat × Mach := txRun p avail (fun m => trainSeqWords m p) (txSeq p 6)

/-- The TRAIN_SEQ blocks that have begun since 2 µs after the entry to TRAIN and are not yet recorded (R230). -/
def txTraining (p : Nat) (m : Mach) : Mach :=
  let r := portOf m p
  let avail := txBits m p (m.now - (r.trainAt + us 2))
  let (used, m) := txTrainSeqs p avail (avail / 2096 + 1) r.trainBits m
  setPort p { portOf m p with trainBits := used } m

/-- The n-th TEST block (R235). -/
def testWords (n : Nat) : List Word := linkWords 5 ((List.range 63).map (fun k => w32 (63 * n + k)))

/-- A block of an internal loop (R233): the pins are idle, and the port's own receiver gets it as it was sent. -/
def txInner (p : Nat) (m : Mach) : Mach :=
  let r := portOf m p
  let next := (r.seqOut + 1) % 256
  setPort p { r with
    seqOut := next, seqIn := some next, lastTx := m.now, runOut := if runFull m p then 1 else r.runOut + 1, testN := r.testOut + 1 } m

/-- The next TEST block (R235): in modes 1 and 2 it stays inside the device. -/
def txTest (p : Nat) (ws : List Word) (m : Mach) : Mach :=
  let m := if (portOf m p).loopMode ≤ 2 then txInner p m else txSeq p 6 ws m
  setPort p { portOf m p with testOut := (portOf m p).testOut + 1 } m

/-- TEST blocks back to back (R235). -/
def txTests (p avail : Nat) : Nat → Nat → Mach → Nat × Mach := txRun p avail (fun m => testWords (portOf m p).testOut) (txTest p)

/-- The TEST blocks that have begun since a loop carries data and are not yet recorded (R235). -/
def txTesting (p start : Nat) (m : Mach) : Mach :=
  let avail := txBits m p (m.now - start)
  let (used, m) := txTests p avail (avail / 2096 + 1) (portOf m p).trainBits m
  setPort p { portOf m p with trainBits := used } m

/-- Is the port in full training: in TRAIN, or in a far-end loop that does not yet carry data (R230, R233)? -/
def training (m : Mach) (p : Nat) : Bool := portState m p == 3 || (farLoop m p && (portOf m p).loopUp.isNone)

/-- What the transmitter of port `p` has sent of its own since the last event of the port is recorded: TRAIN_SEQ in training, TEST in a
loop of modes 1 to 3 (R230, R235). -/
def txLate (p : Nat) (m : Mach) : Mach :=
  if training m p then txTraining p m
  else
    match (portOf m p).loopUp with
    | some a => if portState m p == 8 && decide ((portOf m p).loopMode ≤ 3) then txTesting p a m else m
    | none => m

/-- A transmitter leaves electrical idle (R228, R229): four TRAIN markers, and after a long idle a resync burst of at least 10 µs. -/
def txExit (p : Nat) (m : Mach) : Mach :=
  if !flag m (rCPL_STATE p) fCPL_STATE_TX_IDLE then m else
  let long := decide (us (idleEff m p) < m.now - (portOf m p).txIdleAt)
  let m := setB (rCPL_STATE p) fCPL_STATE_TX_IDLE false m
  let m := forEach [0, 1, 2, 3] (fun k => txRaw p 7 k []) m
  let avail := txBits m p (us 10)
  when long (fun m => (txTrainSeqs p avail (avail / 2096 + 1) 0 m).2) m

/-- A block is sent: an idle transmitter leaves idle first. -/
def sendBlk (p type : Nat) (words : List Word) (m : Mach) : Mach := m |> txExit p |> txSeq p type words

/-- One block on each of the ports, which send the same types, SEQ and payloads (R239). -/
def sendAll (ps : List Nat) (type : Nat) (words : List Word) (m : Mach) : Mach :=
  let m := forEach ps txExit m
  let seq := (portOf m (ps.headD 0)).seqOut
  let run := (portOf m (ps.headD 0)).runOut
  forEach ps (fun p m => m |> setPort p { portOf m p with seqOut := seq, runOut := run } |> txSeq p type words) m

/-- The ports have nothing else to send: FILL (R219). -/
def fillAll (ps : List Nat) (m : Mach) : Mach := forEach ps txFill m

/-- A LINK block is sent. -/
def sendLink (p op : Nat) (rest : List Word) (m : Mach) : Mach := sendBlk p 6 (linkWords op rest) m

/-- Does the transmitter of port `p` carry data: is the link trained (UP, and the states in which only the receiver is idle)? -/
def txCarries (m : Mach) (p : Nat) : Bool := decide (4 ≤ portState m p) && decide (portState m p ≤ 7)

/-! ### Packets -/

/-- The header bytes of a packet that HCHK covers (R40, R42). -/
def packetHeader (ver op flags host queue seq plen status resv : Nat) : List Nat :=
  [0xD7, ver, op, flags, host, queue] ++ halfBytes seq ++ halfBytes plen ++ halfBytes status ++ halfBytes resv

/-- The bytes of a packet from the first 14 of its header on: HCHK, the parameters and the trailer (R39, R42). -/
def sealBytes (header : List Nat) (params : List Word) : List Nat :=
  let covered := header ++ halfBytes (crc crc16 header) ++ wordsBytes params
  covered ++ wordBytes (w32 (crc crc32c covered))

/-- The bytes of a reply or an event (R39, R40, R42, R43, R86). -/
def outBytes (o : OutPkt) : List Nat :=
  sealBytes (packetHeader o.ver o.op o.flags o.host o.queue o.seq o.params.length o.status 0) o.params

/-- The payload of a COMMAND block with at most 252 bytes (R211). -/
def commandWords (bytes : List Nat) : List Word := pad64 (w32 bytes.length :: bytesWords bytes)

/-- A packet goes out on host port `p` in COMMAND blocks (R44, R211), with a FILL after every 64 of them and at the end (R219). -/
def sendCommands (p : Nat) (bytes : List Nat) (m : Mach) : Mach :=
  let parts := chunks 252 (bytes.length / 252 + 1) bytes
  forEach (chunks 64 (parts.length / 64 + 1) parts)
    (fun run m => m |> forEach run (fun part => sendBlk p 4 (commandWords part)) |> txFill p) m

/-- The data lengths of CAN FD (ISO 11898-1, R51). -/
def canLengths : List Nat := [0, 1, 2, 3, 4, 5, 6, 7, 8, 12, 16, 20, 24, 32, 48, 64]

/-- The data of a CAN FD frame: the smallest data length that holds the packet, filled with 0xCC (R51). -/
def canData (bytes : List Nat) : List Nat :=
  let n := (canLengths.find? (fun l => decide (bytes.length ≤ l))).getD 64
  (bytes ++ List.replicate 64 0xCC).take n

/-- Are two CAN identifiers of one format the same: 29 bits or 11? -/
def sameId (xtd : Bool) (a b : Nat) : Bool := if xtd then a == b else a % 2048 == b % 2048

/-- A packet goes out on controller `n` in one CAN FD frame, on the request identifier plus 1 (R44, R51). DESIGN CHOICE: the highest
identifier is followed by 0; the spec does not say what REQ_ID + 1 is there. -/
def sendCan (n : Nat) (bytes : List Nat) (m : Mach) : Mach :=
  let a := rCAN_DRATUS_ID n
  let xtd := flag m a fCAN_DRATUS_ID_XTD
  let req := getF m a fCAN_DRATUS_ID_REQ_ID
  let id := if xtd then (req + 1) % 2 ^ 29 else (req + 1) % 2 ^ 11
  { m with canTx := m.canTx ++ [⟨m.now, n, xtd, id, canData bytes⟩] }

/-- A packet leaves on its path: as COMMAND blocks, as a CAN FD frame, or to the reply mailbox (R44); one for a CPT target leaves with
READ_PKT. -/
def sendOut (o : OutPkt) (m : Mach) : Mach :=
  let m := { m with sent := m.sent ++ [o] }
  if o.path < 24 then when (txCarries m o.path) (sendCommands o.path (outBytes o)) m
  else if o.path = 26 ∨ o.path = 27 then sendCan (o.path - 26) (outBytes o) m
  else m

end Sys2Proof.Machine
end

