-- ==== Sys2Proof/Machine/Ops.lean ====
section
/-!
DEFINITION. The named operations that every command shares: events (R86, R458), Jasper's handling of a fault (R331 to R350) and
Onyx's handling of a cause (R310 to R313).
-/

namespace Sys2Proof.Machine

/-! ### Replies and events -/

/-- Hand a packet to its path: CPT packets wait for READ_PKT (R47), others leave. -/
def emit (o : OutPkt) (m : Mach) : Mach :=
  if isCpt o.path then { m with wait := m.wait ++ [.reply o] } else sendOut o m

/-- The packet that carries the next event of a context (R86). -/
def eventPkt (ctx path code : Nat) (data : List Word) (m : Mach) : OutPkt :=
  let c := ctxOf m ctx
  { path := path, ver := 1, op := 0x89, flags := 0x20, host := ctx, queue := 0xFF, seq := c.evtSeq % 65536,
    status := 0, params := w32 (code <<< 16 + b2n c.ovf <<< 15) :: data }

/-- The context's event counter and OVF after an event packet has been formed (R86). -/
def eventSent (ctx : Nat) (m : Mach) : Mach :=
  setCtx ctx { evtSeq := ((ctxOf m ctx).evtSeq + 1) % 65536, ovf := false } m

/-- Is the waiting item an event of context `n`? -/
def isEventOf (n : Nat) : OutItem → Bool
  | .event c _ _ _ => c == n
  | .reply _ => false

/-- The number of events that wait for context `n` (R456, QUEUED). -/
def queuedEvents (m : Mach) (n : Nat) : Nat := (m.wait.filter (isEventOf n)).length

/-- Drop the first item that satisfies `q`. -/
def dropFirst {α : Type} (q : α → Bool) : List α → List α
  | [] => []
  | x :: xs => if q x then xs else x :: dropFirst q xs

/-- An event arises for context `n` (R86, R458): SEEN is set; a subscribed context gets the event on its event path,
the oldest of 64 waiting events giving way. DESIGN CHOICE (the spec does not say when): the mask and the path are those at the moment
at which the event arises, also for an event that then waits. -/
def eventFor (code : Nat) (data : List Word) (n : Nat) (m : Mach) : Mach :=
  if !ctxOpen m n then m else
  let m := latchBits (rHUB_EVT_SEEN n) fHUB_EVT_SEEN_SEEN (2 ^ (code - 1)) m
  let path := getF m (rHUB_EVT_PATH n) fHUB_EVT_PATH_PATH
  if !(hasBit (getF m (rHUB_CTX_CFG n) fHUB_CTX_CFG_EVT_MASK) code) || path == 0x1F then m
  else if isCpt path then
    let m := if 64 ≤ queuedEvents m n then
        { m with wait := dropFirst (isEventOf n) m.wait } |> bump (rHUB_EVT_STAT n) fHUB_EVT_STAT_DROPPED |>
          setCtx n { ctxOf m n with ovf := true }
      else m
    { m with wait := m.wait ++ [.event n path code data] }
  else
    let o := eventPkt n path code data m
    m |> sendOut o |> eventSent n

/-- An event arises for the contexts of the bit set `ctxs`. -/
def eventTo (code : Nat) (data : List Word) (ctxs : Nat) (m : Mach) : Mach :=
  forEach (members 4 ctxs) (eventFor code data) m

/-- FAULT, POWER_ABORT, PLACEMENT_CHANGED, DEFER_CHANGED and TOPAZ_RESTART concern every open context (R458). -/
def eventAll (code : Nat) (data : List Word) (m : Mach) : Mach := eventTo code data 0xF m

/-! ### Jasper -/

/-- The class in force of a source (R332, R351). -/
def srcClass (m : Mach) (s : Nat) : Nat := getF m (rFLT_SRC_CFG s) fFLT_SRC_CFG_CLASS

/-- The sticky bit of a source (R335). -/
def sticky (m : Mach) (s : Nat) : Bool := (reg m (rFLT_STICKY (s / 32))).toNat.testBit (s % 32)

/-- Set the sticky bit of a source. -/
def setSticky (s : Nat) (m : Mach) : Mach :=
  latchBits (rFLT_STICKY (s / 32)) fFLT_STICKY_STICKY (2 ^ (s % 32)) m

/-- ERR_N is driven low by a case other than the start (R344). -/
def errLow (m : Mach) : Mach :=
  let wasLow := flag m rFLT_ERRN fFLT_ERRN_ACTIVE
  { m with flt := { m.flt with errStart := false, errLowAt := if wasLow then m.flt.errLowAt else m.now } } |>
    setB rFLT_ERRN fFLT_ERRN_ACTIVE true

/-- The record in FLT_FIRST_*, as it would be logged (R342, R350). -/
def recOf (fatal : Bool) (m : Mach) : LogRec :=
  { src := getF m rFLT_FIRST_SRC fFLT_FIRST_SRC_SRC, cls := getF m rFLT_FIRST_SRC fFLT_FIRST_SRC_CLASS,
    fcls := getF m rFLT_FIRST_SRC fFLT_FIRST_SRC_FCLASS, merged := getF m rFLT_FIRST_SRC fFLT_FIRST_SRC_MERGED,
    last := getF m rFLT_FIRST_SRC fFLT_FIRST_SRC_LAST, det := reg m rFLT_FIRST_DET, timeMs := m.flt.openMs,
    uncertain := m.flt.openUnc, openMs := (m.now - m.flt.openAt) / 600000, fatal := fatal }

/-- FLT_LOG_STAT.QUEUED shows the closed records that wait. -/
def showQueued (m : Mach) : Mach := setF rFLT_LOG_STAT fFLT_LOG_STAT_QUEUED m.flt.logQ.length m

/-- The open record closes and is queued for the fault log; up to 16 wait, further ones are lost (R342, R349). -/
def closeRecord (m : Mach) : Mach :=
  if !flag m rFLT_FIRST_SRC fFLT_FIRST_SRC_OPEN then m else
  let r := recOf false m
  let m := setB rFLT_FIRST_SRC fFLT_FIRST_SRC_OPEN false m
  if m.flt.logQ.length < 16 then
    { m with flt := { m.flt with logQ := m.flt.logQ ++ [r] } } |> showQueued
  else bump rFLT_LOG_STAT fFLT_LOG_STAT_LOST m

/-- Of two faults, as (class, source), the first is taken first when they arrive in one cycle: higher class first, then lower number
(R341). -/
def faultBefore (a b : Nat × Nat) : Bool := decide (b.1 < a.1) || (a.1 == b.1 && decide (a.2 ≤ b.2))

/-- Does instant `t` lie in the present HUB cycle? -/
def inHubCycle (m : Mach) (t : Nat) : Bool := t * 2 / 3 == hubCycle m

/-- A fault is merged into the open record (R340). Among faults of one cycle the order is that of R341, whichever is heard of first: one
that comes before the fault that opened the record in this cycle takes its place, and LAST names the last of them. -/
def mergeFault (s cls : Nat) (det : Word) (m : Mach) : Mach :=
  let a := rFLT_FIRST_SRC
  let first := inHubCycle m m.flt.openAt &&
    faultBefore (cls, s) (getF m a fFLT_FIRST_SRC_FCLASS, getF m a fFLT_FIRST_SRC_SRC)
  let last := !(inHubCycle m m.flt.lastMerge && faultBefore (cls, s) (m.flt.lastCls, getF m a fFLT_FIRST_SRC_LAST))
  let f := m.flt
  { m with flt := { f with lastMerge := m.now, lastCls := if last then cls else f.lastCls } } |> bump a fFLT_FIRST_SRC_MERGED |>
    setF a fFLT_FIRST_SRC_CLASS (max cls (getF m a fFLT_FIRST_SRC_CLASS)) |> when last (setF a fFLT_FIRST_SRC_LAST s) |>
    when first (fun m => m |> setF a fFLT_FIRST_SRC_SRC s |> setF a fFLT_FIRST_SRC_FCLASS cls |> setReg rFLT_FIRST_DET det)

/-- A lasting fault of class MINOR or above opens the record or is merged into it (R340). -/
def recordFault (s cls : Nat) (det : Word) (m : Mach) : Mach :=
  if flag m rFLT_FIRST_SRC fFLT_FIRST_SRC_OPEN then mergeFault s cls det m
  else
    { m with flt := { m.flt with
      openMs := calMs m, openUnc := uncertain m, openAt := m.now, lastMerge := m.now, lastCls := cls } } |>
      setReg rFLT_FIRST_SRC (w32 (2 ^ 31 + cls <<< 28 + cls <<< 25 + s <<< 16 + s)) |>
      setReg rFLT_FIRST_DET det |> setReg rFLT_FIRST_TIME (w32 (usNow m)) |>
      bump rFLT_SUMMARY fFLT_SUMMARY_RECORDS

/-- A source of class FATAL (R348): the latch, the copy of the record in the AON domain, ERR_N, reaction C. The latch
keeps the source that set it first, of those of one cycle the one that R341 puts first. -/
def fatal (s : Nat) (r : LogRec) (m : Mach) : Mach :=
  let holds := flag m rFLT_FATAL fFLT_FATAL_SET &&
    !(m.flt.fatalAt == hubCycle m + 1 && decide (s < getF m rFLT_FATAL fFLT_FATAL_SRC))
  let m := if holds then m
    else { m with flt := { m.flt with aonRec := some r, aonDue := false, fatalAt := hubCycle m + 1 } } |>
      setF rFLT_FATAL fFLT_FATAL_SRC s |> setB rFLT_FATAL fFLT_FATAL_SET true |> setB rFLT_ERRN fFLT_ERRN_FATAL true
  let m := errLow m
  { m with flt := { m.flt with dueReset := some 2 } }

/-- A fault handled as NOTE: sticky bit and one count (R332, R337). -/
def noteFault (s : Nat) (m : Mach) : Mach := m |> setSticky s |> bump (rFLT_TRANS s) fFLT_TRANS_COUNT

/-- Reaction `bit` of a source is enabled (FLT_SRC_CFG). -/
def reacts (m : Mach) (s : Nat) (f : Fld) : Bool := flag m (rFLT_SRC_CFG s) f

/-- The Beryl sectors that a spare may replace, from firmware slot 0 to the journal (R390, R393). -/
def sparable (n : Nat) : Bool := decide (256 ≤ n) && decide (n < 2944)

/-- NVM_SPARE shows the spare sectors in use and free (R412). -/
def showSpares (m : Mach) : Mach :=
  m |> setF rNVM_SPARE fNVM_SPARE_USED m.nvm.spares |> setF rNVM_SPARE fNVM_SPARE_FREE (1144 - m.nvm.spares)

/-- A corrected read in sector `n` (R391, R393). -/
def sectorCorrected (n : Nat) (m : Mach) : Mach :=
  when (sparable n) (fun m => { m with nvm := { m.nvm with ceReads := tput 0 m.nvm.ceReads n (tget 0 m.nvm.ceReads n + 1) } }) m

/-- The body of a slot reaches line `k` of it. -/
def slotReaches (r : SlotRec) (k : Nat) : Bool :=
  r.mark && decide (64 * k < 4096 + (if r.header.isEmpty then Config.baseBody else r.body).length)

/-- A calibration record whose check word no longer agrees. -/
def calSpoilt (r : CalRec) : CalRec := { r with crc := ~~~(calCrc r) }

/-- Line `k` of Beryl cannot be read (R393): what it held is lost, and each area's own check finds that. -/
def loseLine (k : Nat) (s : NvmState) : NvmState :=
  let sec := k / 64
  let cal (lo : Nat) (r : Option CalRec) : Option CalRec := r.map (fun r => if 64 * (k - 64 * lo) < 68 + r.len then calSpoilt r else r)
  let set (lo : Nat) (r : Option Settings) : Option Settings :=
    r.map (fun r => if 64 * (k - 64 * lo) < 64 + r.len then { r with magic := 0 } else r)
  let slot (lo : Nat) (r : SlotRec) : SlotRec := if slotReaches r (k - 64 * lo) then { r with mark := false } else r
  if sec < 1280 then { s with slot0 := slot 256 s.slot0 }
  else if sec < 2304 then { s with slot1 := slot 1280 s.slot1 }
  else if sec < 2432 then { s with setA := set 2304 s.setA }
  else if sec < 2560 then { s with setB := set 2432 s.setB }
  else if sec < 2576 then { s with calFactory := cal 2560 s.calFactory }
  else if sec < 2592 then { s with cal0 := cal 2576 s.cal0 }
  else if sec < 2608 then { s with cal1 := cal 2592 s.cal1 }
  else if 2624 ≤ sec ∧ sec < 2880 then
    let e := 2 * (k - 64 * 2624)
    { s with log := tput [] (tput [] s.log e []) (e + 1) [] }
  else s

/-- A lasting uncorrectable read in sector `n` (R393). Which of its 64 lines it is, is a free value. -/
def sectorLost (n : Nat) (m : Mach) : Mach :=
  if !sparable n then m else
  let (d, m) := draw m
  let s := loseLine (64 * n + bits d 5 0) m.nvm
  { m with nvm := { s with ueSectors := if s.ueSectors.contains n then s.ueSectors else s.ueSectors ++ [n] } }

/-- Is sector `n` remapped at its next write (R393)? -/
def sectorDue (m : Mach) (n : Nat) : Bool := decide (8 < tget 0 m.nvm.ceReads n) || m.nvm.ueSectors.contains n

/-- The newest records of the journal, 2,048 of them. -/
def jrnRing : Nat → List JrnRec → List JrnRec
  | _, [] => []
  | room, r :: rs =>
    if room = 0 then []
    else if room < r.n then [{ r with line := r.line + (r.n - room), seq := (r.seq + (r.n - room)) % 2 ^ 32, n := room }]
    else r :: jrnRing (room - r.n) rs

/-- `n` lines from `line` on are written, each under a record of its own (R392): the last stands OPEN until the next write, or until it is known
that its line has been written. -/
def journal (line n : Nat) (m : Mach) : Mach :=
  let s := m.nvm
  let r : JrnRec := { line := line, n := n, seq := s.jrnSeq, t := m.now, opened := true }
  { m with nvm := { s with jrn := jrnRing 2048 (r :: s.jrn.map (fun r => { r with opened := false })), jrnSeq := (s.jrnSeq + n) % 2 ^ 32 } }

/-- A spare takes the place of sector `n`, and both copies of the table name it, the line of the table written last; with none left the sector
stays in use (R393). The content that could not be read has been lost. -/
def remapSector (n : Nat) (m : Mach) : Mach :=
  if 1144 ≤ m.nvm.spares then m else
  let s := m.nvm
  let k := 8 + s.spares
  let m := { m with nvm := { s with
    ceReads := tput 0 s.ceReads n 0
    ueSectors := s.ueSectors.filter (· != n)
    remap := tput 0 s.remap n k
    remap1 := tput 0 s.remap1 n k
    spares := s.spares + 1 } }
  m |> journal (64 * (2944 + k)) 64 |> journal (64 * 2946) 1 |> journal (64 * 2948) 1 |> showSpares

/-- Beryl takes no writes once a thermal shutdown has been decided (R363). -/
def berylWrites (m : Mach) : Bool := !m.thm.shutting

/-- `n` lines of Beryl from `line` on take what `f` makes of the store (R392): under the journal, and with the sectors replaced that are due, the
journal's own among them (R393). Until the next write the store as it was without the last line's validation is kept. -/
def berylWrite (line n : Nat) (f : NvmState → NvmState) (m : Mach) : Mach :=
  if !berylWrites m then m else
  let first := line / 64
  let touched := (List.range ((line + n - 1) / 64 + 1 - first)).map (first + ·) ++ (List.range 64).map (2880 + ·)
  let due := touched.filter (sectorDue m)
  { m with nvmWas := some m.nvm, nvm := f m.nvm } |> forEach due remapSector |> journal line n

/-- A change of the boot record: the copy not in use takes it, with the next generation (R397). -/
def setBoot (f : BootRec → BootRec) (m : Mach) : Mach :=
  let first := writesZero BootRec.gen m.nvm.boot0 m.nvm.boot1
  berylWrite (64 * (if first then 2944 else 2945)) 64 (fun s =>
    let r := { f s.boot with gen := s.boot.gen + 1 }
    if first then { s with boot0 := some r } else { s with boot1 := some r }) m

/-- A change of the persistent fences, kept in the manner of the boot record (R393). -/
def setFences (f : FenceRec → FenceRec) (m : Mach) : Mach :=
  let first := writesZero FenceRec.gen m.nvm.fence0 m.nvm.fence1
  berylWrite (64 * 2950 + (if first then 0 else 32)) 32 (fun s =>
    let r := { f s.fences with gen := s.fences.gen + 1 }
    if first then { s with fence0 := some r } else { s with fence1 := some r }) m

/-- The line of the lock (R393, R452). -/
def lockLine (l : Bool) (n : Nat) (m : Mach) : Mach := berylWrite (64 * 2951) 1 (fun s => { s with lock := some (l, n) }) m

/-- Topaz is being reset, by Onyx or in an activation pause: it sends no event (R333, R349, R406). -/
def topazReset (m : Mach) : Bool := m.saf.topazDown || m.upd.pauseReset

/-- Reaction I: a FAULT event, held back, once for each source, while Topaz is being reset (R333, R349). -/
def faultEvent (s : Nat) (m : Mach) : Mach :=
  if !topazReset m then eventAll 1 [w32 (srcClass m s), w32 s] m
  else if m.flt.heldI.contains s then m
  else { m with flt := { m.flt with heldI := m.flt.heldI ++ [s] } }

/-- The FAULT events held back are sent (R349). -/
def sendHeld (m : Mach) : Mach :=
  forEach m.flt.heldI (fun s m => eventAll 1 [w32 (srcClass m s), w32 s] m) { m with flt := { m.flt with heldI := [] } }

/-- A lasting fault takes the source's class and reactions (R332 to R334, R340), one of class NOTE those reactions that it is configured
to have; a lasting uncorrectable read of Beryl marks its sector (R393). Reactions I and N fall due only when the sticky bit goes from 0
to 1. F and B are carried out when the command ends, and so is C. -/
def lasting (s : Nat) (det : Word) (m : Mach) : Mach :=
  let cls := srcClass m s
  let first := !sticky m s
  let m := when (s == 314) (sectorLost (bits det 23 0)) m
  let m := if cls = 0 then noteFault s m else m |> recordFault s cls det |> setSticky s
  let m := when (first && reacts m s fFLT_SRC_CFG_I) (faultEvent s) m
  let m := when (reacts m s fFLT_SRC_CFG_E) errLow m
  let m := if reacts m s fFLT_SRC_CFG_F || reacts m s fFLT_SRC_CFG_B then
      { m with flt := { m.flt with due := m.flt.due ++ [(s, det)] } } else m
  if cls = 4 then fatal s (recOf true m) m
  else if reacts m s fFLT_SRC_CFG_C then { m with flt := { m.flt with dueReset := some 2 } } |> errLow
  else m

/-- The instants within the last 3,600 s of RUN (R337, R339). -/
def within3600 (m : Mach) (l : List Nat) : List Nat := l.filter (fun t => decide (runTime m < t + sec 3600))

/-- More than TRANS_MAX transients of the source fell within the last 3,600 s of RUN, or TRANS_MAX is 0 (R337). -/
def noRetry (m : Mach) (s : Nat) : Bool :=
  let mx := getF m (rFLT_SRC_CFG s) fFLT_SRC_CFG_TRANS_MAX
  mx == 0 || decide (mx < (within3600 m (tget [] m.flt.trans s)).length)

/-- A fault source arrives (R331): a source with a retry is classified when its retry ends (R337), any other at once. -/
def raise (s : Nat) (det : Word) (m : Mach) : Mach :=
  if (srcDef s).retry && !noRetry m s then
    if m.flt.retries.any (fun r => r.src == s) then m
    else { m with flt := { m.flt with retries := m.flt.retries ++ [{ src := s, det := det, at_ := m.now }] } }
  else lasting s det m

/-- Fault `h` takes its place among those that arrive in the same cycle (R341). -/
def insertHit (m : Mach) (h : Nat × Word) : List (Nat × Word) → List (Nat × Word)
  | [] => [h]
  | x :: xs => if faultBefore (srcClass m h.1, h.1) (srcClass m x.1, x.1) then h :: x :: xs else x :: insertHit m h xs

/-- The faults of one cycle in the order of R341. -/
def sortHits (m : Mach) (hits : List (Nat × Word)) : List (Nat × Word) := hits.foldr (insertHit m) []

/-- Faults that arrive in one cycle. -/
def raiseAll (hits : List (Nat × Word)) (m : Mach) : Mach := forEach (sortHits m hits) (fun h => raise h.1 h.2) m

/-- A retry has ended: the fault is transient, or lasting (R337). -/
def classify (r : RetryRec) (passed : Bool) (m : Mach) : Mach :=
  let m := { m with flt := { m.flt with retries := dropFirst (fun x => x.src == r.src) m.flt.retries } }
  if passed then
    let tr := tput [] m.flt.trans r.src (within3600 m (tget [] m.flt.trans r.src) ++ [runTime m])
    { m with flt := { m.flt with trans := tr } } |> noteFault r.src
  else lasting r.src r.det m

/-- The retry of a training failure or a link-down, as port `p` shows it; none while it lasts (R337): the training that follows FAILED
reaches UP or ends elsewhere; the port is in UP again within 1 ms or not. -/
def portRetry (m : Mach) (r : RetryRec) (p : Nat) : Option Bool :=
  let up := (portOf m p).upSince
  let st := portState m p
  if r.src < 157 then
    if r.at_ < up then some true
    else if st = 2 ∨ st = 3 ∨ (st = 9 ∧ (portOf m p).failedAt = r.at_) then none
    else some false
  else if r.at_ < up then some (decide (up ≤ r.at_ + ms 1))
  else if r.at_ + ms 1 < m.now then some false
  else none

/-- How a retry ends, none while it lasts. What the device does not see of itself, the row brings. -/
def retryResult (m : Mach) (r : RetryRec) (passed : Bool) : Option Bool :=
  if 133 ≤ r.src ∧ r.src < 181 then portRetry m r ((r.src - 133) % 24)
  else if 205 ≤ r.src ∧ r.src < 229 then (if 8 ≤ r.frames then some (!r.bad) else none)
  else some passed

/-- The retry of a source ends, if it does (R337). -/
def retryEnd (s : Nat) (passed : Bool) (m : Mach) : Mach :=
  match m.flt.retries.find? (fun r => r.src == s) with
  | none => m
  | some r =>
    match retryResult m r passed with
    | none => m
    | some ok => classify r ok m

/-- One more signature of tile `t` has been compared: the retry of a mismatch counts 8 of them (R337). -/
def retryFrame (t : Nat) (agrees : Bool) (m : Mach) : Mach :=
  let step (r : RetryRec) : RetryRec :=
    if r.src = 205 + t ∧ r.frames < 8 then { r with frames := r.frames + 1, bad := r.bad || !agrees } else r
  { m with flt := { m.flt with retries := m.flt.retries.map step } }

/-- A detail word (R338): instance (0xFF for none) and value. -/
def detail (inst val : Nat) : Word := w32 ((inst % 256) <<< 24 + val % 2 ^ 24)

/-- The detail word of a source whose number names its instance or that has none. -/
def noInst : Word := detail 0xFF 0

/-! ### Onyx: causes, LIMP_N and the safety outputs -/

/-- The SAF cycle (100 MHz) of the present instant. -/
def safCycle (m : Mach) : Nat := (m.now - m.bornAt) / 6

/-- HWSAFE in force (R328). -/
def hwSafe (m : Mach) : Bool := flag m rSAF_STAT fSAF_STAT_HWSAFE

/-- A STOP cause is present: OUT_LOST or INPUT_STOP (R311). -/
def stopPresent (m : Mach) : Bool := (getF m rSAF_CAUSE fSAF_CAUSE_LATCHED &&& 0xC0) != 0

/-- A LIMP or STOP cause is present (R311). -/
def causePresent (m : Mach) : Bool :=
  getF m rSAF_CAUSE fSAF_CAUSE_LATCHED != 0 || getF m rSAF_CAUSE fSAF_CAUSE_HELD != 0

/-- SOUTj is commanded on when all of R324 hold. -/
def outWanted (m : Mach) (j : Nat) : Bool :=
  flag m (rSAF_OUT_CFG j) fSAF_OUT_CFG_EN && m.saf.selfTested &&
  (flag m rSAF_GEN_CFG fSAF_GEN_CFG_AUTO_START || m.saf.ackSeen) && !stopPresent m &&
  !flag m (rSAF_OUT_STAT j) fSAF_OUT_STAT_FAULT && !hasBit m.saf.offBy j

/-- SOUTj is driven; pin and feedback follow the command (a disagreement is reported by its own row). -/
def driveOut (j : Nat) (on : Bool) (m : Mach) : Mach :=
  { m with saf := { m.saf with drivenAt := tput 0 m.saf.drivenAt j m.now } } |> setB (rSAF_OUT_STAT j) fSAF_OUT_STAT_OUT on |> setB (rSAF_OUT_STAT j) fSAF_OUT_STAT_PIN on |>
    setB (rSAF_OUT_STAT j) fSAF_OUT_STAT_FB (on == flag m (rSAF_OUT_CFG j) fSAF_OUT_CFG_FB_POL)

/-- LIMP_N goes low. -/
def limpLow (m : Mach) : Mach :=
  if m.saf.limpHigh then { m with saf := { m.saf with limpHigh := false }, limpAt := m.now } else m

/-- Onyx brings the outputs and LIMP_N into line with the causes. LIMP_N goes low at once (R310); it goes high only at
the SAF tick (R312). In HWSAFE Onyx no longer acts (R309). -/
def safUpdate (m : Mach) : Mach :=
  if hwSafe m then m else
  let held := m.saf.cond % 128
  let m := setF rSAF_CAUSE fSAF_CAUSE_HELD held m
  let m := setB rSAF_STAT fSAF_STAT_STOP (stopPresent m) m
  let m := forEach [0, 1] (fun j m =>
    let w := outWanted m j
    if w == flag m (rSAF_OUT_STAT j) fSAF_OUT_STAT_OUT then m else driveOut j w m) m
  let latched := getF m rSAF_CAUSE fSAF_CAUSE_LATCHED
  let m := setB rSAF_STAT fSAF_STAT_ACK_WAIT (decide ((members 8 latched).any (fun k => !hasBit m.saf.cond (16 + k)))) m
  if causePresent m then
    m |> limpLow |> setB rSAF_STAT fSAF_STAT_LIMP true
  else m

/-- The condition of cause `b` of R311 is present: a held cause shows it, a latched cause is recorded. In HWSAFE Onyx no longer acts
(R309). -/
def causeOn (b : Nat) (m : Mach) : Mach :=
  if hwSafe m then m else
  let fresh := decide (16 ≤ b) && !hasBit m.saf.cond b
  let m := { m with saf := { m.saf with
    cond := setBit m.saf.cond b
    recAt := if fresh then tput 0 m.saf.recAt b (safCycle m + 1) else m.saf.recAt } }
  let m := if 16 ≤ b then
      setF rSAF_CAUSE fSAF_CAUSE_LATCHED (setBit (getF m rSAF_CAUSE fSAF_CAUSE_LATCHED) (b - 16)) m else m
  safUpdate m

/-- The condition of cause `b` has ended: a held cause clears, a latched one waits for an edge (R311). -/
def causeOff (b : Nat) (m : Mach) : Mach :=
  if hwSafe m then m else safUpdate { m with saf := { m.saf with cond := clrBit m.saf.cond b } }

/-- The condition of cause `b` is present exactly when `c` holds. -/
def causeIs (b : Nat) (c : Bool) (m : Mach) : Mach :=
  if c == hasBit m.saf.cond b && b < 16 then m else if c then causeOn b m else causeOff b m

/-- A cause whose condition is a single event: it is recorded and its condition has ended already. -/
def causeEvent (b : Nat) (m : Mach) : Mach := m |> causeOn b |> causeOff b

/-- The hardware safe state (R328): LIMP_N and ERR_N low, each output to its HW_SAFE setting, then source 2. -/
def enterHwSafe (m : Mach) : Mach :=
  if hwSafe m then m else
  let m := m |> setB rSAF_STAT fSAF_STAT_HWSAFE true |> setB rSAF_STAT fSAF_STAT_LIMP true |>
    setB rFLT_ERRN fFLT_ERRN_HWSAFE true |> errLow
  let m := limpLow m
  let m := forEach [0, 1] (fun j m =>
    when (flag m (rSAF_OUT_CFG j) fSAF_OUT_CFG_HW_SAFE) (driveOut j false) m) m
  raise 2 noInst m

/-! ### Groups, contexts and counting -/

/-- Is timing group `g` running (SCN_GRP_STAT.RUN)? -/
def grpRuns (m : Mach) (g : Nat) : Bool := flag m (rSCN_GRP_STAT g) fSCN_GRP_STAT_RUN

/-- Is any timing group running? -/
def anyGrpRuns (m : Mach) : Bool := (List.range 8).any (grpRuns m)

/-- The two safety outputs are off. -/
def outsOff (m : Mach) : Bool := (List.range 2).all (fun j => !flag m (rSAF_OUT_STAT j) fSAF_OUT_STAT_OUT)

/-- Is an operation of kind `k` outstanding (R63)? -/
def pending (m : Mach) (k : PendKind) : Bool := m.pends.any (fun p => p.kind == k)

/-- The outstanding operation of kind `k` on `key`. -/
def pendOf (m : Mach) (k : PendKind) (key : Nat) : Option PendRec := m.pends.find? (fun p => p.kind == k && p.key == key)

/-- Remove the outstanding operation of kind `k` on `key`. -/
def dropPend (k : PendKind) (key : Nat) (m : Mach) : Mach :=
  { m with pends := dropFirst (fun p => p.kind == k && p.key == key) m.pends }

end Sys2Proof.Machine
end

