-- ==== Sys2Proof/Machine/Flags.lean ====
section
/-!
DEFINITION. What a register read returns: the stored word, with the fields that show a live condition or a count
computed at the read (R336, R351, R385, R387, R456), and the side effects of reads (R450).
-/

namespace Sys2Proof.Machine

/-- The state code of tile `t` (R258). -/
def tileState (m : Mach) (t : Nat) : Nat := getF m (rTIL_STAT t) fTIL_STAT_STATE

/-- The limits in force (R352), in codes of °C + 40: T_THR, T_FLOOR, T_SHUT and SHUT_HYST; the absent values where the
configured ones break a condition. -/
def thmLimits (m : Mach) : Nat × Nat × Nat × Nat :=
  let thr := getF m rTHM_CFG fTHM_CFG_T_THR
  let flo := getF m rTHM_CFG fTHM_CFG_T_FLOOR
  let sh := getF m rTHM_CFG fTHM_CFG_T_SHUT
  let hy := getF m rTHM_CFG fTHM_CFG_SHUT_HYST
  if thr + 5 ≤ flo ∧ flo + 5 ≤ sh ∧ sh + 5 ≤ flo + hy then (thr, flo, sh, hy) else (165, 180, 185, 20)

/-- A limit code in 1/16 °C. -/
def degOf (code : Nat) : Int := ((code : Int) - 40) * 16

/-- The onset T_ON in 1/16 °C (R357). -/
def onset (m : Mach) : Int :=
  degOf (thmLimits m).1 - (if flag m rTHM_STAT fTHM_STAT_RISING then (getF m rTHM_RISE fTHM_RISE_RISE_ADV : Int) * 16 else 0)

/-- Is the condition of source `s` present now (R336)? Sources that signal events never show a live bit. -/
def liveBit (m : Mach) (s : Nat) : Bool :=
  let any (n : Nat) (f : Nat → Bool) : Bool := (List.range n).any f
  if s = 2 then hwSafe m
  else if s = 4 then m.flt.clkBad != 0
  else if s = 5 then m.flt.limpBad
  else if s = 9 then any 2 (fun j => flag m (rSAF_OUT_STAT j) fSAF_OUT_STAT_FAULT)
  else if s = 10 then any 4 (fun k => flag m (rSAF_PROD_STAT k) fSAF_PROD_STAT_EXPIRED)
  else if s = 11 then any 4 (fun n => getF m (rSAF_IN_STAT n) fSAF_IN_STAT_STATE == 2)
  else if s = 13 then m.flt.limpDiff != 0
  else if s = 14 then m.flt.ackHigh
  else if s = 15 then !flag m rCPL_REF_STAT fCPL_REF_STAT_REF_OK
  else if s = 16 then m.flt.dramLost
  else if s = 17 then m.flt.opalTiles != 0
  else if s = 20 then flag m rTHM_STAT fTHM_STAT_THERMAL
  else if s = 22 then
    decide (onset m ≤ sgn 16 (getF m rTHM_STAT fTHM_STAT_T_GOV))
  else if s = 23 then m.thm.fastRise
  else if 24 ≤ s ∧ s < 36 then flag m (rTHM_SENS (s - 24)) fTHM_SENS_FAILED
  else if s = 129 then
    let md := getF m rWRP_POSE_STAT fWRP_POSE_STAT_MODE
    md == 2 || md == 3 || md == 4
  else if 133 ≤ s ∧ s < 157 then portState m (s - 133) == 9
  else if 157 ≤ s ∧ s < 181 then (portOf m (s - 157)).lost
  else if 229 ≤ s ∧ s < 253 then flag m (rPHO_TILE_STAT (s - 229)) fPHO_TILE_STAT_DEGRADED
  else if 253 ≤ s ∧ s < 277 then tileState m (s - 253) == 7
  else if s = 277 then m.sigMissed != 0
  else if s = 278 then
    any 24 (fun t => flag m (rCPL_TWIN t) fCPL_TWIN_EN && getF m (rCPL_TWIN t) fCPL_TWIN_STAT != 0)
  else if s = 280 then any 24 (fun t => tileState m t == 9)
  else if s = 282 then any 24 (fun t => flag m (rTIL_STAT t) fTIL_STAT_TFAULT)
  else if s = 283 then any 24 (fun t => (tileOf m t).unstable)
  else if 285 ≤ s ∧ s < 289 then flag m (rCHN_PORT_STAT (s - 285)) fCHN_PORT_STAT_BREAK
  else if s = 293 then any 64 (fun g => flag m (rCHN_GRP_STAT g) fCHN_GRP_STAT_TELLTALE)
  else if s = 294 then m.lampOpen != 0
  else if s = 295 then m.lampShort != 0
  else if s = 296 then any 64 (fun g => getF m (rCHN_GRP_STAT g) fCHN_GRP_STAT_UNDIAG != 0)
  else if s = 297 then any 8 (fun e => flag m (rAUR_STAT e) fAUR_STAT_ERR)
  else if s = 298 then getF m rCHN_CLR_TRIM fCHN_CLR_TRIM_STATE == 3
  else if 299 ≤ s ∧ s < 303 then
    getF m (rMOT_STAT (s - 299)) fMOT_STAT_STATE == 4 && getF m (rMOT_STAT (s - 299)) fMOT_STAT_CAUSE == 2
  else if 303 ≤ s ∧ s < 307 then flag m (rMOT_STAT (s - 303)) fMOT_STAT_DRV_FLT
  else if s = 313 then any 24 (fun k => flag m (rADC_RES k) fADC_RES_OUT && flag m (rADC_CH_LIM k) fADC_CH_LIM_LIM_EN)
  else false

/-- FLT_LIVE[w]: bit b shows source 32w + b (R335). -/
def liveWord (m : Mach) (w : Nat) : Word :=
  w32 ((List.range 32).foldl (fun acc b => acc + b2n (liveBit m (32 * w + b)) * 2 ^ b) 0)

/-- The sticky sources. -/
def stickies (m : Mach) : List Nat :=
  (List.range 10).flatMap (fun w =>
    let v := (reg m (rFLT_STICKY w)).toNat
    if v = 0 then [] else (members 32 v).map (fun b => 32 * w + b))

/-- FLT_SUMMARY: the highest class with a sticky bit set, and whether any is (R351). -/
def summaryWord (m : Mach) : Word :=
  let st := stickies m
  let hi := st.foldl (fun a s => max a (srcClass m s)) 0
  reg m rFLT_SUMMARY |> (fset · fFLT_SUMMARY_HIGHEST hi) |> (fset · fFLT_SUMMARY_ANY (b2n (!st.isEmpty)))

/-- HUB_DEV_STAT mirrors the registers that its fields name (R456). -/
def devStatWord (m : Mach) : Word :=
  let f (r : Nat) (g : Fld) : Nat := getF m r g
  w32 (f rSAF_STAT fSAF_STAT_LIMP <<< 31 + f rSAF_STAT fSAF_STAT_STOP <<< 30 + f rSAF_STAT fSAF_STAT_HWSAFE <<< 29 +
    f rFLT_ERRN fFLT_ERRN_ACTIVE <<< 28 + f rFLT_FATAL fFLT_FATAL_SET <<< 27 + f rUPD_STAT fUPD_STAT_GOLDEN <<< 26 +
    b2n (!locked m) <<< 25 + f rTHM_STAT fTHM_STAT_THROTTLE <<< 24 + f rPWR_STAT fPWR_STAT_STATE <<< 21 +
    f rPWR_STAT fPWR_STAT_RESTART <<< 16 + (if m.nvm.safAny || m.nvm.genAny then m.nvm.starts % 65536 else 0))

/-- Has clock `k` run for 100 µs: the system reference since the start, the others since their domains' clocks started, that of PIX in
RUN alone (CLK registers, R368, R383)? -/
def clkUp (m : Mach) (k : Nat) : Bool :=
  let since := if k = 0 then m.bornAt else if k = 2 then m.pwr.runSince else m.pwr.hubAt
  (k != 2 || inRun m) && decide (since + us 100 ≤ m.now)

/-- The live bits of CLK_STAT: in range, and so for 100 µs (CLK registers, R327). -/
def clkStatWord (m : Mach) : Word :=
  let ok (k : Nat) : Nat := b2n (clkUp m k && !hasBit m.flt.clkBad k)
  w32 (ok 0 <<< 31 + ok 1 <<< 30 + ok 2 <<< 29 + ok 3 <<< 28 + ok 4 <<< 27 +
    getF m rCPL_REF_STAT fCPL_REF_STAT_REF_OK <<< 26 + getF m rRTC_STAT fRTC_STAT_SRC <<< 25) |||
  (reg m rCLK_STAT &&& 0xF800)

/-- The RUN time of a trial in ms: the boot record's figure brought up to date (R408). -/
def trialMs (m : Mach) : Nat :=
  if getF m rUPD_STAT fUPD_STAT_STATE == 4 then m.nvm.boot.trialMs + (runTime m - m.upd.trialAt) / 600000
  else m.nvm.boot.trialMs

/-- The bits of a register that belong to a field; the others are reserved and read as zero (R12). -/
def fieldMask (flds : List FldDesc) : Word :=
  flds.foldl (fun w d => w ||| w32 ((2 ^ d.fld.len - 1) <<< d.fld.lo)) 0

/-- Does the calibration record supply the value of the register at `a`: CAL_ADC, CAL_RES, CAL_EYE or CPL_TRIM? -/
def calAddr (a : Nat) : Bool :=
  (decide (rCAL_ADC 0 ≤ a) && decide (a < rCAL_EYE 24)) || (addrBlock a == 7 && decide (0x200 ≤ a % 0x400) && decide (a % 0x400 < 0x2C0) &&
    decide (a < rCPL_TWIN 0))

/-- The value of such a register without a record (R420). -/
def calDefault (a : Nat) : Word := if addrBlock a = 7 then Config.trimMid else regReset a

/-- Word `k` of the block of item `i`, where the record holds one. -/
def calWord (r : CalRec) (i k : Nat) : Option Word := if r.mask.testBit i then (tget [] r.blocks i)[k]? else none

/-- Item and word of the residual of instance `k` (R421). -/
def calResAt (k : Nat) : Nat × Nat :=
  if k < 24 then (0, 2 * k + 1)
  else if k < 46 then (1, 2 * (k - 24) + 1)
  else if k < 58 then (2, 9 * (k - 46) + 8)
  else if k < 62 then (3, 3 * (k - 58) + 2)
  else (4, 25 * (k - 62) + 24)

/-- Item and word of the value of code `k` of CPL_TRIM of port `p`. -/
def calTrimAt (p k : Nat) : Nat × Nat := (4, 25 * (if k < 24 then p else 24 + p) + k % 24)

/-- Item and word of the value of a calibration register. -/
def calAt (a : Nat) : Nat × Nat :=
  if addrBlock a = 7 then calTrimAt ((a - rCPL_CFG 0) / 0x400) (a % 0x400 / 4 - 0x80)
  else if a < rCAL_RES 0 then (0, 2 * ((a - rCAL_ADC 0) / 4))
  else if a < rCAL_EYE 0 then calResAt ((a - rCAL_RES 0) / 4)
  else (5, (a - rCAL_EYE 0) / 4)

/-- The value in force: that of the record in use, where it holds one. -/
def calReg (m : Mach) (a : Nat) : Word := (m.cal.bind (fun r => calWord r (calAt a).1 (calAt a).2)).getD (calDefault a)

/-- θ of sensor `k` for region `j`, and τ of sensor `k` (j = 6), of the record in use (R354). DESIGN CHOICE (the spec gives θ no format): signed,
in 1/65,536 of 1/16 °C per mW. -/
def modelWord (m : Mach) (k j : Nat) : Word := (m.cal.bind (fun r => calWord r 2 (9 * k + 1 + j))).getD (Config.modelBare k j)

/-- PLC_ENG_MAP (R123): ASSIGNED names the engines that serve a placed tile. -/
def engMapWord (m : Mach) : Word :=
  let set := (List.range 24).foldl (fun a t =>
    let r := rPLC_TILE_MAP t
    if flag m r fPLC_TILE_MAP_VALID then
      let a := setBit a (getF m r fPLC_TILE_MAP_ENG_A)
      if getF m r fPLC_TILE_MAP_ENG_B = 0xF then a else setBit a (getF m r fPLC_TILE_MAP_ENG_B)
    else a) 0
  fset (reg m rPLC_ENG_MAP) fPLC_ENG_MAP_ASSIGNED set

/-- PLC_MIG_STAT (R123): the first move that has not taken effect, else the first that is under way, else a spare port that waits for
its latch. -/
def migStatWord (m : Mach) : Word :=
  let word (group kind done : Nat) : Word :=
    w32 (2 ^ 31) |> (fset · fPLC_MIG_STAT_GROUP group) |> (fset · fPLC_MIG_STAT_KIND kind) |> (fset · fPLC_MIG_STAT_DONE done)
  match (m.pix.plan.filter (fun v => v.freeAt.isNone)) ++ m.pix.plan with
  | v :: _ => word v.group v.kind (if v.copied then 100 else Config.copyProgress v.plan (m.now - v.at_) % 100)
  | [] =>
    match (List.range 24).find? (fun t => (tget {} m.pix.tiles t).toSpare.isSome) with
    | some t => word (getF m (rPLC_TILE_MAP t) fPLC_TILE_MAP_GROUP) 5 0
    | none => 0

/-- Does the loop of port `p` carry data (R233, R235)? -/
def loopActive (m : Mach) (p : Nat) : Bool :=
  match (portOf m p).loopUp with
  | some a => portState m p == 8 && decide (a ≤ m.now)
  | none => false

/-- The word at address `a` before the reserved bits are taken out. -/
def rawView (m : Mach) (a : Nat) : Word :=
  if a = rHUB_DEV_STAT then devStatWord m
  else if a = rFLT_SUMMARY then summaryWord m
  else if a = rCLK_STAT then clkStatWord m
  else if a = rCLK_ENG then (if inRun m && m.upd.booted then 1200 else 0)
  else if a = rRTC_TIME_LO then w32 (calMs m)
  else if a = rRTC_TIME_HI then w32 (m.pwr.rtcHi.getD (calMs m >>> 32))
  else if a = rRTC_AON_CNT_LO then w32 (aonCount m)
  else if a = rRTC_AON_CNT_HI then w32 (m.pwr.aonHi.getD (aonCount m >>> 32))
  else if a = rPWR_AON_BUSY then w32 (b2n (decide (m.now < m.pwr.aonBusyTo)))
  else if rCPL_LOOP 0 ≤ a ∧ a ≤ rCPL_LOOP 23 ∧ (a - rCPL_LOOP 0) % 0x400 = 0 then fset (reg m a) fCPL_LOOP_ACTIVE (b2n (loopActive m ((a - rCPL_LOOP 0) / 0x400)))
  else if a = rPLC_ENG_MAP then engMapWord m
  else if a = rPLC_MIG_STAT then migStatWord m
  else if a = rUPD_TRIAL_MS then w32 (trialMs m)
  else if calAddr a then calReg m a
  else if rFLT_LIVE 0 ≤ a ∧ a ≤ rFLT_LIVE 9 then liveWord m ((a - rFLT_LIVE 0) / 4)
  else if a = rHUB_EVT_STAT 0 ∨ a = rHUB_EVT_STAT 1 ∨ a = rHUB_EVT_STAT 2 ∨ a = rHUB_EVT_STAT 3 then
    fset (reg m a) fHUB_EVT_STAT_QUEUED (queuedEvents m ((a - rHUB_EVT_STAT 0) / 16))
  else if rTIL_CFG 0 ≤ a ∧ a < rTIL_CFG 24 ∧ a % 0x40 = 0xC then
    let t := (a - rTIL_CFG 0) / 0x40
    match (tileOf m t).tempAt with
    | none => fset (reg m a) fTIL_TEMP_AGE 0xFFFF
    | some at_ => fset (reg m a) fTIL_TEMP_AGE (capN 0xFFFF ((m.now - at_) / 600000))
  else reg m a

/-- The state that a read of address `a` samples: in the AON domain it waits for the writes that are under way (R30, R31). -/
def readState (m : Mach) (a : Nat) : Mach := if aonReg a then aonSettled m else m

/-- The value that a read of address `a` returns; an offset to which no register is assigned reads as zero (R449). -/
def viewReg (m : Mach) (a : Nat) : Word :=
  match regAt a with
  | none => 0
  | some (r, _) => rawView (readState m a) a &&& fieldMask r.flds

/-- Does a read of this register have an effect (R450)? -/
def readHasEffect (a : Nat) : Bool :=
  a == rHUB_LOAD || a == rGAR_LOAD 0 || a == rGAR_LOAD 1 || a == rRTC_TIME_LO || a == rRTC_AON_CNT_LO

/-- The effect of a read (R450): PEAK cleared, or the high half latched for the next read. -/
def readEffect (a : Nat) (m : Mach) : Mach :=
  if a = rHUB_LOAD then setF rHUB_LOAD fHUB_LOAD_PEAK 0 m
  else if a = rGAR_LOAD 0 ∨ a = rGAR_LOAD 1 then setF a fGAR_LOAD_PEAK 0 m
  else if a = rRTC_TIME_LO then { m with pwr := { m.pwr with rtcHi := some (calMs (aonSettled m) >>> 32) } }
  else if a = rRTC_AON_CNT_LO then { m with pwr := { m.pwr with aonHi := some (aonCount (aonSettled m) >>> 32) } }
  else if a = rRTC_TIME_HI then { m with pwr := { m.pwr with rtcHi := none } }
  else if a = rRTC_AON_CNT_HI then { m with pwr := { m.pwr with aonHi := none } }
  else m

/-- A read: the value, and the state after it. -/
def readReg (a : Nat) (m : Mach) : Word × Mach := (viewReg m a, readEffect a m)

/-- Reads in order. -/
def readRegs : List Nat → Mach → List Word × Mach
  | [], m => ([], m)
  | a :: rest, m =>
    let (w, m) := readReg a m
    let (ws, m) := readRegs rest m
    (w :: ws, m)

/-- A read by a row of its own: the value is left in `rdata`. -/
def readRow (a : Nat) (m : Mach) : Mach :=
  let (w, m) := readReg a m
  { m with rdata := w }

/-- The JTAG IDCODE (R455). -/
def jtagIdcode (m : Mach) : Word :=
  w32 ((getF m rHUB_REV fHUB_REV_STEP - 1) * 2 ^ 28 + 0x3024 * 2 ^ 12 + 0x4B9 * 2 + 1)

end Sys2Proof.Machine
end

