-- ==== Sys2Proof/Machine/Dratus.lean ====
section
/-!
DEFINITION. The acceptance of a Dratus packet (R56), its order of execution (R60, BARRIER of R41, R62, R84), replies
(R43, R45, R59, R63) and the common form of every command that a packet carries.
-/

namespace Sys2Proof.Machine

/-! ### Status codes (R87) -/

def stOK : Nat := 0x0000
def stPENDING : Nat := 0x0001
def stDEFERRED : Nat := 0x0002
def stBAD_OPCODE : Nat := 0x0100
def stBAD_LENGTH : Nat := 0x0101
def stBAD_CHECK : Nat := 0x0102
def stSEQ_GAP : Nat := 0x0103
def stBAD_FIELD : Nat := 0x0104
def stBAD_PARAM : Nat := 0x0105
def stBAD_ADDRESS : Nat := 0x0106
def stNOT_OWNER : Nat := 0x0200
def stLOCKED : Nat := 0x0201
def stNOT_PERMITTED : Nat := 0x0202
def stBAD_HANDLE : Nat := 0x0203
def stBUSY : Nat := 0x0300
def stNO_RESOURCE : Nat := 0x0301
def stTIMEOUT : Nat := 0x0302
def stSAFETY_REJECT : Nat := 0x0400
def stSTATE_REJECT : Nat := 0x0500
def stHANDLE_RETIRING : Nat := 0x0600
def stIMAGE_REJECT : Nat := 0x0700
def stIMAGE_CHECK : Nat := 0x0701
def stINTERNAL : Nat := 0x0800

/-! ### Opcodes -/

/-- Who executes an opcode (R79). -/
inductive Exe where
  | hw | topaz | onyx
  deriving DecidableEq, Repr

/-- Who may send an opcode (R79); ownership (issuer O) is a check of the opcode's own parameters. -/
inductive Issuer where
  | any | h0 | h0p
  deriving DecidableEq, Repr

/-- The row of the opcode table (R79, R90) that a packet carries. `cls`: 0 ESSENTIAL, 1 NORMAL, 2 BULK. -/
structure OpInfo where
  ver : Nat
  op : Nat
  cls : Nat
  exe : Exe
  issuer : Issuer
  grp : Nat
  /-- the opcode only reads (R59) -/
  reads : Bool
  /-- the opcode's replies carry parameters, so NO_ACK is ignored (R41) -/
  params : Bool
  deriving DecidableEq, Repr

/-- The permission group of a native opcode (R79). -/
def opGroup (op : Nat) : Nat :=
  if op < 0x10 then 0 else if op < 0x20 then 1 else if op < 0x40 then 2 else if op < 0x50 then 3
  else if op < 0x60 then 4 else if op < 0x68 then 5 else if op < 0x70 then 6 else if op < 0x78 then 7 else 8

/-- A native opcode. -/
def native (op cls : Nat) (exe : Exe) (issuer : Issuer) (reads params : Bool) : OpInfo :=
  ⟨1, op, cls, exe, issuer, opGroup op, reads, params⟩

/-- A legacy opcode (R90); `grp` is the group of its native action. -/
def legacy (op cls : Nat) (exe : Exe) (issuer : Issuer) (grp : Nat) (reads params : Bool) : OpInfo :=
  ⟨0, op, cls, exe, issuer, grp, reads, params⟩

/-! ### The packet -/

/-- The header bytes that HCHK covers (R40, R42). -/
def headerBytes (ver op : Nat) (p : Packet) : List Nat :=
  packetHeader ver op p.flags.toNat p.host.toNat p.queue.toNat p.seq.toNat p.plen.toNat p.status.toNat p.resv.toNat

/-- HCHK as R42 computes it. -/
def packetHchk (ver op : Nat) (p : Packet) : Nat := crc crc16 (headerBytes ver op p)

/-- The bytes that the trailer covers: header bytes 0 to 15 and every parameter word (R42). -/
def coveredBytes (ver op : Nat) (p : Packet) : List Nat :=
  headerBytes ver op p ++ halfBytes p.hchk.toNat ++ wordsBytes p.params

/-- The trailer as R42 computes it. -/
def packetTrailer (ver op : Nat) (p : Packet) : Nat := crc crc32c (coveredBytes ver op p)

/-- The packet with the check words that R42 gives. -/
def sealPacket (ver op : Nat) (p : Packet) : Packet :=
  let p := { p with hchk := BitVec.ofNat 16 (packetHchk ver op p) }
  { p with trailer := w32 (packetTrailer ver op p) }

/-- The largest PLEN of a path (R44). -/
def pathMax (path : Nat) : Nat :=
  if path < 24 then 65535 else if path < 26 then 1019 else if path < 28 then 11 else 251

/-- Parameter word `k`; zero where the packet has none. -/
def par (p : Packet) (k : Nat) : Word := p.params.getD k 0

/-- The context that the packet names. -/
def ctxN (p : Packet) : Nat := p.host.toNat % 4

/-- The queue that the packet names. -/
def queueN (p : Packet) : Nat := p.queue.toNat % 8

def noAck (p : Packet) : Bool := p.flags.toNat.testBit 7
def barrier (p : Packet) : Bool := p.flags.toNat.testBit 6

/-- Where the reply to a packet goes (R43). DESIGN CHOICE: the reply to a packet of an unknown VERSION (BAD_OPCODE) carries the VERSION of
the packet; the spec names none. -/
def replyTo (o : OpInfo) (p : Packet) : ReplyTo :=
  { path := p.path, ver := o.ver, op := o.op, host := p.host.toNat, queue := p.queue.toNat, seq := p.seq.toNat,
    noAck := noAck p && !o.params }

/-! ### Replies -/

/-- What a command answers: a status with its parameters, PENDING included; or nothing now (`later`: REG_POLL, and
TIMING_SET on a running group, R64). -/
structure Rep where
  status : Nat
  params : List Word := []
  later : Bool := false
  deriving DecidableEq, Repr

def ok (ps : List Word) : Rep := { status := stOK, params := ps }
def err (st : Nat) : Rep := { status := st }
def errW (st : Nat) (w : Word) : Rep := { status := st, params := [w] }
def later : Rep := { status := stOK, later := true }
def pendingRep : Rep := { status := stPENDING }

/-- The reply packet (R43). -/
def replyPkt (dest : ReplyTo) (r : Rep) : OutPkt :=
  { path := dest.path, ver := dest.ver, op := dest.op % 128 + 128, flags := 0, host := dest.host, queue := dest.queue, seq := dest.seq,
    status := r.status, params := r.params }

/-- Send a reply; NO_ACK suppresses OK (R41). -/
def send (dest : ReplyTo) (r : Rep) (m : Mach) : Mach :=
  if dest.noAck && r.status == stOK then m else emit (replyPkt dest r) m

/-- Send the reply of an accepted packet and keep it for a duplicate (R59), if the packet is still the last accepted
one of its queue. -/
def answer (dest : ReplyTo) (r : Rep) (m : Mach) : Mach :=
  let q := queueOf m dest.host dest.queue
  let m := if q.any && q.expected == (dest.seq + 1) % 65536 then
      setQueue dest.host dest.queue { q with stored := some (replyPkt dest r), pend := r.status == stPENDING } m
    else m
  send dest r m

/-! ### The instant of a command -/

/-- Held writes take effect one after the other, each as the one before it has crossed, as far as instant `t`; a reply goes out once the
writes before it have been taken (R31, R60, R61). -/
def aonDrain (t : Nat) : List AonItem → Mach → Mach
  | [], m => { m with pwr := { m.pwr with aonQ := [] } }
  | .write w :: xs, m =>
    if t < m.pwr.aonBusyTo then { m with pwr := { m.pwr with aonQ := .write w :: xs } }
    else aonDrain t xs (aonApply m.pwr.aonBusyTo w m)
  | .reply dest st ps :: xs, m => aonDrain t xs (answer dest { status := st, params := ps } m)

/-- RESET_N has gone high on a device that it alone held in reset: the start begins at that instant (R433, R435). -/
def leaveReset (m : Mach) : Mach :=
  if !m.pwr.pinHeld || decide (m.now < m.pwr.rstLow) then m else
  let t := m.pwr.rstLow
  { m with
    bornAt := t
    tickAt := t
    pwr := { m.pwr with st := 0, pinHeld := false, runSince := t, hubAt := t, safAt := t, loadAt := t } }

/-- The instant of a command: time never runs backwards. AON writes, the replies that waited for them, and releases of placement that
were held until then have taken effect. -/
def atTime (t : Nat) (m : Mach) : Mach :=
  let m := leaveReset { m with now := max m.now t }
  planDrain (aonDrain m.now m.pwr.aonQ m)

/-- Does the reply of a packet of the queue (of any, with `none`) wait for a write to the AON domain? -/
def aonHolds (m : Mach) (ctx : Nat) (q : Option Nat) : Bool :=
  m.pwr.aonQ.any (fun x => match x with
    | .write _ => false
    | .reply dest _ _ => dest.host == ctx && q.all (dest.queue == ·))

/-- The reply of a packet that was executed in state `before`: at once, or, where writes of it are held on their way to the AON domain,
after them (R31, R60, R61). -/
def respond (dest : ReplyTo) (r : Rep) (before m : Mach) : Mach :=
  if before.pwr.aonQ.length < m.pwr.aonQ.length then
    { m with pwr := { m.pwr with aonQ := m.pwr.aonQ ++ [.reply dest r.status r.params] } }
  else answer dest r m

/-- Send a reply, where there is still somebody to answer. -/
def answerTo (dest : Option ReplyTo) (r : Rep) (m : Mach) : Mach :=
  match dest with
  | some dest => answer dest r m
  | none => m

/-- The final reply of an operation that answered PENDING, or the reply of one that answers later (R63). -/
def finish (k : PendKind) (key : Nat) (r : Rep) (m : Mach) : Mach :=
  match pendOf m k key with
  | none => m
  | some p => m |> dropPend k key |> answerTo p.dest r

/-! ### Order of execution -/

/-- An accepted packet of the queue that has not completed: waiting, polling, or waiting for its latch (R60). -/
def queueBusy (m : Mach) (ctx q : Nat) : Bool :=
  m.held.any (fun h => h.accepted && h.ctx == ctx && h.queue == q) ||
  m.polls.any (fun r => r.dest.host == ctx && r.dest.queue == q) ||
  m.pends.any (fun r => r.kind == .timing && r.dest.any (fun dest => dest.host == ctx && dest.queue == q)) ||
  aonHolds m ctx (some q)

/-- The number of accepted packets of the queue that have not completed (R62). -/
def queueLoad (m : Mach) (ctx q : Nat) : Nat :=
  (m.held.filter (fun h => h.accepted && h.ctx == ctx && h.queue == q)).length +
  (m.polls.filter (fun r => r.dest.host == ctx && r.dest.queue == q)).length +
  (m.pends.filter (fun r => r.dest.any (fun dest => dest.host == ctx && dest.queue == q))).length + b2n (aonHolds m ctx (some q))

/-- An accepted packet of the context, in any of its queues, has not completed; an operation answered PENDING stays in
progress (R41, R63). -/
def ctxBusy (m : Mach) (ctx : Nat) : Bool :=
  m.held.any (fun h => h.accepted && h.ctx == ctx) || m.polls.any (fun r => r.dest.host == ctx) ||
  m.pends.any (fun r => r.dest.any (fun dest => dest.host == ctx)) || aonHolds m ctx none

/-- Topaz cannot execute: not yet started, being reset, in an activation pause, or past its wait-for-state instruction. -/
def topazStopped (m : Mach) : Bool := !m.upd.booted || m.saf.topazDown || m.upd.pause.isSome

/-- Must a packet for Topaz wait while it is so? DESIGN CHOICE: in an activation pause SYSTEM_RESET is answered at once, with the BUSY that
R454 gives it there, although R406 has packets for Topaz held in the pause. -/
def topazWaits (m : Mach) (ver op : Nat) : Bool :=
  topazStopped m && !(m.upd.booted && m.upd.pause.isSome && ver == 1 && op == 0x0D)

/-- The command paths hold newly arriving packets (R371 E4). -/
def pathsHeld (m : Mach) : Bool :=
  match m.pwr.entry with
  | some e => decide (4 ≤ e.step)
  | none => false

/-- What becomes of an arriving packet: the state in which it ended, or the state in which it executes. -/
inductive Gate where
  | stop (m : Mach)
  | go (m : Mach)
  deriving DecidableEq, Repr

/-- Put a packet that cannot run now among the held ones. -/
def hold (i : Instr) (o : OpInfo) (p : Packet) (accepted : Bool) (m : Mach) : Mach :=
  let h : Held :=
    { instr := i, dest := replyTo o p, accepted := accepted, path := p.path, ctx := ctxN p, queue := queueN p, topaz := o.exe == .topaz,
      cls := o.cls, barrier := barrier p, bytes := 20 + 4 * p.params.length, paused := m.upd.pause.isSome }
  { m with held := m.held ++ [h] }

/-- A wake source occurs: its bit in PWR_WAKE_SRC is set; an enabled source is noted for the entry under way, or starts
the exit (R372, R373, R375). -/
def wakeEvent (k : Nat) (m : Mach) : Mach :=
  let m := latchBits rPWR_WAKE_SRC fPWR_WAKE_SRC_SRC (2 ^ k) m
  if !(k == 6 || hasBit (getF m rPWR_WAKE_EN fPWR_WAKE_EN_EN) k) then m else
  match m.pwr.entry with
  | some e =>
    if e.wake.isSome then m else
    { m with pwr := { m.pwr with entry := some { e with wake := some k } } }
  | none =>
    if m.pwr.st = 2 ∨ m.pwr.st = 3 ∨ m.pwr.st = 4 then
      let m := setF rPWR_STAT fPWR_STAT_WAKE k m
      { m with pwr := { m.pwr with exiting := true } }
    else m

/-- Is there room on a CPT or CAN path while the device cannot take packets (R49, R375)? -/
def pathRoom (m : Mach) (p : Packet) : Bool :=
  let waiting := m.held.filter (fun h => !h.accepted && h.path == p.path.val)
  if isCpt p.path then decide ((waiting.map Held.bytes).sum + 20 + 4 * p.params.length ≤ 4096)
  else decide (waiting.length < 16)

/-- A packet is lost for want of room: RX_OVF of a CPT target (R48). -/
def lost (path : Nat) (m : Mach) : Mach := if isCpt path then setCpt (path - 24) { cptOf m (path - 24) with ovf := true } m else m

/-- A count in HUB_RX_ERR (R54, R56, R74). -/
def countHdrErr (path : Nat) (m : Mach) : Mach := bump (rHUB_RX_ERR path) fHUB_RX_ERR_HDR_ERR m
def countDisc (path : Nat) (m : Mach) : Mach := bump (rHUB_RX_ERR path) fHUB_RX_ERR_DISC m

/-- The path accepts packets (R54, R55): the debug port in the Provisioning state whatever its binding says; a port
only in host role. DESIGN CHOICE: a packet on a port in another role counts in DISC, as on a path with EN = 0; the spec does not say. -/
def pathEnabled (m : Mach) (path : Nat) : Bool :=
  if path = 28 ∧ !locked m then true
  else flag m (rHUB_PATH_BIND path) fHUB_PATH_BIND_EN &&
    (decide (24 ≤ path) || getF m (rCPL_CFG path) fCPL_CFG_ROLE == 2)

/-- Onyx takes the CAN FD frames on the request identifier of controller `n` before the Dratus filter sees them (R316): SAF_CAN names
that controller and identifier. What such a frame does as an envelope is the row of its object. -/
def onyxTakes (m : Mach) (n : Nat) : Bool :=
  let a := rCAN_DRATUS_ID n
  flag m rSAF_CAN fSAF_CAN_EN && getF m rSAF_CAN fSAF_CAN_CTRL == n &&
    flag m rSAF_CAN fSAF_CAN_XTD == flag m a fCAN_DRATUS_ID_XTD &&
    sameId (flag m a fCAN_DRATUS_ID_XTD) (getF m rSAF_CAN fSAF_CAN_ID) (getF m a fCAN_DRATUS_ID_REQ_ID)

/-- No packet arrives on the debug port after the lock unless JTAG_DBG is set (R455), nor on a CAN controller that accepts no Dratus
requests (R52) or whose request identifier Onyx takes (R316). -/
def outOfReach (m : Mach) (path : Nat) : Bool :=
  (path == 28 && locked m && !flag m rHUB_CTRL fHUB_CTRL_JTAG_DBG) ||
  ((path == 26 || path == 27) && (!flag m (rCAN_DRATUS_ID (path - 26)) fCAN_DRATUS_ID_EN || onyxTakes m (path - 26)))

/-- Check 3 of R56 (R53, R55): HOST matches the binding; the locked debug port serves context 0 alone. DESIGN CHOICE: the debug port
in the Provisioning state answers HOST 4 to 255, for which there is no context (R40), with NOT_OWNER; the spec does not say. -/
def hostMatches (m : Mach) (p : Packet) : Bool :=
  if p.path = (28 : Fin 29) ∧ !locked m then decide (p.host.toNat < 4)
  else p.host.toNat == getF m (rHUB_PATH_BIND p.path) fHUB_PATH_BIND_CTX &&
    (p.path != (28 : Fin 29) || p.host.toNat == 0)

/-- Check 4 of R56. -/
def fieldsOk (p : Packet) : Bool :=
  p.resv == 0 && p.status == 0 && p.flags.toNat % 64 == 0 && decide (p.queue.toNat < 8)

/-- May the locked debug port carry the opcode (R55)? -/
def debugOp (o : OpInfo) : Bool :=
  o.ver == 1 && (o.op == 0x00 || o.op == 0x01 || o.op == 0x05 || o.op == 0x06 || o.op == 0x10 || o.op == 0x13)

/-- Check 10 of R56: group permission, then the issuer rule (R67), and what the locked debug port refuses (R55). -/
def permission (m : Mach) (o : OpInfo) (p : Packet) : Option Nat :=
  let perm := reg m (rHUB_CTX_OPPERM (ctxN p))
  if !bit perm o.grp || (o.ver == 0 && !bit perm 8) then some stNOT_PERMITTED
  else if o.issuer != .any && ctxN p != 0 then some stNOT_PERMITTED
  else if p.path = (28 : Fin 29) ∧ locked m ∧ !debugOp o then some stLOCKED
  else if o.issuer == .h0p && locked m then some stLOCKED
  else none

/-- The class is being deferred (R75, R76): Topaz packets only. -/
def deferred (m : Mach) (o : OpInfo) : Bool :=
  o.exe == .topaz &&
  ((o.cls == 2 && flag m rHUB_LOAD fHUB_LOAD_BULK_DEFER) || (o.cls == 1 && flag m rHUB_LOAD fHUB_LOAD_NORMAL_DEFER))

/-- The golden image executes the opcode (R395). -/
def goldenOp (o : OpInfo) : Bool :=
  o.ver == 1 && (decide (o.op ≤ 0x0F) || (decide (0x10 ≤ o.op) && decide (o.op ≤ 0x15)) ||
    o.op == 0x70 || o.op == 0x71 || o.op == 0x72 || o.op == 0x73)

/-- May the held packet `h` go on, with `before` the packets held since earlier? -/
def mayRun (m : Mach) (before : List Held) (h : Held) : Bool :=
  if !h.accepted then hubRuns m && !pathsHeld m && !before.any (fun b => !b.accepted && b.path == h.path)
  else
    hubRuns m && !before.any (fun b => b.accepted && b.ctx == h.ctx && (b.queue == h.queue || h.barrier || b.barrier)) &&
    !m.polls.any (fun r => r.dest.host == h.ctx && (r.dest.queue == h.queue || h.barrier)) &&
    !m.pends.any (fun r => r.dest.any (fun dest => dest.host == h.ctx && ((r.kind == .timing && dest.queue == h.queue) || h.barrier))) &&
    !aonHolds m h.ctx (if h.barrier then none else some h.queue) && !(h.topaz && topazWaits m h.dest.ver h.dest.op)

/-- The packets that may run, each with its place. -/
def candidates (m : Mach) : Nat → List Held → List Held → List (Nat × Held)
  | _, _, [] => []
  | k, before, h :: hs =>
    let rest := candidates m (k + 1) (before ++ [h]) hs
    if mayRun m before h then (k, h) :: rest else rest

/-- Rank of a Topaz packet: its class, then round robin over the contexts, a round for each class (R77). -/
def topazRank (m : Mach) (cls ctx : Nat) : Nat := 4 * cls + (ctx + 4 - tget 0 m.rr cls % 4) % 4

/-- Rank of a Topaz packet that waits: those that arrived in an activation pause go first, in the order of arrival (R406). -/
def heldRank (m : Mach) (h : Held) : Nat := if h.paused then 0 else topazRank m h.cls h.ctx + 1

/-- A Topaz packet that waits comes before one of class `cls` of context `ctx` that arrives now (R77). -/
def topazAhead (m : Mach) (cls ctx : Nat) : Bool :=
  (candidates m 0 [] m.held).any (fun c =>
    c.2.accepted && c.2.topaz && decide (heldRank m c.2 ≤ topazRank m cls ctx + 1))

/-- Topaz serves context `ctx` in class `cls`: the round goes on behind it (R77). -/
def serve (cls ctx : Nat) (m : Mach) : Mach := { m with rr := tput 0 m.rr cls (ctx + 1) }

/-- An accepted packet starts, or waits behind what must complete first (R60, R41), or for Topaz (R77, R406). -/
def startOrWait (i : Instr) (o : OpInfo) (p : Packet) (m : Mach) : Gate :=
  if queueBusy m (ctxN p) (queueN p) || (barrier p && ctxBusy m (ctxN p)) ||
      (o.exe == .topaz && (topazWaits m o.ver o.op || topazAhead m o.cls (ctxN p))) then
    .stop (hold i o p true m)
  else .go (if o.exe == .topaz then serve o.cls (ctxN p) m else m)

/-- Checks 9 to 11 of R56 for a packet whose context may use the opcode. DESIGN CHOICE: a packet with the SEQ of the last accepted one
but another opcode is its duplicate all the same; whether it is executed follows the accepted opcode, and what is executed is the
packet that came. The spec speaks only of a repeated packet (R59). -/
def checkSeq (i : Instr) (o : OpInfo) (p : Packet) (m : Mach) : Gate :=
  let dest := replyTo o p
  let n := ctxN p
  let q := queueOf m n (queueN p)
  let seq := p.seq.toNat
  if q.any && (seq + 1) % 65536 == q.expected then
    if q.stored.isNone then .stop m
    else if q.reads && !q.pend then
      match permission m o p with
      | some st => .stop (answer dest (err st) m)
      | none => startOrWait i o p m
    else .stop (match q.stored with
      | some r => if noAck p && !o.params && r.status == stOK then m else emit { r with path := p.path } m
      | none => m)
  else if seq != q.expected then
    .stop (m |> bump (rHUB_CTX_STAT n) fHUB_CTX_STAT_SEQGAP_CNT |> send dest (errW stSEQ_GAP (w32 q.expected)))
  else
    let adv : QueueRec :=
      { expected := (q.expected + 1) % 65536, any := true, stored := none, reads := o.reads, pend := false }
    match permission m o p with
    | some st => .stop (m |> setQueue n (queueN p) adv |> answer dest (err st))
    | none =>
      if decide (16 ≤ queueLoad m n (queueN p)) || deferred m o then
        .stop (m |> bump (rHUB_CTX_STAT n) fHUB_CTX_STAT_DEFER_CNT |> send dest (err stDEFERRED))
      else startOrWait i o p (setQueue n (queueN p) adv m)

/-- Checks 1 to 8 of R56 for a packet that the paths take; `known` says that the opcode is defined (check 7). DESIGN CHOICE: check 2
of a packet of VERSION 0 whose HOST is 4 to 255 reads BAMUT_CMD of context HOST mod 4, since check 3, which refuses that HOST, comes
later and the spec names no context for check 2; and check 8 lets GET_ID of VERSION 0 pass on a closed context as it does IDENTIFY,
whose action it has (R90), though the spec exempts IDENTIFY by name. -/
def checkHeader (i : Instr) (o : OpInfo) (known : Bool) (p : Packet) (m : Mach) : Gate :=
  let dest := replyTo o p
  if !pathEnabled m p.path then .stop (countDisc p.path m)
  else if p.hchk.toNat != packetHchk o.ver o.op p then .stop (countHdrErr p.path m)
  else
  let m := if m.pwr.entry.isSome then wakeEvent 7 m else m
  if !(o.ver == 1 || (o.ver == 0 && flag m (rHUB_CTX_CFG (ctxN p)) fHUB_CTX_CFG_BAMUT_CMD)) then
    .stop (send dest (err stBAD_OPCODE) m)
  else if !hostMatches m p then .stop (send dest (err stNOT_OWNER) m)
  else if !fieldsOk p then .stop (send dest (err stBAD_FIELD) m)
  else if decide (pathMax p.path < p.plen.toNat) || p.short || p.plen.toNat != p.params.length then
    .stop (send dest (err stBAD_LENGTH) m)
  else if p.trailer.toNat != packetTrailer o.ver o.op p then .stop (send dest (err stBAD_CHECK) m)
  else if !known then .stop (send dest (err stBAD_OPCODE) m)
  else if !ctxOpen m (ctxN p) && !(o.op == 0x00 || (o.ver == 1 && (o.op == 0x01 || o.op == 0x02)) ||
      (o.ver == 0 && o.op == 0x01)) then
    .stop (send dest (errW stSTATE_REJECT (viewReg m (rHUB_CTX_CFG (ctxN p)))) m)
  else checkSeq i o p m

/-- The arrival of a packet (R56, R84, R371, R375, R455). -/
def arrive (i : Instr) (o : OpInfo) (known : Bool) (p : Packet) (m : Mach) : Gate :=
  let m := atTime p.t m
  if m.resuming then .go { m with resuming := false }
  else if outOfReach m p.path then .stop m
  else if m.pwr.st = 2 then
    if decide (24 ≤ p.path.val) && decide (p.path.val < 28) then
      let m := wakeEvent (if isCpt p.path then 4 else 3) m
      if pathRoom m p then .stop (hold i o p false m) else .stop (lost p.path m)
    else .stop m
  else if !hubRuns m then .stop m
  else if pathsHeld m then
    if pathRoom m p then .stop (hold i o p false m) else .stop (lost p.path m)
  else checkHeader i o known p m

/-- Execute an accepted packet (R56 checks 12 and 13): what the golden image refuses (R395), the reply bound (R45), the
command's own body, and its reply. `rlen` is the PLEN of the reply that the packet would receive with status OK. -/
def runPacket (o : OpInfo) (rlen : Nat) (body : Packet → Mach → Mach × Rep) (p : Packet) (m : Mach) : Mach :=
  let dest := replyTo o p
  if flag m rUPD_STAT fUPD_STAT_GOLDEN && !goldenOp o then
    answer dest (errW stSTATE_REJECT (viewReg m rHUB_DEV_STAT)) m
  else if pathMax p.path < rlen then answer dest (err stBAD_LENGTH) m
  else
    let (m', r) := body p m
    if r.later then m' else respond dest r m m'

/-- Check 12: a body guarded by PLEN (R80). -/
def withLen (okLen : Nat → Bool) (body : Packet → Mach → Mach × Rep) (p : Packet) (m : Mach) : Mach × Rep :=
  if okLen p.params.length then body p m else (m, err stBAD_LENGTH)

/-- A command without effect but its reply. -/
def refuse (m : Mach) (st : Nat) : Mach × Rep := (m, err st)

/-- STATE_REJECT with the register that R460 names. -/
def stateReject (m : Mach) (a : Nat) : Mach × Rep := (m, errW stSTATE_REJECT (viewReg m a))

end Sys2Proof.Machine
end

