-- ==== Sys2Proof/Machine/Operands.lean ====
section
/-!
DEFINITION. The parameter words of a Dratus packet (R39, R80): `par` reads one; here are the checks that they share.
-/

namespace Sys2Proof.Machine

/-- No bit of `w` is set outside the fields `[hi:lo]` given (R80). -/
def clean (w : Word) (fs : List (Nat × Nat)) : Bool :=
  (w &&& ~~~ fs.foldl (fun a f => a ||| w32 ((2 ^ (f.1 + 1 - f.2) - 1) <<< f.2)) 0) == 0

/-- Answer BAD_PARAM unless `c` holds. -/
def require (c : Bool) (k : Mach → Mach × Rep) (m : Mach) : Mach × Rep := if c then k m else (m, err stBAD_PARAM)

end Sys2Proof.Machine
end

