-- ==== Sys2Proof/Machine/PixMath.lean ====
section
/-!
DEFINITION. The arithmetic of the pixel path, without state: pixel formats and buffer layout (R96 to R98), samples (R126,
R133), blending (R128), the mesh and the sampler (R135 to R138), the photometric stages (R152 to R180) and wear (R158).
Intensities are in sixteenths, gains in 1/32768, coordinates in 1/1024.
-/

namespace Sys2Proof.Machine

/-- `a / b` rounded to the nearest integer, ties away from zero (R126, R153); `b` is positive. -/
def rdiv (a b : Int) : Int := if a < 0 then -((2 * -a + b) / (2 * b)) else (2 * a + b) / (2 * b)

/-- `a / b` rounded to the nearest natural number, ties up. -/
def rdivN (a b : Nat) : Nat := (2 * a + b) / (2 * b)

/-- `⌈a / b⌉`. -/
def cdiv (a b : Nat) : Nat := (a + b - 1) / b

/-- `x` rounded up to a multiple of `m` (R98). -/
def upTo (x m : Nat) : Nat := cdiv x m * m

/-! ### Formats and layout -/

/-- A format of R96: bytes per sample (0: one bit), bits of a sample, chroma (0 none, 1 4:2:0, 2 4:2:2), semi-planar,
alpha. -/
structure FmtInfo where
  bytes : Nat
  depth : Nat
  chroma : Nat
  semi : Bool
  alpha : Bool
  deriving DecidableEq, Repr, Inhabited

/-- The image formats of R96; RAW (0x00) is none of them. -/
def fmtOf (code : Nat) : Option FmtInfo :=
  match code with
  | 0x01 => some ⟨1, 8, 0, false, false⟩
  | 0x02 => some ⟨2, 10, 0, false, false⟩
  | 0x03 => some ⟨2, 12, 0, false, false⟩
  | 0x10 => some ⟨1, 8, 1, true, false⟩
  | 0x11 => some ⟨2, 10, 1, true, false⟩
  | 0x12 => some ⟨1, 8, 1, false, false⟩
  | 0x13 => some ⟨2, 10, 1, false, false⟩
  | 0x14 => some ⟨1, 8, 2, true, false⟩
  | 0x15 => some ⟨2, 10, 2, true, false⟩
  | 0x16 => some ⟨1, 8, 2, false, false⟩
  | 0x17 => some ⟨2, 10, 2, false, false⟩
  | 0x20 => some ⟨1, 8, 0, false, true⟩
  | 0x21 => some ⟨0, 1, 0, false, true⟩
  | _ => none

/-- The layout of an image buffer (R98): pitch, offsets of planes 1 and 2 (0: none), chroma pitch, size. -/
structure Layout where
  pitch : Nat
  plane1 : Nat
  plane2 : Nat
  cpitch : Nat
  size : Nat
  deriving DecidableEq, Repr, Inhabited

/-- Chroma rows of an image of height `h`. -/
def chromaRows (f : FmtInfo) (h : Nat) : Nat := if f.chroma = 1 then h / 2 else h

/-- The layout of a buffer of `w` × `h` (R98). -/
def layoutOf (f : FmtInfo) (w h : Nat) : Layout :=
  let p := if f.bytes = 0 then upTo (cdiv w 8) 64 else upTo (w * f.bytes) 64
  let end0 := p * h
  if f.chroma = 0 then ⟨p, 0, 0, 0, upTo end0 4096⟩
  else
    let o1 := upTo end0 4096
    let rows := chromaRows f h
    if f.semi then ⟨p, o1, 0, p, upTo (o1 + p * rows) 4096⟩
    else
      let pc := upTo (w / 2 * f.bytes) 64
      let o2 := o1 + upTo (pc * rows) 4096
      ⟨p, o1, o2, pc, upTo (o2 + pc * rows) 4096⟩

/-- Are width and height even where the chroma needs it (R97)? -/
def chromaEven (f : FmtInfo) (w h : Nat) : Bool :=
  (f.chroma == 0 || w % 2 == 0) && (f.chroma != 1 || h % 2 == 0)

/-- Twice the factor k of R112: `chroma` says that chroma planes are fetched. -/
def chromaHalves (f : FmtInfo) (chroma : Bool) : Nat := if !chroma || f.chroma == 0 then 2 else if f.chroma = 1 then 3 else 4

/-- Line-buffer blocks of a layer (R112). -/
def lineBlocks (f : FmtInfo) (w lines : Nat) (chroma : Bool) : Nat :=
  if f.bytes = 0 then cdiv (lines * w) (8 * 4096) else cdiv (lines * w * f.bytes * chromaHalves f chroma) (2 * 4096)

/-! ### Samples -/

/-- A sample of `f` at place `i` of the row that starts at `off`; `rd` reads a byte of the buffer. -/
def sampleAt (rd : Nat → Nat) (f : FmtInfo) (off i : Nat) : Nat :=
  if f.bytes = 0 then rd (off + i / 8) / 2 ^ (i % 8) % 2
  else if f.bytes = 1 then rd (off + i)
  else (rd (off + 2 * i) + 256 * rd (off + 2 * i + 1)) % 2 ^ f.depth

/-- A luma or alpha sample as 12.4 (R126). -/
def luma16 (depth v : Nat) : Nat := rdivN (v * 65520) (2 ^ depth - 1)

/-- The chroma sample of plane `c` (0 Cb, 1 Cr) at chroma column `x` and row `y`; beyond the edge of the plane the spec
states no value. -/
def chromaRaw (rd : Nat → Nat) (f : FmtInfo) (w h : Nat) (c : Nat) (x y : Int) : Nat :=
  let l := layoutOf f w h
  let cw : Int := (w / 2 : Nat)
  let ch : Int := (chromaRows f h : Nat)
  let cx := if x < 0 then 0 else if cw ≤ x then cw - 1 else x
  let cy := if y < 0 then 0 else if ch ≤ y then ch - 1 else y
  let row := l.plane1 + cy.toNat * l.cpitch
  let v := if f.semi then sampleAt rd f row (2 * cx.toNat + c)
    else if c = 0 then sampleAt rd f row cx.toNat
    else sampleAt rd f (l.plane2 + cy.toNat * l.cpitch) cx.toNat
  if cx = x ∧ cy = y then v else Config.chromaEdge v x y % 2 ^ f.depth

/-- Centred chroma in sixteenths at luma position (x, y): bilinear upsampling with the siting of R97, then R133. -/
def chroma16 (rd : Nat → Nat) (f : FmtInfo) (w h c x y : Nat) : Int :=
  if f.chroma = 0 then 0 else
  let s (cx cy : Int) : Int := (chromaRaw rd f w h c cx cy : Int)
  let cx : Int := (x / 2 : Nat)
  let row (cy : Int) : Int := if x % 2 = 0 then 2 * s cx cy else s cx cy + s (cx + 1) cy
  let sum8 : Int :=
    if f.chroma = 2 then 4 * row (y : Nat)
    else
      let k : Int := (y / 2 : Nat)
      if y % 2 = 0 then row (k - 1) + 3 * row k else 3 * row k + row (k + 1)
  sum8 * 2 ^ (12 - f.depth) * 2 - 32768

/-- The sum of one matrix row applied to (Y, Cb', Cr') with its offset, limited as R133 says. -/
def matrixRow (m0 m1 m2 o y cb cr : Int) : Nat :=
  let v := rdiv (m0 * y + m1 * cb + m2 * cr + 16384 * o) 8192
  if v < 0 then 0 else if 65535 < v then 65535 else v.toNat

/-- The halves of a matrix word. -/
def lowS (w : Word) : Int := sgn 16 (w.toNat % 65536)
def highS (w : Word) : Int := sgn 16 (w.toNat / 65536)

/-- R, G and B of a sample (R133). -/
def toRgb (mx : List Word) (y cb cr : Int) : List Nat :=
  let row (k : Nat) : Nat :=
    let a := mx.getD (2 * k) 0
    let b := mx.getD (2 * k + 1) 0
    matrixRow (lowS a) (highS a) (lowS b) (highS b) y cb cr
  [row 0, row 1, row 2]

/-! ### Blending (R128) -/

/-- The matte of a mask-multiply entry as a fraction (numerator, denominator). -/
def matte (f : FmtInfo) (v : Nat) : Nat × Nat :=
  if f.alpha then (if f.bytes = 0 then (v, 1) else (rdivN (v * 32768) 255, 32768))
  else (min (luma16 f.depth v) 65520, 65520)

/-- `out × (1 − op + op × num/den)`, rounded once. -/
def scaleBy (out op num den : Nat) : Nat := rdivN (out * ((32768 - op) * den + op * num)) (32768 * den)

/-- One channel of a blend other than mask-multiply: modes 0 replace, 1 over, 2 max, 3 multiply. -/
def blend (mode op out s : Nat) : Nat :=
  if mode = 0 then s
  else if mode = 1 then (rdiv ((out : Int) * 32768 + (op : Int) * ((s : Int) - (out : Int))) 32768).toNat
  else if mode = 2 then max out (rdivN (op * s) 32768)
  else scaleBy out op (min s 65520) 65520

/-! ### Mesh and sampler -/

/-- The number of a mesh point (R136). -/
def meshIdx (i j : Nat) : Nat := 65 * j + i

/-- Mesh point (i, j); without a mesh the identity (R136). -/
def meshAt (mesh : List MeshPt) (w h i j : Nat) : MeshPt :=
  if mesh.isEmpty then ((i * w * 16 : Nat), (j * h * 32 : Nat), false) else mesh.getD (meshIdx i j) (0, 0, false)

/-- Bilinear interpolation with weights of `d`, not yet rounded (scaled by d²). -/
def bilerp (d : Int) (a b c e fx fy : Int) : Int :=
  let top := a * d + fx * (b - a)
  let bot := c * d + fx * (e - c)
  top * d + fy * (bot - top)

/-- The source coordinate of output pixel (x, y) in 1/1024, and whether the pixel is blanked (R135, R137). -/
def sourceAt (mesh : List MeshPt) (w h x y : Nat) : Int × Int × Bool :=
  let un := (2 * x + 1) * 32
  let vn := (2 * y + 1) * 16
  let i := un / w
  let j := vn / h
  let fx : Int := (rdivN (un % w * 4096) w : Nat)
  let fy : Int := (rdivN (vn % h * 4096) h : Nat)
  let a := meshAt mesh w h i j
  let b := meshAt mesh w h (i + 1) j
  let c := meshAt mesh w h i (j + 1)
  let e := meshAt mesh w h (i + 1) (j + 1)
  (rdiv (bilerp 4096 a.1 b.1 c.1 e.1 fx fy) (4096 * 4096),
    rdiv (bilerp 4096 a.2.1 b.2.1 c.2.1 e.2.1 fx fy) (4096 * 4096), a.2.2 || b.2.2 || c.2.2 || e.2.2)

/-- A mesh row coordinate at control-point column `i` and output height `y2`/2, in 1/1024. -/
def meshRowAt (mesh : List MeshPt) (w h i y2 : Nat) : Int :=
  let vn := y2 * 16
  let j := min (vn / h) 31
  let fy : Int := (rdivN ((vn - j * h) * 4096) h : Nat)
  let a := (meshAt mesh w h i j).2.1
  let c := (meshAt mesh w h i (j + 1)).2.1
  rdiv (a * 4096 + fy * (c - a)) 4096

/-- The mesh span of band `b` (R125): largest minus smallest source row at the 65 control-point columns of the band's
first and last rows, rounded up to whole rows, plus 2. -/
def bandSpan (mesh : List MeshPt) (w h b : Nat) : Nat :=
  let last := min (8 * b + 7) (h - 1)
  let vs := (List.range 65).flatMap (fun i =>
    [meshRowAt mesh w h i (2 * (8 * b) + 1), meshRowAt mesh w h i (2 * last + 1)])
  let hi := vs.foldl max (vs.headD 0)
  let lo := vs.foldl min (vs.headD 0)
  cdiv (hi - lo).toNat 1024 + 2

/-- The mesh span of a tile: the largest over its bands. -/
def meshSpan (mesh : List MeshPt) (w h : Nat) : Nat :=
  (List.range (cdiv h 8)).foldl (fun a b => max a (bandSpan mesh w h b)) 0

/-- The mesh point that a 64-bit word holds (R135), or none where a reserved bit is set. -/
def meshPoint (word : Nat) : Option MeshPt :=
  if word / 2 % 2 ^ 15 != 0 then none
  else some (sgn 24 (word / 2 ^ 40), sgn 24 (word / 2 ^ 16 % 2 ^ 24), word % 2 == 1)

/-- The whole part and weight (of 256) of a sampler position (R138). -/
def samplerPos (s : Int) : Int × Nat :=
  let d := s - 512
  (d / 1024, rdivN (d % 1024).toNat 4)

/-- The sampler's result from the four raster values around the position (R138). -/
def sampler (a b c e wx wy : Nat) : Nat := (rdiv (bilerp 256 a b c e wx wy) 65536).toNat

/-! ### The photometric stages -/

/-- A product of two gains, rounded to 1.15 and limited (R153). -/
def gainMul (a b : Nat) : Nat := min 65535 (rdivN (a * b) 32768)

/-- Apply a gain (R153). -/
def applyGain (g v : Nat) : Nat := min 65535 (rdivN (v * g) 32768)

/-- Stage-1 gain of a live pixel with uniformity code `u` and the numbers of live neighbours of its dead neighbours
(R156, R164). -/
def stage1Gain (u spread : Nat) (ms : List Nat) : Nat :=
  let sum := (ms.map (fun m => spread * (12 / m))).sum
  min 65535 (rdivN ((128 + u) * 128 * (32768 * 12 + sum)) (32768 * 12))

/-- The 16-bit number at byte `off`. -/
def half16 (bs : List Nat) (off : Nat) : Nat := leNat ((bs.drop off).take 2)

/-- The wear gain from curve `k` for counter `c` (R159); no table: 1.0. -/
def wearGain (tab : List Nat) (k c : Nat) : Nat :=
  if tab.isEmpty then 0x8000 else
  let base := 0x10 + k * 0x210
  let t (i : Nat) : Int := (half16 tab (base + 2 * i) : Nat)
  let i := c / 256
  (rdiv (t i * 256 + (t (i + 1) - t i) * ((c % 256 : Nat) : Int)) 256).toNat

/-- The threshold of R158: p × 2^32 rounded down, for an integer intensity, the tile temperature (°C) and the rate in 1/16
Hz. -/
def wearThreshold (tab : List Nat) (intensity : Nat) (temp : Int) (rate : Nat) : Nat :=
  let j := intensity / 64 % 64
  let k := (max 0 (min 15 ((temp + 40) / 10))).toNat
  let s := if tab.isEmpty then (j + 1) * 512 else half16 tab (0x850 + 2 * j)
  let f := if tab.isEmpty then 32768 else half16 tab (0x8D0 + 2 * k)
  let u := if tab.isEmpty then 2048 else leNat (tab.take 4)
  s * f * 64 / (rate * u)

/-- G_TILE (R169) from the temperature in 1/16 °C, KNEE + 40, SLOPE and FLOOR. DESIGN CHOICE: it is rounded to 1.15, to the nearest with
ties away from zero, before Gt is formed; R169 names no rounding for it. -/
def tileGain (temp16 : Int) (knee slope floor : Nat) : Nat :=
  let overs := temp16 - ((knee : Int) - 40) * 16
  if overs ≤ 0 then 0x8000
  else (max (floor : Int) (rdiv (32768 * 32 - overs * (slope : Int)) 32)).toNat

/-- Bounds of a zone in sixteenths: ceiling and floor, scaled by a share where the tile is of a pair (R166, R172). -/
def zoneBounds (zone : Word) (share : Option Nat) : Nat × Nat :=
  let c := bits zone 27 16 * 16
  let f := bits zone 11 0 * 16
  match share with
  | none => (c, f)
  | some s => (c * s / 32768, cdiv (f * s) 32768)

/-- Stage 5 (R172). -/
def clampTo (b : Nat × Nat) (v : Nat) : Nat := min (max v b.2) b.1

/-- Entry `k` of the default transfer curve (R180). -/
def curveDefault (depth k : Nat) : Nat := rdivN (k * (2 ^ depth - 1) * 16) 4095

/-- Entry `k` of a transfer curve. -/
def curveAt (curve : List Nat) (depth base k : Nat) : Nat :=
  if curve.isEmpty then curveDefault depth k else curve.getD (base + k) 0

/-- Stage 6 (R179): the drive code of a 12.4 value; `ch` is the channel of an RGB tile. -/
def driveCode (curve : List Nat) (depth : Nat) (rgb : Bool) (ch v : Nat) : Nat :=
  let i := v / 16
  let f := v % 16
  let top := 2 ^ depth - 1
  let at_ (base n k num den : Nat) : Nat :=
    let a : Int := (curveAt curve depth base k : Nat)
    let b : Int := (curveAt curve depth base (min (k + 1) (n - 1)) : Nat)
    min top (rdiv (a * (den : Int) + (b - a) * (num : Int)) (16 * den)).toNat
  if rgb then at_ (1024 * ch) 1024 (i / 4) (i % 4 * 16 + f) 64 else at_ 0 4096 i f 16

/-- Is each curve of the table non-decreasing (R180)? -/
def curveRises (curve : List Nat) (rgb : Bool) : Bool :=
  let ok (lo n : Nat) : Bool :=
    (List.range (n - 1)).all (fun k => decide (curve.getD (lo + k) 0 ≤ curve.getD (lo + k + 1) 0))
  if rgb then ok 0 1024 && ok 1024 1024 && ok 2048 1024 else ok 0 4096

/-- Is the wear table well formed (R160)? DESIGN CHOICE: the 14 bytes of padding after a curve count as reserved bytes, so one that is not
zero refuses the table; the rule does not name them so. -/
def wearTabOk (tab : List Nat) : Bool :=
  let u := leNat (tab.take 4)
  decide (64 ≤ u) && decide (u ≤ 65535) && ((tab.drop 4).take 12).all (· == 0) &&
  (List.range 4).all (fun k =>
    let base := 0x10 + k * 0x210
    ((tab.drop (base + 514)).take 14).all (· == 0) &&
    (List.range 256).all (fun i => decide (half16 tab (base + 2 * i) ≤ half16 tab (base + 2 * i + 2))))

/-- The cells within one king's step of (x, y). -/
def touches (a b : Nat × Nat) : Bool :=
  decide (a.1 ≤ b.1 + 1) && decide (b.1 ≤ a.1 + 1) && decide (a.2 ≤ b.2 + 1) && decide (b.2 ≤ a.2 + 1)

/-- Grow a cluster from `seed` within `rest`: its size, and what is left over (8-connected, R165). -/
def growCluster : Nat → List (Nat × Nat) → List (Nat × Nat) → Nat → Nat × List (Nat × Nat)
  | 0, _, rest, n => (n, rest)
  | _, [], rest, n => (n, rest)
  | fuel + 1, a :: front, rest, n =>
    let near := rest.filter (touches a)
    growCluster fuel (front ++ near) (rest.filter (fun b => !touches a b)) (n + near.length)

/-- The size of the largest 8-connected cluster of a list of pixels. -/
def largestCluster : Nat → List (Nat × Nat) → Nat
  | 0, _ => 0
  | _, [] => 0
  | fuel + 1, a :: rest =>
    let (n, left) := growCluster (rest.length + 1) [a] rest 1
    max n (largestCluster fuel left)

end Sys2Proof.Machine
end

