-- ==== Sys2Proof/Machine/PortOps.lean ====
section
/-!
DEFINITION. Ports and tiles: the link states of R231, what a port does on entering and leaving UP, twins and spares
(R239 to R243), the states of a tile and the messages to it (R246 to R263).
-/

namespace Sys2Proof.Machine

/-! ### Tiles and their ports -/

/-- The ports of tile `t`: home port, twin pair, spares assigned to it (R246), and the port that carries it since a spare
took over (R242). -/
def tilePorts (m : Mach) (t : Nat) : List Nat :=
  let home := getF m (rTIL_CFG t) fTIL_CFG_PORT
  let twin := if flag m (rCPL_TWIN t) fCPL_TWIN_EN then
      [getF m (rCPL_TWIN t) fCPL_TWIN_PRIMARY, getF m (rCPL_TWIN t) fCPL_TWIN_TWIN] else []
  let spares := (List.range 8).filterMap (fun k =>
    if flag m (rCPL_SPARE k) fCPL_SPARE_EN && getF m (rCPL_SPARE k) fCPL_SPARE_TILE == t then
      some (getF m (rCPL_SPARE k) fCPL_SPARE_PORT) else none)
  (home :: twin ++ spares ++ (tileOf m t).carry.toList).eraseDups

/-- The logical tile that port `p` belongs to (R246). -/
def tileOfPort (m : Mach) (p : Nat) : Option Nat :=
  (List.range 24).find? (fun t => flag m (rTIL_CFG t) fTIL_CFG_EN && (tilePorts m t).contains p)

/-- Does the mask of group `g` hold tile `t` (SCN_TILES)? -/
def grpHolds (m : Mach) (g t : Nat) : Bool := hasBit (getF m (rSCN_TILES g) fSCN_TILES_MASK) t

/-- The timing group of tile `t` (R461): the enabled group whose mask holds it, else the lowest-numbered that does. -/
def groupOf (m : Mach) (t : Nat) : Option Nat :=
  match (List.range 8).find? (fun g => flag m (rSCN_RATE g) fSCN_RATE_EN && grpHolds m g t) with
  | some g => some g
  | none => (List.range 8).find? (fun g => grpHolds m g t)

/-- Owner and contributors of a group (R69, GROUP_ASSIGN); H0 owns a group that no GROUP_ASSIGN has named. -/
def ownerOf (m : Mach) (g : Nat) : Nat := (tget (0, 1) m.owners g).1
def contribOf (m : Mach) (g : Nat) : Nat := (tget (0, 1) m.owners g).2

/-- The contexts that TILE_CHANGED of tile `t` concerns (R458). -/
def tileCtxs (m : Mach) (t : Nat) : Nat :=
  match groupOf m t with
  | some g => setBit (contribOf m g) (ownerOf m g)
  | none => 0

/-- The port that carries tile `t`. -/
def carryPort (m : Mach) (t : Nat) : Nat := (tileOf m t).carry.getD (getF m (rTIL_CFG t) fTIL_CFG_PORT)

/-- The beam mode in force for group `g` (R320). -/
def beamOf (m : Mach) (g : Nat) : Nat := getF m rSAF_BEAM fSAF_BEAM_FORCE / 4 ^ g % 4

/-- Has tile `t` no valid set for the beam mode in force of its group (R176)? -/
def mapMissing (m : Mach) (t : Nat) : Bool :=
  match groupOf m t with
  | some g => !hasBit (getF m (rPHO_MAP_STAT t) fPHO_MAP_STAT_VALID) (beamOf m g)
  | none => false

/-- The cause MAP_INVALID (R176, R311): a placed tile without a valid set for its beam mode. -/
def mapCause (m : Mach) : Mach :=
  causeIs 1 ((List.range 24).any (fun t => flag m (rTIL_STAT t) fTIL_STAT_PLACED && mapMissing m t)) m

/-- PHO_MAP_STAT.BEAM shows the beam mode in force for the group of every tile. -/
def showBeams (m : Mach) : Mach :=
  forEach (List.range 24) (fun t m =>
    setF (rPHO_MAP_STAT t) fPHO_MAP_STAT_BEAM (((groupOf m t).map (beamOf m)).getD 0) m) m

/-- A change of a tile's record in the pixel path. -/
def markPix (t : Nat) (f : TilePix → TilePix) (m : Mach) : Mach :=
  { m with pix := { m.pix with tiles := tput {} m.pix.tiles t (f (tget {} m.pix.tiles t)) } }

/-- The ports that carry tile `t`: its carrying port, and the twin while both members serve (R239). -/
def carriers (m : Mach) (t : Nat) : List Nat :=
  let twin := getF m (rPLC_TILE_MAP t) fPLC_TILE_MAP_TWIN
  if twin = 0x1F ∨ twin = carryPort m t then [carryPort m t] else [carryPort m t, twin]

/-- The ports to which the blocks of tile `t` go: the carrying ports in UP (R187, R239). -/
def sendPorts (m : Mach) (t : Nat) : List Nat :=
  let st := tileState m t
  if !flag m (rTIL_STAT t) fTIL_STAT_PLACED || !(st == 3 || st == 4 || st == 7) || (tileOf m t).resume then []
  else (carriers m t).filter (fun p => portState m p == 4)

/-- The ports that carry scan-out for tile `t` (R248). -/
def scanPorts (m : Mach) (t : Nat) : List Nat := if ((groupOf m t).map (grpRuns m)).getD false then sendPorts m t else []

/-- The ports on which a block for tile `t` on port `p` leaves: both members of a pair in service send the same (R239). -/
def mates (m : Mach) (t p : Nat) : List Nat :=
  let ps := (carriers m t).filter (fun q => portState m q == 4)
  if ps.contains p then ps else [p]

/-- Is the tile's link down (R259): no carrying port in UP, re-identification, SILENT, or not placed? -/
def tileDown (m : Mach) (t : Nat) : Bool :=
  let st := tileState m t
  !((carriers m t).any (fun p => portState m p == 4)) || !(st == 3 || st == 4) || !flag m (rTIL_STAT t) fTIL_STAT_PLACED

/-- Is tile `t` lost as a partner (R167): fenced, degraded, or its link down? -/
def tileLost (m : Mach) (t : Nat) : Bool := flag m (rPHO_TILE_STAT t) fPHO_TILE_STAT_DEGRADED || tileDown m t

/-- Something that decides whether tile `t` is lost is about to change. -/
def markLoss (t : Nat) (m : Mach) : Mach :=
  markPix t (fun r => { r with loss := r.loss.filter (fun e => decide (m.now < e.1 + 4)) ++ [(m.now, tileLost m t)] }) m

/-- TILE_CHANGED (R86). -/
def tileChanged (t : Nat) (m : Mach) : Mach :=
  eventTo 6 [w32 t, w32 (getF m (rPHO_TILE_STAT t) fPHO_TILE_STAT_DEGRADED <<< 31 + tileState m t)] (tileCtxs m t) m

/-- The messages that waited for a line without pixels go at once when the tile's ports carry no scan-out any more (R248). -/
def flushMsgs (t : Nat) (m : Mach) : Mach :=
  if scanPorts m t ≠ [] then m else
  let ps := mates m t (carryPort m t)
  let q := (tileOf m t).msgQ
  let m := setTile t { tileOf m t with msgQ := [] } m
  when (portState m (carryPort m t) == 4 && q != []) (fun m => m |> forEach q (sendAll ps 4) |> fillAll ps) m

/-- Up to `n` of the waiting messages go in a sync or porch line (R219, R248). -/
def lineMsgs (t n : Nat) (m : Mach) : Mach :=
  let q := (tileOf m t).msgQ
  m |> forEach (q.take n) (sendAll (sendPorts m t) 4) |> setTile t { tileOf m t with msgQ := q.drop n }

/-- The tile changes state (R258). A change sends TILE_CHANGED; the tile is placed in READY, GENERIC and SILENT, and a
placed tile keeps its placement through re-identification. -/
def toTileState (t st : Nat) (m : Mach) : Mach :=
  if tileState m t = st then m else
  let m := m |> markLoss t |> setF (rTIL_STAT t) fTIL_STAT_STATE st
  let m := if st = 3 ∨ st = 4 ∨ st = 7 then setB (rTIL_STAT t) fTIL_STAT_PLACED true m
    else if st = 0 ∨ st = 5 ∨ st = 6 ∨ st = 8 then
      m |> setB (rTIL_STAT t) fTIL_STAT_PLACED false |> setB (rPLC_TILE_MAP t) fPLC_TILE_MAP_VALID false
    else m
  m |> tileChanged t |> flushMsgs t |> mapCause

/-- The words of a tile management message (R248): MSG, MSEQ and its bytes in one COMMAND block. -/
def messageWords (msg mseq : Nat) (bytes : List Nat) : List Word :=
  let all := msg :: mseq % 256 :: bytes
  pad64 (w32 all.length :: bytesWords all)

/-- Send a tile management message (R248): at once with FILL after it, or in the next sync or porch line of a port that carries
scan-out. -/
def tileMsg (t p msg : Nat) (bytes : List Nat) (m : Mach) : Mach :=
  let r := tileOf m t
  let ws := messageWords msg r.mseqOut bytes
  let waits := (scanPorts m t).contains p
  let m := setTile t { r with mseqOut := (r.mseqOut + 1) % 256, msgQ := if waits then r.msgQ ++ [ws] else r.msgQ } m
  let ps := mates m t p
  when (!waits) (fun m => m |> sendAll ps 4 ws |> fillAll ps) m

/-- The MODE that SETUP announces for a tile state: 0 normal, 1 generic, 2 refused. -/
def setupMode (st : Nat) : Nat := if st = 4 then 1 else if st = 5 then 2 else 0

/-- SETUP with HOLD and MODE (R248). -/
def sendSetup (t p mode : Nat) (m : Mach) : Mach :=
  let m := tileMsg t p 4 [getF m rTIL_TMO fTIL_TMO_HOLD, 0, mode] m
  setTile t { tileOf m t with mode := some mode } m

/-- SETUP again when the tile's state changes its MODE (R248). -/
def renewSetup (t : Nat) (m : Mach) : Mach :=
  let mode := setupMode (tileState m t)
  if (tileOf m t).mode = some mode then m else sendSetup t (carryPort m t) mode m

/-- The ports that send what port `p` sends: the other member of its pair as well (R239). -/
def withMates (m : Mach) (p : Nat) : List Nat :=
  match tileOfPort m p with
  | some t => mates m t p
  | none => [p]

/-- The transmitters of the ports send IDLE_REQ and enter electrical idle (R227). -/
def idlePorts (ps : List Nat) (m : Mach) : Mach :=
  m |> sendAll ps 6 (linkWords 2 []) |> forEach ps (fun p m =>
    m |> setB (rCPL_STATE p) fCPL_STATE_TX_IDLE true |> setPort p { portOf m p with txIdleAt := m.now })

/-- SETUP and IDENT_REQ on port `p`; the tile enters IDENT (R258). -/
def startIdent (t p : Nat) (m : Mach) : Mach :=
  let mode := setupMode (tileState m t)
  let e : Exchange := { port := p, stage := 1, tries := 1, sentAt := m.now, generic := flag m rTIL_AUTH_CFG fTIL_AUTH_CFG_POLICY }
  m |> setTile t { tileOf m t with ex := some e, carry := some p, msgQ := [] } |> toTileState t 1 |> sendSetup t p mode |> tileMsg t p 1 []

/-- The failures of authentication within the last 10 s. -/
def recentFails (m : Mach) (t : Nat) : Nat :=
  ((tileOf m t).failAt.filter (fun a => decide (m.now < a + sec 10))).length

/-- The exchanges on ports other than `p`. -/
def withoutPort (p : Nat) (es : List Exchange) : List Exchange := es.filter (fun e => e.port != p)

/-- A port of a tile comes up: it enters UP from TRAIN (R258). -/
def portComesUp (p : Nat) (m : Mach) : Mach :=
  match tileOfPort m p with
  | none => m
  | some t =>
    let st := tileState m t
    let r := tileOf m t
    if st = 8 then m
    else if st = 5 then
      if r.stuck || decide (3 ≤ recentFails m t) then m else startIdent t p m
    else if st = 0 then startIdent t p m
    else if p = carryPort m t then startIdent t p m
    else if st = 3 ∨ st = 4 ∨ st = 7 then
      let m := m |> sendSetup t p (setupMode r.authGave) |> tileMsg t p 1 []
      let r := tileOf m t
      setTile t { r with checks := withoutPort p r.checks ++ [{ port := p, stage := 1, tries := 1, sentAt := m.now }] } m
    else m

/-- Some port of tile `t` is in UP. -/
def tileHasUp (m : Mach) (t : Nat) : Bool := (tilePorts m t).any (fun p => portState m p == 4)

/-- The map of tile `t` names `port` and `twin` (0x1F for none); PLC_GEN counts and PLACEMENT_CHANGED is sent. The frame in
which the ports change is not compared (R201). -/
def remapTile (t port twin : Nat) (m : Mach) : Mach :=
  let m := m |> markLoss t |> markPix t (fun r => { r with sigOut := true }) |> setF (rPLC_TILE_MAP t) fPLC_TILE_MAP_PORT port |> setF (rPLC_TILE_MAP t) fPLC_TILE_MAP_TWIN twin |>
    wrapInc rPLC_GEN fPLC_GEN_GEN
  eventAll 5 [reg m rPLC_GEN] (setTile t { tileOf m t with carry := some port } m)

/-- STAT of a twin pair from the members in service: 0 both, 1 primary only, 2 twin only, 3 neither (R240). -/
def twinWithout (stat : Nat) (isPrimary : Bool) : Nat :=
  if isPrimary then (if stat = 0 then 2 else if stat = 1 then 3 else stat)
  else (if stat = 0 then 1 else if stat = 2 then 3 else stat)

/-- A twin member is lost (R240). -/
def twinLost (t p : Nat) (m : Mach) : Mach :=
  if !flag m (rCPL_TWIN t) fCPL_TWIN_EN then m else
  let prim := getF m (rCPL_TWIN t) fCPL_TWIN_PRIMARY
  let twin := getF m (rCPL_TWIN t) fCPL_TWIN_TWIN
  if p ≠ prim ∧ p ≠ twin then m else
  let old := getF m (rCPL_TWIN t) fCPL_TWIN_STAT
  let new := twinWithout old (p == prim)
  if new = old then m else
  let m := setF (rCPL_TWIN t) fCPL_TWIN_STAT new m
  let m := if new = 3 then m else remapTile t (if new = 2 then twin else prim) 0x1F m
  raise 278 (detail t 0) m

/-- An eye scan on port `p` ends without a result (R232, R238). -/
def endScan (p : Nat) (m : Mach) : Mach :=
  if (pendOf m .eye p).isNone then m else
  let m := setB (rCPL_EYE p) fCPL_EYE_VALID false m
  finish .eye p (errW stSTATE_REJECT (viewReg m (rCPL_STATE p))) m

/-- A port leaves UP for RX_IDLE: a scan ends and a twin member is lost (R238, R240); the tile keeps its state (R258). -/
def portIdles (p : Nat) (m : Mach) : Mach :=
  let m := endScan p m
  match tileOfPort m p with
  | none => m
  | some t => twinLost t p m

/-- A port leaves UP, for LOOP as well, or the idle states that belong to it (R231, R238, R240, R260, R263). -/
def portLeavesUp (p : Nat) (m : Mach) : Mach :=
  let m := endScan p m
  let m := setPort p { portOf m p with lost := true, rxOk := false, idleReqAt := none } m
  match tileOfPort m p with
  | none => m
  | some t =>
    let r := tileOf m t
    let downs := m.now :: r.downAt.filter (fun a => decide (m.now < a + sec 10))
    let r := { r with
      downAt := downs
      ex := r.ex.filter (fun e => e.port != p)
      checks := withoutPort p r.checks
      resume := r.resume || carryPort m t == p }
    let m := m |> setTile t r |> twinLost t p
    if 16 < downs.length ∧ tileState m t ≠ 8 ∧ r.unstable = false then
      m |> setTile t { tileOf m t with unstable := true, stuck := true, ex := none, checks := [] } |> toTileState t 5 |> renewSetup t |>
        raise 283 (detail t 0)
    else m

/-- The instant at which tile `t` had a port in UP for the last time (R242, R258). -/
def stampUp (t : Nat) (m : Mach) : Mach :=
  if tileHasUp m t then m else setTile t { tileOf m t with noUpAt := m.now } m

/-- Does the equaliser adapt in state `st` (R226)? -/
def adaptState (st : Nat) : Bool := st == 3 || st == 4 || st == 7 || st == 8

/-- The port takes state `st` (R231); adaptation is frozen outside TRAIN, RESYNC, UP and LOOP (R226). -/
def setPortState (p st : Nat) (m : Mach) : Mach :=
  let old := portState m p
  let m := txLate p m
  let m := { m with calEye := m.calEye.map (fun ps => if (old == 4 || old == 8) && st != 4 && st != 8 then setBit ps p else ps) }
  let m := match tileOfPort m p with
    | some t => if (old == 4) != (st == 4) then markLoss t m else m
    | none => m
  let m := setF (rCPL_STATE p) fCPL_STATE_STATE st m
  let m := match tileOfPort m p with
    | some t => if old = 4 ∧ st ≠ 4 then stampUp t m else m
    | none => m
  let m := when (!adaptState st) (setB (rCPL_RXEQ_STAT p) fCPL_RXEQ_STAT_FROZEN true) m
  let out := st == 0 || st == 1 || st == 2 || st == 3 || st == 9
  let m := if old = 8 ∧ st ≠ 8 then endScan p m
    else if (4 ≤ old ∧ old ≤ 7 ∧ out = true) ∨ (old = 4 ∧ st = 8) then portLeavesUp p m else m
  let m := when (old == 4 && st == 5) (portIdles p) m
  when (old == 8 && st != 8) (setPort p { portOf m p with loopMode := 0, loopUp := none }) m

/-- Full training starts (R230): alternating bits freeze the adaptation, and the CTLE starts at CTLE_CODE (R226). -/
def startTraining (p : Nat) (m : Mach) : Mach :=
  let m := m |> setB (rCPL_STATE p) fCPL_STATE_TX_IDLE false |> setB (rCPL_RXEQ_STAT p) fCPL_RXEQ_STAT_FROZEN true |>
    setF (rCPL_RXEQ_STAT p) fCPL_RXEQ_STAT_CTLE (getF m (rCPL_RXEQ_CFG p) fCPL_RXEQ_CFG_CTLE_CODE)
  setPort p { portOf m p with trainAt := m.now, trainBits := 0, seqs := 0, alignAt := none, rxOk := false, idleReqAt := none } m

/-- The settings of the equaliser take effect (R226): without ADAPT_EN it is frozen, and with CTLE_FIX the CTLE holds CTLE_CODE. -/
def setEq (p : Nat) (m : Mach) : Mach :=
  let cfg := rCPL_RXEQ_CFG p
  m |> when (!flag m cfg fCPL_RXEQ_CFG_ADAPT_EN) (setB (rCPL_RXEQ_STAT p) fCPL_RXEQ_STAT_FROZEN true) |>
    when (flag m cfg fCPL_RXEQ_CFG_CTLE_FIX && portState m p != 0)
      (setF (rCPL_RXEQ_STAT p) fCPL_RXEQ_STAT_CTLE (getF m cfg fCPL_RXEQ_CFG_CTLE_CODE))

/-- Entry to TRAIN. -/
def toTrain (p : Nat) (m : Mach) : Mach := m |> setPortState p 3 |> startTraining p

/-- Entry to DETECT: the transmitter starts full training and the receiver waits for LOS to clear. -/
def toDetect (p : Nat) (m : Mach) : Mach :=
  let m := m |> setPortState p 2 |> setB (rCPL_STATE p) fCPL_STATE_TX_IDLE false
  setPort p { portOf m p with detectAt := m.now, rxOk := false, seqs := 0, alignAt := none } m

/-- Entry to OFF or STANDBY: the transmitter is in electrical idle; in OFF the live detector bits read 0 (R224). -/
def toDark (p st : Nat) (m : Mach) : Mach :=
  let m := m |> setPortState p st |> setB (rCPL_STATE p) fCPL_STATE_TX_IDLE true
  let m := if st = 0 then
      m |> setF (rCPL_DET_STAT p) fCPL_DET_STAT_LOS 0 |> setF (rCPL_DET_STAT p) fCPL_DET_STAT_LOL 0 |>
        setF (rCPL_DET_STAT p) fCPL_DET_STAT_LOA 0 |> setF (rCPL_DET_STAT p) fCPL_DET_STAT_SQ 0 |> setF (rCPL_EB p) fCPL_EB_LEVEL 0
    else m
  setPort p { portOf m p with txIdleAt := m.now, fails := 0 } m

/-- Entry to UP, with the elastic buffer at its centre (R220), and FILL when nothing else is to be sent (R219); `training` when it comes from
TRAIN, which is a coming up (R231, R258). An exit of the receiver from its idle leaves a transmitter in its own idle (R227, R228). -/
def toUp (p : Nat) (training : Bool) (m : Mach) : Mach :=
  let m := m |> setPortState p 4 |> when training (setB (rCPL_STATE p) fCPL_STATE_TX_IDLE false) |> setF (rCPL_EB p) fCPL_EB_LEVEL 4 |>
    setB (rCPL_DET_STAT p) fCPL_DET_STAT_LOA false
  let m := setPort p { portOf m p with lost := false, upSince := m.now, fails := 0, idleReqAt := none, losAt := none, noFill := 0, eqN := 0 } m
  let m := if training then m |> bump (rCPL_TRAIN_CNT p) fCPL_TRAIN_CNT_FULL |> portComesUp p else m
  when (!flag m (rCPL_STATE p) fCPL_STATE_TX_IDLE) (txFill p) m

/-- The LRX cycle of port `p` (R28, R206). -/
def lrxAt (m : Mach) (p t : Nat) : Nat := t * lineRate (rxRate m p) / (32 * 600000000)
def lrxCycle (m : Mach) (p : Nat) : Nat := lrxAt m p m.now

/-- An event of R231 on port `p`, at place `rank` of the list of R232: it is ignored when another that is not lower in the list has been
taken in the same LRX cycle. -/
def portEvent (p rank : Nat) (f : Mach → Mach) (m : Mach) : Mach :=
  let r := portOf m p
  let cycle := lrxCycle m p
  if r.evRank ≠ 0 ∧ r.evCycle = cycle ∧ r.evRank ≤ rank then m
  else
    let n := f m
    when (portState n p != portState m p || rank == 3) (setPort p { portOf n p with evCycle := cycle, evRank := rank }) n

/-- UP ends by a link-down cause (R231). -/
def linkDown (p cause : Nat) (sendRetrain : Bool) (m : Mach) : Mach :=
  let m := m |> setF (rCPL_STATE p) fCPL_STATE_LAST_CAUSE cause |> bump (rCPL_STATE p) fCPL_STATE_DOWN_CNT
  let m := when sendRetrain (sendLink p 3 []) m
  m |> toTrain p |> raise (157 + p) noInst

/-- Is the port fenced (R345)? -/
def portFenced (m : Mach) (p : Nat) : Bool := hasBit (getF m rFLT_FENCE_PORT fFLT_FENCE_PORT_FENCED) p

/-- CPL_CFG[p].ROLE takes effect (R205, R231); the codes 4 to 7 are invalid and leave the port disabled. -/
def applyRole (p : Nat) (m : Mach) : Mach :=
  let role := getF m (rCPL_CFG p) fCPL_CFG_ROLE
  let st := portState m p
  if portFenced m p then m
  else if role = 1 ∨ role = 2 then (if st = 0 then toDetect p m else m)
  else if role = 3 then (if st = 0 then toDark p 1 m else m)
  else if st = 0 then m else toDark p 0 m

/-- Is the port free for PORT_CONFIG and for a loopback (R234, R244): does it carry no placed tile, and is it no twin, spare or bound
path? -/
def portFree (m : Mach) (p : Nat) : Bool :=
  let placed := (List.range 24).any (fun t =>
    flag m (rTIL_CFG t) fTIL_CFG_EN && flag m (rTIL_STAT t) fTIL_STAT_PLACED && (carriers m t).contains p)
  let twin := (List.range 24).any (fun t => flag m (rCPL_TWIN t) fCPL_TWIN_EN &&
    (getF m (rCPL_TWIN t) fCPL_TWIN_PRIMARY == p || getF m (rCPL_TWIN t) fCPL_TWIN_TWIN == p))
  let spare := (List.range 8).any (fun k => flag m (rCPL_SPARE k) fCPL_SPARE_EN && getF m (rCPL_SPARE k) fCPL_SPARE_PORT == p)
  !placed && !twin && !spare && !flag m (rHUB_PATH_BIND p) fHUB_PATH_BIND_EN

/-! ### The configured rate of a group -/

def enabledGrp (m : Mach) (g : Nat) : Bool := flag m (rSCN_RATE g) fSCN_RATE_EN
def lockedCfg (m : Mach) (g : Nat) : Bool := flag m (rSCN_SYNC g) fSCN_SYNC_LOCK
def masterOf (m : Mach) (g : Nat) : Nat := getF m (rSCN_SYNC g) fSCN_SYNC_MASTER
def ratioOf (m : Mach) (g : Nat) : Nat := getF m (rSCN_SYNC g) fSCN_SYNC_RATIO
def rateOf (m : Mach) (g : Nat) : Nat := getF m (rSCN_RATE g) fSCN_RATE_RATE

/-- Multiplier and divisor of a RATIO code (R191). -/
def ratioNum (code : Nat) : Nat := if code ≤ 3 then code + 1 else 1
def ratioDen (code : Nat) : Nat := if code ≤ 3 then 1 else code - 2

/-- The configured rate of a group as a fraction of 1/16 Hz: its RATE, or its master's times the ratio (R192). -/
def cfgRate (m : Mach) (g : Nat) : Nat × Nat :=
  if lockedCfg m g then (rateOf m (masterOf m g) * ratioNum (ratioOf m g), ratioDen (ratioOf m g)) else (rateOf m g, 1)

/-! ### Identity and placement of a tile -/

/-- Is tile `t` an RGB tile (CAPS.TYPE)? -/
def tileRgb (m : Mach) (t : Nat) : Bool := flag m (rTIL_INFO t) fTIL_INFO_TYPE

/-- The other placed tiles of group `g`. -/
def placedOthers (m : Mach) (g t : Nat) : List Nat :=
  (List.range 24).filter (fun k => k != t && groupOf m k == some g && flag m (rTIL_STAT k) fTIL_STAT_PLACED)

/-- Does the tile match its group (R183, R257)? The group holds the type of its other placed tiles; a tile that no group
names has nothing to match. -/
def tileMatches (m : Mach) (t : Nat) : Bool :=
  match groupOf m t with
  | none => true
  | some g =>
    let w := getF m (rSCN_GEOM g) fSCN_GEOM_WIDTH
    let h := getF m (rSCN_GEOM g) fSCN_GEOM_HEIGHT
    let rgb := tileRgb m t
    (placedOthers m g t).all (fun k => tileRgb m k == rgb) &&
      getF m (rTIL_INFO t) fTIL_INFO_WIDTH == w && getF m (rTIL_INFO t) fTIL_INFO_HEIGHT == h &&
      (if rgb then decide (w ≤ 1024) && decide (h ≤ 512)
        else hasBit (getF m (rTIL_INFO t) fTIL_INFO_DEPTHS) (getF m (rSCN_GEOM g) fSCN_GEOM_DEPTH)) &&
      decide ((cfgRate m g).1 ≤ 16 * bits ((tileOf m t).ident.getD 5 0) 31 16 * (cfgRate m g).2)

/-- The map of a tile that has become READY or GENERIC names its carrying port and its group. -/
def mapTile (t : Nat) (m : Mach) : Mach :=
  match groupOf m t with
  | none => m
  | some g =>
    let p := carryPort m t
    let twin := if flag m (rCPL_TWIN t) fCPL_TWIN_EN && getF m (rCPL_TWIN t) fCPL_TWIN_STAT == 0 then
        getF m (rCPL_TWIN t) fCPL_TWIN_TWIN else 0x1F
    m |> setB (rPLC_TILE_MAP t) fPLC_TILE_MAP_VALID true |> setF (rPLC_TILE_MAP t) fPLC_TILE_MAP_GROUP g |>
      setF (rPLC_TILE_MAP t) fPLC_TILE_MAP_TWIN twin |> setF (rPLC_TILE_MAP t) fPLC_TILE_MAP_PORT p

/-- The capabilities of a tile are those of its first successful identification (R247). DEDUCED: a tile that has had none and is placed in
generic mode is matched on those of the IDENT that placed it. -/
def noteCaps (t : Nat) (ident : List Word) (m : Mach) : Mach :=
  if (tileOf m t).known then m else m |> setReg (rTIL_INFO t) (ident.getD 4 0) |> setTile t { tileOf m t with ident := ident }

/-- The tile is identified on its carrying port: READY or GENERIC (`st`), or MISMATCH with cause 7 (R256 to R258). -/
def acceptTile (t st : Nat) (m : Mach) : Mach :=
  let m := setTile t { tileOf m t with
    ex := none, authGave := st, before := st, resume := true, healthAt := m.now
    badPorts := clrBit (tileOf m t).badPorts (carryPort m t) } m
  if tileMatches m t then m |> toTileState t st |> mapTile t |> renewSetup t
  else m |> setF (rTIL_STAT t) fTIL_STAT_CAUSE 7 |> toTileState t 6 |> renewSetup t

/-- An identity check fails with a cause (R255, R256), POLICY as it stood when the identification began (R260). Cause 1
is not handled here: it leads to NO_ID. -/
def authFail (t cause : Nat) (m : Mach) : Mach :=
  let m := m |> setF (rTIL_STAT t) fTIL_STAT_CAUSE cause |> setB (rTIL_STAT t) fTIL_STAT_AUTH false |>
    bump (rTIL_ERR t) fTIL_ERR_AUTH_FAIL |> raise 281 (detail t 0)
  let r := tileOf m t
  let fails := m.now :: r.failAt.filter (fun a => decide (m.now < a + sec 10))
  let generic := (r.ex.map Exchange.generic).getD false
  let m := setTile t { r with failAt := fails, ex := none } m
  if generic then m |> noteCaps t ((r.ex.map Exchange.ident).getD []) |> acceptTile t 4
  else
    let r := tileOf m t
    let m := setTile t { r with checks := [], stuck := r.stuck || decide (3 ≤ fails.length) } m
    m |> toTileState t 5 |> renewSetup t

/-- A check on another port of the tile fails: a twin is lost, a spare is not brought in, and the port is not used for the tile (R247). -/
def otherPortFails (t p cause : Nat) (m : Mach) : Mach :=
  let m := m |> setF (rTIL_STAT t) fTIL_STAT_CAUSE cause |> bump (rTIL_ERR t) fTIL_ERR_AUTH_FAIL |>
    raise 281 (detail t 0)
  let m := forEach (List.range 8) (fun k m =>
    when (getF m (rCPL_SPARE k) fCPL_SPARE_PORT == p) (setB (rCPL_SPARE k) fCPL_SPARE_IN_USE false) m) m
  m |> setTile t { tileOf m t with checks := withoutPort p (tileOf m t).checks, badPorts := setBit (tileOf m t).badPorts p } |> twinLost t p

end Sys2Proof.Machine
end

