-- ==== Sys2Proof/Machine/PixOps.lean ====
section
/-!
DEFINITION. Handles (R92 to R94), buffers and their release (R100 to R104), layers (R108 to R112), and the geometry,
ownership and timing of groups (R69, R184, R185, R191, R461).
-/

namespace Sys2Proof.Machine

/-! ### Records -/

def setPix (f : PixState → PixState) (m : Mach) : Mach := { m with pix := f m.pix }
def bufOf (m : Mach) (i : Nat) : BufRec := tget {} m.pix.bufs i
def setBuf (i : Nat) (r : BufRec) (m : Mach) : Mach := setPix (fun s => { s with bufs := tput {} s.bufs i r }) m
def layOf (m : Mach) (i : Nat) : LayRec := tget {} m.pix.lays i
def setLay (i : Nat) (r : LayRec) (m : Mach) : Mach := setPix (fun s => { s with lays := tput {} s.lays i r }) m
def grpOf (m : Mach) (g : Nat) : GrpRec := tget {} m.pix.grps g
def setGrp (g : Nat) (r : GrpRec) (m : Mach) : Mach := setPix (fun s => { s with grps := tput {} s.grps g r }) m
def pixOf (m : Mach) (t : Nat) : TilePix := tget {} m.pix.tiles t
def setTilePix (t : Nat) (r : TilePix) (m : Mach) : Mach := setPix (fun s => { s with tiles := tput {} s.tiles t r }) m
def streamOf (m : Mach) (p : Nat) : StreamRec := tget {} m.pix.streams p
def setStream (p : Nat) (r : StreamRec) (m : Mach) : Mach := setPix (fun s => { s with streams := tput {} s.streams p r }) m
def gpendOf (m : Mach) (c g : Nat) : GSet := tget {} m.pix.gpend (8 * c + g)
def setGpend (c g : Nat) (r : GSet) (m : Mach) : Mach := setPix (fun s => { s with gpend := tput {} s.gpend (8 * c + g) r }) m

/-! ### Handles (R92, R93) -/

def hCtx (h : Nat) : Nat := h / 2 ^ 30 % 4
def hKind (h : Nat) : Nat := h / 2 ^ 28 % 4
def hGen (h : Nat) : Nat := h / 2 ^ 16 % 4096
def hIdx (h : Nat) : Nat := h % 2 ^ 16

/-- A handle from its fields. -/
def mkHandle (ctx kind gen idx : Nat) : Nat := ctx * 2 ^ 30 + kind * 2 ^ 28 + gen % 4096 * 2 ^ 16 + idx

/-- The handle of buffer or layer `i` (kinds 1 and 2). -/
def bufHandle (m : Mach) (i : Nat) : Nat := mkHandle (bufOf m i).ctx 1 ((bufOf m i).gen.getD 0) i
def layHandle (m : Mach) (i : Nat) : Nat := mkHandle (layOf m i).ctx 2 ((layOf m i).gen.getD 0) i

/-- Does the handle name a buffer, or a layer, that exists: KIND, INDEX and GEN (R93)? -/
def bufNamed (m : Mach) (h : Nat) : Bool :=
  hKind h == 1 && decide (hIdx h < 4096) && (bufOf m (hIdx h)).used && (bufOf m (hIdx h)).gen == some (hGen h)
def layNamed (m : Mach) (h : Nat) : Bool :=
  hKind h == 2 && decide (hIdx h < 256) && (layOf m (hIdx h)).used && (layOf m (hIdx h)).gen == some (hGen h)

/-- The status with which context `ctx` is refused buffer `h` (R93, R103), if it is. -/
def bufRefused (m : Mach) (ctx h : Nat) : Option Nat :=
  if !bufNamed m h then some stBAD_HANDLE
  else if hCtx h != ctx || (bufOf m (hIdx h)).ctx != ctx then some stNOT_OWNER
  else if (bufOf m (hIdx h)).retiring then some stHANDLE_RETIRING
  else none

/-- The status with which layer `h` is refused (R93, R111); `others` are the contexts whose layers may be named (R69). -/
def layRefused (m : Mach) (others h : Nat) : Option Nat :=
  if !layNamed m h then some stBAD_HANDLE
  else if !hasBit others (hCtx h) || (layOf m (hIdx h)).ctx != hCtx h then some stNOT_OWNER
  else if (layOf m (hIdx h)).retiring then some stHANDLE_RETIRING
  else none

/-- Run `f` on the buffer that word `h` names, or refuse. -/
def withBuf (ctx : Nat) (h : Word) (f : Nat → Mach → Mach × Rep) (m : Mach) : Mach × Rep :=
  match bufRefused m ctx h.toNat with
  | some st => (m, err st)
  | none => f (hIdx h.toNat) m

/-- Run `f` on the layer that word `h` names, or refuse. -/
def withLay (ctx : Nat) (h : Word) (f : Nat → Mach → Mach × Rep) (m : Mach) : Mach × Rep :=
  match layRefused m (2 ^ ctx) h.toNat with
  | some st => (m, err st)
  | none => f (hIdx h.toNat) m

/-- The used entries of a table of records. -/
def usedBufs (m : Mach) : List Nat := (m.pix.bufs.filter (fun e => e.2.used)).map Prod.fst
def usedLays (m : Mach) : List Nat := (m.pix.lays.filter (fun e => e.2.used)).map Prod.fst

/-- A free INDEX below `n`: which one is open, so the draw decides. -/
def pickFree (n : Nat) (used : List Nat) (d : Word) : Option Nat :=
  let free := (List.range n).filter (fun i => !used.contains i)
  if free.isEmpty then none else some (free.getD (d.toNat % free.length) 0)

/-- The generation of an INDEX that is taken into use: one above the last, and open the first time (R92). -/
def nextGen (g : Option Nat) (d : Word) : Nat :=
  match g with
  | some n => (n + 1) % 4096
  | none => d.toNat % 4096

/-! ### Geometry, ownership and timing of groups -/

def geomW (m : Mach) (g : Nat) : Nat := getF m (rSCN_GEOM g) fSCN_GEOM_WIDTH
def geomH (m : Mach) (g : Nat) : Nat := getF m (rSCN_GEOM g) fSCN_GEOM_HEIGHT
def vsync (m : Mach) (g : Nat) : Nat := getF m (rSCN_VTIME g) fSCN_VTIME_SYNC
def vporch (m : Mach) (g : Nat) : Nat := getF m (rSCN_VTIME g) fSCN_VTIME_PORCH
def vtotal (m : Mach) (g : Nat) : Nat := vsync m g + vporch m g + geomH m g
def lineOf (m : Mach) (g : Nat) : Nat := getF m (rSCN_GRP_STAT g) fSCN_GRP_STAT_LINE
def frameOf (m : Mach) (g : Nat) : Nat := getF m (rSCN_FRAME_CNT g) fSCN_FRAME_CNT_FRAME
def rateEff (m : Mach) (g : Nat) : Nat := getF m (rSCN_GRP_STAT g) fSCN_GRP_STAT_RATE_EFF
def isPlaced (m : Mach) (t : Nat) : Bool := flag m (rTIL_STAT t) fTIL_STAT_PLACED

/-- Intensity bits for a DEPTH code (R193). -/
def depthBits (d : Nat) : Nat := if d = 0 then 8 else if d = 1 then 10 else 12

/-- Intensity depth of tile `t` in group `g`, and the bits of a stored pixel (R193). -/
def tileDepth (m : Mach) (g t : Nat) : Nat := if tileRgb m t then 10 else depthBits (getF m (rSCN_GEOM g) fSCN_GEOM_DEPTH)
def pixelBits (m : Mach) (g t : Nat) : Nat := if tileRgb m t then 32 else tileDepth m g t

/-- The tiles that R461 puts in group `g`. -/
def tilesOf (m : Mach) (g : Nat) : List Nat := (List.range 24).filter (fun t => groupOf m t == some g)

/-- The placed tiles of group `g`. -/
def placedOf (m : Mach) (g : Nat) : List Nat := (tilesOf m g).filter (isPlaced m)

/-- The geometry of tile `t` under R461: its group with a WIDTH and a HEIGHT above 0. -/
def tileGeom (m : Mach) (t : Nat) : Option (Nat × Nat × Nat) :=
  match groupOf m t with
  | some g => if geomW m g = 0 ∨ geomH m g = 0 then none else some (g, geomW m g, geomH m g)
  | none => none

/-- May context `c` change group `g` as its owner, or put layers in it as a contributor (R69, R70)? -/
def ownsGroup (m : Mach) (c g : Nat) : Bool := ownerOf m g == c
def takesPart (m : Mach) (c g : Nat) : Bool := ownerOf m g == c || hasBit (contribOf m g) c

/-! ### Layers -/

/-- The descriptor words of layer `i` that are in force at this moment: pending, else committed, else active. -/
def activeDesc (m : Mach) (i : Nat) : List Word :=
  [reg m (rLYR_DESC_CTL i), reg m (rLYR_DESC_DST i), reg m (rLYR_DESC_SIZE i), reg m (rLYR_DESC_SRC i),
    reg m (rLYR_DESC_FILL i)]
def lastDesc (m : Mach) (i : Nat) : List Word :=
  let r := layOf m i
  match r.pend, r.late, r.com with
  | some d, _, _ => d
  | none, some d, _ => d
  | none, none, some d => d
  | none, none, none => activeDesc m i

/-- The buffer that is attached to layer `i` at this moment, likewise (R110). -/
def lastBuf (m : Mach) (i : Nat) : Nat :=
  let r := layOf m i
  match r.pendBuf, r.lateBuf, r.comBuf with
  | some b, _, _ => b
  | none, some b, _ => b
  | none, none, some b => b
  | none, none, none => (reg m (rLYR_DESC_BUF i)).toNat

def descTile (d : List Word) : Nat := fget (d.getD 0 0) fLYR_DESC_CTL_TILE
def descFmt (d : List Word) : Nat := fget (d.getD 0 0) fLYR_DESC_CTL_FORMAT
def descLines (d : List Word) : Nat := fget (d.getD 0 0) fLYR_DESC_CTL_LB_LINES
def descW (d : List Word) : Nat := fget (d.getD 2 0) fLYR_DESC_SIZE_WIDTH
def descH (d : List Word) : Nat := fget (d.getD 2 0) fLYR_DESC_SIZE_HEIGHT
def descX (d : List Word) : Nat := fget (d.getD 3 0) fLYR_DESC_SRC_SRC_X
def descY (d : List Word) : Nat := fget (d.getD 3 0) fLYR_DESC_SRC_SRC_Y

/-- Has layer `i` been latched? -/
def everLatched (m : Mach) (i : Nat) : Bool := reg m (rLYR_DESC_SIZE i) != 0

/-- The tile on which layer `i` acts: the latched one, else the one last given. -/
def layTile (m : Mach) (i : Nat) : Nat := descTile (if everLatched m i then activeDesc m i else lastDesc m i)

/-! ### References and release (R102, R103, R111) -/

/-- The buffers that the frames of running groups reference. -/
def latchedBufs (m : Mach) : List Nat :=
  (List.range 8).flatMap (fun g => if grpRuns m g then (grpOf m g).cur.bufs ++ (grpOf m g).prev.bufs else [])

/-- The layers with which frames of running groups have been composed and are still shown. -/
def latchedLays (m : Mach) : List Nat :=
  (List.range 8).flatMap (fun g =>
    if grpRuns m g then ((grpOf m g).cur.ents ++ (grpOf m g).prev.ents).map EntCfg.layer else [])

/-- Does a pending or committed attachment name buffer `i`? -/
def bufWanted (m : Mach) (i : Nat) : Bool :=
  let names (o : Option Nat) : Bool :=
    match o with
    | some h => h != 0 && hIdx h == i
    | none => false
  m.pix.lays.any (fun e => e.2.used && (names e.2.pendBuf || names e.2.comBuf || names e.2.lateBuf))

/-- Does a check-value job hold a reference on buffer `i` (R423)? -/
def bufChecked (m : Mach) (i : Nat) : Bool :=
  (List.range 4).any (fun u => flag m (rCVU_STAT u) fCVU_STAT_RUN && hIdx (cvOf m u).handle == i)

/-- Does a latched frame reference buffer `i` (R102, R107)? -/
def bufShown (m : Mach) (i : Nat) : Bool := (latchedBufs m).any (fun h => hIdx h == i)

/-- Is buffer `i` referenced by a latched frame or by a check-value job? -/
def bufLatched (m : Mach) (i : Nat) : Bool := bufShown m i || bufChecked m i

/-- The state of a buffer that BUF_INFO reports (R99, R103). -/
def bufState (m : Mach) (i : Nat) : Nat :=
  if (bufOf m i).retiring then 3 else if bufWanted m i || bufLatched m i then 2 else 1

/-- Pages of a buffer. -/
def bufPages (r : BufRec) : Nat := r.size / 4096

/-- `n` pages leave the pool or return to it. -/
def takePages (n : Nat) (m : Mach) : Mach :=
  m |> setF rPLC_POOL_STAT fPLC_POOL_STAT_USED (getF m rPLC_POOL_STAT fPLC_POOL_STAT_USED + n) |>
    setF rPLC_POOL_STAT fPLC_POOL_STAT_FREE (getF m rPLC_POOL_STAT fPLC_POOL_STAT_FREE - n)
def returnPages (n : Nat) (m : Mach) : Mach :=
  m |> setF rPLC_POOL_STAT fPLC_POOL_STAT_USED (getF m rPLC_POOL_STAT fPLC_POOL_STAT_USED - n) |>
    setF rPLC_POOL_STAT fPLC_POOL_STAT_FREE (getF m rPLC_POOL_STAT fPLC_POOL_STAT_FREE + n)

/-- Pages that context `c` holds, retiring buffers included (R100). -/
def ctxPages (m : Mach) (c : Nat) : Nat :=
  (m.pix.bufs.map (fun e => if e.2.used && e.2.ctx == c then bufPages e.2 else 0)).sum

/-- Buffer `i` is released: its pages return, its INDEX is free, and an active attachment that names it becomes "no buffer" (R102,
R103). -/
def dropBuf (i : Nat) (m : Mach) : Mach :=
  let r := bufOf m i
  let m := forEach (usedLays m) (fun n m =>
    let h := (reg m (rLYR_DESC_BUF n)).toNat
    when (h != 0 && hIdx h == i) (setReg (rLYR_DESC_BUF n) 0) m) m
  m |> returnPages (bufPages r) |> setBuf i { gen := r.gen }

/-- An attachment that names buffer `i` becomes "no buffer". -/
def forget (i : Nat) (o : Option Nat) : Option Nat :=
  match o with
  | some h => some (if h != 0 && hIdx h == i then 0 else h)
  | none => none

/-- The pending and committed attachments of buffer `i` become "no buffer" and its stream bindings end (R103). -/
def detachBuf (i : Nat) (m : Mach) : Mach :=
  let m := forEach (usedLays m) (fun n m =>
    let r := layOf m n
    setLay n { r with pendBuf := forget i r.pendBuf, comBuf := forget i r.comBuf, lateBuf := forget i r.lateBuf } m) m
  forEach (List.range 24) (fun p m =>
    let s := streamOf m p
    when (s.on && (hIdx s.bufA == i || (s.pingpong && hIdx s.bufB == i))) (setStream p {}) m) m

/-- BUF_FREE of buffer `i` (R103): released at once, or RETIRING while a latched frame references it. -/
def freeBuf (i : Nat) (m : Mach) : Mach :=
  let m := detachBuf i m
  if bufLatched m i then setBuf i { bufOf m i with retiring := true } m else dropBuf i m

/-- The entry of a stack without layer `n`, later entries moving down. -/
def withoutLayer (n : Nat) (ents : List Word) : List Word := ents.filter (fun e => fget e fCMP_STACK_LAYER != n)

/-- The latched stack of group `g` (CMP_STACK). -/
def stackOf (m : Mach) (g : Nat) : List Word :=
  (List.range (getF m (rCMP_GRP_CFG g) fCMP_GRP_CFG_COUNT)).map (fun i => reg m (rCMP_STACK g i))

/-- CMP_STACK[g] shows `ents`. -/
def showStack (g : Nat) (ents : List Word) (m : Mach) : Mach :=
  let m := forEach (List.range 32) (fun i m => setReg (rCMP_STACK g i) (ents.getD i 0) m) m
  setF (rCMP_GRP_CFG g) fCMP_GRP_CFG_COUNT ents.length m

/-- The stack of a change without layer `n`. -/
def strike (n : Nat) (s : GSet) : GSet := { s with stack := s.stack.map (withoutLayer n) }

/-- Layer `n` leaves the pending and committed stacks of every group. -/
def strikePending (n : Nat) (m : Mach) : Mach :=
  setPix (fun s => { s with
    gpend := s.gpend.map (fun e => (e.1, strike n e.2))
    grps := s.grps.map (fun e => (e.1, { e.2 with com := strike n e.2.com, late := strike n e.2.late })) }) m

/-- Layer `n` leaves the latched stack of group `g`. -/
def strikeLatched (g n : Nat) (m : Mach) : Mach :=
  let ents := stackOf m g
  if ents.any (fun e => fget e fCMP_STACK_LAYER == n) then showStack g (withoutLayer n ents) m else m

/-- Does the group of layer `i` run? -/
def layRuns (m : Mach) (i : Nat) : Bool :=
  match groupOf m (layTile m i) with
  | some g => grpRuns m g
  | none => false

/-- A retiring layer leaves every stack of a group that does not run, and the pending ones (R111). -/
def leaveStacks (i : Nat) (m : Mach) : Mach :=
  let m := m |> strikePending i |> forEach (List.range 8) (fun g m => when (!grpRuns m g) (strikeLatched g i) m)
  setLay i { layOf m i with left := true, due := !(latchedLays m).contains i } m

/-- LAYER_DESTROY of layer `i` (R111): it retires; it leaves the stacks at the next latch of its group, or at once. -/
def retireLay (i : Nat) (m : Mach) : Mach :=
  let m := m |> setLay i { layOf m i with retiring := true }
  if layRuns m i then m else leaveStacks i m

/-- Layer `i` is released: its descriptor and its line-buffer blocks go. -/
def dropLay (i : Nat) (m : Mach) : Mach :=
  let m := setLay i { gen := (layOf m i).gen } m
  forEach [rLYR_DESC_CTL i, rLYR_DESC_DST i, rLYR_DESC_SIZE i, rLYR_DESC_SRC i, rLYR_DESC_FILL i, rLYR_DESC_BUF i]
    (fun a m => setReg a 0 m) m

/-- Line-buffer blocks that the layers reserve, layer `but` left out (R112). -/
def blocksUsed (m : Mach) (but : Option Nat) : Nat :=
  (m.pix.lays.map (fun e => if e.2.used && some e.1 != but then e.2.blocks else 0)).sum

/-- What a context has recorded and not committed is discarded (R72). -/
def discardPending (c : Nat) (m : Mach) : Mach :=
  let m := forEach (usedLays m) (fun n m =>
    let r := layOf m n
    when (r.ctx == c) (setLay n { r with pend := none, pendBuf := none }) m) m
  setPix (fun s => { s with gpend := tdrop (8 * c) (8 * c + 8) s.gpend, meshPend := tdrop (32 * c) (32 * c + 32) s.meshPend }) m

/-- Every buffer and layer of a context is freed (R72). -/
def freeContext (c : Nat) (m : Mach) : Mach :=
  let m := forEach (usedLays m) (fun n m =>
    let r := layOf m n
    when (r.ctx == c && !r.retiring) (retireLay n) m) m
  forEach (usedBufs m) (fun i m =>
    let r := bufOf m i
    when (r.ctx == c && !r.retiring) (freeBuf i) m) m

/-- Retiring handles whose last reference has ended become due for release (R102, R104, R111). -/
def dueReleases (m : Mach) : Mach :=
  let m := forEach (usedLays m) (fun n m => when ((layOf m n).retiring && !(layOf m n).left && !layRuns m n) (leaveStacks n) m) m
  let m := forEach (usedLays m) (fun n m =>
    let r := layOf m n
    when (r.retiring && r.left && !r.due && !(latchedLays m).contains n) (setLay n { r with due := true }) m) m
  forEach (usedBufs m) (fun i m =>
    let r := bufOf m i
    when (r.retiring && !r.due && !bufLatched m i) (setBuf i { r with due := true }) m) m

/-- The oldest deadline that a band latched from now on may have (R19): the latch of a running group, and 23 µs ago. -/
def oldestDeadline (m : Mach) : Nat :=
  ((List.range 8).filter (grpRuns m)).foldl (fun a g => min a (grpOf m g).latchAt) (m.now - us 23)

/-- The bytes under `keys` are about to be written: what they hold is kept as long as a deadline may ask for it (R18). -/
def noteBytes (keys : List Nat) (mem : Tab Byte) (m : Mach) : Mach :=
  let lo := oldestDeadline m
  let new := keys.map (fun k => (⟨m.now, k, tget 0 mem k⟩ : PoolWr))
  setPix (fun s => { s with undo := new ++ s.undo.filter (fun e => decide (lo ≤ e.at_)) }) m

/-- The pool as it stood at instant `d`: later writes undone, the newest first. -/
def poolAt (d : Nat) (mem : Tab Byte) (m : Mach) : Tab Byte :=
  (m.pix.undo.filter (fun e => decide (d < e.at_))).foldl (fun mem e => tput 0 mem e.key e.old) mem

/-- The write times of the bands of buffer `i` as they stood at instant `d`. -/
def timesAt (d i : Nat) (m : Mach) : Tab Nat :=
  (m.pix.undoT.filter (fun e => decide (d < e.at_) && e.buf == i)).foldl (fun t e => tput 0 t e.band e.old) (bufOf m i).times

/-- What was kept of buffer `i` goes with its use. -/
def dropNotes (i : Nat) (m : Mach) : Mach :=
  setPix (fun s => { s with
    undo := s.undo.filter (fun e => e.key / 2 ^ 27 != i), undoT := s.undoT.filter (fun e => e.buf != i) }) m

/-- The µs of a write, plus one, for band `b` of buffer `i` (R132). -/
def stampBand (i b : Nat) (m : Mach) : Mach :=
  let r := bufOf m i
  let lo := oldestDeadline m
  m |> setPix (fun s => { s with
      undoT := ⟨m.now, i, b, tget 0 r.times b⟩ :: s.undoT.filter (fun e => decide (lo ≤ e.at_)) }) |>
    setBuf i { r with times := tput 0 r.times b (m.now / 600 + 1) }

end Sys2Proof.Machine
end

