-- ==== Sys2Proof/Machine/GarnetOps.lean ====
section
/-!
DEFINITION. Control loops and motor channels: the control law (R286, R287), coefficient banks (R288 to R291), parking and
the states of a channel (R296 to R298), levelling (R299, R300), injection (R302) and ADC results (R303 to R305).
-/

namespace Sys2Proof.Machine

def loopOf (m : Mach) (l : Nat) : LoopRec := tget {} m.loops l
def setLoop (l : Nat) (r : LoopRec) (m : Mach) : Mach := { m with loops := tput {} m.loops l r }
def motOf (m : Mach) (c : Nat) : MotRec := tget {} m.mots c
def setMot (c : Nat) (r : MotRec) (m : Mach) : Mach := { m with mots := tput {} m.mots c r }

/-! ### Signed 16.16 arithmetic -/

/-- A signed 16.16 quantity; a result outside the format has no stated value (R286). -/
def fx (v : Int) : Int := if -(2 ^ 31) ≤ v ∧ v < 2 ^ 31 then v else Config.fxOut v

/-- The exact product of two signed 16.16 quantities. DESIGN CHOICE: the bits below 2^−16 are dropped towards minus infinity. -/
def fmul (a b : Int) : Int := a * b / 65536

/-- `v` limited to the range `lo` to `hi`. -/
def clampI (lo hi v : Int) : Int := if v < lo then lo else if hi < v then hi else v

/-! ### Banks (R288) -/

/-- The signed 32-bit value at an offset of a bank image. -/
def bankI (b : List Nat) (off : Nat) : Int := sgn 32 (leNat ((b.drop off).take 4))

/-- The signed 16-bit table entry at an offset. -/
def bankH (b : List Nat) (off : Nat) : Int := sgn 16 (leNat ((b.drop off).take 2))

/-- The image that loop 8 holds in bank A when none is stored (R289): ALPHA 2,027, UMIN −3.0, UMAX +3.0. -/
def loop8Default : List Nat :=
  List.replicate 0x10 0 ++ [2027 % 256, 2027 / 256, 0, 0] ++ List.replicate 8 0 ++ [0, 0, 0xFD, 0xFF] ++ [0, 0, 3, 0] ++
    List.replicate (688 - 0x24) 0

/-- Is a bank image valid (R288, R289): 688 bytes, reserved bytes zero, IMIN ≤ IMAX, UMIN ≤ UMAX? -/
def bankValid (b : List Nat) : Bool :=
  b.length == 688 && leNat ((b.drop 0x12).take 2) == 0 && decide (leNat ((b.drop 0x28).take 4) < 4) &&
  leNat ((b.drop 0x2C).take 4) == 0 && decide (bankI b 0x14 ≤ bankI b 0x18) && decide (bankI b 0x1C ≤ bankI b 0x20)

/-- The active bank of a loop, and whether it is valid. -/
def bankSel (m : Mach) (l : Nat) : Bool := flag m (rGAR_LOOP_STAT l) fGAR_LOOP_STAT_ACTIVE
def bankOk (m : Mach) (l : Nat) (b : Bool) : Bool :=
  flag m (rGAR_LOOP_STAT l) (if b then fGAR_LOOP_STAT_VALID_B else fGAR_LOOP_STAT_VALID_A)
def activeBank (m : Mach) (l : Nat) : List Nat := if bankSel m l then (loopOf m l).bankB else (loopOf m l).bankA
def activeOk (m : Mach) (l : Nat) : Bool := bankOk m l (bankSel m l)

/-- The friction table at a position (R287): 64 entries spanning POS_MIN to POS_MAX, linear between neighbours. DEDUCED:
63 steps, so that the last entry stands at POS_MAX. All positions in 16.16 degrees, the result in mA as 16.16. -/
def friction (b : List Nat) (lo hi pos : Int) : Int :=
  if hi ≤ lo then 65536 * bankH b (0x30 + 126)
  else
    let x := clampI 0 (63 * 65536) ((pos - lo) * 63 * 65536 / (hi - lo))
    let k := (x / 65536).toNat
    let f := x % 65536
    if 63 ≤ k then 65536 * bankH b (0x30 + 126)
    else
      let a := bankH b (0x30 + 2 * k)
      let c := bankH b (0x30 + 2 * (k + 1))
      65536 * a + (c - a) * f

/-- The cogging table at a rotor count (R287): 256 entries over one revolution of `rev` counts, entry 0 after 255. -/
def cogging (b : List Nat) (rev : Nat) (count : Int) : Int :=
  if rev = 0 then 0 else
  let x := (count % (rev : Int)) * 256 * 65536 / (rev : Int)
  let k := (x / 65536).toNat % 256
  let f := x % 65536
  let a := bankH b (0xB0 + 2 * k)
  let c := bankH b (0xB0 + 2 * ((k + 1) % 256))
  65536 * a + (c - a) * f

/-- The signals of one sample: reference, measurement, error and output. -/
structure Sample where
  r : Int
  y : Int
  u : Int
  e : Int
  deriving DecidableEq, Repr, Inhabited

/-- One sample of the law of R286 with bank `b`. `extra` is the friction and cogging term, `inj` what an injection adds to
the output before the output limits. Answers the new states and the signals. The law clamps i and u, so that their exact sums never
leave the format. -/
def lawStep (b : List Nat) (s : LoopRec) (r y extra inj : Int) : LoopRec × Sample :=
  let e := fx (r - y)
  let i := clampI (bankI b 0x14) (bankI b 0x18) (s.i + fmul (bankI b 4) e)
  let alpha : Int := leNat ((b.drop 0x10).take 2)
  let d := fx (s.d + fmul alpha ((e - s.ePrev) - s.d))
  let u := fmul (bankI b 0) e + i + fmul (bankI b 8) d + fmul (bankI b 0xC) (r - s.rPrev) + extra + inj
  let u := clampI (bankI b 0x1C) (bankI b 0x20) u
  let slew : Int := leNat ((b.drop 0x24).take 4)
  let u := if 0 < slew then clampI (s.uPrev - slew) (s.uPrev + slew) u else u
  ({ s with i := i, d := d, ePrev := e, uPrev := u, rPrev := r }, ⟨r, y, u, e⟩)

/-- The same law on the second axis of a current loop, whose reference is 0 (R283). -/
def lawStep2 (b : List Nat) (s : LoopRec) (y : Int) : LoopRec × Int :=
  let q : LoopRec := { i := s.i2, d := s.d2, ePrev := s.ePrev2, uPrev := s.uPrev2 }
  let (q, o) := lawStep b q 0 y 0 0
  ({ s with i2 := q.i, d2 := q.d, ePrev2 := q.ePrev, uPrev2 := q.uPrev }, o.u)

/-! ### Motor channels -/

def motState (m : Mach) (c : Nat) : Nat := getF m (rMOT_STAT c) fMOT_STAT_STATE
def motFunc (m : Mach) (c : Nat) : Nat := getF m (rMOT_CFG c) fMOT_CFG_FUNC

/-- Is the channel a positioning one (levelling or swivel)? -/
def isAxis (m : Mach) (c : Nat) : Bool := motFunc m c == 1 || motFunc m c == 2

/-- The injection ends; the records stay readable (R302). -/
def endInject (r : Rep) (m : Mach) : Mach :=
  { m with inject := none } |> setB rGAR_CAP_STAT fGAR_CAP_STAT_ACTIVE false |> finish .inject 0 r

/-- The channel takes a state; leaving CLOSED ends an injection into one of its loops (R302). -/
def setMotState (c st : Nat) (m : Mach) : Mach :=
  let leaves := motState m c == 2 && st != 2
  let m := setF (rMOT_STAT c) fMOT_STAT_STATE st m
  match m.inject with
  | some j => if leaves && decide (j.lp < 8) && j.lp % 4 == c then endInject (errW stSTATE_REJECT (viewReg m (rGAR_LOOP_STAT j.lp))) m else m
  | none => m

/-- Steps of the half period of the PWM (R293). -/
def pwmSteps : Nat := 2500

/-- A phase's compare value at the duty at which a parked fan or pump runs (R297). -/
def parkDuty (m : Mach) (c : Nat) : Nat := pwmSteps * getF m (rMOT_CFG c) fMOT_CFG_PARK_DUTY / 4096

/-- Parking (R297): a levelling or swivel channel has its gates off and its brake applied; a fan or pump runs open-loop
at PARK_DUTY, while MOTn_FLT_N is high. -/
def parkMotor (c cause : Nat) (m : Mach) : Mach :=
  let m := m |> setMotState c 3 |> setF (rMOT_STAT c) fMOT_STAT_CAUSE cause
  let r := motOf m c
  let d := parkDuty m c
  if isAxis m c then setMot c { r with gates := false, brake := true, frz := 0, zeroing := false } m
  else setMot c { r with
      gates := !flag m (rMOT_STAT c) fMOT_STAT_DRV_FLT, brake := false, frz := 0, zeroing := false, duty := (d, d, d), shadow := (d, d, d) } m

/-- The level of MOTn_BRK (R293): applied, it stands at the level that BRK_POL gives. -/
def brakePin (m : Mach) (c : Nat) : Bool := (motOf m c).brake == flag m (rMOT_CFG c) fMOT_CFG_BRK_POL

/-- The high-side and low-side commands of a phase at step `k` of the 5,000 steps (10 ns) of a centre-aligned period, at compare value
`duty`, after a period at compare value `was`, with a dead time of `dt` steps between the two (R293). DESIGN CHOICE: each side turns off at
its edge, and the other one on `dt` later; the high side ends `dt` before the next period at the latest, which begins with the low side on.
From or to a duty of 1.0 the dead time follows the start of the period. -/
def phaseGates (was duty dt k : Nat) : Bool × Bool :=
  let rise := pwmSteps - duty
  let fall := min (pwmSteps + duty) (2 * pwmSteps - dt)
  if pwmSteps ≤ duty then (decide (pwmSteps ≤ was) || decide (dt ≤ k), false)
  else (decide (rise + dt ≤ k) && decide (k < fall), (decide (k < rise) && (decide (was < pwmSteps) || decide (dt ≤ k))) || decide (fall + dt ≤ k))

/-- The pins MOTn_UH, UL, VH, VL, WH and WL of channel `c` at the present instant (R293): no gate is on while the outputs are off. -/
def gatePins (m : Mach) (c : Nat) : List (Bool × Bool) :=
  let r := motOf m c
  let dt := getF m (rMOT_CFG c) fMOT_CFG_DT
  let k := (m.now - r.pwmAt) / 6 % 5000
  let one := decide (r.pwmAt + us 50 ≤ m.now)
  [(r.dutyWas.1, r.duty.1), (r.dutyWas.2.1, r.duty.2.1), (r.dutyWas.2.2, r.duty.2.2)].map (fun d =>
    if r.gates then phaseGates (if one then d.2 else d.1) d.2 dt k else (false, false))

/-- Entry to SLEEP, DEEP or OFF, and a thermal shutdown, park every channel that is HOMING, CLOSED or LOST (R296, R306). -/
def parkAll (m : Mach) : Mach :=
  forEach [0, 1, 2, 3] (fun c m =>
    let st := getF m (rMOT_STAT c) fMOT_STAT_STATE
    when (st == 1 || st == 2 || st == 4) (parkMotor c 8) m) m

/-- Both loops of the channel have a valid active bank (R296). -/
def banksOk (m : Mach) (c : Nat) : Bool := activeOk m c && activeOk m (4 + c)

/-- The channel closes, or homes first (R296), and its loops count overruns afresh (R292). With `zero`, from OFF or PARKED, the zero
codes are measured first with the PWM off (R294). -/
def closeMotor (c : Nat) (home zero : Bool) (m : Mach) : Mach :=
  let r := motOf m c
  let pos := sgn 32 (reg m (rMOT_POS c)).toNat
  let r := { r with
    gates := !zero, brake := false, frz := 0, still := 0, zeroing := zero, homeAt := m.now, elecPos := none
    ref := if isAxis m c then pos else pos * 65536 }
  m |> setMot c r |> setF (rGAR_LOOP_STAT c) fGAR_LOOP_STAT_CONSEC 0 |> setF (rGAR_LOOP_STAT (4 + c)) fGAR_LOOP_STAT_CONSEC 0 |>
    setMotState c (if home then 1 else 2)

/-- PWM off, brake applied: OFF (R296). -/
def motorOff (c : Nat) (m : Mach) : Mach :=
  let r := { motOf m c with gates := false, brake := true, frz := 0, zeroing := false }
  m |> setMot c r |> setMotState c 0 |> setB (rMOT_STAT c) fMOT_STAT_HOMED false

/-- NOCOEF follows the active banks of the loops of a channel in use (R296, R308). -/
def showNocoef (c : Nat) (m : Mach) : Mach :=
  setB (rMOT_STAT c) fMOT_STAT_NOCOEF (decide (1 ≤ motFunc m c) && decide (motFunc m c ≤ 4) && !banksOk m c) m

/-- FUNC acts on a channel in OFF, and FUNC 0 in any state (R296). A fenced channel is held PARKED (R345); the golden image leaves every
channel disabled (R395). -/
def applyFunc (c : Nat) (m : Mach) : Mach :=
  let f := motFunc m c
  if golden m || hasBit (getF m rFLT_FENCE_MISC fFLT_FENCE_MISC_MOTOR) c then m
  else if f = 0 ∨ 4 < f then (if motState m c = 0 then m else motorOff c m)
  else if motState m c ≠ 0 then m
  else if banksOk m c then
    let home := flag m (rMOT_CFG c) fMOT_CFG_HOME
    closeMotor c home true (showNocoef c m)
  else showNocoef c m

/-- Positions in 12.20 degrees: POS_MIN and POS_MAX of a channel (8.8 in MOT_LIM). -/
def posMin (m : Mach) (c : Nat) : Int := sgn 16 (getF m (rMOT_LIM c) fMOT_LIM_POS_MIN) * 4096
def posMax (m : Mach) (c : Nat) : Int := sgn 16 (getF m (rMOT_LIM c) fMOT_LIM_POS_MAX) * 4096

/-- The measured position in 12.20 degrees (R295). -/
def positionOf (m : Mach) (c : Nat) (count : Int) : Int :=
  let scale : Int := max 1 (getF m (rMOT_ENC c) fMOT_ENC_SCALE)
  if flag m (rMOT_CFG c) fMOT_CFG_HOME then posMin m c + (count - (motOf m c).endStop) * 1048576 / scale
  else count * 1048576 / scale

/-- The measured position register as an integer in 12.20 degrees. -/
def posReg (m : Mach) (c : Nat) : Int := sgn 32 (reg m (rMOT_POS c)).toNat

/-- A 12.20 quantity as a register word. -/
def wordI (v : Int) : Word := w32 (unsgn 32 v)

/-- The deviation a of R139 that tile `t` sees, in 12.20 degrees (R300): the position is that of the last count latched (R285), the AIM
that of the last sample of loop 8 (R299). -/
def tileAim (m : Mach) (t : Nat) : Int :=
  match (List.range 4).find? (fun c => hasBit (getF m (rMOT_TILES c) fMOT_TILES_MASK) t) with
  | none => 0
  | some c =>
    match motState m c with
    | 2 => positionOf m c (motOf m c).count - m.aim
    | 3 => positionOf m c (motOf m c).count - m.aim
    | 4 => (motOf m c).heldPos - m.aim
    | 1 => posMin m c - m.aim
    | _ => 0

/-- The channel enters LOST with a cause (R298): the loop opens; an axis is braked; the held position is the position at
the last count change. -/
def loseMotor (c cause : Nat) (m : Mach) : Mach :=
  let axis := isAxis m c
  let r := { motOf m c with gates := false, brake := axis, frz := 0, zeroing := false, heldPos := posReg m c }
  m |> setMot c r |> setMotState c 4 |> setF (rMOT_STAT c) fMOT_STAT_CAUSE cause |> raise (299 + c) noInst

/-! ### Injection (R302) -/

/-- sin(π/2 × `num` / `den`) for `num` ≤ `den`, in units of 2^−32: the series up to the 13th power. -/
def quarterSine (num den : Nat) : Nat :=
  if den ≤ num then 2 ^ 32
  else
    let y : Int := 6746518852 * num / den
    let mul (a b : Int) : Int := a * b / 2 ^ 32
    let yy := mul y y
    let t := [156, 110, 72, 42, 20, 6].foldl (fun acc (k : Int) => 2 ^ 32 - mul yy acc / k) (2 ^ 32 : Int)
    (mul y t).toNat

/-- Sample `n` of a sine of amplitude `a` at `freq`/16 Hz, at `rate` samples per second (R302): within 2^−16 of the exact value, the rounding
being free, and never above the amplitude. -/
def sineSample (a : Int) (freq rate n : Nat) : Int :=
  let den := 16 * rate
  let pos := 4 * (freq * n) % (4 * den)
  let r := pos % den
  let s : Int := match pos / den with
    | 0 => quarterSine r den
    | 1 => quarterSine (den - r) den
    | 2 => -(quarterSine r den : Int)
    | _ => -(quarterSine (den - r) den : Int)
  let v := a * s
  let up := v % 2 ^ 32 != 0 && Config.sine a freq rate n
  clampI (-(a.natAbs : Int)) a.natAbs (v / 2 ^ 32 + (if up then 1 else 0))

/-- The next value of the test signal and the injection after it. -/
def injectNext (j : InjRec) : Int × InjRec :=
  let v := match j.signal with
    | 0 => j.ampl
    | 1 => sineSample j.ampl j.freq (if j.lp < 4 then 20000 else if j.lp < 8 then 1000 else 100) j.n
    | _ => if j.prbs % 2 = 1 then j.ampl else -j.ampl
  let step := j.signal == 2 && (j.n + 1) % (max 1 j.freq) == 0
  let fb := (j.prbs >>> 8 ^^^ j.prbs >>> 4) % 2
  (v, { j with n := j.n + 1, prbs := if step then (j.prbs * 2 + fb) % 512 else j.prbs })

/-- What the injection adds to loop `l` at its reference and at its output, and the state after the draw. -/
def injectFor (l : Nat) (m : Mach) : Int × Int × Mach :=
  match m.inject with
  | none => (0, 0, m)
  | some j =>
    if j.lp ≠ l then (0, 0, m) else
    let (v, j') := injectNext j
    let m := { m with inject := some j' }
    if j.point = 0 then (v, 0, m) else (0, v, m)

/-- At every DECIM-th sample of an injected loop a record is made (R302). -/
def captureSample (l : Nat) (s : Sample) (m : Mach) : Mach :=
  match m.inject with
  | none => m
  | some j =>
    if j.lp ≠ l ∨ j.n % max 1 j.decim ≠ 0 ∨ j.samples ≤ m.capture.length then m else
    { m with capture := m.capture ++ [(s.r, s.y, s.u, s.e)] } |> bump rGAR_CAP_STAT fGAR_CAP_STAT_SAMPLES |>
      setB rGAR_CAP_STAT fGAR_CAP_STAT_VALID true

/-- Is the loop closed: its channel in CLOSED; loop 8 always runs? -/
def loopClosed (m : Mach) (l : Nat) : Bool := if l < 8 then motState m (l % 4) == 2 else true

/-! ### ADC (R303 to R305) -/

/-- Rounded quotient, ties away from zero. -/
def roundDiv (a : Int) (b : Int) : Int :=
  if b ≤ 0 then 0 else if 0 ≤ a then (2 * a + b) / (2 * b) else -((2 * (-a) + b) / (2 * b))

/-- The corrected code of a raw conversion (R418): round((raw − OFS) × GAIN), limited to 0 to 4,095. -/
def correctCode (ofs gain raw : Int) : Nat := (clampI 0 4095 (roundDiv ((raw * 256 - ofs) * gain) (256 * 32768))).toNat

/-- That of channel `k` with the values in force. -/
def adcCode (m : Mach) (k : Nat) (raw : Int) : Nat :=
  correctCode (sgn 16 (fget (calReg m (rCAL_ADC k)) fCAL_ADC_OFS)) (fget (calReg m (rCAL_ADC k)) fCAL_ADC_GAIN) raw

/-- VALUE of a code (R304). -/
def adcValue (m : Mach) (k code : Nat) : Int :=
  if flag m (rADC_CH_CFG k) fADC_CH_CFG_KIND then
    let off := sgn 16 (getF m (rADC_CH_SCALE k) fADC_CH_SCALE_OFFSET)
    let gain := sgn 16 (getF m (rADC_CH_SCALE k) fADC_CH_SCALE_GAIN)
    satS 16 (roundDiv (off * 256 + (code : Int) * gain) 256)
  else roundDiv ((code : Int) * 2500) 4095

/-- A conversion of channel `k` that gives `raw`: the corrected code, its value and the limits (R303 to R305). -/
def convert (k : Nat) (raw : Int) (m : Mach) : Mach :=
  let code := adcCode m k raw
  let lim := flag m (rADC_CH_LIM k) fADC_CH_LIM_LIM_EN
  let out := lim && (decide (code < getF m (rADC_CH_LIM k) fADC_CH_LIM_LO) || decide (getF m (rADC_CH_LIM k) fADC_CH_LIM_HI < code))
  let r : AdcRec := tget {} m.adcs k
  let n := if out then capN 3 (r.outs + 1) else 0
  let m := { m with adcs := tput {} m.adcs k { outs := n, at_ := some m.now } }
  m |> setF (rADC_RES k) fADC_RES_CODE code |> setF (rADC_RES k) fADC_RES_VALUE (unsgn 16 (adcValue m k code)) |>
    setB (rADC_RES k) fADC_RES_OUT out |> when (out && r.outs == 2) (raise 313 (detail k 0))

/-! ### The encoder (R295) -/

/-- What a quadrature transition from code `a` to code `b` (A in bit 0, B in bit 1) adds to the count, and whether it is an error. DESIGN
CHOICE (the spec gives no sense): A before B counts up. -/
def quadStep (a b : Nat) : Int × Bool :=
  match a, b with
  | 0, 1 | 1, 3 | 3, 2 | 2, 0 => (1, false)
  | 1, 0 | 3, 1 | 2, 3 | 0, 2 => (-1, false)
  | 0, 3 | 3, 0 | 1, 2 | 2, 1 => (0, true)
  | _, _ => (0, false)

/-- The place of a Hall code in the cycle 1, 3, 2, 6, 4, 5 (U in bit 0). -/
def hallPlace : Nat → Option Nat
  | 1 => some 0 | 3 => some 1 | 2 => some 2 | 6 => some 3 | 4 => some 4 | 5 => some 5 | _ => none

/-- What a change of the Hall code adds to the count, and whether it is an error. DESIGN CHOICE (the spec gives no sense): up to three
places along the cycle count up. The first code seen counts nothing. -/
def hallStep (a b : Nat) : Int × Bool :=
  match hallPlace a, hallPlace b with
  | _, none => (0, true)
  | none, some _ => (0, false)
  | some x, some y => if x = y then (0, false) else if (y + 6 - x) % 6 ≤ 3 then (1, false) else (-1, false)

/-- The code behind the glitch filter changes at an instant: count, direction, errors (R295). -/
def countEdge (c : Nat) (e : Nat × Nat) (m : Mach) : Mach :=
  let r := motOf m c
  let hall := flag m (rMOT_ENC c) fMOT_ENC_KIND
  let code := if hall then e.2 % 8 else e.2 % 4
  let (d, bad) := if hall then hallStep r.encCode code else quadStep (r.encCode % 4) code
  let d := if flag m (rMOT_ENC c) fMOT_ENC_DIR then -d else d
  let r := { r with
    count := r.count + d
    encCode := if bad && hall then r.encCode else code
    changes := if d = 0 then r.changes else ((e.1, d) :: r.changes).take 10
    errAt := if bad then (e.1 :: r.errAt).take 17 else r.errAt }
  m |> setMot c r |> when bad (bump (rMOT_STAT c) fMOT_STAT_ENC_ERR)

/-- The encoder pins of channel `c` whose new levels have stood for the 40 ns of the glitch filter at instant `t` (R429) go through it, those
that changed first before the others. -/
def passFilter (c t : Nat) (m : Mach) : Mach :=
  let r := motOf m c
  let due := (r.pinAt.zipIdx).filter (fun e => hasBit r.pinCode e.2 != hasBit r.pinFilt e.2 && decide (e.1 + 24 ≤ t))
  match (due.map Prod.fst).min? with
  | none => m
  | some at_ =>
    let code := (due.filter (fun e => e.1 == at_)).foldl (fun code e => code ^^^ 2 ^ e.2) r.pinFilt
    m |> setMot c { r with pinFilt := code } |> countEdge c (at_ + 24, code)

/-- The filter has followed the pins up to instant `t`. -/
def settlePins (c t : Nat) (m : Mach) : Mach := m |> passFilter c t |> passFilter c t |> passFilter c t

/-- The pins of channel `c` show a code from an instant on. -/
def takeEdge (c : Nat) (e : Nat × Nat) (m : Mach) : Mach :=
  let m := settlePins c e.1 m
  let r := motOf m c
  let code := e.2 % 8
  setMot c { r with pinCode := code, pinAt := (r.pinAt.zipIdx).map (fun p => if hasBit r.pinCode p.2 = hasBit code p.2 then p.1 else e.1) } m

/-- The pins of channel `c` have been followed until now. -/
def followPins (c : Nat) (pins : List (Nat × Nat)) (m : Mach) : Mach := settlePins c m.now (forEach pins (takeEdge c) m)

/-- The speed in rpm (R295): from the count change over the last 1 ms, or over the last 10 Hall changes when those take longer. DESIGN
CHOICE: rounded down. -/
def speedOf (m : Mach) (c : Nat) : Int :=
  let r := motOf m c
  let rev : Int := max 1 (getF m (rMOT_ENC c) fMOT_ENC_REV)
  let fast := (r.count - r.prevCount) * 60000 / rev
  match r.changes.getLast? with
  | some (t, _) =>
    if flag m (rMOT_ENC c) fMOT_ENC_KIND && r.changes.length == 10 && decide (t + ms 1 < m.now) then
      (r.changes.map Prod.snd).sum * (60 * 600000000) / (rev * ((m.now : Int) - t))
    else fast
  | none => fast

/-! ### Samples -/

/-- The electrical rotor angle of channel `c`, as a count out of REV (R283). -/
def rotorAngle (m : Mach) (c : Nat) : Int × Int :=
  let rev : Int := max 1 (getF m (rMOT_ENC c) fMOT_ENC_REV)
  ((motOf m c).count * (getF m (rMOT_CFG c) fMOT_CFG_POLES : Int) % rev, rev)

/-- The phase currents' codes of channel `c`, corrected (R303). -/
def phaseCodes (m : Mach) (c adcU adcV : Nat) : Nat × Nat :=
  (adcCode m (getF m (rMOT_ISENSE c) fMOT_ISENSE_CH_U) adcU, adcCode m (getF m (rMOT_ISENSE c) fMOT_ISENSE_CH_V) adcV)

/-- The PWM period starts (R285): the shadow takes effect, the pins have been followed, the two conversions are made. -/
def startPeriod (c adcU adcV : Nat) (pins : List (Nat × Nat)) (m : Mach) : Mach :=
  let m := followPins c pins m
  let r := motOf m c
  let m := setMot c { r with duty := r.shadow, dutyWas := r.duty, pwmAt := m.now, before := none } m
  if motFunc m c = 0 then m
  else m |> convert (getF m (rMOT_ISENSE c) fMOT_ISENSE_CH_U) adcU |> convert (getF m (rMOT_ISENSE c) fMOT_ISENSE_CH_V) adcV

/-- The compare values of a voltage vector, limited to the steps of the half period (R293). -/
def compares (v : Nat × Nat × Nat) : Nat × Nat × Nat := (capN pwmSteps v.1, capN pwmSteps v.2.1, capN pwmSteps v.2.2)

/-- The zero codes are measured with the PWM off, which starts with the next period (R294). -/
def takeZero (c : Nat) (codes : Nat × Nat) (m : Mach) : Mach :=
  setMot c { motOf m c with zu := codes.1, zv := codes.2, zeroing := false, gates := true } m

/-- The current reference in force: the outer loop's output takes effect at T + 500 µs (R284). In HOMING it drives towards POS_MIN
(R296). -/
def currentRef (m : Mach) (c : Nat) : Int :=
  let r := motOf m c
  if motState m c = 1 then -((getF m (rMOT_HOME c) fMOT_HOME_HOME_I : Int) * 65536)
  else if m.tickAt + us 500 ≤ m.now then r.irefNext else r.iref

/-- A current-loop sample (R284, R285, R294): the two conversions give the currents, Garnet 0 computes both axes and writes the PWM
shadow. -/
def currentSample (c adcU adcV : Nat) (pins : List (Nat × Nat)) (m : Mach) : Mach :=
  let m := startPeriod c adcU adcV pins m
  let codes := phaseCodes m c adcU adcV
  let r := motOf m c
  if r.zeroing then takeZero c codes m else
  let scale : Int := getF m (rMOT_ISENSE c) fMOT_ISENSE_ISCALE
  let (angle, rev) := rotorAngle m c
  let (iq, idc) := Config.park (((codes.1 : Int) - r.zu) * scale * 256) (((codes.2 : Int) - r.zv) * scale * 256) angle rev
  let m := setMot c { r with iq := iq } m
  let st := motState m c
  if (st ≠ 1 ∧ st ≠ 2) ∨ activeOk m c = false then m
  else
    let (jr, ju, m) := injectFor c m
    let (ls, s) := lawStep (activeBank m c) (loopOf m c) (currentRef m c + jr) iq 0 ju
    let (ls, ud) := lawStep2 (activeBank m c) ls idc
    let was := (loopOf m c, (motOf m c).shadow, getF m (rGAR_LOOP_STAT c) fGAR_LOOP_STAT_CONSEC)
    let m := m |> setLoop c ls |> setMot c { motOf m c with shadow := compares (Config.phases s.u ud angle rev), before := some was } |>
      setF (rGAR_LOOP_STAT c) fGAR_LOOP_STAT_CONSEC 0
    captureSample c s m

/-- The outer-loop target of channel `c` (R299, R301), in the units of MOT_TGT. -/
def outerTarget (m : Mach) (c : Nat) : Int :=
  match motFunc m c with
  | 1 => (motOf m c).level
  | 2 => (motOf m c).cmdPos
  | 3 => ((max (motOf m c).cmdSpeed (tget 0 m.thm.demand c) : Nat) : Int)
  | 4 => ((max (motOf m c).cmdSpeed (tget 0 m.thm.demand c) : Nat) : Int)
  | _ => 0

/-- The target as the tick takes it: that of a swivel, a fan or a pump moves by at most SLEW of the outer loop's bank in a sample (R301).
It is held in 12.20 degrees, or in 16.16 rpm. -/
def slewTarget (m : Mach) (c : Nat) : Int :=
  let axis := isAxis m c
  let tgt := if axis then outerTarget m c else outerTarget m c * 65536
  let slew : Int := leNat (((activeBank m (4 + c)).drop 0x24).take 4)
  let step := if axis then slew * 16 else slew
  let prev := (motOf m c).ref
  if motFunc m c = 1 ∨ slew = 0 then tgt else clampI (prev - step) (prev + step) tgt

/-- Outer loop of channel `c` at a tick (R284, R286): its output is the current reference from T + 500 µs. -/
def outerSample (c : Nat) (m : Mach) : Mach :=
  let axis := isAxis m c
  if motState m c ≠ 2 || !activeOk m (4 + c) then setReg (rMOT_TGT c) (wordI (outerTarget m c)) m else
  let tgt := slewTarget m c
  let m := m |> setMot c { motOf m c with ref := tgt } |> setReg (rMOT_TGT c) (wordI (if axis then tgt else tgt / 65536))
  let l := 4 + c
  let b := activeBank m l
  let (jr, ju, m) := injectFor l m
  let ref := fx ((if axis then tgt / 16 else tgt) + jr)
  let y := if axis then posReg m c / 16 else fx (posReg m c * 65536)
  let flags := leNat ((b.drop 0x28).take 4)
  let sg : Int := if ref > y then 1 else if ref < y then -1 else 0
  let fr := if hasBit flags 0 && axis then sg * friction b (posMin m c / 16) (posMax m c / 16) y else 0
  let cg := if hasBit flags 1 then cogging b (getF m (rMOT_ENC c) fMOT_ENC_REV) (motOf m c).count else 0
  let (ls, s) := lawStep b (loopOf m l) ref y (fr + cg) ju
  let m := m |> setLoop l ls |> setMot c { motOf m c with irefNext := s.u, outR := ref, outE := s.e } |>
    setF (rGAR_LOOP_STAT l) fGAR_LOOP_STAT_CONSEC 0
  captureSample l s m

/-- Loop 8 (R299): the low-pass share of the pitch and the levelling targets. `p` is the pitch in 16.16 degrees. An injection at the output
is added to what the filter gives, and its state stays as it is (R302). -/
def levelSample (p : Int) (m : Mach) : Mach :=
  let aim := sgn 32 (reg m rGAR_AIM).toNat
  let m := { m with aim := aim }
  if !activeOk m 8 then m else
  let b := activeBank m 8
  let alpha : Int := leNat ((b.drop 0x10).take 2)
  let (jr, ju, m) := injectFor 8 m
  let p := p + jr
  let lim := clampI (bankI b 0x1C) (bankI b 0x20)
  let next := lim (m.levelX + fmul alpha (p - m.levelX))
  let x := lim (next + ju)
  let m := captureSample 8 ⟨p, m.levelX, x, p - m.levelX⟩ { m with levelX := next }
  let mode := getF m rGAR_LEVEL fGAR_LEVEL_MODE
  let slew : Int := (leNat ((b.drop 0x24).take 4) : Int) * 16
  let m := forEach [0, 1, 2, 3] (fun c m =>
    if motFunc m c ≠ 1 then m else
    let r := motOf m c
    let elec := if mode = 1 then some (r.elecPos.getD (posReg m c)) else none
    let tgt := if mode = 1 then elec.getD 0
      else if mode = 2 then clampI (posMin m c) (posMax m c) aim
      else
        let t0 := clampI (posMin m c) (posMax m c) (x * 16 + aim)
        if 0 < slew then clampI (r.level - slew) (r.level + slew) t0 else t0
    setMot c { r with level := tgt, elecPos := elec } m) m
  setF (rGAR_LOOP_STAT 8) fGAR_LOOP_STAT_CONSEC 0 m

/-- Freeze detection at a tick (R298), from the reference and the error of this tick's sample of the outer loop. -/
def freezeTest (c : Nat) (m : Mach) : Mach :=
  if motState m c ≠ 2 then m else
  let r := motOf m c
  let errBig := if isAxis m c then decide (getF m (rMOT_FRZ c) fMOT_FRZ_FRZ_ERR * 256 < r.outE.natAbs) else decide (0 < r.outR)
  let iBig := decide (getF m (rMOT_FRZ c) fMOT_FRZ_FRZ_I * 65536 < r.iq.natAbs)
  setMot c { r with frz := if !r.moved && errBig && iBig then r.frz + 1 else 0 } m

/-- The encoder counts and speeds at a tick bring MOT_POS up to date (R295). -/
def latchCount (c : Nat) (m : Mach) : Mach :=
  let r := motOf m c
  let moved := r.count != r.prevCount
  let pos := if motFunc m c = 3 ∨ motFunc m c = 4 then speedOf m c else positionOf m c r.count
  m |> setMot c { r with prevCount := r.count, moved := moved, still := if moved then 0 else r.still + 1 } |> setReg (rMOT_POS c) (wordI pos)

/-! ### Overrun and banks -/

/-- A current-loop sample that has not completed by its deadline (R292): the compare values stay those of the sample before, and its states
with them. Where no sample has started a period, the period starts without one. -/
def undoSample (c : Nat) (m : Mach) : Mach :=
  let r := motOf m c
  let periods := (m.now - r.pwmAt) / us 50
  if periods ≠ 0 then setMot c { r with duty := r.shadow, dutyWas := r.duty, pwmAt := r.pwmAt + periods * us 50, before := none } m
  else match r.before with
    | some (loop, shadow, n) =>
      m |> setLoop c loop |> setMot c { r with shadow := shadow, before := none } |> setF (rGAR_LOOP_STAT c) fGAR_LOOP_STAT_CONSEC n
    | none => m

/-- The third consecutive overrun of a loop (R292): a channel in CLOSED is parked (R296). -/
def overrunThird (l : Nat) (m : Mach) : Mach :=
  let m := raise 311 (detail l 0) m
  if l < 8 then when (motState m (l % 4) == 2) (parkMotor (l % 4) 1) m
  else if l = 8 then forEach [0, 1, 2, 3] (fun c m => when (motFunc m c == 1 && motState m c == 2) (parkMotor c 1) m) m
  else setF rCHN_CLR_TRIM fCHN_CLR_TRIM_STATE 2 m

/-- The loops whose swap falls due change to their other bank (R290). -/
def switchBanks (due : LoopRec → Bool) (m : Mach) : Mach :=
  forEach [0, 1, 2, 3] showNocoef (forEach (List.range 9) (fun l m =>
    let r := loopOf m l
    if r.swapAt.isSome && due r then
      m |> setLoop l { r with swapAt := none } |>
        setB (rGAR_LOOP_STAT l) fGAR_LOOP_STAT_ACTIVE (!bankSel m l) |>
        setB (rGAR_LOOP_STAT l) fGAR_LOOP_STAT_SWAP_PEND false
    else m) m)

/-! ### The load of the converters (R303) -/

/-- Conversion rate of a scanned channel per second; RATE 3 is invalid. -/
def adcRate (cfg : Word) : Nat :=
  if fget cfg fADC_CH_CFG_EN = 0 then 0
  else match fget cfg fADC_CH_CFG_RATE with
    | 0 => 1000 | 1 => 10000 | 2 => 100000 | _ => 0

/-- The load of a converter in conversions per second (R303): A (`b = false`) has channels 0 to 11, B 12 to 23. -/
def adcLoad (m : Mach) (b : Bool) : Nat :=
  let chans := (List.range 24).filter (fun k => decide (12 ≤ k) == b)
  let scanned := (chans.map (fun k => adcRate (reg m (rADC_CH_CFG k)))).sum
  let mots := ((List.range 4).filter (fun c => motFunc m c != 0)).length
  scanned + 20000 * mots

end Sys2Proof.Machine
end

