-- ==== Sys2Proof/Machine/ChainOps.lean ====
section
/-!
DEFINITION. The chain update (R267 to R273), Aurora engines (R274), derating and lamp diagnosis (R275 to R278) and the
colour loop (R279, R280).
-/

namespace Sys2Proof.Machine

/-- Change the chain block. -/
def setChn (f : ChnState → ChnState) (m : Mach) : Mach := { m with chn := f m.chn }

def chanOf (m : Mach) (c : Nat) : ChanRec := tget {} m.chn.chans c
def setChan (c : Nat) (r : ChanRec) (m : Mach) : Mach := setChn (fun s => { s with chans := tput {} s.chans c r }) m
def aurOf (m : Mach) (e : Nat) : AurRec := tget {} m.chn.eng e
def setAur (e : Nat) (r : AurRec) (m : Mach) : Mach := setChn (fun s => { s with eng := tput {} s.eng e r }) m
def levelOf (m : Mach) (e k : Nat) : Nat := tget 0 m.chn.levels (64 * e + k)
def setLevel (e k v : Nat) (m : Mach) : Mach := setChn (fun s => { s with levels := tput 0 s.levels (64 * e + k) v }) m

/-- The members of group `g` in slot order, and their channels. -/
def membersOf (m : Mach) (g : Nat) : List Nat := tget [] m.chn.members g
def chanNo (w : Nat) : Nat := w % 4096
def colourNo (w : Nat) : Nat := w / 4096 % 4

def grpOn (m : Mach) (g : Nat) : Bool := flag m (rCHN_GRP_CFG g) fCHN_GRP_CFG_EN

/-- Devices on a chain port. -/
def devices (m : Mach) (n : Nat) : Nat := getF m (rCHN_PORT_CFG n) fCHN_PORT_CFG_DEVICES + 1

/-- The timing condition of R269: DEVICES × 600 / f_SCK + 4 µs ≤ 950 µs, with f_SCK = 100 MHz / (2 × (SCK_DIV + 2)). -/
def chainFits (devs sckDiv : Nat) : Bool := decide (devs * 600 * 2 * (sckDiv + 2) ≤ 94600)

/-! ### What takes effect at t0 -/

/-- Write a list of words to consecutive addresses. -/
def setWords (a : Nat) : List Word → Mach → Mach
  | [], m => m
  | w :: ws, m => setWords (a + 4) ws (setReg a w m)

/-- One staged item comes into force (R273, R281). -/
def applyStage : ChnStage → Mach → Mach
  | .host ch v, m => setChn (fun s => { s with host := tput 0 s.host ch v }) m
  | .members g l, m =>
    m |> setChn (fun s => { s with members := tput [] s.members g l }) |>
      setF (rCHN_GRP_CFG g) fCHN_GRP_CFG_MEMBERS l.length
  | .prog e ws, m =>
    m |> setWords (rAUR_PROG e 0) ((ws ++ List.replicate 64 0).take 64) |> setAur e { aurOf m e with len := ws.length }
  | .gamma ws, m => setWords (rAUR_GAMMA 0) ws m

/-- Everything staged comes into force, in the order of arrival (R273). -/
def applyStaged (m : Mach) : Mach := forEach m.chn.stage applyStage (setChn (fun s => { s with stage := [] }) m)

/-! ### Aurora (R274) -/

/-- Rounded linear step: start + (target − start) × j / n, ties away from zero. -/
def rampLevel (start target j n : Nat) : Nat :=
  (clampI 0 255 (roundDiv ((start : Int) * n + ((target : Int) - start) * j) n)).toNat

/-- Slots FIRST to LAST of an instruction word. -/
def slots (w : Word) : List Nat := (List.range 64).filter (fun k => decide (bits w 27 22 ≤ k) && decide (k ≤ bits w 21 16))

/-- Slots of `w` take `f`. -/
def setSlots (e : Nat) (w : Word) (f : Nat → Nat) (m : Mach) : Mach := forEach (slots w) (fun k m => setLevel e k (f k) m) m

/-- How many ticks the instruction takes. -/
def aurTicks (w : Word) : Nat :=
  let n := 4 * bits w 7 0
  match bits w 31 28 with
  | 2 => n
  | 3 => n
  | 4 => n * (bits w 21 16 - bits w 27 22)
  | 5 => n * (bits w 21 16 + 1 - bits w 27 22)
  | _ => 0

/-- Tick `j` of the `n` ticks of a timed instruction, whose slots stood at `start` when it was reached. -/
def aurTick (e : Nat) (w : Word) (start : List Nat) (j n : Nat) (m : Mach) : Mach :=
  let lev := bits w 15 8
  let u := 4 * bits w 7 0
  match bits w 31 28 with
  | 2 => setSlots e w (fun k => rampLevel (start.getD k 0) lev j n) m
  | 4 => setSlots e w (fun k => if u * (k - bits w 27 22) ≤ j then lev else levelOf m e k) m
  | 5 => setSlots e w (fun k => if (j - 1) / u = k - bits w 27 22 then lev else 0) m
  | _ => m

/-- The action of an instruction that takes no time, or with TIME = 0. -/
def aurNow (e : Nat) (w : Word) (m : Mach) : Mach :=
  match bits w 31 28 with
  | 1 => setSlots e w (fun _ => bits w 15 8) m
  | 2 => setSlots e w (fun _ => bits w 15 8) m
  | 4 => setSlots e w (fun _ => bits w 15 8) m
  | 5 => setSlots e w (fun _ => 0) m
  | _ => m

def aurPc (m : Mach) (e : Nat) : Nat := getF m (rAUR_STAT e) fAUR_STAT_PC

/-- The levels of the 64 slots. -/
def aurLevels (m : Mach) (e : Nat) : List Nat := (List.range 64).map (levelOf m e)

/-- Run instructions until one takes time; `fuel` is what is left of the 16 of one tick. -/
def aurRun (e : Nat) : Nat → Mach → Mach
  | 0, m =>
    m |> setB (rAUR_STAT e) fAUR_STAT_RUN false |> latchBit (rAUR_STAT e) fAUR_STAT_ERR |> raise 297 (detail e 0)
  | fuel + 1, m =>
    let pc := aurPc m e
    let w := reg m (rAUR_PROG e pc)
    let r := aurOf m e
    let n := aurTicks w
    match bits w 31 28 with
    | 0 => setB (rAUR_STAT e) fAUR_STAT_RUN false m
    | 7 => m |> forEach (List.range 64) (fun k m => setLevel e k 0 m) |> setB (rAUR_STAT e) fAUR_STAT_RUN false
    | 6 =>
      let done := tget 0 r.loops pc
      let count := bits w 15 8
      if count = 0 then aurRun e fuel (setF (rAUR_STAT e) fAUR_STAT_PC (bits w 27 22) m)
      else if done < count then
        aurRun e fuel (m |> setAur e { r with loops := tput 0 r.loops pc (done + 1) } |>
          setF (rAUR_STAT e) fAUR_STAT_PC (bits w 27 22))
      else
        aurRun e fuel (m |> setAur e { r with loops := tput 0 r.loops pc 0 } |>
          setF (rAUR_STAT e) fAUR_STAT_PC (pc + 1))
    | _ =>
      if n = 0 then aurRun e fuel (m |> aurNow e w |> setF (rAUR_STAT e) fAUR_STAT_PC (pc + 1))
      else
        let start := aurLevels m e
        m |> setAur e { r with j := 1, start := start } |> aurTick e w start 1 n

/-- An engine advances one tick. An instruction that has taken its time ends; CHASE then leaves its range at 0. -/
def aurAdvance (e : Nat) (m : Mach) : Mach :=
  if !flag m (rAUR_STAT e) fAUR_STAT_RUN then m else
  let r := aurOf m e
  let w := reg m (rAUR_PROG e (aurPc m e))
  let n := aurTicks w
  if r.j = 0 then aurRun e 16 m
  else if r.j < n then m |> setAur e { r with j := r.j + 1 } |> aurTick e w r.start (r.j + 1) n
  else
    let m := if bits w 31 28 = 5 then setSlots e w (fun _ => 0) m else m
    m |> setAur e { aurOf m e with j := 0 } |> setF (rAUR_STAT e) fAUR_STAT_PC (aurPc m e + 1) |> aurRun e 16

/-- Start an engine at an address (R281). -/
def aurStart (e addr : Nat) (m : Mach) : Mach :=
  m |> setAur e { aurOf m e with j := 0, loops := [] } |> setF (rAUR_STAT e) fAUR_STAT_PC addr |>
    setB (rAUR_STAT e) fAUR_STAT_RUN true

/-- Does the engine hold a program, in force or staged? -/
def hasProg (m : Mach) (e : Nat) : Bool :=
  (aurOf m e).len != 0 || m.chn.stage.any (fun s => match s with | .prog k _ => k == e | _ => false)

/-! ### Derating (R275) -/

/-- The group's temperature in 1/16 °C, where it was renewed within the last 20 ms. With TSRC = 0 every device that holds
a member must have renewed its TEMP (DEDUCED). -/
def grpTemp (m : Mach) (g : Nat) : Option Int :=
  let src := getF m (rCHN_GRP_CFG g) fCHN_GRP_CFG_TSRC
  if src = 0 then
    let devs := ((membersOf m g).map (fun w => chanNo w / 24)).eraseDups
    devs.foldl (fun acc d =>
      let (c, at_) := tget (0, 0) m.chn.temps d
      match acc with
      | none => none
      | some t => if c = 0 ∨ at_ + ms 20 < m.now then none else some (max t (((c : Int) - 1 - 40) * 16)))
      (if devs.isEmpty then none else some (-40 * 16))
  else
    match (tget ({} : AdcRec) m.adcs (src - 1)).at_ with
    | none => none
    | some at_ => if at_ + ms 20 < m.now then none else some (sgn 16 (getF m (rADC_RES (src - 1)) fADC_RES_VALUE))

/-- G of R275 in 1/65,536. -/
def derate (m : Mach) (g : Nat) : Nat :=
  let fl := getF m (rCHN_GRP_DER g) fCHN_GRP_DER_FLOOR * 256
  match grpTemp m g with
  | none => fl
  | some t =>
    let d := t - ((getF m (rCHN_GRP_DER g) fCHN_GRP_DER_KNEE : Int) - 40) * 16
    if d ≤ 0 then 65536 else max fl ((65536 - d * (getF m (rCHN_GRP_DER g) fCHN_GRP_DER_SLOPE : Int)).toNat)

/-- The colour-loop trim of a member, in 1/512 (R272, R280). -/
def trimOf (m : Mach) (g colour : Nat) : Nat :=
  if colour = 0 || !flag m (rCHN_GRP_CFG g) fCHN_GRP_CFG_CLR || flag m rCHN_CLR_CFG fCHN_CLR_CFG_TARGET ||
      getF m rCHN_CLR_CFG fCHN_CLR_CFG_GROUP != g then 512
  else if colour = 1 then getF m rCHN_CLR_TRIM fCHN_CLR_TRIM_R
  else if colour = 2 then getF m rCHN_CLR_TRIM fCHN_CLR_TRIM_G
  else getF m rCHN_CLR_TRIM fCHN_CLR_TRIM_B

/-- Entry of the gamma table in force. -/
def gammaOf (m : Mach) (i : Nat) : Nat :=
  getF m (rAUR_GAMMA (i / 2)) (if i % 2 = 1 then fAUR_GAMMA_ODD else fAUR_GAMMA_EVEN)

/-! ### Assembling the frames (R267, R272, R278) -/

/-- Groups in use with their members: (group, slot, channel, colour). -/
def allMembers (m : Mach) : List (Nat × Nat × Nat × Nat) :=
  ((List.range 64).filter (grpOn m)).flatMap (fun g =>
    (membersOf m g).zipIdx.map (fun (w, k) => (g, k, chanNo w, colourNo w)))

/-- DUTY and CURRENT of a member (R272). -/
def memberValue (m : Mach) (g k ch colour : Nat) : Nat × Nat :=
  let hv := tget 0 m.chn.host ch
  let cfg := rCHN_GRP_CFG g
  let lev := if flag m cfg fCHN_GRP_CFG_SOURCE then gammaOf m (levelOf m (getF m cfg fCHN_GRP_CFG_ENGINE) k) else hv / 256
  let duty := if flag m (rCHN_GRP_STAT g) fCHN_GRP_STAT_OFF || (chanOf m ch).isShort then 0 else lev
  let num : Int := (hv % 256 : Nat) * (derate m g : Int) * (trimOf m g colour : Int)
  (duty, capN 255 (roundDiv num (65536 * 512)).toNat)

/-- Is this update the one at or after a probe instant of the group (R278)? -/
def probeUpdate (m : Mach) (g : Nat) : Bool :=
  let p := getF m (rCHN_GRP_PROBE g) fCHN_GRP_PROBE_PROBE_INT * 10
  decide (0 < p) && decide (g * p ≤ 64 * m.chn.tick) && decide ((64 * m.chn.tick - g * p) % (64 * p) < 64)

/-- Does a member at `duty` and `cur` want a probe: the conditions of R278 with its own T_MIN? -/
def probeWanted (m : Mach) (g ch duty cur : Nat) : Bool :=
  let pr := rCHN_GRP_PROBE g
  let tmin := getF m pr fCHN_GRP_PROBE_T_MIN
  let per := getF m (rCHN_PORT_CFG (ch / 768)) fCHN_PORT_CFG_PWM_PER
  flag m pr fCHN_GRP_PROBE_PROBE_EN && decide (0 < duty) && decide (duty * per * 10 < tmin * 4096) &&
    !(chanOf m ch).seen && decide (tmin * cur ≤ getF m pr fCHN_GRP_PROBE_VIS_BOUND * 255)

/-- A channel's values in one update. -/
structure ChanOut where
  g : Nat
  ch : Nat
  duty : Nat
  cur : Nat
  deriving DecidableEq, Repr

/-- The values of all members in this update. -/
def memberOuts (m : Mach) : List ChanOut :=
  (allMembers m).map (fun (g, k, ch, col) =>
    let (d, c) := memberValue m g k ch col
    ⟨g, ch, d, c⟩)

/-- The channel word (R267). -/
def chanWord (duty cur : Nat) (probe : Bool) : Nat := duty % 4096 * 4096 + cur % 256 * 16 + b2n probe * 8

/-- CRC-8 of a frame (R267). -/
def crc8 : CrcCfg := ⟨8, 0x2F, 0xFF, false, false, 0xFF⟩

/-- The CRC of a frame given as header and channels 0 to 23. -/
def frameCrc (f : List Nat) : Nat :=
  let head := f.headD 0 / 256 * 256
  crcOfBits crc8 ((head :: (f.drop 1).reverse).flatMap (fun w => msbBits 24 w))

/-- The frame of device `d` of port `n` (R267, R278). `dark` forces every DUTY to 0 (R271). -/
def deviceFrame (m : Mach) (outs : List ChanOut) (dark : Bool) (n d : Nat) : List Nat :=
  let base := 768 * n + 24 * d
  let mine := outs.filter (fun o => decide (base ≤ o.ch) && decide (o.ch < base + 24))
  let tmin (o : ChanOut) : Nat := getF m (rCHN_GRP_PROBE o.g) fCHN_GRP_PROBE_T_MIN
  let vis (on : Nat) (o : ChanOut) : Bool := decide (on * o.cur ≤ getF m (rCHN_GRP_PROBE o.g) fCHN_GRP_PROBE_VIS_BOUND * 255)
  let want := if dark then [] else mine.filter (fun o => probeUpdate m o.g && probeWanted m o.g o.ch o.duty o.cur)
  let on0 := want.foldl (fun a o => max a (tmin o)) 0
  let probed := want.filter (vis on0)
  let on := probed.foldl (fun a o => max a (tmin o)) 0
  let words := (List.range 24).map (fun c =>
    let ch := base + c
    match mine.find? (fun o => o.ch == ch) with
    | some o => chanWord (if dark then 0 else o.duty) o.cur (probed.any (fun q => q.ch == ch))
    | none =>
      let hv := tget 0 m.chn.host ch
      chanWord (if dark then 0 else hv / 256) (hv % 256) false)
  let f := (on * 65536 + d * 2048) :: words
  (on * 65536 + d * 2048 + frameCrc f) :: words

/-! ### Returned frames (R270, R277) -/

/-- The frame of device `d` passes the checks of R270. -/
def framePasses (d : Nat) (f : List Nat) : Bool :=
  f.length == 25 && f.headD 0 % 256 == frameCrc f && f.headD 0 / 2048 % 32 == d && !(f.headD 0).testBit 9

/-- Members of group `g` for which `q` holds. -/
def countMembers (m : Mach) (g : Nat) (q : ChanRec → Bool) : Nat :=
  ((membersOf m g).filter (fun w => q (chanOf m (chanNo w)))).length

/-- CHN_GRP_STAT.FAILED and UNDIAG of a group, and the counts behind live bits 294 and 295. -/
def showLamps (g : Nat) (m : Mach) : Mach :=
  m |> setF (rCHN_GRP_STAT g) fCHN_GRP_STAT_FAILED (countMembers m g (fun r => r.isOpen || r.isShort)) |>
    setF (rCHN_GRP_STAT g) fCHN_GRP_STAT_UNDIAG (countMembers m g (fun r => r.undiag))

/-- A member of group `g` becomes confirmed OPEN or SHORT (R276). -/
def lampFails (g src : Nat) (m : Mach) : Mach :=
  let m := raise src (detail g 0) m
  if flag m (rCHN_GRP_CFG g) fCHN_GRP_CFG_SLF then
    let had := flag m (rCHN_GRP_STAT g) fCHN_GRP_STAT_TELLTALE
    let m := m |> latchBit (rCHN_GRP_STAT g) fCHN_GRP_STAT_TELLTALE |> setB (rCHN_GRP_STAT g) fCHN_GRP_STAT_OFF true
    when (!had) (raise 293 (detail g 0)) m
  else m

/-- A used capture of a member whose duty is above 0 (R277). The capture that a probe itself gives returns two updates after the probe's
own; it does not keep the next probe back, as the example of R278 shows. -/
def useCapture (g ch word duty : Nat) (m : Mach) : Mach :=
  let r := chanOf m ch
  let dv := word.testBit 21
  let r := { r with
    seen := r.seen || (dv && r.probedAt.all (fun k => k + 2 != m.chn.tick))
    noDiag := if dv then r.noDiag.map (fun _ => 0) else r.noDiag
    undiag := r.undiag && !dv }
  if duty = 0 then setChan ch r m else
  let confirm := getF m (rCHN_GRP_CFG g) fCHN_GRP_CFG_CONFIRM
  let sN := if word.testBit 22 then capN 15 (r.shortN + 1) else 0
  let oN := if dv then (if word.testBit 23 then capN 15 (r.openN + 1) else 0) else r.openN
  let sNow := decide (0 < sN) && decide (confirm ≤ sN) && !r.shortHit
  let oNow := dv && decide (0 < oN) && decide (confirm ≤ oN) && !r.openHit
  let m := { m with lampShort := m.lampShort + b2n (sNow && !r.isShort), lampOpen := m.lampOpen + b2n (oNow && !r.isOpen) }
  let m := setChan ch { r with
    shortN := sN, openN := oN, isShort := r.isShort || sNow, isOpen := r.isOpen || oNow
    shortHit := decide (0 < sN) && (r.shortHit || sNow), openHit := decide (0 < oN) && (r.openHit || oNow) } m
  m |> when sNow (lampFails g 295) |> when oNow (lampFails g 294)

/-- The ECHO test of one channel (R270). -/
def echoTest (n ch word sent : Nat) (m : Mach) : Mach :=
  let r := chanOf m ch
  if word % 4096 = sent then setChan ch { r with echo := 0 } m
  else
    let k := r.echo + 1
    let m := m |> setChan ch { r with echo := k } |> bump (rCHN_PORT_ERR n) fCHN_PORT_ERR_ECHO
    when (k == 3) (raise (289 + n) noInst) m

/-- The frame returned by device `d` of port `n` in this update; `prev` is the frame latched at the previous one. -/
def takeFrame (outs : List ChanOut) (n d : Nat) (f prev : List Nat) (m : Mach) : Mach :=
  let key := 32 * n + d
  let m := setChn (fun s => { s with ret := tput [] s.ret key f }) m
  if framePasses d f then
    let temp := (f.headD 0 / 65536 % 256 + 1, m.now)
    let m := setChn (fun s => { s with fails := tput 0 s.fails key 0, temps := tput (0, 0) s.temps key temp }) m
    forEach (List.range 24) (fun c m =>
      let ch := 768 * n + 24 * d + c
      let w := f.getD (c + 1) 0
      let sent := prev.getD (c + 1) 0 / 4096
      let m := echoTest n ch w sent m
      match outs.find? (fun o => o.ch == ch) with
      | some o => useCapture o.g ch w sent m
      | none => m) m
  else
    let bad := !(f.length == 25 && f.headD 0 % 256 == frameCrc f)
    let m := when (bad || (f.headD 0).testBit 9) (bump (rCHN_PORT_ERR n) fCHN_PORT_ERR_CRC) m
    let m := when (!bad && f.headD 0 / 2048 % 32 != d) (bump (rCHN_PORT_ERR n) fCHN_PORT_ERR_POS) m
    let m := forEach (List.range 24) (fun c m =>
      let ch := 768 * n + 24 * d + c
      setChan ch { chanOf m ch with echo := 0 } m) m
    setChn (fun s => { s with fails := tput 0 s.fails key (tget 0 s.fails key + 1) }) m

/-- The frames returned on port `n`, and BREAK (R270). -/
def takeReturned (outs : List ChanOut) (n : Nat) (ret : List (List Nat)) (old : Tab (List Nat)) (m : Mach) : Mach :=
  let devs := devices m n
  let frame (d : Nat) : List Nat :=
    match ret.getD d [] with
    | [] => []
    | h :: ws => h :: ws.reverse
  let m := forEach (List.range devs) (fun d m => takeFrame outs n d (frame d) (tget [] old (32 * n + d)) m) m
  let allOk := (List.range devs).all (fun d => tget 0 m.chn.fails (32 * n + d) == 0)
  let broken := (List.range devs).any (fun d => decide (3 ≤ tget 0 m.chn.fails (32 * n + d)))
  let good := if allOk then tget 0 m.chn.good n + 1 else 0
  let m := setChn (fun s => { s with good := tput 0 s.good n (capN 3 good) }) m
  let was := flag m (rCHN_PORT_STAT n) fCHN_PORT_STAT_BREAK
  if broken && !was then m |> setB (rCHN_PORT_STAT n) fCHN_PORT_STAT_BREAK true |> raise (285 + n) noInst
  else when (decide (3 ≤ good)) (setB (rCHN_PORT_STAT n) fCHN_PORT_STAT_BREAK false) m

/-- One millisecond more without a diagnosis for each member whose duty is above 0 (R277). -/
def countUndiag (outs : List ChanOut) (m : Mach) : Mach :=
  forEach outs (fun o m =>
    let r := chanOf m o.ch
    setChan o.ch { r with noDiag := if o.duty = 0 then none else some (match r.noDiag with | some n => n + 1 | none => 0) } m) m

/-- The members that have had no diagnosis for 2 × PROBE_INT (R277). -/
def showUndiag (outs : List ChanOut) (m : Mach) : Mach :=
  forEach outs (fun o m =>
    let r := chanOf m o.ch
    let lim := 20 * getF m (rCHN_GRP_PROBE o.g) fCHN_GRP_PROBE_PROBE_INT
    setChan o.ch { r with noDiag := r.noDiag.map (capN lim), undiag := r.undiag || r.noDiag.any (fun n => decide (lim ≤ n)) } m) m

/-- The frames of one port are formed and shifted out (R269). -/
def portSend (outs : List ChanOut) (dark : Bool) (n : Nat) (m : Mach) : Mach :=
  forEach (List.range (devices m n)) (fun d m =>
    let f := deviceFrame m outs dark n d
    setChn (fun s => { s with out := tput [] s.out (32 * n + d) f }) m) m

/-- The frames returned in the meantime are taken (R270); `old` are the frames of the update before. -/
def portTake (env : TickEnv) (outs : List ChanOut) (old : Tab (List Nat)) (n : Nat) (m : Mach) : Mach :=
  let k := tget 0 m.chn.upd n
  let m := setChn (fun s => { s with upd := tput 0 s.upd n (capN 2 (k + 1)) }) m
  when (decide (2 ≤ k)) (takeReturned outs n (env.ret.getD n []) old) m

/-- At a probe instant of its group a member is probed or not, and what its captures showed until then no longer counts (R278). -/
def markProbe (o : ChanOut) (m : Mach) : Mach :=
  let w := (tget [] m.chn.out (32 * (o.ch / 768) + o.ch % 768 / 24)).getD (o.ch % 24 + 1) 0
  setChan o.ch { chanOf m o.ch with seen := false, probedAt := if w.testBit 3 then some m.chn.tick else none } m

/-- The devices of port `n` from place `d` on are in no update: their counts of consecutive failures start afresh (R270). -/
def forgetDevices (n d : Nat) (m : Mach) : Mach :=
  let mine := m.chn.chans.filter (fun e => e.1 / 768 == n && decide (24 * d ≤ e.1 % 768) && e.2.echo != 0)
  m |> setChn (fun s => { s with fails := tdrop (32 * n + d) (32 * n + 32) s.fails }) |>
    forEach mine (fun e m => setChan e.1 { e.2 with echo := 0 } m)

/-- A port that does not run starts its counts of consecutive updates afresh (R270). -/
def forgetPort (n : Nat) (m : Mach) : Mach :=
  m |> setChn (fun s => { s with upd := tput 0 s.upd n 0, good := tput 0 s.good n 0 }) |> forgetDevices n 0

/-- The chain ports run in RUN and IDLE (R271). -/
def chainUpdate (env : TickEnv) (dark : Bool) (m : Mach) : Mach :=
  let m := applyStaged m
  let m := forEach (List.range 8) aurAdvance m
  let run (n : Nat) : Bool := flag m (rCHN_PORT_CFG n) fCHN_PORT_CFG_EN &&
    !hasBit (getF m rFLT_FENCE_MISC fFLT_FENCE_MISC_CHAIN) n
  let m := forEach [0, 1, 2, 3] (fun n m =>
    if run n then setB (rCHN_PORT_STAT n) fCHN_PORT_STAT_RUN true m
    else m |> setB (rCHN_PORT_STAT n) fCHN_PORT_STAT_RUN false |> forgetPort n) m
  let outs := memberOuts m
  let before := (List.range 64).filter (fun g => getF m (rCHN_GRP_STAT g) fCHN_GRP_STAT_UNDIAG != 0)
  let m := forEach ((List.range 64).filter (grpOn m)) (fun g m =>
    setF (rCHN_GRP_STAT g) fCHN_GRP_STAT_G (capN 255 ((derate m g + 128) / 256)) m) m
  let ports := [0, 1, 2, 3].filter run
  let live := outs.filter (fun o => ports.contains (o.ch / 768))
  let old := m.chn.out
  let m := m |> forEach ports (portSend outs dark) |> forEach (live.filter (fun o => probeUpdate m o.g)) markProbe |> countUndiag live |>
    forEach ports (portTake env outs old) |> showUndiag live
  let m := forEach ((List.range 64).filter (grpOn m)) showLamps m
  let m := forEach ((List.range 64).filter (fun g => getF m (rCHN_GRP_STAT g) fCHN_GRP_STAT_UNDIAG != 0)) (fun g m =>
    if before.contains g then m else raise 296 (detail g 0) m) m
  setChn (fun s => { s with tick := s.tick + 1 }) m

/-- Every enabled port has sent its last update and stops (R271); the Aurora engines stop with it. -/
def chainStop (m : Mach) : Mach :=
  let m := forEach [0, 1, 2, 3] (fun n m => m |> setB (rCHN_PORT_STAT n) fCHN_PORT_STAT_RUN false |> forgetPort n) m
  forEach (List.range 8) (fun e m => setB (rAUR_STAT e) fAUR_STAT_RUN false m) m

/-! ### The colour loop (R279, R280) -/

/-- One sample. `pd` are the sums of the 100 conversions of each photodiode in the 10 ms period. -/
def colourSample (pd : List Nat) (m : Mach) : Mach :=
  let m := setF (rGAR_LOOP_STAT 9) fGAR_LOOP_STAT_CONSEC 0 m
  if !flag m rCHN_CLR_CFG fCHN_CLR_CFG_EN then m |> setF rCHN_CLR_TRIM fCHN_CLR_TRIM_STATE 0 |> setChn (fun c => { c with clrMin := [0, 0, 0] })
  else
  let amb := if flag m rCHN_CLR_CFG fCHN_CLR_CFG_AMB then pd.getD 3 0 else 0
  let mr := pd.getD 0 0 - amb
  let mg := pd.getD 1 0 - amb
  let mb := pd.getD 2 0 - amb
  let s := mr + mg + mb
  let tr := getF m rCHN_CLR_TGT fCHN_CLR_TGT_TR
  let tg := getF m rCHN_CLR_TGT fCHN_CLR_TGT_TG
  let tb := 65536 - tr - tg
  if s < 100 * getF m rCHN_CLR_LIM fCHN_CLR_LIM_MIN_SIG then setF rCHN_CLR_TRIM fCHN_CLR_TRIM_STATE 2 m
  else
    let ki : Int := getF m rCHN_CLR_CFG fCHN_CLR_CFG_KI
    let lo := getF m rCHN_CLR_LIM fCHN_CLR_LIM_TRIM_MIN
    let num (trim t c : Nat) : Int := (trim : Int) * (256 * t * s + ki * ((t : Int) * s - 65536 * c))
    let den (t : Nat) : Int := 256 * t * s
    let xs : List (Int × Int) :=
      [(num (getF m rCHN_CLR_TRIM fCHN_CLR_TRIM_R) tr mr, den tr), (num (getF m rCHN_CLR_TRIM fCHN_CLR_TRIM_G) tg mg, den tg),
       (num (getF m rCHN_CLR_TRIM fCHN_CLR_TRIM_B) tb mb, den tb)]
    let (bn, bd) := xs.foldl (fun (b : Int × Int) (x : Int × Int) => if b.1 * x.2 < x.1 * b.2 then x else b) (0, 1)
    let new (x : Int × Int) : Nat :=
      if x.2 ≤ 0 ∨ bn ≤ 0 then Config.clrOut s else max lo (roundDiv (x.1 * bd * 512) (x.2 * bn)).toNat
    let out := xs.map new
    let held := (out.zip m.chn.clrMin).map (fun e => if e.1 = lo then capN 100 (e.2 + 1) else 0)
    let sat := held.any (fun n => decide (100 ≤ n))
    let was := getF m rCHN_CLR_TRIM fCHN_CLR_TRIM_STATE == 3
    let m := m |> setChn (fun c => { c with clrMin := held }) |> setF rCHN_CLR_TRIM fCHN_CLR_TRIM_R (out.getD 0 0) |>
      setF rCHN_CLR_TRIM fCHN_CLR_TRIM_G (out.getD 1 0) |> setF rCHN_CLR_TRIM fCHN_CLR_TRIM_B (out.getD 2 0) |>
      setF rCHN_CLR_TRIM fCHN_CLR_TRIM_STATE (if sat then 3 else 1)
    when (sat && !was) (raise 298 noInst) m

end Sys2Proof.Machine
end

