-- ==== Sys2Proof/Machine/Flash.lean ====
section
/-!
DEFINITION. The external flash (R157, R160, R161, R163, R176): the slices of the wear maps, and what is restored from it at a start (step
B6) or when a DRAM region has been lost (R120).
-/

namespace Sys2Proof.Machine

/-- Is external flash present (NVM_XSPI_STAT)? -/
def flashThere (m : Mach) : Bool := flag m rNVM_XSPI_STAT fNVM_XSPI_STAT_PRESENT

/-- What external flash holds changes, where there is flash, and no shutdown has been decided: from then on the controller transfers nothing
(R363). -/
def setFlash (f : NvmState → NvmState) (m : Mach) : Mach := when (flashThere m && berylWrites m) (setNvm f) m

/-- The geometry of the tile's group, when the tile has one that is not empty (R174). -/
def mapGeom (m : Mach) (t : Nat) : Option (Nat × Nat) := (tileGeom m t).map Prod.snd

/-! ### Wear slices (R161, R163) -/

/-- The slices of a wear map (R161): 131,072 counters each. -/
def tileSlices (m : Mach) (t : Nat) : Nat :=
  match tileGeom m t with
  | some (_, w, h) => cdiv (2 * w * h) 262144
  | none => 0

/-- Every slice of a pass, as 64 × tile + slice. -/
def allSlices (m : Mach) : List Nat :=
  (List.range 24).flatMap (fun t => (List.range (tileSlices m t)).map (fun k => 64 * t + k))

/-- Is the counter under `key` of the wear map one of slice `sl`? -/
def inSlice (m : Mach) (sl key : Nat) : Bool :=
  match tileGeom m (sl / 64) with
  | none => false
  | some (_, w, _) => key / 2 ^ 22 == sl / 64 && (key / 2048 % 2048 * w + key % 2048) / 131072 == sl % 64

/-- The counters of a slice. -/
def sliceCells (m : Mach) (sl : Nat) : Tab Nat := m.pix.wear.filter (fun e => inSlice m sl e.1)

/-- The slice of the pass that is written next, and its place in the flash: pass n goes into copy n mod 2 (R161). -/
def nextSlice (m : Mach) : Option Nat := (allSlices m).find? (fun sl => !m.pix.slices.contains sl)
def sliceKey (m : Mach) (sl : Nat) : Nat := m.nvm.wearPass % 2 * 65536 + sl

/-- A transfer of the xSPI controller is abandoned (R333, R363): that of a wear slice leaves a copy that fails its check (R163, R364).
Whether one is under way at that instant is open: the draw decides. -/
def abandonXfer (m : Mach) : Mach :=
  let (d, m) := draw m
  match nextSlice m with
  | some sl => when (bit d 0 && flashThere m) (setNvm (fun s => { s with wear := tput none s.wear (sliceKey m sl) none })) m
  | none => m

/-- PHO_WEAR_STAT shows the pass. -/
def showPass (m : Mach) : Mach :=
  let all := (allSlices m).length
  let n := m.pix.slices.length
  m |> setF rPHO_WEAR_STAT fPHO_WEAR_STAT_PASS m.nvm.wearPass |> setB rPHO_WEAR_STAT fPHO_WEAR_STAT_ACTIVE (n != 0) |>
    setF rPHO_WEAR_STAT fPHO_WEAR_STAT_DONE (if all = 0 then 0 else n * 100 / all)

/-- The copy of a wear slice to restore (R163): of those that were written and pass their check, the one of the higher pass. -/
def goodSlice (bad : Nat) (sl : Nat) (m : Mach) : Option WearSlice :=
  let copy (c : Nat) : Option WearSlice :=
    let k := c * 65536 + sl
    if !flashThere m || hasBit bad k then none else tget none m.nvm.wear k
  match copy 0, copy 1 with
  | some a, some b => if a.pass < b.pass then some b else some a
  | some a, none => some a
  | none, b => b

/-- Slice `sl` is restored, or its counters are 0 and LOST is set (R163). -/
def loadSlice (bad : Nat) (sl : Nat) (m : Mach) : Mach :=
  let m := setPix (fun s => { s with wear := s.wear.filter (fun e => !inSlice m sl e.1) }) m
  match goodSlice bad sl m with
  | some w => forEach w.cells (fun e m => setPix (fun s => { s with wear := tput 0 s.wear e.1 e.2 }) m) m
  | none => setB rPHO_WEAR_STAT fPHO_WEAR_STAT_LOST true m

/-- The slices `sls` are restored; wear-lost where neither copy of one is valid. -/
def loadSlices (bad : Nat) (sls : List Nat) (m : Mach) : Mach :=
  let lost := sls.any (fun sl => (goodSlice bad sl m).isNone)
  m |> forEach sls (loadSlice bad) |> when lost (raise 132 noInst)

/-- Every wear slice, and the wear table where the stored copy passes its check (R160). -/
def loadWear (bad : Nat) (tableBad : Bool) (m : Mach) : Mach :=
  let m := setPix (fun s => { s with wear := [], wearTab := if flashThere m && !tableBad then m.nvm.wearTab else [] }) m
  m |> loadSlices bad (allSlices m) |> showPass

/-! ### Uniformity maps and compliance map sets -/

/-- The uniformity map of a tile with a geometry (R157). -/
def loadUnif (bad : Nat) (t : Nat) (m : Mach) : Mach :=
  let map := if flashThere m && !hasBit bad t then tget [] m.nvm.unif t else []
  let m := setTilePix t { pixOf m t with unif := map, unifNew := none } m
  when (map.isEmpty && (mapGeom m t).isSome) (raise 131 (detail t 0)) m

/-- Onyx loads the map sets whose MAP_CRC it finds right (R176). -/
def loadMaps (bad : Nat) (m : Mach) : Mach :=
  if !flashThere m then m else
  forEach m.nvm.maps (fun e m =>
    if hasBit bad e.1 then m else
    let t := e.1 / 4
    let b := e.1 % 4
    let st := rPHO_MAP_STAT t
    m |> setTilePix t { pixOf m t with sets := tput {} (pixOf m t).sets b e.2 } |>
      setF st fPHO_MAP_STAT_VALID (setBit (getF m st fPHO_MAP_STAT_VALID) b)) m

/-- The CRC of the safety envelope and of MAP_CRC (R315, R174). -/
def crcSaf : CrcCfg := ⟨32, 0x741B8CD7, 0xFFFFFFFF, false, false, 0xFFFFFFFF⟩

/-- Does a map set agree with its MAP_CRC? -/
def mapSetChecks (s : MapSet) : Bool := w32 (crc crcSaf (wordsBytes s.zones)) == s.crc

/-- Onyx has copied the map sets and verifies them before the switch (R173): a set that fails is not valid. -/
def verifyMaps (m : Mach) : Mach :=
  mapCause (forEach (List.range 24) (fun t m =>
    let good := ((List.range 4).filter (fun b => mapSetChecks (tget {} (pixOf m t).sets b))).foldl setBit 0
    let st := rPHO_MAP_STAT t
    setF st fPHO_MAP_STAT_VALID (getF m st fPHO_MAP_STAT_VALID &&& good) m) m)

end Sys2Proof.Machine
end

