-- ==== Sys2Proof/Machine/Rates.lean ====
section
/-!
DEFINITION. Rates of groups (R191, R192, R359), what a configuration takes of the device (R22, R34, R116, R218), and the rates that the
Opal engines in service allow (R346).
-/

namespace Sys2Proof.Machine

/-! ### Rates -/

/-- The enabled groups locked to group `g`. -/
def slavesOf (m : Mach) (g : Nat) : List Nat :=
  (List.range 8).filter (fun k => k != g && enabledGrp m k && lockedCfg m k && masterOf m k == g)

/-- The rate below which a reduction does not take a group: 60 Hz for it and for every group locked to it (R191). -/
def rateFloor (m : Mach) (g : Nat) : Nat :=
  (slavesOf m g).foldl (fun a k => max a (cdiv (960 * ratioDen (ratioOf m k)) (ratioNum (ratioOf m k)))) 960

/-- RATE_EFF of a group from its next latch on (R191, R346, R359). A locked group follows its master from the latch at which it locks
(`locks`); without it, it keeps its last rate (R192). DESIGN CHOICE: a master's rate that the divisor does not divide is rounded down to the
1/16 Hz of the field; R191 names no rounding. -/
def nextRate (m : Mach) (g : Nat) (locks : Bool) : Nat :=
  if lockedCfg m g then
    if locks then rateEff m (masterOf m g) * ratioNum (ratioOf m g) / ratioDen (ratioOf m g)
    else if rateEff m g = 0 then (cfgRate m g).1 / (cfgRate m g).2 else rateEff m g
  else
    let rate := rateOf m g
    let therm := max 960 (rate * getF m rTHM_OUT fTHM_OUT_RATE_F / 32768)
    let plc := (grpOf m g).plcRate.getD rate
    max (min rate (min therm plc)) (min rate (rateFloor m g))

/-- A group that does not run shows the rate that it would start with (R191). -/
def showRate (g : Nat) (m : Mach) : Mach :=
  let rate := if lockedCfg m g && !grpRuns m (masterOf m g) then (cfgRate m g).1 / (cfgRate m g).2 else nextRate m g true
  if grpRuns m g then m else setF (rSCN_GRP_STAT g) fSCN_GRP_STAT_RATE_EFF rate m

def showRates (m : Mach) : Mach := forEach (List.range 8) showRate m

/-! ### Pixel rate and bandwidth (R22, R34, R116) -/

/-- Pixels per frame of a group. -/
def grpPixels (m : Mach) (g : Nat) : Nat := popcount 24 (getF m (rSCN_TILES g) fSCN_TILES_MASK) * (geomW m g * geomH m g)

/-- The bytes that the fetch of layer `n` takes per frame, in 1/80 byte: chroma is fetched for an RGB tile only (R112, R116). -/
def layBytes80 (m : Mach) (n : Nat) : Nat :=
  let d := lastDesc m n
  match fmtOf (descFmt d) with
  | none => 0
  | some f => descH d * (if f.bytes = 0 then descW d * 10 else descW d * f.bytes * chromaHalves f (tileRgb m (descTile d)) * 40)

/-- DRAM bytes per frame of a group, in 1/80 byte: read-out with 10 % more (R34), store writes, wear and uniformity (R25), and layer
fetch (R116). -/
def grpBytes80 (m : Mach) (g : Nat) : Nat :=
  ((members 24 (getF m (rSCN_TILES g) fSCN_TILES_MASK)).map (fun t =>
    geomW m g * geomH m g * (pixelBits m g t * 21 + 320 + (if tileRgb m t then 240 else 80)))).sum +
  (((usedLays m).filter (fun n => groupOf m (descTile (lastDesc m n)) == some g)).map (layBytes80 m)).sum

/-- The six registers of group `g` take the words. -/
def setTiming (g : Nat) (ws : List Word) (m : Mach) : Mach :=
  m |> setReg (rSCN_GEOM g) (ws.getD 0 0) |> setReg (rSCN_HTIME g) (ws.getD 1 0) |> setReg (rSCN_VTIME g) (ws.getD 2 0) |>
    setReg (rSCN_RATE g) (ws.getD 3 0) |> setReg (rSCN_SYNC g) (ws.getD 4 0) |> setReg (rSCN_TILES g) (ws.getD 5 0)

/-- The timing as it will be once every accepted TIMING_SET has taken effect. -/
def withWaiting (m : Mach) : Mach :=
  forEach (List.range 8) (fun g m =>
    match (grpOf m g).tset with
    | some ws => setTiming g ws m
    | none => m) m

/-- The configurations that are admitted together: a set that waits for its latch holds its reservation beside the one in force
(R34). -/
def admitted (m : Mach) : List Mach := [m, withWaiting m]

/-- The sum over the enabled groups of the largest `per` × rate, in units of 1/192 Hz. -/
def rateSum (ms : List Mach) (per : Mach → Nat → Nat) : Nat :=
  ((List.range 8).map (fun g => (ms.map (fun m =>
    if enabledGrp m g then per m g * ((cfgRate m g).1 * 12 / (cfgRate m g).2) else 0)).foldl max 0)).sum

/-- Do the reservations leave 8 GB/s of the 256 GB/s (R25, R116)? DESIGN CHOICE: the fetch of every layer that exists counts, whole, at
the rate of its group; the spec names no way to count it. -/
def dramFits (m : Mach) : Bool := decide (rateSum (admitted m) grpBytes80 ≤ 248000000000 * 80 * 192)

/-- Does every tile row of group `g` fit its line at the rate of every port that serves the tile (R218)? -/
def rowsFit (g : Nat) (m : Mach) : Bool :=
  (members 24 (getF m (rSCN_TILES g) fSCN_TILES_MASK)).all (fun t =>
    (tilePorts m t).all (fun p =>
      rowFits (getF m (rCPL_CFG p) fCPL_CFG_TX_RATE) (geomW m g) (pixelBits m g t) (cfgRate m g).1 (cfgRate m g).2
        (vtotal m g)))

/-- Can the configuration be admitted (R22, R34, R116, R218) as far as group `g` and its slaves go? DESIGN CHOICE: the 2^25 pixels
that R4 gives as the most are no limit of their own; R202 lists no refusal for them. -/
def admits (m : Mach) (g : Nat) : Bool :=
  decide (rateSum (admitted m) grpPixels ≤ 12582912000 * 192) && dramFits m &&
  (admitted m).all (fun m => (g :: slavesOf m g).all (fun k => rowsFit k m))

/-! ### Rates on the engines in service (R21, R346) -/

/-- The tiles of the mask of group `g` that are not fenced. -/
def liveTiles (m : Mach) (g : Nat) : List Nat :=
  (members 24 (getF m (rSCN_TILES g) fSCN_TILES_MASK)).filter (fun t => tileState m t != 8)

/-- The order in which placement takes groups (R346): those that hold only RGB tiles first, descending in each set. -/
def lowerOrder (m : Mach) : List Nat :=
  let gs := ((List.range 8).filter (enabledGrp m)).reverse
  let rgbOnly (g : Nat) : Bool := (members 24 (getF m (rSCN_TILES g) fSCN_TILES_MASK)).all (tileRgb m)
  gs.filter rgbOnly ++ gs.filter (fun g => !rgbOnly g)

/-- The pixel rate, in units of 1/192 Hz, that group `g` and its slaves take per 1/16 Hz of RATE_EFF. -/
def ratePer (m : Mach) (g : Nat) : Nat :=
  let px (k : Nat) : Nat := (liveTiles m k).length * (geomW m k * geomH m k) * 12
  px g + ((slavesOf m g).map (fun k => px k * ratioNum (ratioOf m k) / ratioDen (ratioOf m k))).sum

/-- The pixel rate in units of 1/192 Hz with the rates `rs`. -/
def ratesTake (m : Mach) (rs : List (Nat × Nat)) : Nat := (rs.map (fun e => ratePer m e.1 * e.2)).sum

/-- Lower the groups in order until the pixel rate fits `cap` (R346): each to the highest rate at which it fits, not below
its bound. -/
def lowerRates (m : Mach) (cap : Nat) : List Nat → List (Nat × Nat) → List (Nat × Nat)
  | [], rs => rs
  | g :: gs, rs =>
    let total := ratesTake m rs
    if total ≤ cap then rs
    else
      let old := (rs.lookup g).getD 0
      let others := total - ratePer m g * old
      let fit := if ratePer m g = 0 then old else (cap - others) / ratePer m g
      let new := min old (max fit (min old (rateFloor m g)))
      lowerRates m cap gs (rs.map (fun e => if e.1 == g then (g, new) else e))

/-- The capacity of the Opal engines in service, in units of 1/192 Hz × pixels (R21). -/
def opalCap (m : Mach) : Nat := (12 - popcount 12 (getF m rPLC_ENG_MAP fPLC_ENG_MAP_FENCED)) * 1280000000 * 192

/-- The rate of group `g` in 1/16 Hz as placement plans it: its own or its master's, lowered by R346. -/
def planRate (m : Mach) (g : Nat) : Nat × Nat :=
  let own (k : Nat) : Nat := min (rateOf m k) ((grpOf m k).plcRate.getD (rateOf m k))
  if lockedCfg m g then (own (masterOf m g) * ratioNum (ratioOf m g), ratioDen (ratioOf m g)) else (own g, 1)

/-- Tiles to be fenced until the pixel rate fits: (tile, its share of the rate), in order. -/
def fenceToFit (cap : Nat) : List (Nat × Nat) → Nat → List Nat
  | [], _ => []
  | t :: ts, total => if total ≤ cap then [] else t.1 :: fenceToFit cap ts (total - t.2)

/-- The tile is fenced: FENCED, unplaced, an exchange at its end (R258, R260). -/
def fenceTile (t : Nat) (m : Mach) : Mach :=
  m |> setF rFLT_FENCE_TILE fFLT_FENCE_TILE_FENCED (setBit (getF m rFLT_FENCE_TILE fFLT_FENCE_TILE_FENCED) t) |>
    setTile t { tileOf m t with ex := none, checks := [] } |> toTileState t 8

/-- The rate of group `g` that R346 has left it: a lowered one stays until engines return to service, as they do at a start only. -/
def keptRate (m : Mach) (g : Nat) : Nat := min (rateOf m g) ((grpOf m g).plcRate.getD (rateOf m g))

/-- R346 on the present engines: rates of the groups, and tiles fenced, highest number first, when every rate is at its bound. -/
def fitEngines (m : Mach) : Mach :=
  let order := lowerOrder m
  let free := order.filter (fun g => !lockedCfg m g)
  let cap := opalCap m
  let rs := lowerRates m cap free (free.map (fun g => (g, keptRate m g)))
  let total := ratesTake m rs
  let m := forEach rs (fun e m =>
    when (decide (e.2 < keptRate m e.1)) (setGrp e.1 { grpOf m e.1 with plcRate := some e.2 }) m) m
  let share (g : Nat) : Nat := geomW m g * geomH m g * ((planRate m g).1 * 12 / (planRate m g).2)
  let gone := fenceToFit cap (order.flatMap (fun g => (liveTiles m g).reverse.map (fun t => (t, share g)))) total
  if gone.isEmpty then m
  else
    let m := forEach gone fenceTile m
    { m with flt := { m.flt with opalTiles := gone.foldl setBit m.flt.opalTiles } } |> raise 17 noInst

end Sys2Proof.Machine
end

