-- ==== Sys2Proof/Machine/Place.lean ====
section
/-!
DEFINITION. Where placement puts content and work: DRAM regions (R25, R121), Opal engines (R21, R23), the lead that follows from them
(R147), and what a fenced region takes with it (R37, R176).
-/

namespace Sys2Proof.Machine

/-! ### DRAM regions -/

/-- A spare DRAM region takes content of use `code`: which one is open, so the draw decides. -/
def giveRegion (code : Nat) (m : Mach) : Mach :=
  let n := m.free
  let (d, m) := draw m
  match pickFree 64 ((List.range 64).filter (fun r => regionUse m r != 0)) d with
  | none => m
  | some r => m |> setRegionUse r code |> setPix (fun s => { s with content := tput 0 s.content r (n + 1) })

/-- A region with content of use `code` joins the spare ones: which one is open. -/
def dropRegion (code : Nat) (m : Mach) : Mach :=
  let (d, m) := draw m
  match pickFree 64 ((List.range 64).filter (fun r => regionUse m r != code)) d with
  | none => m
  | some r => setRegionUse r 0 m

/-- Does region `r` hold content of tile `t`? The spec gives no layout. -/
def regionHolds (m : Mach) (r t : Nat) : Bool := Config.regionHolds (tget 0 m.pix.content r) t

/-- The tiles that have content in region `r`. -/
def tilesIn (m : Mach) (r : Nat) : List Nat := (List.range 24).filter (regionHolds m r)

/-- The bits of a pixel in a frame store, and the bytes of a row of `w` pixels in one of its halves, which starts on a 64-byte boundary
(R193). -/
def storeBits (b : Nat) (rgb : Bool) : Nat := if rgb then 32 else b
def halfRow (b w : Nat) : Nat := 64 * cdiv (cdiv (w * b) 8) 64

/-- The bytes of the double frame stores (use 1), wear maps (2) and uniformity maps (3) of the configuration (R25). -/
def storeBytes (m : Mach) (use : Nat) : Nat :=
  ((List.range 8).map (fun g =>
    if !enabledGrp m g then 0 else ((members 24 (getF m (rSCN_TILES g) fSCN_TILES_MASK)).map (fun t =>
      geomH m g * (if use = 1 then 2 * halfRow (storeBits (pixelBits m g t) (tileRgb m t)) (geomW m g)
        else geomW m g * (if use = 2 then 2 else if tileRgb m t then 3 else 1)))).sum)).sum

/-- The regions that hold content of use `use`, those whose move is under way counted once. -/
def storeHas (m : Mach) (use : Nat) : Nat :=
  let here := ((List.range 64).filter (fun r => regionUse m r == use)).length
  let mine := m.pix.plan.filter (fun v => v.use == use && v.dst.isSome)
  let srcHere (v : MoveRec) : Bool := (v.src.map (fun r => regionUse m r == use)).getD false
  here + (mine.filter (fun v => v.freeAt.isNone && !srcHere v)).length - (mine.filter (fun v => v.freeAt.isSome && srcHere v)).length

/-- The regions of the per-pixel stores follow the configuration: as many as its content fills, and no more (R25). -/
def fitStores (m : Mach) : Mach :=
  forEach [1, 2, 3] (fun use m =>
    let need := cdiv (storeBytes m use) 8388608
    let has := storeHas m use
    m |> forEach (List.range (need - has)) (fun _ => giveRegion use) |> forEach (List.range (has - need)) (fun _ => dropRegion use)) m

/-- The layer pool and the tables take their 8 regions and 1 region, and the per-pixel stores theirs (R25). -/
def placePool (m : Mach) : Mach := m |> forEach (List.range 8) (fun _ => giveRegion 4) |> giveRegion 5 |> fitStores

/-! ### Opal engines -/

/-- The engines in service. -/
def enginesUp (m : Mach) : List Nat :=
  (List.range 12).filter (fun e => !hasBit (getF m rPLC_ENG_MAP fPLC_ENG_MAP_FENCED) e)

/-- The 8-row bands of a tile of group `g`, and the pixel rate of one band in units of 1/192 Hz. -/
def grpBands (m : Mach) (g : Nat) : Nat := cdiv (geomH m g) 8
def bandRate (m : Mach) (g : Nat) : Nat := 8 * geomW m g * ((planRate m g).1 * 12 / (planRate m g).2)

/-- What one engine can take, in the same units (R21). -/
def engineCap : Nat := 1280000000 * 192

/-- The bands of tile `t` in group `g` that engine `e` serves. -/
def bandsOn (m : Mach) (g t e : Nat) : Nat :=
  let a := rPLC_TILE_MAP t
  let n := grpBands m g
  let b := getF m a fPLC_TILE_MAP_ENG_B
  let split := if b = 0xF then n else min n (getF m a fPLC_TILE_MAP_SPLIT)
  (if getF m a fPLC_TILE_MAP_ENG_A = e then split else 0) + (if b = e then n - split else 0)

/-- The pixel rate that the tiles of the groups `gs` put on engine `e`. -/
def engineLoad (m : Mach) (gs : List Nat) (e : Nat) : Nat :=
  (gs.map (fun g => ((liveTiles m g).map (fun t => bandsOn m g t e)).sum * bandRate m g)).sum

/-- The engines that serve tile `t`. -/
def enginesOf (m : Mach) (t : Nat) : List Nat :=
  let a := getF m (rPLC_TILE_MAP t) fPLC_TILE_MAP_ENG_A
  let b := getF m (rPLC_TILE_MAP t) fPLC_TILE_MAP_ENG_B
  if b = 0xF ∨ b = a then [a] else [a, b]

/-- LEAD_MIN and LEAD_EFF of group `g`, from every tile of the group (R147). -/
def showLead (g : Nat) (m : Mach) : Mach :=
  let es := (tilesOf m g).flatMap (enginesOf m)
  let n := (List.range 12).foldl (fun a e => max a (es.filter (· == e)).length) 1
  m |> setF (rCMP_RACE_STAT g) fCMP_RACE_STAT_LEAD_MIN (16 * n) |>
    setF (rCMP_RACE_STAT g) fCMP_RACE_STAT_LEAD_EFF (max (16 * n) (getF m (rCMP_GRP_CFG g) fCMP_GRP_CFG_LEAD))

/-- The leads of every group. -/
def showLeads (m : Mach) : Mach := forEach (List.range 8) showLead m

/-- Tile `t` is served by engine `a` up to band `split`, from there on by `b` (0xF: none). -/
def setEngines (t a b split : Nat) (m : Mach) : Mach :=
  let r := rPLC_TILE_MAP t
  m |> setF r fPLC_TILE_MAP_ENG_A a |> setF r fPLC_TILE_MAP_ENG_B b |> setF r fPLC_TILE_MAP_SPLIT split

/-- The engines of a tile of `n` bands at `per` each, taken from the room that is left: (engine, room) in order. A tile goes to the first
engine with room for a band, and what does not fit there to the next one with room for the rest. -/
def takeEngines (n per : Nat) : List (Nat × Nat) → Option (Nat × Nat × Nat) × List (Nat × Nat)
  | [] => (none, [])
  | (e, room) :: rest =>
    let k := if per = 0 then n else room / per
    if k = 0 then
      let (o, rest) := takeEngines n per rest
      (o, (e, room) :: rest)
    else if n ≤ k then (some (e, 0xF, 0), (e, room - n * per) :: rest)
    else match rest.find? (fun x => decide ((n - k) * per ≤ x.2)) with
      | some x =>
        (some (e, x.1, k), rest.map (fun y => if y.1 = x.1 then (y.1, y.2 - (n - k) * per) else y))
      | none =>
        let (o, rest) := takeEngines n per rest
        (o, (e, room) :: rest)

/-- Placement assigns engines to the tiles of group `g`, those that already serve a group of `others` first, so that no more engines
are taken than the pixel rate needs (R23). In which order the engines are taken is open: the draw decides. -/
def assignGroup (others : List Nat) (g : Nat) (m : Mach) : Mach :=
  if !enabledGrp m g then m else
  let (d, m) := draw m
  let up := (enginesUp m).rotateLeft (d.toNat % 12)
  let load := engineLoad m others
  let order := up.filter (fun e => load e != 0) ++ up.filter (fun e => load e == 0)
  let room := order.map (fun e => (e, engineCap - load e))
  let bands := grpBands m g
  let per := bandRate m g
  let m := ((members 24 (getF m (rSCN_TILES g) fSCN_TILES_MASK)).foldl (fun (s : List (Nat × Nat) × Mach) t =>
    let (o, room) := takeEngines bands per s.1
    let x := o.getD (order.headD 0, 0xF, 0)
    (room, setEngines t x.1 x.2.1 x.2.2 s.2)) (room, m)).2
  showLeads m

/-- Engines for every enabled group, from none. -/
def assignAll (m : Mach) : Mach :=
  forEach (List.range 8) (fun g m => assignGroup ((List.range g).filter (enabledGrp m)) g m) m


/-- May the tiles be served as the map `m` says: engines in service only, none above what it can take, and two left unassigned where
the pixel rate permits it (R21, R23)? -/
def enginesOk (m : Mach) : Bool :=
  let gs := (List.range 8).filter (enabledGrp m)
  let up := enginesUp m
  let used := up.filter (fun e => engineLoad m gs e != 0)
  let total := (up.map (engineLoad m gs)).sum
  up.all (fun e => decide (engineLoad m gs e ≤ engineCap)) &&
    (decide (used.length + 2 ≤ up.length) || decide ((up.length - 2) * engineCap < total))

/-- Engines for the tiles of group `g` beside those of every other enabled group, or for every group anew where more engines would be in
use than the pixel rate needs (R23). -/
def assignTiles (g : Nat) (m : Mach) : Mach :=
  let n := assignGroup ((List.range 8).filter (fun k => k != g && enabledGrp m k)) g m
  if enginesOk n then n else assignAll m

/-! ### What a fenced region takes with it -/

/-- No map set is valid until the table region has been loaded again (R176). -/
def loseTables (m : Mach) : Mach :=
  mapCause (forEach (List.range 24) (fun t m =>
    m |> setTilePix t { pixOf m t with sets := [], setsNew := [] } |> setF (rPHO_MAP_STAT t) fPHO_MAP_STAT_VALID 0) m)

/-- Does tile `t` show its last good frame because content of it is in a fenced region and has not been built again (R37)? -/
def holdsLast (m : Mach) (t : Nat) : Bool := m.pix.lost.any (fun e => hasBit e.2 t)

/-- DRAM region `r` is fenced persistently; it reads as code 14 (R121, R345). The frame stores in it are lost to scan-out until they
have been composed again elsewhere, and every tile with content in it keeps its last good frame until that has been built again (R37, R120). -/
def fenceDram (r : Nat) (m : Mach) : Mach :=
  let a := rFLT_FENCE_DRAM (r / 32)
  let use := regionUse m r
  setFences (fun s => { s with dram := setBit s.dram r }) m |>
    setF a fFLT_FENCE_DRAM_FENCED (setBit (getF m a fFLT_FENCE_DRAM_FENCED) (r % 32)) |> setRegionUse r 14 |>
    when (decide (1 ≤ use) && decide (use ≤ 5))
      (fun m => setPix (fun s => { s with lost := tput 0 s.lost (64 * use + r) ((tilesIn m r).foldl setBit 0) }) m) |>
    when (use == 5) loseTables

/-- Opal engine `e` is fenced persistently (R345, R347), and the rates follow the engines that are left (R346), at once or when Topaz
has restarted (R349). -/
def fenceOpal (e : Nat) (m : Mach) : Mach :=
  let f := setBit (getF m rFLT_FENCE_OPAL fFLT_FENCE_OPAL_FENCED) e
  setFences (fun s => { s with opal := setBit s.opal e }) m |>
    setF rFLT_FENCE_OPAL fFLT_FENCE_OPAL_FENCED f |> setF rPLC_ENG_MAP fPLC_ENG_MAP_FENCED f |> when (!m.saf.topazDown) (fun m => m |> fitEngines |> showRates)

end Sys2Proof.Machine
end

