-- ==== Sys2Proof/Machine/Settle.lean ====
section
/-!
DEFINITION. What falls due when a command ends: fences (R345 to R347), block resets (R333) and the chip reset (R333,
R435), and the common forms in which commands run.
-/

namespace Sys2Proof.Machine

/-! ### Chip reset -/

/-- Registers of the AON domain and the calendar, the FATAL latch and THM_SHUT outlive a chip reset (R348, R367, R435). -/
def keepsReset (a : Nat) : Bool :=
  addrBlock a == 20 || a == rFLT_FATAL || a == rTHM_SHUT || a == rPWR_WAKE_EN || a == rPWR_WAKE_SRC ||
  a == rPWR_WAKE_TMR || a == rPWR_SLEEP_TIME

/-- What HWSAFE holds through a chip reset, since it ends only at power-up (R328): itself, ERR_N, and the outputs as they
stand. -/
def keepHwSafe (was : Mach) (m : Mach) : Mach :=
  if !hwSafe was then m else
  let out (j : Nat) (m : Mach) : Mach := setReg (rSAF_OUT_STAT j) (reg was (rSAF_OUT_STAT j) &&& 0xE0000000) m
  m |> setB rSAF_STAT fSAF_STAT_HWSAFE true |> setB rFLT_ERRN fFLT_ERRN_HWSAFE true |> out 0 |> out 1

/-- Could the line write of the newest journal record be in progress at instant `t` (R392): it began within the last 2 ms? -/
def inProgress (t : Nat) (m : Mach) : Bool := m.nvm.jrn.head?.any (fun r => r.opened && decide (t < r.t + ms 2))

/-- What the journal holds when Beryl stops: a line write cut short stays OPEN, every other is DONE (R364, R392). -/
def lineCut (cut : Bool) (m : Mach) : Mach :=
  if cut then m
  else { m with nvmWas := none, nvm := { m.nvm with jrn := m.nvm.jrn.map (fun r => { r with opened := false }) } }

/-- The Beryl store at a restart: one that Topaz itself makes (cause 7) lets its writes end, and thermal hold has stopped them before. -/
def cutAtReset (cause : Nat) (m : Mach) : Mach := if m.pwr.st = 5 then m else lineCut (cause != 7 && inProgress m.now m) m

/-- The device restarts with a cause (PWR_STAT.RESTART) in power condition `st`: 0 running, 6 held in reset. What is kept:
the AON domain, the calendar, the Beryl store and the external flash, the FATAL latch and THM_SHUT, and HWSAFE. -/
def chipReset (cause st : Nat) (m : Mach) : Mach :=
  let m := cutAtReset cause m
  let n : Mach :=
    { now := m.now, bornAt := m.now, tickAt := m.now, free := m.free, rdata := m.rdata, sent := m.sent, canTx := m.canTx, spiOut := m.spiOut, tx := m.tx, nvm := m.nvm, nvmWas := m.nvmWas,
      regs := m.regs.filter (fun e => keepsReset e.1), limpAt := if m.saf.limpHigh then m.now else m.limpAt,
      pwr := { m.pwr with
        st := st, entry := none, exiting := false, runAcc := 0, runSince := m.now, hubAt := m.now, rtcHi := none, aonHi := none, aonQ := [], loadAt := m.now, safAt := m.now },
      flt := { aonRec := m.flt.aonRec, fatalAt := m.flt.fatalAt, clkBad := m.flt.clkBad, errLowAt := m.now }, thm := { series := m.thm.series } }
  n |> setF rPWR_STAT fPWR_STAT_RESTART cause |> setB rFLT_ERRN fFLT_ERRN_FATAL (flag m rFLT_FATAL fFLT_FATAL_SET) |> keepHwSafe m

/-- The device starts with a cause, as soon as RESET_N is high (R433 step 6, R435). -/
def startUp (cause : Nat) (m : Mach) : Mach :=
  if m.now < m.pwr.rstLow then
    let m := chipReset cause 6 m
    { m with pwr := { m.pwr with pinHeld := true } }
  else chipReset cause 0 m

/-! ### Fences and block resets -/

/-- What a fault source names (R338, R345). -/
inductive FltUnit where
  | none
  | port (p : Nat)
  | tile (t : Nat)
  | opal (e : Nat)
  | dram (r : Nat)
  | chain (n : Nat)
  | motor (c : Nat)
  | aurora (e : Nat)
  | xspi
  deriving DecidableEq, Repr

/-- The unit that source `s` with detail word `d` names. -/
def unitOf (s : Nat) (d : Word) : FltUnit :=
  let inst := bits d 31 24
  if 36 ≤ s ∧ s < 100 then .dram (s - 36)
  else if 101 ≤ s ∧ s < 113 then .opal (s - 101)
  else if 113 ≤ s ∧ s < 125 then .opal (s - 113)
  else if 133 ≤ s ∧ s < 205 then .port ((s - 133) % 24)
  else if 205 ≤ s ∧ s < 229 then .tile (s - 205)
  else if 253 ≤ s ∧ s < 277 then .tile (s - 253)
  else if s = 283 then (if inst < 24 then .tile inst else .none)
  else if 285 ≤ s ∧ s < 293 then .chain ((s - 285) % 4)
  else if s = 297 then (if inst < 8 then .aurora inst else .none)
  else if 299 ≤ s ∧ s < 311 then .motor ((s - 299) % 4)
  else if s = 316 then .xspi
  else .none

/-- Chain port `n` is fenced: its updates stop. -/
def fenceChain (n : Nat) (m : Mach) : Mach :=
  m |> setF rFLT_FENCE_MISC fFLT_FENCE_MISC_CHAIN (setBit (getF m rFLT_FENCE_MISC fFLT_FENCE_MISC_CHAIN) n) |>
    setB (rCHN_PORT_STAT n) fCHN_PORT_STAT_RUN false

/-- Port `p` is fenced: held in OFF, its ROLE unchanged. -/
def fencePort (p : Nat) (m : Mach) : Mach :=
  m |> setF rFLT_FENCE_PORT fFLT_FENCE_PORT_FENCED (setBit (getF m rFLT_FENCE_PORT fFLT_FENCE_PORT_FENCED) p) |> toDark p 0

/-- Motor channel `c` is fenced: held PARKED. -/
def fenceMotor (c : Nat) (m : Mach) : Mach :=
  m |> setF rFLT_FENCE_MISC fFLT_FENCE_MISC_MOTOR (setBit (getF m rFLT_FENCE_MISC fFLT_FENCE_MISC_MOTOR) c) |>
    parkMotor c (getF m (rMOT_STAT c) fMOT_STAT_CAUSE)

/-- Reaction F (R345). -/
def fenceUnit : FltUnit → Mach → Mach
  | .port p, m => fencePort p m
  | .tile t, m => fenceTile t m
  | .opal e, m => fenceOpal e m
  | .dram r, m => fenceDram r m
  | .chain n, m => fenceChain n m
  | .motor c, m => fenceMotor c m
  | .aurora _, m => m
  | .xspi, m => m
  | .none, m => m

/-- Reaction B (R333): the live state of the block instance starts afresh; its configuration stands. A port goes to OFF
and takes its ROLE again, a chain port starts its updates again, an Aurora engine stops with its slots at 0, and the xSPI controller
abandons its transfer. No source names a CAN controller. -/
def blockReset : FltUnit → Mach → Mach
  | .port p, m =>
    m |> toDark p 0 |> setPort p {} |> applyRole p
  | .chain n, m =>
    m |> clearReg (rCHN_PORT_STAT n) |> setChn (fun s => { s with
      upd := tput 0 s.upd n 0
      good := tput 0 s.good n 0
      fails := tdrop (32 * n) (32 * n + 32) s.fails
      chans := s.chans.map (fun e => (e.1, { e.2 with echo := if e.1 / 768 = n then 0 else e.2.echo })) })
  | .aurora e, m =>
    m |> clearReg (rAUR_STAT e) |> setAur e { aurOf m e with j := 0, loops := [] } |>
      forEach (List.range 64) (fun k m => setLevel e k 0 m)
  | .xspi, m => abandonXfer m
  | .tile _, m => m
  | .opal _, m => m
  | .dram _, m => m
  | .motor _, m => m
  | .none, m => m

/-- The reactions of one fault that fell due. -/
def reactDue (d : Nat × Word) (m : Mach) : Mach :=
  let u := unitOf d.1 d.2
  m |> when (reacts m d.1 fFLT_SRC_CFG_B) (blockReset u) |> when (reacts m d.1 fFLT_SRC_CFG_F) (fenceUnit u)

/-- Fences and block resets that fell due, and those which they bring about in turn. -/
def settleFences : Nat → Mach → Mach
  | 0, m => m
  | n + 1, m =>
    match m.flt.due with
    | [] => m
    | due => settleFences n (forEach due reactDue { m with flt := { m.flt with due := [] } })

/-- The waiting replies of a CPT path as packets; waiting events are left out. -/
def waitingReplies (m : Mach) : List OutPkt :=
  m.wait.filterMap (fun w => match w with
    | .reply r => some r
    | .event _ _ _ _ => none)

/-- The restart that SYSTEM_RESET and the restart form of ACTIVATE bring (R406): the reply is sent first. -/
def systemRestart (m : Mach) : Mach := chipReset 7 0 { m with sent := m.sent ++ waitingReplies m }

/-- What falls due at the end of a command. -/
def settle (m : Mach) : Mach :=
  let m := settleFences 8 m
  match m.flt.dueReset with
  | none => m
  | some c => if c = 7 then systemRestart m else chipReset c 0 m

/-! ### The common forms of a command -/

/-- The outcome of a command: a next state. -/
def done (s : State) (m : Mach) : Host.Outcome State Fault Refusal := .next { s with blk := settle m }

/-- An event at instant `t`. -/
def runEvent (t : Nat) (f : Mach → Mach) (s : State) : Host.Outcome State Fault Refusal := done s (f (atTime t s.blk))

/-- The SAF domain is powered (R368, R363). -/
def safOn (m : Mach) : Bool := decide (m.pwr.st ≤ 2) || m.pwr.st == 5

/-- Onyx acts: its domain is powered and HWSAFE is not in force (R309). -/
def onyxActs (m : Mach) : Bool := safOn m && !hwSafe m

/-- An event that Onyx handles. -/
def runOnyx (t : Nat) (f : Mach → Mach) (s : State) : Host.Outcome State Fault Refusal :=
  runEvent t (fun m => when (onyxActs m) f m) s

/-- An event that also acts on the layer pool. -/
def runEventMem (t : Nat) (f : Tab Byte → Mach → Tab Byte × Mach) (s : State) : Host.Outcome State Fault Refusal :=
  let (mem, m) := f s.mem (atTime t s.blk)
  done { s with mem := mem } m

/-- A Dratus packet. -/
def runDratus (i : Instr) (o : OpInfo) (rlen : Packet → Mach → Nat) (body : Packet → Mach → Mach × Rep) (p : Packet)
    (s : State) : Host.Outcome State Fault Refusal :=
  match arrive i o true p s.blk with
  | .stop m => done s m
  | .go m => done s (runPacket o (rlen p m) body p m)

/-- What a command that acts on the layer pool leaves: the pool, the block, the reply. -/
structure MemRep where
  mem : Tab Byte
  blk : Mach
  rep : Rep
  deriving DecidableEq, Repr

/-- Execute an accepted packet that acts on the layer pool; as `runPacket`. -/
def runPacketMem (o : OpInfo) (rlen : Nat) (body : Packet → Tab Byte → Mach → MemRep) (p : Packet) (mem : Tab Byte)
    (m : Mach) : Tab Byte × Mach :=
  let dest := replyTo o p
  if flag m rUPD_STAT fUPD_STAT_GOLDEN && !goldenOp o then
    (mem, answer dest (errW stSTATE_REJECT (viewReg m rHUB_DEV_STAT)) m)
  else if pathMax p.path < rlen then (mem, answer dest (err stBAD_LENGTH) m)
  else
    let r := body p mem m
    (r.mem, if r.rep.later then r.blk else answer dest r.rep r.blk)

/-- A Dratus packet that acts on the layer pool. -/
def runDratusMem (i : Instr) (o : OpInfo) (rlen : Packet → Mach → Nat) (body : Packet → Tab Byte → Mach → MemRep)
    (p : Packet) (s : State) : Host.Outcome State Fault Refusal :=
  match arrive i o true p s.blk with
  | .stop m => done s m
  | .go m =>
    let (mem, m) := runPacketMem o (rlen p m) body p s.mem m
    done { s with mem := mem } m

end Sys2Proof.Machine
end

