-- ==== Sys2Proof/Machine/PoolOps.lean ====
section
/-!
DEFINITION. The bytes of the layer pool (R92, R101, R103) and the stream writer (R106, R107).
-/

namespace Sys2Proof.Machine

/-! ### Pool bytes -/

/-- The key of byte `off` of buffer `i`. -/
def poolKey (i off : Nat) : Nat := i * 2 ^ 27 + off

/-- The keys of `n` bytes from `off` on. -/
def poolKeys (i off n : Nat) : List Nat := (List.range n).map (fun k => poolKey i (off + k))

/-- Byte `off` of buffer `i`; a byte that nothing has written reads as 0. -/
def poolByte (mem : Tab Byte) (i off : Nat) : Nat := (tget 0 mem (poolKey i off)).toNat

/-- Write bytes from `off` on. -/
def poolWrite (i : Nat) : Nat → List Nat → Tab Byte → Tab Byte
  | _, [], mem => mem
  | off, b :: bs, mem => poolWrite i (off + 1) bs (tput 0 mem (poolKey i off) (BitVec.ofNat 8 b))

/-- The bytes of buffer `i` read as 0 from now on: those of an earlier use of its INDEX go. -/
def poolClear (i : Nat) (mem : Tab Byte) : Tab Byte := tdrop (poolKey i 0) (poolKey (i + 1) 0) mem

/-- `n` bytes from `off`. -/
def poolBytes (mem : Tab Byte) (i off n : Nat) : List Nat := (List.range n).map (fun k => poolByte mem i (off + k))

/-- A word at byte `off`. -/
def poolWord (mem : Tab Byte) (i off : Nat) : Word := w32 (leNat (poolBytes mem i off 4))

/-- Fill the 4 KiB page `pg` of buffer `i` with zeros. -/
def poolZeroPage (i pg : Nat) (mem : Tab Byte) : Tab Byte := tdrop (poolKey i (4096 * pg)) (poolKey i (4096 * pg + 4096)) mem

/-! ### Bands of a buffer -/

/-- The image row to which byte `off` of a buffer belongs, in any of its planes. -/
def rowOfByte (r : BufRec) (off : Nat) : Option Nat :=
  match fmtOf r.fmt with
  | none => none
  | some f =>
    let l := layoutOf f r.w r.h
    let lift (n : Nat) : Nat := if f.chroma = 1 then 2 * n else n
    if off < l.pitch * r.h then some (off / l.pitch)
    else if f.chroma = 0 then none
    else
      let rows := chromaRows f r.h
      if l.plane1 ≤ off ∧ off < l.plane1 + l.cpitch * rows then some (lift ((off - l.plane1) / l.cpitch))
      else if l.plane2 ≠ 0 ∧ l.plane2 ≤ off ∧ off < l.plane2 + l.cpitch * rows then some (lift ((off - l.plane2) / l.cpitch))
      else none

/-- Record the time of a write of `n` bytes at `off` for every 8-row band that it touches (R132). -/
def stampBytes (i off n : Nat) (m : Mach) : Mach :=
  let r := bufOf m i
  let bands := ((List.range (cdiv n 4)).filterMap (fun k => (rowOfByte r (off + 4 * k)).map (· / 8))).eraseDups
  forEach bands (stampBand i) m

/-! ### The stream writer -/

/-- The bytes of one image row in stream order: the place in the buffer of byte `k` of row `row` (R106). A 4:2:0 chroma
row follows the even luma row. -/
def streamPlace (f : FmtInfo) (w h row k : Nat) : Option Nat :=
  let l := layoutOf f w h
  let n0 := if f.bytes = 0 then cdiv w 8 else w * f.bytes
  if k < n0 then some (row * l.pitch + k)
  else if f.chroma = 0 ∨ (f.chroma = 1 ∧ row % 2 = 1) then none
  else
    let cr := if f.chroma = 1 then row / 2 else row
    let k := k - n0
    if f.semi then (if k < n0 then some (l.plane1 + cr * l.cpitch + k) else none)
    else
      let n1 := w / 2 * f.bytes
      if k < n1 then some (l.plane1 + cr * l.cpitch + k)
      else if k < 2 * n1 then some (l.plane2 + cr * l.cpitch + (k - n1))
      else none

/-- The buffer that the stream of a port writes now. -/
def streamBuf (s : StreamRec) : Nat := hIdx (if s.pingpong && s.cur == 1 then s.bufB else s.bufA)

/-- One dropped row or frame (LYR_STREAM_DROP). -/
def streamDrop (p : Nat) (m : Mach) : Mach := bump (rLYR_STREAM_DROP p) fLYR_STREAM_DROP_COUNT m

/-- ROW_START on a bound port: the next row; rows beyond the buffer are discarded and counted. -/
def streamRow (p row : Nat) (m : Mach) : Mach :=
  let s := streamOf m p
  if !s.on then m
  else if (bufOf m (streamBuf s)).h ≤ row then m |> setStream p { s with row := none, got := 0 } |> streamDrop p
  else setStream p { s with row := some row, got := 0 } m

/-- PIXEL payload on a bound port goes into the row under way (R106). -/
def streamPixels (p : Nat) (bytes : List Nat) (mem : Tab Byte) (m : Mach) : Tab Byte × Mach :=
  let s := streamOf m p
  let i := streamBuf s
  let r := bufOf m i
  match s.on, s.row, fmtOf r.fmt with
  | true, some row, some f =>
    let places := (bytes.zipIdx s.got).filterMap (fun e => (streamPlace f r.w r.h row e.2).map (fun off => (off, e.1)))
    (places.foldl (fun mem e => poolWrite i e.1 [e.2] mem) mem,
      m |> setStream p { s with got := s.got + bytes.length } |> noteBytes (places.map (fun e => poolKey i e.1)) mem |>
        stampBand i (row / 8))
  | _, _, _ => (mem, m)

/-- FRAME_START on a bound port (R107). -/
def streamFrame (p : Nat) (m : Mach) : Mach :=
  let s := streamOf m p
  if !s.on || !s.pingpong then m
  else if !s.started then setStream p { s with started := true, cur := 0, row := none } m
  else
    let done := if s.cur = 1 then s.bufB else s.bufA
    let other := if s.cur = 1 then s.bufA else s.bufB
    if bufShown m (hIdx other) then m |> setStream p { s with row := none } |> streamDrop p
    else
      let n := hIdx s.layer
      let m := when (layNamed m s.layer && !(layOf m n).retiring) (setLay n { layOf m n with pendBuf := some done }) m
      setStream p { s with cur := 1 - s.cur, row := none } m

/-- The stream binding of a port that leaves host role ends (R106). -/
def streamRole (p : Nat) (m : Mach) : Mach :=
  when ((streamOf m p).on && getF m (rCPL_CFG p) fCPL_CFG_ROLE != 2) (setStream p {}) m

end Sys2Proof.Machine
end

