-- ==== Sys2Proof/Machine/PoseOps.lean ====
section
/-!
DEFINITION. The pose predictor (R140 to R144) in exact degrees and seconds, its modes (R142), and the commands that feed and
configure it.
-/

namespace Sys2Proof.Machine

/-! ### Numbers -/

/-- The nearest integer, ties away from zero. -/
def roundR (x : Rat) : Int := if x < 0 then -(-x + 1 / 2).floor else (x + 1 / 2).floor

/-- `x` limited to ±`b`. -/
def clampR (b x : Rat) : Rat := if x < -b then -b else if b < x then b else x

/-- A signed 12.20 angle in degrees. -/
def angle (w : Nat) : Rat := mkRat (sgn 32 w) 1048576

/-- A span of PIX cycles in seconds. -/
def seconds (n : Int) : Rat := mkRat n 600000000

/-- An angle as WRP_PITCH and WRP_YAW show it. -/
def angleWord (x : Rat) : Word := w32 (unsgn 32 (fx (roundR (x * 1048576))))

/-- A change over a time; over no time the spec states no rate. -/
def perTime (dx : Rat) (dt : Int) : Rat := if dt = 0 then Config.poseRate dx else dx / seconds dt

/-! ### State -/

def setPose (f : PoseState → PoseState) (m : Mach) : Mach := setPix (fun s => { s with pose := f s.pose }) m
def imuEn (m : Mach) : Bool := flag m rWRP_POSE_CFG fWRP_POSE_CFG_IMU_EN
def hostEn (m : Mach) : Bool := flag m rWRP_POSE_CFG fWRP_POSE_CFG_HOST_EN
def poseMode (m : Mach) : Nat := getF m rWRP_POSE_STAT fWRP_POSE_STAT_MODE

/-- The mode that the sources give (R142). -/
def modeOf (m : Mach) : Nat :=
  let s := m.pix.pose
  let imu := imuEn m && s.imuOk
  let host := hostEn m && s.hostOk
  if !imuEn m && !hostEn m then 0
  else if imu && host then 1
  else if host then 2
  else if imu then (if s.overlong then 4 else 3)
  else 4

/-- The mode follows the sources; entry to mode 2, 3 or 4 raises pose-fallback (R142). DESIGN CHOICE: the 2 s of IMU-only mode run from the
instant at which the predictor has the IMU and no host, also for an IMU that is regained while the host is already lost. -/
def updateMode (m : Mach) : Mach :=
  let old := poseMode m
  let imuOnly := imuEn m && m.pix.pose.imuOk && !(hostEn m && m.pix.pose.hostOk)
  let m := if imuOnly && (old == 3 || (old == 4 && m.pix.pose.overlong)) then m
    else setPose (fun s => { s with imuOnlyAt := m.now, overlong := false }) m
  let new := modeOf m
  if new = old then m
  else
    let m := setF rWRP_POSE_STAT fWRP_POSE_STAT_MODE new m
    when (2 ≤ new) (raise 129 noInst) m

/-- WRP_PITCH and WRP_YAW show p and y. -/
def showPose (m : Mach) : Mach :=
  m |> setReg rWRP_PITCH (angleWord m.pix.pose.p) |> setReg rWRP_YAW (angleWord m.pix.pose.y)

/-- The entries of the last 256 ms. -/
def trimHist (now : Nat) (h : List (Nat × Rat × Rat)) : List (Nat × Rat × Rat) :=
  h.filter (fun e => decide (now ≤ e.1 + ms 256))

/-- (p, y) at instant `t`, linearly interpolated between the entries around it; before the oldest entry that entry, after
the newest that one (R141). The history is newest first. -/
def histAt (t : Int) : List (Nat × Rat × Rat) → Option (Rat × Rat)
  | [] => none
  | [e] => some (e.2.1, e.2.2)
  | a :: b :: rest =>
    if (a.1 : Int) ≤ t then some (a.2.1, a.2.2)
    else if (b.1 : Int) ≤ t then
      let k := mkRat (t - b.1) (a.1 - b.1)
      some (b.2.1 + (a.2.1 - b.2.1) * k, b.2.2 + (a.2.2 - b.2.2) * k)
    else histAt t (b :: rest)

/-! ### IMU samples (R141, R142, R144) -/

/-- Is the transaction's answer a valid sample (R144)? DESIGN CHOICE: a CHK_OFS from LEN to 30 names no byte of the answer, and no answer
is then valid; the rule does not say. -/
def imuValid (m : Mach) (bytes : List Byte) : Bool :=
  let x := reg m rWRP_IMU_XFER
  let chk := fget x fWRP_IMU_XFER_CHK_OFS
  bytes.length == fget x fWRP_IMU_XFER_LEN &&
    (chk == 31 || (bytes.map BitVec.toNat).getD chk 256 == getF m rWRP_IMU_CFG fWRP_IMU_CFG_CHK_VAL)

/-- A rate in °/s from the two bytes at `ofs` and a scale in 2^−16 °/s per LSB. -/
def imuRate (bytes : List Byte) (ofs scale : Nat) : Rat :=
  mkRat (sgn 16 (leNat (((bytes.drop ofs).take 2).map BitVec.toNat)) * sgn 16 scale) 65536

/-- A valid sample (R141). While the IMU is lost it only counts towards the regain (R142): without the IMU there are no samples. -/
def takeImu (bytes : List Byte) (m : Mach) : Mach :=
  let x := reg m rWRP_IMU_XFER
  let wp := imuRate bytes (fget x fWRP_IMU_XFER_P_OFS) (getF m rWRP_IMU_SCALE fWRP_IMU_SCALE_P_SCALE)
  let wy := imuRate bytes (fget x fWRP_IMU_XFER_Y_OFS) (getF m rWRP_IMU_SCALE fWRP_IMU_SCALE_Y_SCALE)
  let dt := match m.pix.pose.lastImu with
    | some a => seconds (m.now - a)
    | none => if flag m rWRP_IMU_CFG fWRP_IMU_CFG_DRDY then 0
        else seconds (us (getF m rWRP_IMU_CFG fWRP_IMU_CFG_PERIOD))
  let m := setPose (fun s =>
    let good := s.good + 1
    let s' := { s with lastImu := some m.now, miss := 0, good := good, imuOk := s.imuOk || decide (64 ≤ good) }
    if !s.imuOk then s'
    else
      let q := wp - s.bp
      let r := wy - s.by_
      let p := s.p + q * dt
      let y := s.y + r * dt
      { s' with q := q, r := r, p := p, y := y, at_ := m.now, hist := trimHist m.now ((m.now, p, y) :: s.hist) }) m
  m |> showPose |> updateMode

/-- A sample period without a valid sample. -/
def missImu (m : Mach) : Mach :=
  updateMode (setPose (fun s =>
    let miss := s.miss + 1
    { s with miss := miss, good := 0, imuOk := s.imuOk && decide (miss < 8) }) m)

/-- The length of a transaction in PIX cycles: the CMD byte and LEN bytes at SCK = 100 MHz / (2 × (DIV + 1)) (R144). -/
def imuLength (m : Mach) : Nat :=
  (1 + getF m rWRP_IMU_XFER fWRP_IMU_XFER_LEN) * 16 * (getF m rWRP_IMU_CFG fWRP_IMU_CFG_DIV + 1) * 6

/-- Can a transaction end now: it began after the one before it had ended, without data-ready no sooner than PERIOD after that one
began, and with it no later than an edge that was counted as a missed period (R144)? -/
def imuEnds (m : Mach) : Bool :=
  decide (imuLength m ≤ m.now) &&
  match m.pix.pose.xfer with
  | none => true
  | some (began, ended) =>
    decide (ended + imuLength m ≤ m.now) && (if flag m rWRP_IMU_CFG fWRP_IMU_CFG_DRDY then
        decide (m.pix.pose.missAt ≤ ended ∨ m.now ≤ m.pix.pose.missAt + imuLength m)
      else decide (began + us (getF m rWRP_IMU_CFG fWRP_IMU_CFG_PERIOD) + imuLength m ≤ m.now))

/-- Can a missed period be counted now (R144): with data-ready an edge after the end of the last transaction, else a PERIOD since the last
start or the last missed period? -/
def imuMisses (m : Mach) : Bool :=
  let s := m.pix.pose
  if flag m rWRP_IMU_CFG fWRP_IMU_CFG_DRDY then
    decide (max ((s.xfer.map Prod.snd).getD m.bornAt) (max s.missAt m.bornAt) < m.now)
  else decide (max ((s.xfer.map Prod.fst).getD m.bornAt) (max s.missAt m.bornAt) + us (getF m rWRP_IMU_CFG fWRP_IMU_CFG_PERIOD) ≤ m.now)

/-- A transaction ends with these bytes, or (no bytes) a sample period passes without one: a data-ready edge during a transaction. -/
def imuSample (bytes : List Byte) (m : Mach) : Mach :=
  if !imuEn m then m
  else if bytes.isEmpty then when (imuMisses m) (fun m => missImu (setPose (fun s => { s with missAt := m.now }) m)) m
  else if !imuEnds m then m
  else
    let m := setPose (fun s => { s with
      xfer := some (m.now - imuLength m, m.now), cmdSent := getF m rWRP_IMU_XFER fWRP_IMU_XFER_CMD }) m
    if imuValid m bytes then takeImu bytes m else missImu m

/-- IMU_SAMPLE (R144). -/
def execImuSample (t : Nat) (bytes : List Byte) (s : State) : Host.Outcome State Fault Refusal := runEvent t (imuSample bytes) s

/-! ### Host messages (R141, R143) -/

/-- One axis of a message with IMU samples present: angle and bias after the correction. DESIGN CHOICE: the first message, which has no
tc_prev, leaves the bias as it is. -/
def correctAxis (valid : Bool) (x b meas hist : Rat) (ka kb : Nat) (dt : Option Int) : Rat × Rat :=
  if !valid then (x, b)
  else
    let e := meas - hist
    (x + e / (2 ^ ka : Nat), match dt with
      | none => b
      | some d => b - perTime e d / (2 ^ kb : Nat))

/-- One axis of a message without IMU samples: angle and rate. -/
def hostAxis (valid : Bool) (x q meas : Rat) (prev : Option Rat) (dt : Option Int) : Rat × Rat :=
  if !valid then (x, q)
  else (meas, match prev, dt with
    | some a, some d => perTime (meas - a) d
    | _, _ => q)

/-- A message whose reception completed at `ta` (R141). -/
def takeMsg (ta age : Nat) (pv yv : Bool) (pm ym : Rat) (m : Mach) : Mach :=
  let m := updateMode (setPose (fun s => { s with hostOk := true, msgAt := some ta }) m)
  let s := m.pix.pose
  let tc : Int := ta - us age
  let ka := getF m rWRP_POSE_CFG fWRP_POSE_CFG_KA
  let kb := getF m rWRP_POSE_CFG fWRP_POSE_CFG_KB
  let since (o : Option (Int × Rat)) : Option Int := o.map (fun l => tc - l.1)
  let s' : PoseState :=
    if poseMode m = 2 then
      let (p, q) := hostAxis pv s.p s.q pm (s.lastP.map Prod.snd) (since s.lastP)
      let (y, r) := hostAxis yv s.y s.r ym (s.lastY.map Prod.snd) (since s.lastY)
      { s with p := p, q := q, y := y, r := r }
    else
      let (ph, yh) := (histAt tc (trimHist m.now s.hist)).getD (s.p, s.y)
      let dt := s.lastTc.map (fun l => tc - l)
      let (p, bp) := correctAxis pv s.p s.bp pm ph ka kb dt
      let (y, by_) := correctAxis yv s.y s.by_ ym yh ka kb dt
      { s with p := p, bp := bp, y := y, by_ := by_ }
  m |> setPose (fun _ => { s' with
      at_ := m.now, lastTc := some tc, lastP := if pv then some (tc, pm) else s.lastP, lastY := if yv then some (tc, ym) else s.lastY }) |> showPose

def poseMsgBody (p : Packet) (m : Mach) : Mach × Rep :=
  let w := par p 0
  if !clean w [(31, 16), (1, 0)] then (m, err stBAD_PARAM)
  else if !hostEn m then (m, ok [])
  else (takeMsg p.t (bits w 31 16) (bit w 0) (bit w 1) (angle (par p 1).toNat) (angle (par p 2).toNat) m, ok [])

/-- POSE_MSG (R143). -/
def execPoseMsg (p : Packet) (s : State) : Host.Outcome State Fault Refusal :=
  runDratus (.poseMsg p) (native 0x35 0 .hw .any false false) (fun _ _ => 0) (withLen (· == 3) poseMsgBody) p s

/-- HOST_POSE_TIMEOUT (R142): due once TMO ms have passed since the last message, or since the start. -/
def execHostPoseTimeout (t : Nat) (s : State) : Host.Outcome State Fault Refusal :=
  runEvent t (fun m =>
    let from_ := m.pix.pose.msgAt.getD m.bornAt
    if hostEn m && m.pix.pose.hostOk && decide (from_ + ms (getF m rWRP_POSE_CFG fWRP_POSE_CFG_TMO) ≤ m.now) then
      updateMode (setPose (fun s => { s with hostOk := false }) m)
    else m) s

/-- IMU_ONLY_TIMEOUT (R142): IMU-only mode has lasted more than 2 s. -/
def execImuOnlyTimeout (t : Nat) (s : State) : Host.Outcome State Fault Refusal :=
  runEvent t (fun m =>
    if poseMode m == 3 && decide (m.pix.pose.imuOnlyAt + sec 2 < m.now) then
      updateMode (setPose (fun s => { s with overlong := true }) m)
    else m) s

/-! ### POSE_CONFIG (R145) -/

/-- The ranges of WRP_POSE_CFG, WRP_POSE_FB, WRP_IMU_CFG and WRP_IMU_XFER. -/
def poseCfgOk (w : Word) : Bool :=
  let h := fget w fWRP_POSE_CFG_HMAX
  let t := fget w fWRP_POSE_CFG_TMO
  clean w [(31, 30), (23, 0)] && decide (1 ≤ h) && decide (h ≤ 20) && decide (10 ≤ t) && decide (t ≤ 250)
def poseFbOk (w : Word) : Bool :=
  let v := sgn 32 w.toNat
  decide (-(3 * 1048576) ≤ v) && decide (v ≤ 3 * 1048576)
def imuCfgOk (w : Word) : Bool :=
  let p := fget w fWRP_IMU_CFG_PERIOD
  clean w [(31, 22), (17, 0)] && decide (2 ≤ fget w fWRP_IMU_CFG_DIV) && decide (125 ≤ p) && decide (p ≤ 1000)
def imuXferOk (w : Word) : Bool :=
  let n := fget w fWRP_IMU_XFER_LEN
  clean w [(31, 4)] && decide (2 ≤ n) && decide (fget w fWRP_IMU_XFER_P_OFS + 2 ≤ n) &&
    decide (fget w fWRP_IMU_XFER_Y_OFS + 2 ≤ n)

def poseConfigBody (p : Packet) (m : Mach) : Mach × Rep :=
  if !clean (par p 0) [(1, 0)] || bits (par p 0) 1 0 != 0 || !poseCfgOk (par p 1) || !poseFbOk (par p 2) ||
      !imuCfgOk (par p 3) || !imuXferOk (par p 4) then (m, err stBAD_PARAM)
  else
    (m |> setReg rWRP_POSE_CFG (par p 1) |> setReg rWRP_POSE_FB (par p 2) |> setReg rWRP_IMU_CFG (par p 3) |>
      setReg rWRP_IMU_XFER (par p 4) |> setReg rWRP_IMU_SCALE (par p 5) |> updateMode, ok [])

/-- POSE_CONFIG, form 0 (R145); a packet whose form word is 3 is carried by this row too. -/
def execPoseConfig (p : Packet) (s : State) : Host.Outcome State Fault Refusal :=
  runDratus (.poseConfig p) (native 0x36 1 .topaz .h0p false false) (fun _ _ => 0) (withLen (· == 6) poseConfigBody) p s

def poseGroupBody (p : Packet) (m : Mach) : Mach × Rep :=
  let g := bits (par p 0) 12 8
  if !clean (par p 0) [(12, 8), (1, 0)] || 8 ≤ g || !clean (par p 1) [(31, 30), (15, 0)] then (m, err stBAD_PARAM)
  else (setReg (rWRP_GRP_POSE g) (par p 1) m, ok [])

/-- POSE_CONFIG, form 1 (R145). -/
def execPoseConfigGroup (p : Packet) (s : State) : Host.Outcome State Fault Refusal :=
  runDratus (.poseConfigGroup p) (native 0x36 1 .topaz .h0p false false) (fun _ _ => 0) (withLen (· == 2) poseGroupBody) p s

def poseTileBody (p : Packet) (m : Mach) : Mach × Rep :=
  let t := bits (par p 0) 12 8
  if !clean (par p 0) [(12, 8), (1, 0)] || 24 ≤ t then (m, err stBAD_PARAM)
  else (setReg (rWRP_TILE_K t) (par p 1) m, ok [])

/-- POSE_CONFIG, form 2 (R145). -/
def execPoseConfigTile (p : Packet) (s : State) : Host.Outcome State Fault Refusal :=
  runDratus (.poseConfigTile p) (native 0x36 1 .topaz .h0p false false) (fun _ _ => 0) (withLen (· == 2) poseTileBody) p s

end Sys2Proof.Machine
end

