-- ==== Sys2Proof/Machine/BandOps.lean ====
section
/-!
DEFINITION. One output band (R124): its source coordinates with the pose correction (R137 to R140), the raster pixels that it
samples (R126 to R133, R138), and the photometric chain over its pixels (R152 to R180).
-/

namespace Sys2Proof.Machine

/-! ### What a band is computed from -/

/-- The configuration of frame `k` of group `g` (R149): the one latched at the start of frame k − 1. -/
def cfgFor (m : Mach) (g k : Nat) : Option GrpCfg :=
  if k = (frameOf m g + 1) % 2 ^ 32 then some (grpOf m g).cur
  else if k = frameOf m g then some (grpOf m g).prev
  else none

/-- The mask enable and the beam mode of group `g` as a band latched now sees them: a change counts 4 PIX cycles later
(R131, R172). -/
def maskOn (m : Mach) (g : Nat) : Bool :=
  let r := grpOf m g
  if m.now < r.maskAt + 4 then r.maskWas != 0 else hasBit (getF m rSAF_MASK_EN fSAF_MASK_EN_EN) g
def beamNow (m : Mach) (g : Nat) : Nat :=
  let r := grpOf m g
  if m.now < r.beamAt + 4 then r.beamWas else beamOf m g

/-- Everything that fixes a band. -/
structure BandIn where
  g : Nat
  t : Nat
  b : Nat
  frame : Nat
  cfg : GrpCfg
  tc : TileCfg
  w : Nat
  h : Nat
  rgb : Bool
  depth : Nat
  /-- the entries of the tile in the order of composition: the GFM entry last (R130), and left out while off (R131) -/
  ents : List EntCfg
  deriving DecidableEq, Repr

/-- Does an entry take part in the composition of tile `t` (R110, R127)? -/
def entLive (t : Nat) (e : EntCfg) : Bool :=
  descTile e.desc == t && bit (e.desc.getD 0 0) 31 && e.buf != 0

/-- The entries of tile `t` in order of composition. -/
def tileEnts (cfg : GrpCfg) (t : Nat) (mask : Bool) : List EntCfg :=
  let es := cfg.ents.filter (entLive t)
  es.filter (fun e => !e.gfm) ++ (if mask then es.filter (fun e => e.gfm) else [])

/-- The band that tile `t` of group `g` latches next. -/
def bandIn (m : Mach) (g t : Nat) : Option BandIn :=
  let r := pixOf m t
  match cfgFor m g r.frame with
  | none => none
  | some cfg =>
    if 8 * r.band < geomH m g ∧ groupOf m t = some g ∧ isPlaced m t ∧ 0 < geomW m g then
      some
        { g := g, t := t, b := r.band, frame := r.frame, cfg := cfg, tc := tget {} cfg.tiles t, w := geomW m g, h := geomH m g,
          rgb := tileRgb m t, depth := tileDepth m g t, ents := tileEnts cfg t (maskOn m g) }
    else none

/-- The rows of the band. -/
def bandRows (i : BandIn) : List Nat := (List.range 8).filterMap (fun k => if 8 * i.b + k < i.h then some (8 * i.b + k) else none)

/-! ### Pose correction (R139, R140) -/

/-- PIX cycles from the latch instant of a frame to the start of line `n` (R185). -/
def lineStart (m : Mach) (g n : Nat) : Nat := cdiv (n * 9600000000) (rateEff m g * vtotal m g)

/-- The line, counted from the last latch of the group, in which row `y` of frame `k` is scanned out. -/
def rowLine (m : Mach) (g k y : Nat) : Nat := (if k = frameOf m g then 0 else vtotal m g) + vsync m g + vporch m g + y

/-- The line in which row `y` of the band is scanned out. -/
def scanLine (m : Mach) (i : BandIn) (y : Nat) : Nat := rowLine m i.g i.frame y

/-- The instant at which line `n` after the last latch starts. -/
def lineAt (m : Mach) (g n : Nat) : Nat := (grpOf m g).latchAt + lineStart m g n

/-- The instant at which row `y` of the band is emitted, in PIX cycles (R140). -/
def emitAt (m : Mach) (i : BandIn) (y : Nat) : Rat :=
  (lineAt m i.g (scanLine m i y) : Nat) + mkRat (3 * 9600000000) (2 * rateEff m i.g * vtotal m i.g)

/-- The prediction horizon of a row in seconds, limited to HMAX. -/
def horizon (m : Mach) (i : BandIn) (y : Nat) : Rat :=
  let hmax : Rat := mkRat (getF m rWRP_POSE_CFG fWRP_POSE_CFG_HMAX) 1000
  let d := (emitAt m i y - (m.now : Nat)) / 600000000
  if hmax < d then hmax else d

/-- A shift in 1/1024 pixel from an angle and a signed 8.8 factor per degree. -/
def shiftOf (k : Nat) (deg : Rat) : Int := roundR (mkRat (sgn 16 k) 256 * deg * 1024)

/-- ΔY of row `y` before the limit of R125, and whether the pitch difference was clamped. -/
def rawDy (m : Mach) (i : BandIn) (y : Nat) : Int × Bool :=
  let mode := poseMode m
  let ky := getF m (rWRP_TILE_K i.t) fWRP_TILE_K_KY
  if !i.cfg.pitchEn || mode == 0 then (0, false)
  else if mode = 4 then (shiftOf ky (angle (getF m rWRP_POSE_FB fWRP_POSE_FB_FB_PITCH)), false)
  else
    let d := m.pix.pose.p + m.pix.pose.q * horizon m i y - mkRat (tileAim m i.t) 1048576
    (shiftOf ky (clampR 3 d), clampR 3 d != d)

/-- ΔY of every row, with whether it was clamped (R125, R139). -/
def bandDy (m : Mach) (i : BandIn) : List (Int × Bool) :=
  let raw := (bandRows i).map (rawDy m i)
  let first := (raw.headD (0, false)).1
  raw.map (fun d =>
    let v := clampI (first - 2048) (first + 2048) d.1
    (v, d.2 || v != d.1))

/-- The last row of the band. -/
def lastRow (i : BandIn) : Nat := min (8 * i.b + 7) (i.h - 1)

/-- Has the latch point of the band come: in racing mode LEAD_EFF lines before the scan-out of its last row (R146)? -/
def latchPoint (m : Mach) (i : BandIn) : Bool :=
  !i.cfg.racing || decide (lineAt m i.g (scanLine m i (lastRow i) - i.cfg.lead) ≤ m.now)

/-- Is it too late for the transfer of band `b` of frame `k`: fewer than 4 line periods before the scan-out of its first row (R148)? -/
def bandTooLate (m : Mach) (g k b : Nat) : Bool := decide (lineAt m g (rowLine m g k (8 * b) - 4) < m.now)

/-- Is it too late for the transfer of a racing band? -/
def transferLate (m : Mach) (i : BandIn) : Bool := bandTooLate m i.g i.frame i.b

/-- The GFM entry of the band. DESIGN CHOICE: an entry whose layer has EN = 0 or no buffer, or whose mask enable is 0, takes no part in the
composition and is no GFM entry of the tile, so that the heading shift is 0 (R139 does not say). -/
def gfmOf (i : BandIn) : Option EntCfg := i.ents.find? (fun e => e.gfm)

/-- The buffer row of entry `e` at raster row `y`, where the layer covers it. -/
def entRow (e : EntCfg) (y : Int) : Option Nat :=
  let dy := y - sgn 16 (bits (e.desc.getD 1 0) 31 16)
  let rep : Int := 2 ^ fget (e.desc.getD 0 0) fLYR_DESC_CTL_REPY
  if 0 ≤ dy ∧ dy < (descH e.desc : Int) * rep then some (descY e.desc + (dy / rep).toNat) else none

/-- The buffer column of entry `e` at raster column `x`. -/
def entCol (e : EntCfg) (x : Int) : Option Nat :=
  let dx := x - sgn 16 (bits (e.desc.getD 1 0) 15 0)
  let rep : Int := 2 ^ fget (e.desc.getD 0 0) fLYR_DESC_CTL_REPX
  if 0 ≤ dx ∧ dx < (descW e.desc : Int) * rep then some (descX e.desc + (dx / rep).toNat) else none

/-- Source coordinates before the heading shift: per row, per pixel, (SX, SY + ΔY, BLANK). -/
def bandSources (i : BandIn) (dys : List Int) : List (List (Int × Int × Bool)) :=
  ((bandRows i).zip dys).map (fun (y, dy) =>
    (List.range i.w).map (fun x =>
      let s := sourceAt i.tc.mesh i.w i.h x y
      (s.1, s.2.1 + dy, s.2.2)))

/-- The raster rows, inside the raster, that the sources reach. -/
def rasterRows (i : BandIn) (src : List (List (Int × Int × Bool))) : List Nat :=
  let all := src.flatMap (fun row => row.filterMap (fun s => if s.2.2 then none else some (samplerPos s.2.1).1))
  (all.flatMap (fun r => [r, r + 1])).eraseDups.filterMap (fun r => if 0 ≤ r ∧ r < (i.h : Int) then some r.toNat else none)

/-- The 8-row bands of the GFM buffer that the band reads. -/
def maskBands (i : BandIn) (rows : List Nat) : List Nat :=
  match gfmOf i with
  | none => []
  | some e => (rows.filterMap (fun r => (entRow e (r : Nat)).map (· / 8))).eraseDups

/-- The deadline for mask data of the band (R19): 23 µs before its late latch in racing mode, the commit latch in buffered mode. -/
def maskDeadline (m : Mach) (i : BandIn) : Nat := if i.cfg.racing then m.now - us 23 else (grpOf m i.g).latchAt

/-- tref in PIX cycles (R139): the latest write among the mask bands read, minus MASK_AGE. -/
def trefOf (m : Mach) (i : BandIn) (mbands : List Nat) : Option Int :=
  match gfmOf i with
  | none => none
  | some e =>
    let times := timesAt (maskDeadline m i) (hIdx e.buf) m
    let latest := (mbands.map (tget 0 times)).foldl max 0
    if latest = 0 then none else some (((latest - 1) * 600 : Nat) - (us i.cfg.maskAge : Nat) : Int)

/-- ΔX of every row, with whether it was clamped (R139). DESIGN CHOICE: while no mask band that the band reads has a recorded write, y(tref)
is that of the oldest entry of the history; and with a recorded write or without one it is the present y while the history is empty (as in
host-only mode after 256 ms). The spec states none. -/
def bandDx (m : Mach) (i : BandIn) (mbands : List Nat) : List (Int × Bool) :=
  let mode := poseMode m
  let kx := getF m (rWRP_TILE_K i.t) fWRP_TILE_K_KX
  if !i.cfg.yawEn || (gfmOf i).isNone || mode == 0 || mode == 4 then (bandRows i).map (fun _ => (0, false))
  else
    let s := m.pix.pose
    let yref := match trefOf m i mbands with
      | some t => ((histAt t (trimHist m.now s.hist)).map Prod.snd).getD s.y
      | none => match (trimHist m.now s.hist).getLast? with
        | some e => e.2.2
        | none => s.y
    (bandRows i).map (fun y =>
      let d := s.y + s.r * horizon m i y - yref
      (shiftOf kx (clampR 6 d), clampR 6 d != d))

/-! ### Fetch: underruns and stale mask bands (R114, R115, R132) -/

/-- Does entry `e` cover any of raster row `y`? -/
def coversRow (i : BandIn) (e : EntCfg) (y : Nat) : Bool :=
  (entRow e y).isSome && (List.range i.w).any (fun x => (entCol e x).isSome)

/-- Is the fetch of entry `k` skipped on raster row `y`, its span lying under replace layers above it (R114)? -/
def fetchSkipped (i : BandIn) (k y : Nat) : Bool :=
  match i.ents[k]? with
  | none => true
  | some e =>
    let above := (i.ents.drop (k + 1)).filter (fun a => a.mode == 0 && (entRow a y).isSome &&
      !((fmtOf (descFmt a.desc)).map FmtInfo.alpha).getD true)
    (List.range i.w).all (fun x => (entCol e x).isNone || above.any (fun a => (entCol a x).isSome))

/-- The underruns that befall the band: (layer, raster row) for lines that it fetches and that have not arrived. -/
def bandUnder (i : BandIn) (rows : List Nat) (under : List (Nat × Nat)) : List (Nat × Nat) :=
  under.eraseDups.filter (fun u =>
    rows.contains u.2 &&
    (i.ents.zipIdx).any (fun e => e.1.layer == u.1 && coversRow i e.1 u.2 && !fetchSkipped i e.2 u.2))

/-- The mask bands that are stale at the latch of the band (R132): every write up to the latch counts, also one that came too late to be
fetched (R19). -/
def staleBands (m : Mach) (i : BandIn) (mbands : List Nat) : List Nat :=
  match gfmOf i with
  | none => []
  | some e =>
    if i.cfg.stale = 0 then [] else
    mbands.filter (fun b =>
      let t := tget 0 (bufOf m (hIdx e.buf)).times b
      t == 0 || decide (i.cfg.stale * 16000000 < (m.now / 600 + 1 - t) * rateEff m i.g))

/-! ### Composition (R126, R128, R133) -/

/-- A sample of a layer: the raw luma or alpha value and the centred chroma. -/
structure LaySample where
  v : Nat
  cb : Int
  cr : Int
  deriving DecidableEq, Repr, Inhabited

/-- What composition reads: the pool, and as it stood at the deadline of mask data (R18), mask rows already fetched for this frame
(R146), and the rows filled with FILL. -/
structure Fetch where
  mem : Tab Byte
  mask : Tab Byte
  bufs : Tab BufRec
  cached : Tab (List Nat)
  under : List (Nat × Nat)
  stale : List Nat
  deriving DecidableEq, Repr

/-- A raw luma or alpha sample of an entry's buffer. -/
def bufSample (fe : Fetch) (f : FmtInfo) (e : EntCfg) (row col : Nat) : Nat :=
  let r := tget {} fe.bufs (hIdx e.buf)
  sampleAt (poolByte (if e.gfm then fe.mask else fe.mem) (hIdx e.buf)) f (row * (layoutOf f r.w r.h).pitch) col

/-- The sample of entry `e` at raster pixel (x, y); none where it does not cover the pixel. -/
def entSample (i : BandIn) (fe : Fetch) (e : EntCfg) (x y : Int) : Option LaySample :=
  match fmtOf (descFmt e.desc), entRow e y, entCol e x with
  | some f, some row, some col =>
    let kept := if e.gfm then (tget [] fe.cached row)[col]? else none
    if kept.isNone && (fe.under.contains (e.layer, y.toNat) || (e.gfm && fe.stale.contains (row / 8))) then
      some ⟨fget (e.desc.getD 4 0) fLYR_DESC_FILL_FILL % 2 ^ f.depth, 0, 0⟩
    else
      let r := tget {} fe.bufs (hIdx e.buf)
      let v := kept.getD (bufSample fe f e row col)
      let c (k : Nat) : Int := if i.rgb then chroma16 (poolByte fe.mem (hIdx e.buf)) f r.w r.h k col row else 0
      some ⟨v, c 0, c 1⟩
  | _, _, _ => none

/-- One entry changes the running values of a raster pixel (R128). -/
def applyEnt (i : BandIn) (fe : Fetch) (x y : Int) (out : List Nat) (e : EntCfg) : List Nat :=
  match fmtOf (descFmt e.desc), entSample i fe e x y with
  | some f, some s =>
    if e.mode = 4 then
      let a := matte f s.v
      out.map (fun o => scaleBy o e.op a.1 a.2)
    else
      let l := luma16 f.depth s.v
      let vals := if i.rgb then toRgb i.cfg.matrix l s.cb s.cr else [l]
      (out.zip vals).map (fun (o, v) => blend e.mode e.op o v)
  | _, _ => out

/-- The composed raster pixel (x, y): one value, or R, G and B; 0 outside the raster. -/
def rasterPixel (i : BandIn) (fe : Fetch) (x y : Int) : List Nat :=
  let zero := if i.rgb then [0, 0, 0] else [0]
  if 0 ≤ x ∧ x < (i.w : Int) ∧ 0 ≤ y ∧ y < (i.h : Int) then i.ents.foldl (applyEnt i fe x y) zero else zero

/-- The sample at a source coordinate (R138); a blanked pixel takes 0 (R135). -/
def samplePixel (i : BandIn) (fe : Fetch) (s : Int × Int × Bool) : List Nat :=
  if s.2.2 then (if i.rgb then [0, 0, 0] else [0])
  else
    let (cx, wx) := samplerPos s.1
    let (cy, wy) := samplerPos s.2.1
    let a := rasterPixel i fe cx cy
    let b := rasterPixel i fe (cx + 1) cy
    let c := rasterPixel i fe cx (cy + 1)
    let d := rasterPixel i fe (cx + 1) (cy + 1)
    (List.range a.length).map (fun k => sampler (a.getD k 0) (b.getD k 0) (c.getD k 0) (d.getD k 0) wx wy)

/-! ### The photometric chain -/

/-- The 4-neighbours of a pixel inside the tile. -/
def neighbours (w h : Nat) (q : Nat × Nat) : List (Nat × Nat) :=
  [(q.1 + 1, q.2), (q.1, q.2 + 1)].filter (fun n => decide (n.1 < w) && decide (n.2 < h)) ++
    (if q.1 = 0 then [] else [(q.1 - 1, q.2)]) ++ (if q.2 = 0 then [] else [(q.1, q.2 - 1)])

/-- For a live pixel: the numbers m of live neighbours of its dead 4-neighbours (R164). -/
def repairTerms (i : BandIn) (q : Nat × Nat) : List Nat :=
  ((neighbours i.w i.h q).filter (fun n => i.tc.dead.contains n)).map (fun d =>
    ((neighbours i.w i.h d).filter (fun n => !i.tc.dead.contains n)).length)

/-- What the chain needs beside the latched values: uniformity codes, generic mode, SPREAD, wear counter of a pixel, zone
word of a pixel. -/
structure Chain where
  unif : List Nat
  generic : Bool
  spread : Nat
  wear : Tab Nat
  zones : Option (List Word)
  deriving DecidableEq, Repr

/-- The wear key of a pixel of tile `t`. -/
def wearKey (t : Nat) (q : Nat × Nat) : Nat := t * 2 ^ 22 + q.2 * 2048 + q.1

/-- The zone word of a pixel; without a valid set CEIL = FLOOR = 0 (R176). -/
def zoneOf (i : BandIn) (c : Chain) (q : Nat × Nat) : Word :=
  match c.zones with
  | none => 0
  | some zs => zs.getD (q.2 / 8 * cdiv i.w 8 + q.1 / 8) 0

/-- Stages 1 to 4 for channel `ch` of a pixel (R152). -/
def stages14 (i : BandIn) (c : Chain) (q : Nat × Nat) (ch v : Nat) : Nat :=
  let idx := if i.rgb then 3 * (q.2 * i.w + q.1) + ch else q.2 * i.w + q.1
  let u := if c.generic then 128 else c.unif.getD idx 128
  let v := if i.tc.dead.contains q then 0 else applyGain (stage1Gain u c.spread (repairTerms i q)) v
  let gw := if c.generic then 0x8000
    else wearGain i.cfg.wear (if i.rgb then ch + 1 else 0) (tget 0 c.wear (wearKey i.t q))
  applyGain i.tc.gs (applyGain i.tc.gt (applyGain gw v))

/-- A pixel after the chain: values into the clamp, values out of it, the stored code. -/
structure PixelOut where
  into : List Nat
  out : List Nat
  code : Nat
  deriving DecidableEq, Repr, Inhabited

/-- Drive codes packed as the frame store holds them (R193). -/
def packCodes (codes : List Nat) : Nat := codes.getD 0 0 + codes.getD 1 0 * 2 ^ 10 + codes.getD 2 0 * 2 ^ 20

/-- One pixel through stages 1 to 6. -/
def chainPixel (i : BandIn) (c : Chain) (q : Nat × Nat) (vs : List Nat) : PixelOut :=
  let into := (vs.zipIdx).map (fun (v, ch) => stages14 i c q ch v)
  let b := zoneBounds (zoneOf i c q) i.tc.share
  let out := into.map (clampTo b)
  let curve := if c.generic then [] else i.tc.curve
  let codes := (out.zipIdx).map (fun (v, ch) => driveCode curve i.depth i.rgb ch v)
  ⟨into, out, if i.rgb then packCodes codes else codes.headD 0⟩

/-- The integer intensity that wear counts (R158). -/
def wearIntensity (o : PixelOut) : Nat := o.out.foldl max 0 / 16

end Sys2Proof.Machine
end

