-- ==== Sys2Proof/Machine/Bands.lean ====
section
/-!
DEFINITION. BAND_LATCH and BAND_LATE: a band is composed and stored (R146, R148, R177, R181, R345).
-/

namespace Sys2Proof.Machine

/-- The key of a stored code (R193). -/
def storeKey (t half row col : Nat) : Nat := ((t * 2 + half) * 1536 + row) * 2048 + col

/-- Write a row of codes into half `half` of the frame store of tile `t`. -/
def storeRow (t half row : Nat) (codes : List Nat) (m : Mach) : Mach :=
  setPix (fun s => { s with
    store := (codes.zipIdx).foldl (fun st e => tput 0 st (storeKey t half row e.2) e.1) s.store }) m

/-- A row of codes of the frame store. -/
def storedRow (m : Mach) (t half row w : Nat) : List Nat :=
  (List.range w).map (fun x => tget 0 m.pix.store (storeKey t half row x))

/-- Write rows from `row` on. -/
def storeRows (t half row : Nat) (rows : List (List Nat)) (m : Mach) : Mach :=
  forEach rows.zipIdx (fun e m => storeRow t half (row + e.2) e.1 m) m

/-- The half into which frame `k` of group `g` is composed: that of the last latch's configuration for the coming frame,
the half being scanned out for the present one (R150, R194). -/
def halfFor (m : Mach) (g k : Nat) : Nat :=
  if k = frameOf m g then getF m (rSCN_GRP_STAT g) fSCN_GRP_STAT_STORE else (grpOf m g).half

/-- The Opal engine that serves band `b` of tile `t` (PLC_TILE_MAP). -/
def engineOf (m : Mach) (t b : Nat) : Nat :=
  let a := rPLC_TILE_MAP t
  let e := getF m a fPLC_TILE_MAP_ENG_B
  if e ≠ 0xF ∧ getF m a fPLC_TILE_MAP_SPLIT ≤ b then e else getF m a fPLC_TILE_MAP_ENG_A

/-- Is tile `t` in generic mode (R256)? -/
def isGeneric (m : Mach) (t : Nat) : Bool := (tileOf m t).authGave == 4

/-- The chain's inputs for tile `t` (R156, R157, R172, R256). DESIGN CHOICE: R155 does not list SPREAD among the latched values; it is read
at every band, so a changed SPREAD may take effect within a frame. -/
def chainOf (m : Mach) (i : BandIn) : Chain :=
  let mode := beamNow m i.g
  let u := (pixOf m i.t).unif
  { unif := if u.length = i.w * i.h * (if i.rgb then 3 else 1) then u else [], generic := isGeneric m i.t, spread := getF m rPHO_REPAIR_CFG fPHO_REPAIR_CFG_SPREAD,
    wear := m.pix.wear
    zones := if hasBit (getF m (rPHO_MAP_STAT i.t) fPHO_MAP_STAT_VALID) mode then
      some (tget {} (pixOf m i.t).sets mode).zones else none }

/-- The last band of a frame of the tile has passed: the clamp counts are published (R181) and the next frame is due. -/
def nextBand (i : BandIn) (m : Mach) : Mach :=
  let r := pixOf m i.t
  if 8 * (i.b + 1) < i.h then setTilePix i.t { r with band := i.b + 1 } m
  else
    m |> setF (rPHO_CLAMP_CNT i.t) fPHO_CLAMP_CNT_CEIL (capN 0xFFFF r.ceilN) |>
      setF (rPHO_CLAMP_CNT i.t) fPHO_CLAMP_CNT_FLOOR (capN 0xFFFF r.floorN) |>
      setTilePix i.t { r with band := 0, frame := (i.frame + 1) % 2 ^ 32, ceilN := 0, floorN := 0, maskRows := [] }

/-- Pose clamps of the rows of a band (R125, R139). -/
def countClamps (t n : Nat) (m : Mach) : Mach :=
  forEach (List.range n) (fun _ m => m |> bump rWRP_POSE_STAT fWRP_POSE_STAT_CLAMPS |> raise 130 (detail t 0)) m

/-- Underruns and stale mask bands of a band (R115, R132). -/
def countFills (g : Nat) (under : List (Nat × Nat)) (stale : List Nat) (m : Mach) : Mach :=
  let m := forEach under (fun u m =>
    m |> bump (rLYR_UNDERRUN u.1) fLYR_UNDERRUN_COUNT |> raise 126 (detail u.1 0)) m
  forEach stale (fun _ m => m |> bump (rCMP_EVT_CNT g) fCMP_EVT_CNT_STALE |> raise 125 (detail g 0)) m

/-- In racing mode the mask rows fetched for a band stay, as fetched, for the rest of the frame (R146). DESIGN CHOICE: a row for which
FILL stood in (stale, or not arrived) was not fetched and is not kept; a later band of the frame that needs it reads it anew, under its own
deadline (R19 leaves this open). -/
def cacheRows (i : BandIn) (fe : Fetch) (rows : List Nat) : Tab (List Nat) :=
  match gfmOf i with
  | none => fe.cached
  | some e =>
    match fmtOf (descFmt e.desc) with
    | none => fe.cached
    | some f =>
      let r := tget {} fe.bufs (hIdx e.buf)
      rows.foldl (fun c y =>
        match entRow e (y : Nat) with
        | none => c
        | some row =>
          if fe.under.contains (e.layer, y) || fe.stale.contains (row / 8) || tget [] c row != [] then c
          else tput [] c row ((List.range r.w).map (bufSample fe f e row))) fe.cached

/-- One wear count per live pixel of the band, by stochastic rounding (R158): pixel `k` of the list takes draw `k`. -/
def wearBand (i : BandIn) (generic : Bool) (temp : Int) (outs : List ((Nat × Nat) × PixelOut)) (m : Mach) : Mach :=
  if generic then m else
  let live := outs.filter (fun o => !i.tc.dead.contains o.1)
  let rate := rateEff m i.g
  let wear := (live.zipIdx).foldl (fun w e =>
    let key := wearKey i.t e.1.1
    let c := tget 0 w key
    if c < 65535 ∧ (Config.freeWord (m.free + e.2)).toNat < wearThreshold i.cfg.wear (wearIntensity e.1.2) temp rate then
      tput 0 w key (c + 1)
    else w) m.pix.wear
  setPix (fun s => { s with wear := wear }) { m with free := m.free + live.length }

/-- Is the mask row of raster row `y` kept from an earlier band of the frame (R146)? -/
def maskKept (i : BandIn) (kept : Tab (List Nat)) (y : Nat) : Bool :=
  match (gfmOf i).bind (fun e => entRow e (y : Nat)) with
  | some row => tget [] kept row != []
  | none => false

/-- What the composition of a band gives: pose clamps, underruns, stale mask bands, the mask rows kept, and every pixel with its
position. -/
structure BandRes where
  clamps : Nat
  under : List (Nat × Nat)
  stale : List Nat
  cached : Tab (List Nat)
  outs : List (List ((Nat × Nat) × PixelOut))
  deriving DecidableEq, Repr

/-- A band is fetched, composed, warped and passed through the chain (R124, R134 to R139, R151 to R157). -/
def bandPixels (i : BandIn) (ch : Chain) (env : BandEnv) (mem : Tab Byte) (m : Mach) : BandRes :=
  let dys := bandDy m i
  let src0 := bandSources i (dys.map Prod.fst)
  let rows := rasterRows i src0
  let mbands := maskBands i rows
  let dxs := bandDx m i mbands
  let src : List (List (Int × Int × Bool)) := (src0.zip (dxs.map Prod.fst)).map (fun e =>
    e.1.map (fun q => (q.1 + e.2, q.2.1, q.2.2)))
  let under := bandUnder i rows env.under
  let kept := (pixOf m i.t).maskRows
  let stale := staleBands m i (maskBands i (rows.filter (fun y => !maskKept i kept y)))
  let fe : Fetch :=
    { mem := mem, mask := poolAt (maskDeadline m i) mem m, bufs := m.pix.bufs, cached := kept, under := under, stale := stale }
  let fe := { fe with cached := if i.cfg.racing then cacheRows i fe rows else [] }
  { clamps := ((dys.zip dxs).filter (fun d => d.1.2 || d.2.2)).length, under := under, stale := stale, cached := fe.cached
    outs := ((bandRows i).zip src).map (fun (y, row) =>
      (row.zipIdx).map (fun (s, x) => ((x, y), chainPixel i ch (x, y) (samplePixel i fe s)))) }

/-- Values of a band of which `f` holds before and after the clamp (R181). -/
def clampCount (r : BandRes) (f : Nat × Nat → Bool) : Nat :=
  ((r.outs.flatMap id).map (fun o => ((o.2.into.zip o.2.out).filter f).length)).sum

/-- The stored codes of a band, row by row. -/
def bandCodes (r : BandRes) : List (List Nat) := r.outs.map (fun row => row.map (fun o => o.2.code))

/-- The counts that a composed band leaves: clamps, fills, wear (R115, R125, R132, R158, R181). -/
def bandCounts (i : BandIn) (generic : Bool) (r : BandRes) (m : Mach) : Mach :=
  let m := m |> countClamps i.t r.clamps |> countFills i.g r.under r.stale
  let m := wearBand i generic (sgn 16 (getF m (rTIL_TEMP i.t) fTIL_TEMP_TEMP) / 16) (r.outs.flatMap id) m
  let p := pixOf m i.t
  setTilePix i.t { p with
    maskRows := r.cached
    ceilN := p.ceilN + clampCount r (fun p => decide (p.2 < p.1))
    floorN := p.floorN + clampCount r (fun p => decide (p.1 < p.2)) } m

/-- The band keeps the content of the previous frame: in buffered mode that is in the other half of the store (R37, R148, R177, R345). -/
def keepBand (i : BandIn) (m : Mach) : Mach :=
  if i.cfg.racing then m else
  let h := halfFor m i.g i.frame
  storeRows i.t h (8 * i.b) ((bandRows i).map (fun y => storedRow m i.t (1 - h) y i.w)) m

/-- A racing band is not written in time (R148). -/
def countLate (g : Nat) (m : Mach) : Mach := m |> bump (rCMP_EVT_CNT g) fCMP_EVT_CNT_LATE |> raise 127 (detail g 0)

/-- The codes of a composed band go to the frame store, in racing mode to a waiting transfer, or nowhere where it is too late for that; a
clamp violation stores none (R146, R148, R177, R193). -/
def bandStore (i : BandIn) (violation : Bool) (r : BandRes) (m : Mach) : Mach :=
  if violation then m |> keepBand i |> raise 6 (detail i.t 0) |> causeEvent 16
  else if !i.cfg.racing then storeRows i.t (halfFor m i.g i.frame) (8 * i.b) (bandCodes r) m
  else if transferLate m i then countLate i.g m
  else setTilePix i.t { pixOf m i.t with waiting := tput [] (pixOf m i.t).waiting i.b (bandCodes r) } m

/-- A band is latched, composed, warped, passed through the chain and stored (R124, R146). -/
def bandLatch (g : Nat) (env : BandEnv) (mem : Tab Byte) (m : Mach) : Mach :=
  match if grpRuns m g then (bandIn m g env.tile).filter (latchPoint m) else none with
  | none => m
  | some i =>
    let eng := engineOf m i.t i.b
    let m := when env.checkBad (raise (101 + eng) noInst) m
    if hasBit (getF m rPLC_ENG_MAP fPLC_ENG_MAP_FENCED) eng then m |> keepBand i |> nextBand i
    else
      let ch := chainOf m i
      let r := bandPixels i ch env mem m
      m |> bandCounts i ch.generic r |> bandStore i env.violation r |> nextBand i

/-- BAND_LATCH (R146). -/
def execBandLatch (t : Nat) (g : Fin 8) (env : BandEnv) (s : State) : Host.Outcome State Fault Refusal :=
  runEvent t (bandLatch g env s.mem) s

/-- The waiting transfer of band `b` is made (R148). -/
def transferBand (g t b : Nat) (m : Mach) : Mach :=
  let r := pixOf m t
  let rows := tget [] r.waiting b
  if rows.isEmpty then m
  else m |> setTilePix t { r with waiting := tput [] r.waiting b [] } |> storeRows t (halfFor m g (frameOf m g)) (8 * b) rows

/-- The frame that band `b` of tile `t`, waiting for its transfer, belongs to: the one being composed where that has passed the band. -/
def waitingFrame (m : Mach) (g t b : Nat) : Nat :=
  let r := pixOf m t
  if b < r.band then r.frame else frameOf m g

/-- A band whose transfer has not started 4 line periods before the scan-out of its first row is not written (R148): a waiting transfer
is dropped, and a band of the present frame that has not been latched is passed over. -/
def bandLate (g t b : Nat) (m : Mach) : Mach :=
  let r := pixOf m t
  if !grpRuns m g || groupOf m t != some g then m
  else if !(tget [] r.waiting b).isEmpty then
    when (bandTooLate m g (waitingFrame m g t b) b)
      (fun m => m |> setTilePix t { r with waiting := tput [] r.waiting b [] } |> countLate g) m
  else
    match bandIn m g t with
    | some i => if i.cfg.racing && i.frame == frameOf m g && i.b == b && transferLate m i then m |> nextBand i |> countLate g else m
    | none => m

/-- BAND_LATE (R148). -/
def execBandLate (t : Nat) (g : Fin 8) (tile : Fin 24) (band : Nat) (s : State) : Host.Outcome State Fault Refusal :=
  runEvent t (bandLate g tile band) s

end Sys2Proof.Machine
end

