-- ==== Sys2Proof/Machine/Crypto.lean ====
section
/-!
DEFINITION. SHA-256 (FIPS 180-4) and ECDSA verification on P-256 (FIPS 186), which R254, R255, R394, R401 and R404 name.
PRESUMED: the constants and steps are those of the standards that the spec cites; the spec does not repeat them.
-/

namespace Sys2Proof.Machine

/-! ### SHA-256 -/

/-- 32-bit rotation to the right. -/
def rotr (n x : Nat) : Nat := ((x >>> n) ||| (x <<< (32 - n))) % 2 ^ 32

/-- The largest `r` below `r0 + 2 ^ bits` whose `k`-th power does not exceed `n`, from a start `r0` that satisfies it. -/
def rootFrom (k n : Nat) : Nat → Nat → Nat
  | 0, r => r
  | bits + 1, r => rootFrom k n bits (if (r + 2 ^ bits) ^ k ≤ n then r + 2 ^ bits else r)

/-- The first 32 bits of the fractional part of the `k`-th root of `p`, for roots below 8. -/
def rootFraction (k p : Nat) : Nat := rootFrom k (p * 2 ^ (32 * k)) 35 0 % 2 ^ 32

/-- The primes below 312: the first 64. -/
def shaPrimes : List Nat :=
  ((List.range 312).drop 2).filter (fun n => [2, 3, 5, 7, 11, 13, 17].all (fun d => n == d || n % d != 0))

/-- The round constants: cube roots of the first 64 primes. -/
def shaK : List Nat := shaPrimes.map (rootFraction 3)

/-- The initial hash value: square roots of the first 8 primes. -/
def shaInit : List Nat := (shaPrimes.take 8).map (rootFraction 2)

/-- A number from bytes, most significant first. -/
def beNat (bs : List Nat) : Nat := bs.foldl (fun a b => a * 256 + b % 256) 0

/-- `n` bytes of a number, most significant first. -/
def beBytes : Nat → Nat → List Nat
  | 0, _ => []
  | n + 1, v => (v / 256 ^ n) % 256 :: beBytes n v

/-- The message with its padding. -/
def shaPad (msg : List Nat) : List Nat :=
  let l := msg.length
  msg ++ [0x80] ++ List.replicate ((119 - l % 64) % 64) 0 ++ beBytes 8 (8 * l)

/-- The 16 words of a block, and what is left. -/
def shaWords : Nat → List Nat → List Nat
  | 0, _ => []
  | n + 1, bs => beNat (bs.take 4) :: shaWords n (bs.drop 4)

/-- The message schedule, newest word first. -/
def shaSchedule : Nat → List Nat → List Nat
  | 0, w => w
  | n + 1, w =>
    let a := w.getD 1 0
    let b := w.getD 14 0
    let s1 := rotr 17 a ^^^ rotr 19 a ^^^ (a >>> 10)
    let s0 := rotr 7 b ^^^ rotr 18 b ^^^ (b >>> 3)
    shaSchedule n (((s1 + w.getD 6 0 + s0 + w.getD 15 0) % 2 ^ 32) :: w)

/-- One round. -/
def shaRound (h : List Nat) (kw : Nat × Nat) : List Nat :=
  let g (i : Nat) : Nat := h.getD i 0
  let s1 := rotr 6 (g 4) ^^^ rotr 11 (g 4) ^^^ rotr 25 (g 4)
  let ch := (g 4 &&& g 5) ^^^ ((2 ^ 32 - 1 - g 4) &&& g 6)
  let t1 := g 7 + s1 + ch + kw.1 + kw.2
  let s0 := rotr 2 (g 0) ^^^ rotr 13 (g 0) ^^^ rotr 22 (g 0)
  let maj := (g 0 &&& g 1) ^^^ (g 0 &&& g 2) ^^^ (g 1 &&& g 2)
  [(t1 + s0 + maj) % 2 ^ 32, g 0, g 1, g 2, (g 3 + t1) % 2 ^ 32, g 4, g 5, g 6]

/-- One block of 64 bytes. -/
def shaBlock (h : List Nat) (block : List Nat) : List Nat :=
  let w := (shaSchedule 48 (shaWords 16 block).reverse).reverse
  let r := (List.zip shaK w).foldl shaRound h
  (List.zip h r).map (fun ab => (ab.1 + ab.2) % 2 ^ 32)

/-- The blocks of a padded message in order. -/
def shaBlocks : Nat → List Nat → List Nat → List Nat
  | 0, h, _ => h
  | n + 1, h, bs => shaBlocks n (shaBlock h (bs.take 64)) (bs.drop 64)

/-- The SHA-256 digest of a byte string, as 32 bytes. -/
def sha256 (msg : List Nat) : List Nat :=
  let p := shaPad msg
  (shaBlocks (p.length / 64) shaInit p).flatMap (beBytes 4)

/-! ### P-256 -/

def p256P : Nat := 0xffffffff00000001000000000000000000000000ffffffffffffffffffffffff
def p256N : Nat := 0xffffffff00000000ffffffffffffffffbce6faada7179e84f3b9cac2fc632551
def p256B : Nat := 0x5ac635d8aa3a93e7b3ebbd55769886bc651d06b0cc53b0f63bce3c3e27d2604b
def p256G : Nat × Nat :=
  (0x6b17d1f2e12c4247f8bce6e563a440f277037d812deb33a0f4a13945d898c296,
   0x4fe342e2fe1a7f9b8ee7eb4a7c0f9e162bce33576b315ececbb6406837bf51f5)

/-- `b ^ e mod n` by repeated squaring over `k` bits. -/
def powMod (n : Nat) : Nat → Nat → Nat → Nat
  | 0, _, _ => 1 % n
  | k + 1, b, e =>
    let r := powMod n k (b * b % n) (e / 2)
    if e % 2 = 1 then b * r % n else r

/-- The inverse modulo a prime of 256 bits. -/
def invMod (n a : Nat) : Nat := powMod n 256 (a % n) (n - 2)

/-- Is the pair a point of the curve (affine, coordinates below the prime)? -/
def onCurve (q : Nat × Nat) : Bool :=
  decide (q.1 < p256P) && decide (q.2 < p256P) &&
  (q.2 * q.2) % p256P == (q.1 * q.1 * q.1 + (p256P - 3) * q.1 + p256B) % p256P

/-- The sum of two points; `none` is the point at infinity. -/
def ecAdd (a b : Option (Nat × Nat)) : Option (Nat × Nat) :=
  match a, b with
  | none, b => b
  | a, none => a
  | some (x1, y1), some (x2, y2) =>
    if x1 = x2 ∧ (y1 + y2) % p256P = 0 then none else
    let l := if x1 = x2 then (3 * x1 * x1 + p256P - 3) * invMod p256P (2 * y1) % p256P
      else (y2 + p256P - y1) * invMod p256P (x2 + p256P - x1) % p256P
    let x3 := (l * l + 2 * p256P - x1 - x2) % p256P
    some (x3, (l * (x1 + p256P - x3) + p256P - y1) % p256P)

/-- The multiple of a point, over `k` bits of the factor. -/
def ecMul : Nat → Nat → Option (Nat × Nat) → Option (Nat × Nat)
  | 0, _, _ => none
  | k + 1, e, q =>
    let r := ecMul k (e / 2) (ecAdd q q)
    if e % 2 = 1 then ecAdd q r else r

/-- ECDSA verification over a digest. -/
def ecdsaOk (key : Nat × Nat) (digest : List Nat) (r s : Nat) : Bool :=
  if r = 0 ∨ p256N ≤ r ∨ s = 0 ∨ p256N ≤ s ∨ onCurve key = false then false else
  let w := invMod p256N s
  let u1 := beNat digest * w % p256N
  let u2 := r * w % p256N
  match ecAdd (ecMul 256 u1 (some p256G)) (ecMul 256 u2 (some key)) with
  | none => false
  | some (x, _) => x % p256N == r

end Sys2Proof.Machine
end

