-- ==== Sys2Proof/Machine/Areas.lean ====
section
/-!
DEFINITION. The layout of a settings area in Beryl: its header and records (R398).
-/

namespace Sys2Proof.Machine

/-- The addresses of a register's instances. -/
def instAddrs (base : Nat) : List (Nat × Nat) → List Nat
  | [] => [base]
  | (s, c) :: rest => (List.range c).flatMap (fun i => instAddrs (base + s * i) rest)

/-- The registers of block `b` with an NV field. -/
def nvAddrsOf (b : Nat) : List Nat :=
  ((blockRegs b).filter (fun r => r.flds.any (fun d => d.nv))).flatMap (fun r => instAddrs (0x40000000 + b * 0x10000 + r.off) r.dims)

/-- The (address, value) pairs of the registers of some blocks. -/
def regPairs (regs : Tab Word) (bs : List Nat) : List Word :=
  (bs.flatMap nvAddrsOf).flatMap (fun a => [w32 a, tget (regReset a) regs a])

/-- Two entries of a curve in each word. -/
def curveWords : List Nat → List Word
  | a :: b :: rest => w32 (a + b * 65536) :: curveWords rest
  | [a] => [w32 a]
  | [] => []

/-- The records of an area, as tag and words (R398). DESIGN CHOICE (the spec gives the tag of the registers alone): 0x02 a transfer curve after
its tile; 0x03 a coefficient bank after its key; 0x04 the loops whose bank B is active; 0x05 the members of a group after its number; 0x06 and
0x07 the words and the lengths of the Aurora programs and the gamma table, as pairs; 0x08 the safety settings, sealed by a CRC-32C of their
own (R319). -/
def settingsRecords (s : Settings) : List (Nat × List Word) :=
  let saf := regPairs s.regs [14]
  [(1, regPairs s.regs ((List.range 26).filter (· != 14)))] ++ s.curves.map (fun e => (2, w32 e.1 :: curveWords e.2)) ++
    s.banks.map (fun e => (3, w32 e.1 :: bytesWords e.2)) ++ [(4, [w32 s.active])] ++ s.members.map (fun e => (5, w32 e.1 :: e.2.map w32)) ++
    [(6, s.progs.flatMap (fun e => [w32 e.1, e.2])), (7, s.lens.flatMap (fun e => [w32 e.1, w32 e.2])),
      (8, saf ++ [w32 (crc crc32c (wordsBytes saf))])] ++ s.others

/-- The records as bytes. -/
def recordBytes (s : Settings) : List Nat :=
  (settingsRecords s).flatMap (fun r => wordsBytes (w32 (r.1 * 2 ^ 24 + r.2.length) :: r.2))

/-- The check of an area: CRC-32C over bytes 0 to 59 of the header and the records. -/
def settingsCrc (s : Settings) : Word :=
  let head := wordBytes (w32 s.magic) ++ wordBytes (w32 s.fmt) ++ wordBytes (w32 s.gen) ++ wordBytes (w32 s.len) ++ List.replicate 44 0
  w32 (crc crc32c (head ++ recordBytes s))

/-- An area with its length and its check. -/
def sealSettings (s : Settings) : Settings :=
  let s := { s with magic := 0x5E771A6B, len := (recordBytes s).length }
  { s with crc := settingsCrc s }

/-- Does the area pass its check (R398)? -/
def settingsPass (s : Settings) : Bool := s.magic == 0x5E771A6B && s.crc == settingsCrc s

/-- An area that fails its check. -/
def spoilSettings (s : Settings) : Settings := { s with crc := ~~~(settingsCrc s) }

/-- The settings areas lie in 8,192 lines each (R390); the header line, which holds the check, is written last (R399). -/
def areaLine (b : Bool) : Nat := 64 * (if b then 2432 else 2304)

end Sys2Proof.Machine
end

