-- ==== Sys2Proof/Machine/TimingOps.lean ====
section
/-!
DEFINITION. The checks of TIMING_SET (R192, R202) and of racing settings (R151), and the moves of placement plans (R117 to R120).
-/

namespace Sys2Proof.Machine

/-! ### TIMING_SET (R192, R202) -/

/-- A timing set takes effect: groups of tiles, and with them beam modes, may change, and placement follows (R23, R25, R346). -/
def applyTiming (g : Nat) (ws : List Word) (m : Mach) : Mach :=
  m |> setTiming g ws |> fitEngines |> showRates |> showBeams |> mapCause |> fitStores |> assignTiles g

/-- The six registers of group `g`. -/
def timingWords (m : Mach) (g : Nat) : List Word :=
  [reg m (rSCN_GEOM g), reg m (rSCN_HTIME g), reg m (rSCN_VTIME g), reg m (rSCN_RATE g), reg m (rSCN_SYNC g),
    reg m (rSCN_TILES g)]

/-- The ranges of the field tables (R204). -/
def timingFieldsOk (ws : List Word) : Bool :=
  let geom := ws.getD 0 0
  let ht := ws.getD 1 0
  let vt := ws.getD 2 0
  let rate := ws.getD 3 0
  let sync := ws.getD 4 0
  let w := fget geom fSCN_GEOM_WIDTH
  let h := fget geom fSCN_GEOM_HEIGHT
  let hs := fget ht fSCN_HTIME_SYNC
  let vs := fget vt fSCN_VTIME_SYNC
  let hp := fget ht fSCN_HTIME_PORCH
  let vp := fget vt fSCN_VTIME_PORCH
  let r := fget rate fSCN_RATE_RATE
  clean geom [(31, 30), (28, 16), (12, 0)] && clean ht [(31, 12)] && clean vt [(31, 12)] && clean rate [(31, 31), (12, 0)] &&
  clean sync [(31, 31), (26, 24), (22, 20), (11, 0)] && clean (ws.getD 5 0) [(23, 0)] &&
  decide (fget geom fSCN_GEOM_DEPTH < 3) && decide (1 ≤ h) && decide (h ≤ 1536) && decide (1 ≤ w) && decide (w ≤ 2048) &&
  decide (1 ≤ hs) && decide (1 ≤ vs) && decide (hs + hp + w ≤ 8191) && decide (vs + vp + h ≤ 4095) &&
  decide (4 ≤ vs + vp) && decide (960 ≤ r) && decide (r ≤ 6400) && decide (fget sync fSCN_SYNC_RATIO ≤ 6)

/-- A LEAD within the limit of R151 for a VTOTAL above 0. -/
def leadFits (w : Word) (vt : Nat) : Bool :=
  fget w fCMP_GRP_CFG_RACING == 0 || decide (fget w fCMP_GRP_CFG_LEAD + 8 ≤ vt)

/-- Every racing setting of group `g`, pending, committed or active, fits VTOTAL (R202). -/
def leadsFit (m : Mach) (g : Nat) : Bool :=
  let r := grpOf m g
  let ok (o : Option Word) : Bool := (o.map (fun w => leadFits w (vtotal m g))).getD true
  ok (some (reg m (rCMP_GRP_CFG g))) && ok r.com.racing && ok r.late.racing &&
    (List.range 4).all (fun c => ok (gpendOf m c g).racing)

/-- The two tiles of every enabled overlap pair are in one group (R168, R202). -/
def pairsTogether (m : Mach) : Bool :=
  (List.range 12).all (fun k =>
    let a := rPHO_OVL_PAIR k
    let ga := groupOf m (getF m a fPHO_OVL_PAIR_TILE_A)
    !flag m a fPHO_OVL_PAIR_EN || (ga.isSome && ga == groupOf m (getF m a fPHO_OVL_PAIR_TILE_B)))

/-- Does group `k`, where it is locked, keep the rules of R192: a master that is another group and not itself locked, an OFFSET below
its VTOTAL, and 60 to 400 Hz? -/
def lockFits (m : Mach) (k : Nat) : Bool :=
  let r := cfgRate m k
  let ma := masterOf m k
  !lockedCfg m k || (ma != k && !lockedCfg m ma && decide (getF m (rSCN_SYNC k) fSCN_SYNC_OFFSET < vtotal m ma) &&
    decide (960 * r.2 ≤ r.1) && decide (r.1 ≤ 6400 * r.2))

/-- The lock rules of R192 for group `g`, whose master must be enabled, and for the groups locked to it. -/
def lockOk (m : Mach) (g : Nat) : Bool :=
  (!lockedCfg m g || enabledGrp m (masterOf m g)) && (g :: slavesOf m g).all (lockFits m)

/-- No tile of the mask of group `g` is in another enabled group (R202). -/
def tilesFree (m : Mach) (g : Nat) : Bool :=
  (members 24 (getF m (rSCN_TILES g) fSCN_TILES_MASK)).all (fun t =>
    (List.range 8).all (fun k => k == g || !enabledGrp m k || !grpHolds m k t))

/-- A placement plan for the group is under way (R202). -/
def planBusy (m : Mach) (g : Nat) : Bool := m.pix.plan.any (fun v => hasBit v.groups g)

/-- The status with which a timing set is refused (R202), if it is. The sets that other groups have had accepted and that wait for their
latch count as well as the timing in force. -/
def timingRefused (m : Mach) (g : Nat) (ws : List Word) : Option Nat :=
  let n := setTiming g ws (setGrp g { grpOf m g with tset := none } m)
  let fits (k : Mach) : Bool := tilesFree k g && pairsTogether k && leadsFit k g && lockOk k g
  if !timingFieldsOk ws || !(admitted n).all fits then some stBAD_PARAM
  else if planBusy m g then some stBUSY
  else if enabledGrp n g && !admits n g then some stNO_RESOURCE
  else none

/-! ### Frames of locked groups (R191, R192) -/

/-- Has group `g` a master that runs? -/
def follows (m : Mach) (g : Nat) : Bool := lockedCfg m g && grpRuns m (masterOf m g)

/-- Is group `g` in the last line of its frame? -/
def lastLine (m : Mach) (g : Nat) : Bool := lineOf m g + 1 == vtotal m g

/-- Is group `g` to lock again: its master runs, and it does not follow it yet? -/
def relocks (m : Mach) (g : Nat) : Bool := follows m g && !flag m (rSCN_GRP_STAT g) fSCN_GRP_STAT_LOCKED

/-! ### Placement (R35, R36, R117 to R120) -/

/-- The first move of plan `n` takes effect: PLC_GEN counts and PLACEMENT_CHANGED is sent (R117). -/
def planTakesEffect (n : Nat) (m : Mach) : Mach :=
  if !m.pix.planNew.contains n then m
  else
    let m := m |> setPix (fun s => { s with planNew := s.planNew.filter (· != n) }) |> wrapInc rPLC_GEN fPLC_GEN_GEN
    eventAll 5 [reg m rPLC_GEN] m

/-- The content of a fenced region that a move rebuilds is no longer lost (R37): a tile's frame store, or the region that it names. -/
def rebuilt (v : MoveRec) (m : Mach) : Mach :=
  setPix (fun s => { s with lost :=
    if v.kind = 2 then (s.lost.map (fun e => if e.1 / 64 = 1 then (e.1, clrBit e.2 v.tile) else e)).filter (fun e => e.2 != 0)
    else match v.src with
      | some r => tput 0 s.lost (64 * v.use + r) 0
      | none => s.lost }) m

/-- What could no longer be read of the content that a move brings is restored (R120, R163, R176). -/
def restoreLost (v : MoveRec) (m : Mach) : Mach :=
  let fenced := (v.src.map (dramFenced m)).getD false
  let m := rebuilt v m
  if v.kind ≠ 3 then m
  else if v.use = 2 then m |> loadSlices v.bad v.lost |> showPass
  else if v.use = 3 then forEach v.lost (loadUnif v.bad) m
  else if v.use = 5 ∧ fenced = true then m |> loadMaps v.bad |> mapCause
  else m

/-- Onyx has copied the map sets of a move and finds one whose copy does not agree with its MAP_CRC (R173): `bad` names the copies that
fail, 4 × tile + beam mode. -/
def copyFails (m : Mach) (v : MoveRec) : Bool :=
  v.kind == 3 && v.use == 5 && !(v.src.map (dramFenced m)).getD false &&
    (List.range 24).any (fun t => (List.range 4).any (fun b =>
      hasBit (getF m (rPHO_MAP_STAT t) fPHO_MAP_STAT_VALID) b && hasBit v.bad (4 * t + b)))

/-- The frame period of group `g` in PIX cycles. -/
def framePeriod (m : Mach) (g : Nat) : Nat := 9600000000 / rateEff m g

/-- The engines that a move of kind 4 names are in service (R345). -/
def moveInService (m : Mach) (v : MoveRec) : Bool :=
  (enginesUp m).contains v.engA && (v.engB == 0xF || (enginesUp m).contains v.engB)

/-- A move has taken effect for every group that its object serves; its source is released one frame period later (R117). No tile goes
to an engine that has been fenced since the decision (R345). -/
def moveTakesEffect (v : MoveRec) (m : Mach) : Mach :=
  let m := when (v.kind == 4 && moveInService m v) (fun m => m |> setEngines v.tile v.engA v.engB v.split |> showLeads) m
  let m := match v.dst with
    | some d =>
      let from_ := (v.src.map (fun r => tget 0 m.pix.content r)).getD (tget 0 m.pix.content d)
      m |> setRegionUse d (if dramFenced m d then 14 else v.use) |> setPix (fun s => { s with content := tput 0 s.content d from_ })
    | none => m
  restoreLost v m

/-- A move is given up: its destination joins the spare regions (R173). -/
def dropMove (v : MoveRec) (m : Mach) : Mach :=
  match v.dst with
  | some d => setRegionUse d (if dramFenced m d then 14 else 0) m
  | none => m

/-- The moves `acts` of the plan under way take effect for group `g` now (R117): PLC_GEN counts with the first move of a plan, and an object
that serves several groups has switched when the last of them has. DESIGN CHOICE: a move of map sets with a copy that fails its check
ends there, its content staying where it was; R173 says only that it does not switch. -/
def movesAct (g : Nat) (acts : MoveRec → Bool) (m : Mach) : Mach :=
  let fails := m.pix.plan.filter (fun v => acts v && copyFails m v)
  let m := forEach fails dropMove (setPix (fun s => { s with plan := s.plan.filter (fun v => !(acts v && copyFails m v)) }) m)
  let now := m.pix.plan.filter acts
  let ends := now.filter (fun v => clrBit v.left g == 0)
  let step (v : MoveRec) : MoveRec :=
    { v with left := clrBit v.left g, freeAt := if clrBit v.left g = 0 then some (m.now + framePeriod m g) else none }
  m |> setPix (fun s => { s with plan := s.plan.map (fun v => if acts v then step v else v) }) |>
    forEach now (fun v => planTakesEffect v.plan) |> forEach ends moveTakesEffect

/-- A move that switches at a frame boundary of group `g` and has not done so. -/
def MoveRec.waits (g : Nat) (v : MoveRec) : Bool := hasBit v.left g && v.kind != 1 && v.freeAt.isNone

/-- The moves of group `g` at a frame boundary (R117, R119): all that change the group take effect together, once every copy is done and
every move has reached its boundary. -/
def movesAtBoundary (g : Nat) (m : Mach) : Mach :=
  let mine := m.pix.plan.filter (MoveRec.waits g)
  if mine.isEmpty then m
  else if mine.all (fun v => v.copied && decide (v.wait ≤ 1)) then movesAct g (MoveRec.waits g) m
  else setPix (fun s => { s with plan := s.plan.map (fun v => if v.waits g then { v with wait := v.wait - 1 } else v) }) m

/-- A group that does not run has no frame boundary and shows nothing: its moves take effect once every copy is done. -/
def movesIfStopped (g : Nat) (m : Mach) : Mach :=
  when (!grpRuns m g && (m.pix.plan.filter (MoveRec.waits g)).all MoveRec.copied) (movesAct g (MoveRec.waits g)) m

end Sys2Proof.Machine
end

