-- ==== Sys2Proof/Machine/Latch.lean ====
section
/-!
DEFINITION. The latch instant of a group (R186), its stop instant (R203) and its lines (R185, R187, R189), with the signatures
of what leaves the ports (R199 to R201).
-/

namespace Sys2Proof.Machine

/-! ### Signatures -/

/-- Is the comparison of signatures on (SCN_SIG_CFG)? -/
def sigOn (m : Mach) : Bool := flag m rSCN_SIG_CFG fSCN_SIG_CFG_SIG_EN

/-- The signature of the frame that ends at this latch is kept, with those of the 7 frames before it (R199, R201). -/
def keepSig (g t : Nat) (m : Mach) : Mach :=
  let r := pixOf m t
  let out := r.sigOut || !sigOn m || !isPlaced m t || flag m (rSCN_GRP_STAT g) fSCN_GRP_STAT_PRIME
  let rec0 : SigRec := { frame := frameOf m g, sig := crcEnd crc32c r.sigReg, excluded := out }
  setTilePix t { r with sigs := (rec0 :: r.sigs).take 8 } m

/-- Is the kept signature still awaiting its report? -/
def SigRec.awaits (s : SigRec) (f : Nat) : Bool := s.frame == f && !s.compared && !s.excluded

/-- The signature of frame `f` counts as compared. -/
def markCompared (f : Nat) (sigs : List SigRec) : List SigRec :=
  sigs.map (fun s => if s.frame = f then { s with compared := true } else s)

/-- No report of frame `f` has come before the latch that closes its window (R200). -/
def sigMiss (t f : Nat) (m : Mach) : Mach :=
  let r := pixOf m t
  if !sigOn m || !r.sigs.any (fun s => s.awaits f) then m
  else
    let n := r.misses + 1
    let mx := getF m rSCN_SIG_CFG fSCN_SIG_CFG_MISS_MAX
    let m := m |> setTilePix t { r with sigs := markCompared f r.sigs, misses := n } |>
      bump (rSCN_SIG_CNT t) fSCN_SIG_CNT_MISS
    if 0 < mx ∧ mx ≤ n ∧ !hasBit m.sigMissed t then
      { m with sigMissed := setBit m.sigMissed t } |> raise 277 (detail t 0)
    else m

/-- A SIGNATURE report of tile `t` (R200, R201). -/
def sigReport (t f got : Nat) (m : Mach) : Mach :=
  let r := pixOf m t
  if !sigOn m then m else
  match r.sigs.find? (fun s => s.frame == f) with
  | none => bump (rSCN_SIG_CNT t) fSCN_SIG_CNT_STRAY m
  | some s =>
    if s.excluded then m
    else if s.compared then bump (rSCN_SIG_CNT t) fSCN_SIG_CNT_STRAY m
    else
      let m := { m with sigMissed := clrBit m.sigMissed t } |>
        setTilePix t { r with sigs := markCompared f r.sigs, misses := 0 } |> retryFrame t (s.sig == got)
      if s.sig = got then m
      else
        m |> bump (rSCN_SIG_CNT t) fSCN_SIG_CNT_MISMATCH |> setReg (rSCN_SIG_FRM t) (w32 f) |>
          setReg (rSCN_SIG_EXP t) (w32 s.sig) |> setReg (rSCN_SIG_GOT t) (w32 got) |> raise (205 + t) noInst

/-! ### The committed set becomes active (R195) -/

/-- The group of layer `i`. -/
def layGroup (m : Mach) (i : Nat) : Option Nat := groupOf m (layTile m i)

/-- Has layer `i` something committed? -/
def LayRec.committed (r : LayRec) : Bool := r.com.isSome || r.comBuf.isSome || r.late.isSome || r.lateBuf.isSome

/-- Does the committed set of group `g` hold a change not yet latched? -/
def hasCommitted (m : Mach) (g : Nat) : Bool :=
  (grpOf m g).com != {} || (grpOf m g).late != {} ||
    (usedLays m).any (fun n => (layOf m n).committed && layGroup m n == some g)

/-- SCN_COMMIT_STATUS[g].PEND shows whether it does. -/
def showPend (g : Nat) (m : Mach) : Mach := setB (rSCN_COMMIT_STATUS g) fSCN_COMMIT_STATUS_PEND (hasCommitted m g) m

/-- LYR_DESC_* of layer `n` take a descriptor. -/
def showDesc (n : Nat) (d : List Word) (m : Mach) : Mach :=
  m |> setReg (rLYR_DESC_CTL n) (d.getD 0 0) |> setReg (rLYR_DESC_DST n) (d.getD 1 0) |>
    setReg (rLYR_DESC_SIZE n) (d.getD 2 0) |> setReg (rLYR_DESC_SRC n) (d.getD 3 0) |> setReg (rLYR_DESC_FILL n) (d.getD 4 0)

/-- The committed descriptor and buffer of layer `n` become active; those of a late commit are committed now (R196). -/
def activateLay (n : Nat) (m : Mach) : Mach :=
  let r := layOf m n
  let m := match r.com with
    | some d => showDesc n d m
    | none => m
  let m := match r.comBuf with
    | some h => setReg (rLYR_DESC_BUF n) (w32 h) m
    | none => m
  setLay n { r with com := r.late, comBuf := r.lateBuf, late := none, lateBuf := none } m

/-- A mesh of tile `t` becomes active (R136). DESIGN CHOICE: a TIMING_SET that changes the geometry leaves the mesh and the SPAN shown for it
as they are; the spec does not say. -/
def activateMesh (g t : Nat) (mesh : List MeshPt) (m : Mach) : Mach :=
  m |> setTilePix t { pixOf m t with mesh := mesh } |> setB (rWRP_MESH_STAT t) fWRP_MESH_STAT_VALID true |>
    setF (rWRP_MESH_STAT t) fWRP_MESH_STAT_SPAN (meshSpan mesh (geomW m g) (geomH m g))

/-- The changes of a group other than its layers become active. -/
def activateSet (g : Nat) (s : GSet) (m : Mach) : Mach :=
  let m := match s.stack with
    | some ents => showStack g ents m
    | none => m
  let m := match s.matrix with
    | some ws => forEach ws.zipIdx (fun e m => setReg (rCMP_MATRIX g e.2) e.1 m) m
    | none => m
  let m := match s.racing with
    | some w =>
      m |> setF (rCMP_GRP_CFG g) fCMP_GRP_CFG_RACING (fget w fCMP_GRP_CFG_RACING) |>
        setF (rCMP_GRP_CFG g) fCMP_GRP_CFG_LEAD (fget w fCMP_GRP_CFG_LEAD) |>
        setF (rCMP_GRP_CFG g) fCMP_GRP_CFG_STALE (fget w fCMP_GRP_CFG_STALE)
    | none => m
  forEach s.meshes (fun e m => activateMesh g e.1 e.2 m) m

/-- The layers of group `g` that are being retired leave its stacks (R111). -/
def retireAtLatch (g : Nat) (m : Mach) : Mach :=
  forEach ((usedLays m).filter (fun n => (layOf m n).retiring && layGroup m n == some g))
    (fun n m => m |> strikePending n |> strikeLatched g n |> setLay n { layOf m n with left := true }) m

/-- The committed set of group `g` becomes active, and what was committed too late for it is committed now (R195, R196). -/
def activate (g : Nat) (m : Mach) : Mach :=
  let m := forEach ((usedLays m).filter (fun n => layGroup m n == some g)) activateLay m
  let r := grpOf m g
  m |> setGrp g { r with com := r.late, late := {}, comCtx := r.lateCtx, lateCtx := 0 } |> activateSet g r.com |> retireAtLatch g

/-! ### What a latch takes (R149, R155) -/

/-- G_TILE of tile `t` (R169): FLOOR while no report of the last 100 ms gives its temperature. -/
def gTile (m : Mach) (t : Nat) : Nat :=
  let a := rPHO_DERATE_A t
  let floor := getF m a fPHO_DERATE_A_FLOOR
  match (tileOf m t).tempAt with
  | none => floor
  | some at_ =>
    if ms 100 < m.now - at_ then floor
    else tileGain (sgn 16 (getF m (rTIL_TEMP t) fTIL_TEMP_TEMP)) (getF m (rPHO_DERATE_B t) fPHO_DERATE_B_KNEE)
      (getF m a fPHO_DERATE_A_SLOPE) floor

/-- Is tile `t` lost as this latch sees it: a change counts 4 PIX cycles later (R167)? -/
def lostAtLatch (m : Mach) (t : Nat) : Bool :=
  match (pixOf m t).loss.find? (fun e => decide (m.now < e.1 + 4)) with
  | some e => e.2
  | none => tileLost m t

/-- The pair of tile `t`: its own normal share and its partner. -/
def pairOf (m : Mach) (t : Nat) : Option (Nat × Nat) :=
  ((List.range 12).filterMap (fun k =>
    let a := rPHO_OVL_PAIR k
    let ta := getF m a fPHO_OVL_PAIR_TILE_A
    let tb := getF m a fPHO_OVL_PAIR_TILE_B
    let sh := getF m a fPHO_OVL_PAIR_SHARE_A
    if !flag m a fPHO_OVL_PAIR_EN then none
    else if t = ta then some (sh, tb)
    else if t = tb then some (32768 - sh, ta)
    else none)).head?

/-- The share of tile `t` from this latch on (R166, R167), and whether it carries its partner's. -/
def shareOf (m : Mach) (t : Nat) : Option Nat × Bool :=
  match pairOf m t with
  | none => (none, false)
  | some (own, partner) =>
    let lost := lostAtLatch m t
    if lostAtLatch m partner = lost then (some own, false)
    else if lost then (some 0, false)
    else (some 32768, true)

/-- Gs of tile `t` with its share and, in generic mode, GEN_CAP: formed at full precision and rounded once (R153, R256). -/
def gScale (m : Mach) (g t : Nat) (share : Option Nat) : Nat :=
  let s := getF m (rPHO_GAIN_GLOBAL g) fPHO_GAIN_GLOBAL_SCALE
  let sh := share.getD 32768
  let cap := if isGeneric m t then getF m rTIL_AUTH_CFG fTIL_AUTH_CFG_GEN_CAP else 32768
  min 65535 (rdivN (s * sh * cap) (32768 * 32768))

/-- The dead-pixel list in force: the newest one received 2 ms before this latch or earlier (R165). -/
def deadInForce (m : Mach) (t : Nat) : List (Nat × Nat) :=
  (((pixOf m t).deads.find? (fun e => decide (e.1 + ms 2 ≤ m.now))).map Prod.snd).getD []

/-- What the latch takes of tile `t`. -/
def tileCfg (m : Mach) (g t : Nat) : TileCfg :=
  let r := pixOf m t
  let sh := (shareOf m t).1
  { mesh := r.mesh, dead := deadInForce m t, curve := if isGeneric m t then [] else r.curve
    gt := gainMul (gTile m t) (getF m rTHM_OUT fTHM_OUT_G_DIE), gs := gScale m g t sh, share := sh }

/-- What the latch takes of group `g`. -/
def grpCfg (m : Mach) (g : Nat) : GrpCfg :=
  let c := rCMP_GRP_CFG g
  let pose := rWRP_GRP_POSE g
  let ent (e : Word) : EntCfg :=
    let n := fget e fCMP_STACK_LAYER
    { layer := n, gfm := fget e fCMP_STACK_GFM != 0, mode := fget e fCMP_STACK_MODE, op := fget e fCMP_STACK_OPACITY
      desc := activeDesc m n, buf := (reg m (rLYR_DESC_BUF n)).toNat }
  { ents := (stackOf m g).map ent
    bufs := ((usedLays m).filter (fun n => layGroup m n == some g && !(layOf m n).left && reg m (rLYR_DESC_BUF n) != 0)).map
      (fun n => (reg m (rLYR_DESC_BUF n)).toNat)
    matrix := (List.range 6).map (fun k => reg m (rCMP_MATRIX g k))
    racing := flag m c fCMP_GRP_CFG_RACING, lead := getF m (rCMP_RACE_STAT g) fCMP_RACE_STAT_LEAD_EFF, stale := getF m c fCMP_GRP_CFG_STALE
    pitchEn := flag m pose fWRP_GRP_POSE_PITCH_EN, yawEn := flag m pose fWRP_GRP_POSE_YAW_EN
    maskAge := getF m pose fWRP_GRP_POSE_MASK_AGE, wear := m.pix.wearTab
    tiles := (tilesOf m g).map (fun t => (t, tileCfg m g t)) }

/-- The registers that show what was latched of tile `t`. -/
def showTile (g t : Nat) (m : Mach) : Mach :=
  let gt := gTile m t
  let c := tileCfg m g t
  m |> setF (rPHO_THERM t) fPHO_THERM_G_TILE gt |> setF (rPHO_THERM t) fPHO_THERM_G_APPLIED c.gt |>
    setB (rPHO_TILE_STAT t) fPHO_TILE_STAT_CARRY (shareOf m t).2 |> setB (rPHO_MAP_STAT t) fPHO_MAP_STAT_CURVE (!c.curve.isEmpty)

/-! ### Maps at a latch -/

/-- A new uniformity map is taken into use; one whose size does not match the geometry is lost (R157). `retime`: the
geometry may have changed. -/
def latchUnif (g t : Nat) (retime : Bool) (m : Mach) : Mach :=
  let r := pixOf m t
  let m := match r.unifNew with
    | some u => setTilePix t { r with unif := u, unifNew := none } m
    | none => m
  let u := (pixOf m t).unif
  let need := geomW m g * geomH m g * (if tileRgb m t then 3 else 1)
  when ((retime || r.unifNew.isSome) && !u.isEmpty && u.length != need) (raise 131 (detail t 0)) m

/-- Map sets that Onyx has verified replace the old ones; a set of another geometry is not valid (R174 to R176). -/
def latchMaps (g t : Nat) (m : Mach) : Mach :=
  let m := forEach (pixOf m t).setsNew (fun e m =>
    let r := pixOf m t
    let st := rPHO_MAP_STAT t
    m |> setTilePix t { r with
        sets := tput {} r.sets e.1 e.2
        setsNew := tput {} r.setsNew e.1 {}
        toFlash := if e.2.persist then r.toFlash ++ [e.1] else r.toFlash } |>
      setF st fPHO_MAP_STAT_VALID (setBit (getF m st fPHO_MAP_STAT_VALID) e.1)) m
  forEach [0, 1, 2, 3] (fun b m =>
    let s := tget {} (pixOf m t).sets b
    let st := rPHO_MAP_STAT t
    when (hasBit (getF m st fPHO_MAP_STAT_VALID) b && (s.w != geomW m g || s.h != geomH m g))
      (setF st fPHO_MAP_STAT_VALID (clrBit (getF m st fPHO_MAP_STAT_VALID) b)) m) m

/-! ### Timing and ports at a latch -/

/-- The match test of a latch that applies a TIMING_SET (R257, R258). -/
def retest (t : Nat) (m : Mach) : Mach :=
  let st := tileState m t
  if st = 3 ∨ st = 4 ∨ st = 7 then
    if tileMatches m t then m
    else m |> setF (rTIL_STAT t) fTIL_STAT_CAUSE 7 |> toTileState t 6 |> renewSetup t
  else if st = 6 ∧ tileMatches m t then
    m |> setTile t { tileOf m t with resume := true, healthAt := m.now } |> toTileState t (tileOf m t).authGave |> mapTile t |> renewSetup t
  else m

/-- The group of a placed tile shows in the placement map. -/
def showGroup (g t : Nat) (m : Mach) : Mach :=
  when (isPlaced m t) (fun m => m |> setB (rPLC_TILE_MAP t) fPLC_TILE_MAP_VALID true |> setF (rPLC_TILE_MAP t) fPLC_TILE_MAP_GROUP g) m

/-- A TIMING_SET that waited takes effect and is answered (R203). -/
def takeTiming (g : Nat) (m : Mach) : Mach :=
  match (grpOf m g).tset with
  | none => m
  | some ws =>
    let m := m |> setGrp g { grpOf m g with tset := none } |> applyTiming g ws
    forEach (m.pends.filter (fun p => p.kind == .timing && p.key == g)) (fun _ m => finish .timing g (ok []) m) m

/-- STAT of a twin pair from the members in service (CPL_TWIN). -/
def twinStat (prim twin : Bool) : Nat := if prim && twin then 0 else if prim then 1 else if twin then 2 else 3

/-- The map names the members of the pair that are in service, if any is. -/
def mapTwin (t stat : Nat) (m : Mach) : Mach :=
  let a := rCPL_TWIN t
  let prim := getF m a fCPL_TWIN_PRIMARY
  let twin := getF m a fCPL_TWIN_TWIN
  let m := setF a fCPL_TWIN_STAT stat m
  if stat = 3 then m else remapTile t (if stat = 2 then twin else prim) (if stat = 0 then twin else 0x1F) m

/-- A TWIN_SET takes effect (R239, R244). -/
def applyTwin (t : Nat) (w : Word) (m : Mach) : Mach :=
  let m := setReg (rCPL_TWIN t) (w &&& 0x80001F1F) m
  let up (p : Nat) : Bool := portState m p == 4
  if fget w fCPL_TWIN_EN = 0 then remapTile t (carryPort m t) 0x1F m
  else mapTwin t (twinStat (up (fget w fCPL_TWIN_PRIMARY)) (up (fget w fCPL_TWIN_TWIN))) m

/-- Has port `p` been in UP for 100 ms without a break (R241, R242)? -/
def up100 (m : Mach) (p : Nat) : Bool := portState m p == 4 && decide ((portOf m p).upSince + ms 100 ≤ m.now)

/-- The pair as the latch of a rejoining member leaves it (R241); a member whose identity is still being checked, or which presented another
SERIAL, stays lost (R247). -/
def rejoinStat (m : Mach) (t : Nat) : Nat :=
  let a := rCPL_TWIN t
  let st := getF m a fCPL_TWIN_STAT
  let back (p : Nat) : Bool := up100 m p && !hasBit (tileOf m t).badPorts p && !(tileOf m t).checks.any (fun e => e.port == p)
  twinStat (st == 0 || st == 1 || back (getF m a fCPL_TWIN_PRIMARY)) (st == 0 || st == 2 || back (getF m a fCPL_TWIN_TWIN))

/-- A waiting TWIN_SET takes effect, a twin member rejoins, or a spare takes over (R241, R242, R244). -/
def latchPorts (t : Nat) (m : Mach) : Mach :=
  let r := pixOf m t
  let m := setTilePix t { r with rejoin := false, toSpare := none, twinNew := none } m
  let m := match r.twinNew with
    | some w => applyTwin t w m
    | none => m
  let m := if r.rejoin && flag m (rCPL_TWIN t) fCPL_TWIN_EN then mapTwin t (rejoinStat m t) m else m
  match r.toSpare with
  | none => m
  | some p =>
    m |> setTilePix t { pixOf m t with former := some (carryPort m t) } |> remapTile t p 0x1F |> raise 279 (detail t 0)

/-- Tile `t` receives frames again from this latch on (R258). -/
def resumeTile (t : Nat) (m : Mach) : Mach :=
  let st := tileState m t
  when ((tileOf m t).resume && (st == 3 || st == 4) && portState m (carryPort m t) == 4)
    (fun m => setTile t { tileOf m t with resume := false } m) m

/-- A block of tile `t` goes out; with no carrying port in UP the frame has no signature (R187, R201). -/
def sendTile (t type : Nat) (words : List Word) (sigBytes : List Nat) (m : Mach) : Mach :=
  match sendPorts m t with
  | [] => setTilePix t { pixOf m t with sigOut := true } m
  | ps =>
    let m := sendAll ps type words m
    setTilePix t { pixOf m t with sigReg := crcRun crc32c (pixOf m t).sigReg sigBytes } m

/-- The blocks of one row of tile `t` (R218). -/
def rowCount (m : Mach) (g t : Nat) : Nat := 1 + cdiv (geomW m g * pixelBits m g t) 2048

/-- A sync or porch line of tile `t`, of which `used` slots are taken: waiting messages go, and at least one FILL (R218, R219, R248). A
line has a slot for each block of a row and one for the block in progress at its start. -/
def sendIdleLine (g t used : Nat) (m : Mach) : Mach :=
  m |> lineMsgs t (rowCount m g t - 1 - used) |> fillAll (sendPorts m t)

/-- The line period in ns, unsigned 24.8, of RATE_EFF and VTOTAL (R187). -/
def linePeriod (rate vt : Nat) : Nat :=
  let num := 16 * 1000000000 * 256
  num / (rate * vt) + (if num % (rate * vt) ≠ 0 ∧ Config.lineRound rate vt then 1 else 0)

/-- FRAME_START of the frame that begins (R187). -/
def frameStartWords (m : Mach) (g : Nat) : List Word :=
  pad64 [w32 (frameOf m g), reg m (rSCN_GEOM g), reg m (rSCN_HTIME g), reg m (rSCN_VTIME g),
    w32 (linePeriod (rateEff m g) (vtotal m g))]

/-- A frame begins for tile `t`: signature, FRAME_START, bands (R149, R187, R199). -/
def beginFrame (g t : Nat) (wasRacing prime : Bool) (m : Mach) : Mach :=
  let r := pixOf m t
  let f := frameOf m g
  let keep := wasRacing && (r.frame == f || r.frame == (f + 1) % 2 ^ 32)
  let r := { r with
    sigReg := crc32c.init, sigOut := prime
    frame := if keep then r.frame else if wasRacing then f else (f + 1) % 2 ^ 32
    band := if keep then r.band else 0
    ceilN := if keep then r.ceilN else 0
    floorN := if keep then r.floorN else 0
    maskRows := if keep then r.maskRows else [] }
  let m := setTilePix t r m
  m |> when (!prime) (sendTile t 3 (frameStartWords m g) (wordBytes (w32 f))) |> sendIdleLine g t (b2n (!prime))

/-! ### The START cause (R311) -/

/-- The cause START: until the self-test has passed and every group started at B7 has sent frame 1. -/
def startCause (m : Mach) : Mach :=
  causeIs 0 (!m.saf.selfTested || !m.saf.started || m.saf.awaitFrame != 0) m

/-- Group `g` has sent frame 1. -/
def frameOneSent (g : Nat) (m : Mach) : Mach :=
  if hasBit m.saf.awaitFrame g then startCause { m with saf := { m.saf with awaitFrame := clrBit m.saf.awaitFrame g } } else m

/-! ### LATCH -/

/-- The instant n/k lines after the last latch of group `g`. -/
def linesAfter (m : Mach) (g n k : Nat) : Nat := (grpOf m g).latchAt + cdiv (n * 9600000000) (rateEff m g * vtotal m g * k)

/-- The instant n/k lines after the latch before the last one of group `g`, in the lines as they were and are. -/
def linesAfterWas (m : Mach) (g n k : Nat) : Nat :=
  let r := grpOf m g
  let f := vtotal m g * k
  if n < f then r.latchWas + cdiv (n * (r.latchAt - r.latchWas)) f else linesAfter m g (n - f) k

/-- The latch instants of the locked group `g` that follow from the last two latches of its master (R191): OFFSET lines after a master
latch, then every 1/k of a master frame; with a divided ratio, only after a master latch whose frame number is a multiple of k. -/
def lockInstants (m : Mach) (g : Nat) : List Nat :=
  let ma := masterOf m g
  let k := ratioNum (ratioOf m g)
  let d := ratioDen (ratioOf m g)
  let lines := (List.range k).map (fun j => getF m (rSCN_SYNC g) fSCN_SYNC_OFFSET * k + j * vtotal m ma)
  let f := frameOf m ma
  (if f % d = 0 then lines.map (fun n => linesAfter m ma n k) else []) ++
    (if (grpOf m ma).latchWas < (grpOf m ma).latchAt ∧ (f + 2 ^ 32 - 1) % 2 ^ 32 % d = 0 then lines.map (fun n => linesAfterWas m ma n k) else [])

/-- Does an instant at which the locked group `g` latches lie between its last latch, or its start, and now? -/
def lockInstant (m : Mach) (g : Nat) : Bool :=
  let r := grpOf m g
  lockedCfg m g && grpRuns m (masterOf m g) &&
    (lockInstants m g).any (fun x => decide (x ≤ m.now) && (if r.starting then decide (r.startAt ≤ x) else decide (r.latchAt < x)))

/-- Does the frame of the running group `g` end now? A group that follows its master ends it at the master's instants (R191); one that has
lost it runs free and takes the next instant once the master runs again, its frame lengthened or shortened (R192). -/
def frameEnds (m : Mach) (g : Nat) : Bool :=
  if !follows m g then lastLine m g else if relocks m g then lastLine m g || lockInstant m g else lastLine m g && lockInstant m g

/-- Does a TIMING_SET stop group `g` at the end of its frame (R203)? -/
def stopsNext (m : Mach) (g : Nat) : Bool :=
  match (grpOf m g).tset with
  | some ws => fget (ws.getD 3 0) fSCN_RATE_EN == 0
  | none => false

/-- Is a latch of group `g` due: it is starting, or its frame ends and no TIMING_SET stops it? -/
def latchDue (m : Mach) (g : Nat) : Bool :=
  inRun m && (if (grpOf m g).starting then !follows m g || lockInstant m g else grpRuns m g && !stopsNext m g && frameEnds m g)

/-- The counters and the store half of the frame that begins (R186, R190, R194, R150). -/
def advance (g : Nat) (start : Bool) (m : Mach) : Mach :=
  let r := grpOf m g
  let racing := flag m (rCMP_GRP_CFG g) fCMP_GRP_CFG_RACING
  let st := rSCN_GRP_STAT g
  let prime := start
  m |> setReg (rSCN_FRAME_CNT g) (if prime then 0 else reg m (rSCN_FRAME_CNT g) + 1) |>
    setF st fSCN_GRP_STAT_STORE r.half |>
    setGrp g { r with
      half := if r.cur.racing && racing then r.half else 1 - r.half
      starting := false
      latchAt := m.now
      latchWas := if start then m.now else r.latchAt
      prev := r.cur
      gain := none } |>
    (match r.gain with
      | some s => setF (rPHO_GAIN_GLOBAL g) fPHO_GAIN_GLOBAL_SCALE s
      | none => id) |>
    setF st fSCN_GRP_STAT_RATE_EFF (nextRate m g (lockInstant m g)) |> setB st fSCN_GRP_STAT_RUN true |> setF st fSCN_GRP_STAT_LINE 0 |>
    setB st fSCN_GRP_STAT_LOCKED (lockInstant m g)

/-- What the latch takes and shows of every tile of the group. -/
def takeTiles (g : Nat) (retime : Bool) (m : Mach) : Mach :=
  let ts := tilesOf m g
  let m := m |> when retime (fun m => forEach ts (fun t m => m |> retest t |> showGroup g t) m)
  let m := forEach ts (fun t m => m |> latchUnif g t retime |> latchMaps g t |> latchPorts t |> resumeTile t) m
  let m := mapCause m
  let m := forEach ts (fun t m => showTile g t m) m
  setGrp g { grpOf m g with cur := grpCfg m g } m

/-- A latch of group `g` (R186). -/
def doLatch (g : Nat) (m : Mach) : Mach :=
  let start := (grpOf m g).starting
  let restart := !start && (grpOf m g).tset.isSome
  let wasRacing := (grpOf m g).cur.racing
  let ctxs := (grpOf m g).comCtx
  let m := if start then
      forEach (tilesOf m g) (fun t m => setTilePix t { pixOf m t with sigs := [], misses := 0, waiting := [] } m) m
    else forEach (tilesOf m g) (keepSig g) m
  let prime := start || restart
  let m := m |> takeTiming g |> activate g |> showLead g |> advance g start |> movesAtBoundary g |> takeTiles g prime |>
    setB (rSCN_GRP_STAT g) fSCN_GRP_STAT_PRIME prime |> showPend g
  let f := frameOf m g
  let gone := (f + 2 ^ 33 - 1 - getF m rSCN_SIG_CFG fSCN_SIG_CFG_SIG_WIN) % 2 ^ 32
  let m := forEach (tilesOf m g) (fun t m => m |> sigMiss t gone |> beginFrame g t wasRacing prime) m
  m |> when (!prime && decide (2 ≤ f)) (frameOneSent g) |> eventTo 3 [w32 g, w32 f] ctxs |> dueReleases

/-- LATCH (R186). -/
def execLatch (t : Nat) (g : Fin 8) (s : State) : Host.Outcome State Fault Refusal :=
  runEvent t (fun m => if latchDue m g then doLatch g m else m) s

/-! ### STOP_INSTANT (R203) -/

/-- A later value replaces an earlier one. -/
def later? {α : Type} (new old : Option α) : Option α :=
  match new with
  | some v => some v
  | none => old

/-- The changes of `new` over those of `old`. -/
def mergeSet (new old : GSet) : GSet :=
  { stack := later? new.stack old.stack, matrix := later? new.matrix old.matrix, racing := later? new.racing old.racing
    meshes := new.meshes.foldl (fun t e => tput [] t e.1 e.2) old.meshes }

/-- What was committed too late for a latch that does not come is committed like the rest (R198, R203). -/
def joinLate (g : Nat) (m : Mach) : Mach :=
  let m := forEach ((usedLays m).filter (fun n => layGroup m n == some g)) (fun n m =>
    let r := layOf m n
    setLay n { r with com := later? r.late r.com, comBuf := later? r.lateBuf r.comBuf, late := none, lateBuf := none } m) m
  let r := grpOf m g
  setGrp g { r with com := mergeSet r.late r.com, late := {}, comCtx := r.comCtx ||| r.lateCtx, lateCtx := 0 } m

/-- Group `g` stops: no frame is latched any more, the committed set is kept. -/
def stopGroup (g : Nat) (m : Mach) : Mach :=
  let st := rSCN_GRP_STAT g
  let m := forEach (tilesOf m g) (keepSig g) m
  let m := m |> joinLate g |> takeTiming g |> setB st fSCN_GRP_STAT_RUN false |> setB st fSCN_GRP_STAT_PRIME false |>
    setB st fSCN_GRP_STAT_LOCKED false |> setF st fSCN_GRP_STAT_LINE 0
  let m := setGrp g { grpOf m g with cur := {}, prev := {} } m
  let m := forEach (tilesOf m g) flushMsgs m
  m |> retireAtLatch g |> dueReleases |> movesAtBoundary g |> movesIfStopped g

/-- Is the stop instant of group `g` due: the end of a frame at which a TIMING_SET stops it? -/
def stopDue (m : Mach) (g : Nat) : Bool := grpRuns m g && stopsNext m g && frameEnds m g

/-- STOP_INSTANT (R203). -/
def execStopInstant (t : Nat) (g : Fin 8) (s : State) : Host.Outcome State Fault Refusal :=
  runEvent t (fun m => if stopDue m g then stopGroup g m else m) s

/-! ### LINE_START (R185, R187, R189) -/

/-- The bytes of a tile row as carried in its PIXEL payload (R199, R217). -/
def rowCodes (m : Mach) (g t row : Nat) : List Nat :=
  storedRow m t (getF m (rSCN_GRP_STAT g) fSCN_GRP_STAT_STORE) row (geomW m g)

/-- Scan-out of row `row` to tile `t`; `ready` says that the row is complete in its row buffer. -/
def sendRow (g t row : Nat) (ready : Bool) (m : Mach) : Mach :=
  let ready := ready && !holdsLast m t
  let m := when (row % 8 == 0) (transferBand g t (row / 8)) m
  if !isPlaced m t || flag m (rSCN_GRP_STAT g) fSCN_GRP_STAT_PRIME then m
  else if !ready then
    m |> sendTile t 2 (pad64 [w32 (2 ^ 31 + row)]) [] |> bump (rSCN_SIG_CNT t) fSCN_SIG_CNT_UNDERRUN |> raise 128 (detail t 0)
  else
    let b := pixelBits m g t
    let codes := rowCodes m g t row
    let m := sendTile t 2 (pad64 [w32 row]) [] m
    match sendPorts m t with
    | [] => m
    | _ =>
      let m := forEach (rowBlocks b codes) (fun ws m => sendTile t 1 ws [] m) m
      let r := pixOf m t
      setTilePix t { r with sigReg := crcRun crc32c r.sigReg (rowBytes b codes) } m

/-- A line of group `g` starts; `notReady` are the tiles whose row is not complete. Every line ends with FILL (R219). -/
def startLine (g notReady : Nat) (m : Mach) : Mach :=
  let n := lineOf m g + 1
  let m := setF (rSCN_GRP_STAT g) fSCN_GRP_STAT_LINE n m
  let first := vsync m g + vporch m g
  forEach (tilesOf m g) (fun t m =>
    if n < first then sendIdleLine g t 0 m
    else m |> sendRow g t (n - first) (!hasBit notReady t) |> fillAll (sendPorts m t)) m

/-- LINE_START (R185). -/
def execLineStart (t : Nat) (g : Fin 8) (notReady : Nat) (s : State) : Host.Outcome State Fault Refusal :=
  runEvent t (fun m => if grpRuns m g && decide (lineOf m g + 1 < vtotal m g) then startLine g notReady m else m) s

end Sys2Proof.Machine
end

