-- ==== Sys2Proof/Machine/Layers.lean ====
section
/-!
DEFINITION. The commands of buffers, streams and layers (R92 to R115).
-/

namespace Sys2Proof.Machine

/-- The reply lengths of this family. -/
def noReply (_ : Packet) (_ : Mach) : Nat := 0
def replyLen (n : Nat) (_ : Packet) (_ : Mach) : Nat := n

/-! ### BUF_ALLOC (R94, R96 to R100) -/

/-- Size in bytes and layout of the buffer that words 0 and 1 ask for; none: BAD_PARAM. -/
def allocShape (w0 w1 : Word) : Option (Nat × Layout) :=
  if !clean w0 [(7, 0)] then none
  else if w0 = 0 then
    let n := w1.toNat
    if n = 0 ∨ 67108864 < n then none else some (upTo n 4096, ⟨0, 0, 0, 0, upTo n 4096⟩)
  else
    match fmtOf w0.toNat with
    | none => none
    | some f =>
      let w := bits w1 12 0
      let h := bits w1 28 16
      if !clean w1 [(28, 16), (12, 0)] || w = 0 || h = 0 || 4096 < w || 4096 < h || !chromaEven f w h then none
      else some ((layoutOf f w h).size, layoutOf f w h)

def bufAllocBody (p : Packet) (mem : Tab Byte) (m : Mach) : MemRep :=
  let stop (st : Nat) : MemRep := ⟨mem, m, err st⟩
  if p.params.length ≠ 2 then stop stBAD_LENGTH else
  match allocShape (par p 0) (par p 1) with
  | none => stop stBAD_PARAM
  | some (size, l) =>
    let c := ctxN p
    let used := usedBufs m
    let mine := used.filter (fun i => (bufOf m i).ctx == c)
    let pages := size / 4096
    let (d, m1) := draw m
    match pickFree 4096 used d with
    | none => stop stNO_RESOURCE
    | some i =>
      if 1024 ≤ mine.length ∨ getF m rPLC_POOL_STAT fPLC_POOL_STAT_FREE < pages ∨
          getF m (rPLC_QUOTA c) fPLC_QUOTA_PAGES < ctxPages m c + pages then stop stNO_RESOURCE
      else
        let img := par p 0 != 0
        let gen := nextGen (bufOf m i).gen (d >>> 16)
        let r : BufRec :=
          { used := true, gen := some gen, ctx := c, fmt := (par p 0).toNat, w := if img then bits (par p 1) 12 0 else 0,
            h := if img then bits (par p 1) 28 16 else 0, size := size }
        ⟨poolClear i mem, m1 |> dropNotes i |> setBuf i r |> takePages pages,
          ok [w32 (mkHandle c 1 gen i), w32 size, w32 l.pitch, w32 l.plane1, w32 l.plane2, w32 l.cpitch]⟩

/-- BUF_ALLOC (R98). -/
def execBufAlloc (p : Packet) (s : State) : Host.Outcome State Fault Refusal :=
  runDratusMem (.bufAlloc p) (native 0x20 1 .topaz .any false true) (replyLen 6) bufAllocBody p s

/-! ### BUF_FREE, BUF_INFO -/

/-- BUF_FREE (R103). -/
def execBufFree (p : Packet) (s : State) : Host.Outcome State Fault Refusal :=
  runDratus (.bufFree p) (native 0x21 0 .topaz .any false false) noReply
    (withLen (· == 1) (fun p => withBuf (ctxN p) (par p 0) (fun i m => (freeBuf i m, ok [])))) p s

/-- BUF_INFO answers for a retiring buffer too, with state 3 (R99, R103). -/
def bufInfoBody (p : Packet) (m : Mach) : Mach × Rep :=
  match bufRefused m (ctxN p) (par p 0).toNat with
  | some st => if st = stHANDLE_RETIRING then info m else (m, err st)
  | none => info m
where
  info (m : Mach) : Mach × Rep :=
    let i := hIdx (par p 0).toNat
    let r := bufOf m i
    (m, ok [w32 (b2n r.damaged <<< 24 + r.fmt <<< 16 + bufState m i), w32 r.size, w32 (r.h <<< 16 + r.w)])

/-- BUF_INFO (R99). -/
def execBufInfo (p : Packet) (s : State) : Host.Outcome State Fault Refusal :=
  runDratus (.bufInfo p) (native 0x24 1 .topaz .any true true) (replyLen 3) (withLen (· == 1) bufInfoBody) p s

/-! ### BUF_WRITE, BUF_READ (R83, R101) -/

/-- Write the data words at `off` of buffer `i`, or BAD_PARAM; the rest of the checks of R83 have passed. -/
def writeInto (i off : Nat) (data : List Word) (mem : Tab Byte) (m : Mach) : MemRep :=
  if off % 4 ≠ 0 ∨ (bufOf m i).size < off + 4 * data.length then ⟨mem, m, err stBAD_PARAM⟩
  else
    ⟨poolWrite i off (wordsBytes data) mem,
      m |> noteBytes (poolKeys i off (4 * data.length)) mem |> stampBytes i off (4 * data.length), ok []⟩

def bufWriteBody (p : Packet) (mem : Tab Byte) (m : Mach) : MemRep :=
  if p.params.length < 3 then ⟨mem, m, err stBAD_LENGTH⟩ else
  match bufRefused m (ctxN p) (par p 0).toNat with
  | some st => ⟨mem, m, err st⟩
  | none => writeInto (hIdx (par p 0).toNat) (par p 1).toNat (p.params.drop 2) mem m

/-- BUF_WRITE (R83). -/
def execBufWrite (p : Packet) (s : State) : Host.Outcome State Fault Refusal :=
  runDratusMem (.bufWrite p) (native 0x22 0 .hw .any false false) noReply bufWriteBody p s

def bufReadBody (p : Packet) (mem : Tab Byte) (m : Mach) : MemRep :=
  if p.params.length ≠ 3 then ⟨mem, m, err stBAD_LENGTH⟩
  else if par p 1 % 4 != 0 || par p 2 == 0 then ⟨mem, m, err stBAD_PARAM⟩ else
  match bufRefused m (ctxN p) (par p 0).toNat with
  | some st => ⟨mem, m, err st⟩
  | none =>
    let i := hIdx (par p 0).toNat
    let off := (par p 1).toNat
    let n := (par p 2).toNat
    if (bufOf m i).size < off + 4 * n then ⟨mem, m, err stBAD_PARAM⟩
    else ⟨mem, m, ok ((List.range n).map (fun k => poolWord mem i (off + 4 * k)))⟩

/-- BUF_READ (R83). -/
def execBufRead (p : Packet) (s : State) : Host.Outcome State Fault Refusal :=
  runDratusMem (.bufRead p) (native 0x23 2 .topaz .any true true)
    (fun p _ => if p.params.length = 3 then (par p 2).toNat else 0) bufReadBody p s

/-! ### STREAM_BIND (R106) -/

/-- Words that an EN = 0 or EN = 1 binding may carry in word 0. -/
def streamWordOk (p : Packet) : Bool := clean (par p 0) [(31, 31), (8, 8), (4, 0)] && decide (bits (par p 0) 4 0 < 24)

def streamBindBody (p : Packet) (m : Mach) : Mach × Rep :=
  let c := ctxN p
  let port := bits (par p 0) 4 0
  let ping := bit (par p 0) 8
  if !streamWordOk p || (!ping && par p 3 != 0) then (m, err stBAD_PARAM) else
  let bad := [layRefused m (2 ^ c) (par p 1).toNat, bufRefused m c (par p 2).toNat,
    if ping then bufRefused m c (par p 3).toNat else none].filterMap id
  match bad with
  | st :: _ => (m, err st)
  | [] =>
    let fmt := descFmt (lastDesc m (hIdx (par p 1).toNat))
    let fits (w : Word) : Bool := (bufOf m (hIdx w.toNat)).fmt == fmt
    let old := streamOf m port
    if !fits (par p 2) || (ping && !fits (par p 3)) then (m, err stBAD_PARAM)
    else if old.on && old.ctx != c then (m, err stNOT_OWNER)
    else if getF m (rCPL_CFG port) fCPL_CFG_ROLE ≠ 2 then stateReject m (rCPL_CFG port)
    else
      let r : StreamRec :=
        { on := true, ctx := c, layer := (par p 1).toNat, bufA := (par p 2).toNat, bufB := (par p 3).toNat,
          pingpong := ping }
      (setStream port r m, ok [])

/-- STREAM_BIND with EN = 1 (R106). -/
def execStreamBind (p : Packet) (s : State) : Host.Outcome State Fault Refusal :=
  runDratus (.streamBind p) (native 0x25 1 .topaz .any false false) noReply (withLen (· == 4) streamBindBody) p s

/-- The binding of a port ends. DESIGN CHOICE: a port that is not in host role, and so has no binding, answers STATE_REJECT as for EN = 1;
the spec does not say. -/
def streamUnbindBody (p : Packet) (m : Mach) : Mach × Rep :=
  let port := bits (par p 0) 4 0
  let old := streamOf m port
  if !streamWordOk p then (m, err stBAD_PARAM)
  else if old.on && old.ctx != ctxN p then (m, err stNOT_OWNER)
  else if getF m (rCPL_CFG port) fCPL_CFG_ROLE ≠ 2 then stateReject m (rCPL_CFG port)
  else (setStream port {} m, ok [])

/-- STREAM_BIND with EN = 0 (R106). -/
def execStreamUnbind (p : Packet) (s : State) : Host.Outcome State Fault Refusal :=
  runDratus (.streamUnbind p) (native 0x25 1 .topaz .any false false) noReply (withLen (· == 4) streamUnbindBody) p s

/-! ### Layers -/

/-- The checks of R108 and R109 on a descriptor. -/
def descOk (d : List Word) : Bool :=
  let w0 := d.getD 0 0
  let w1 := d.getD 1 0
  let edge (v : Nat) : Bool := decide (-4096 ≤ sgn 16 v) && decide (sgn 16 v ≤ 4095)
  let lines := descLines d
  let wm := fget w0 fLYR_DESC_CTL_URG_WM
  clean w0 [(31, 1)] && clean (d.getD 2 0) [(28, 16), (12, 0)] && clean (d.getD 3 0) [(27, 16), (11, 0)] &&
  clean (d.getD 4 0) [(15, 0)] &&
  (match fmtOf (descFmt d) with
    | none => false
    | some f =>
      (f.chroma == 0 || (descX d % 2 == 0 && descW d % 2 == 0)) &&
      (f.chroma != 1 || (descY d % 2 == 0 && descH d % 2 == 0)) && (f.bytes != 0 || descX d % 8 == 0)) &&
  decide (descTile d < 24) && decide (4 ≤ lines) && decide (lines ≤ 64) && decide (1 ≤ wm) && decide (wm < lines) &&
  edge (bits w1 15 0) && edge (bits w1 31 16) &&
  decide (1 ≤ descW d) && decide (descW d ≤ 4096) && decide (1 ≤ descH d) && decide (descH d ≤ 4096)

/-- Does buffer `h` (0: none) suit descriptor `d` (R110)? -/
def bufSuits (m : Mach) (h : Nat) (d : List Word) : Bool :=
  h == 0 || (let r := bufOf m (hIdx h)
    r.fmt == descFmt d && decide (descX d + descW d ≤ r.w) && decide (descY d + descH d ≤ r.h))

/-- The blocks that descriptor `d` needs (R112): chroma is fetched for an RGB tile only. -/
def descBlocks (m : Mach) (d : List Word) : Nat :=
  match fmtOf (descFmt d) with
  | none => 0
  | some f => lineBlocks f (descW d) (descLines d) (tileRgb m (descTile d))

def layerCreateBody (p : Packet) (m : Mach) : Mach × Rep :=
  let d := p.params
  let c := ctxN p
  if !descOk d then (m, err stBAD_PARAM) else
  let used := usedLays m
  let blocks := descBlocks m d
  let (w, m1) := draw m
  match pickFree 256 used w with
  | none => (m, err stNO_RESOURCE)
  | some i =>
    if 128 ≤ (used.filter (fun n => (layOf m n).ctx == c)).length ∨ 512 < blocksUsed m none + blocks then (m, err stNO_RESOURCE)
    else
      let gen := nextGen (layOf m i).gen (w >>> 16)
      let m' := setLay i { used := true, gen := some gen, ctx := c, blocks := blocks, pend := some d } m1
      if dramFits m' then (m', ok [w32 (mkHandle c 2 gen i)]) else (m, err stNO_RESOURCE)

/-- LAYER_CREATE (R108, R112). -/
def execLayerCreate (p : Packet) (s : State) : Host.Outcome State Fault Refusal :=
  runDratus (.layerCreate p) (native 0x28 1 .topaz .any false true) (replyLen 1) (withLen (· == 5) layerCreateBody) p s

/-- LAYER_DESTROY (R111). -/
def execLayerDestroy (p : Packet) (s : State) : Host.Outcome State Fault Refusal :=
  runDratus (.layerDestroy p) (native 0x29 1 .topaz .any false false) noReply
    (withLen (· == 1) (fun p => withLay (ctxN p) (par p 0) (fun i m => (retireLay i m, ok [])))) p s

/-- Does a stack of group `g`, latched, committed or pending, name layer `n`? -/
def inStacks (m : Mach) (g n : Nat) : Bool :=
  let has (o : Option (List Word)) : Bool := (o.getD []).any (fun e => fget e fCMP_STACK_LAYER == n)
  has (some (stackOf m g)) || has (grpOf m g).com.stack || has (grpOf m g).late.stack ||
    (List.range 4).any (fun c => has (gpendOf m c g).stack)

/-- Does a change of descriptor reserve line-buffer blocks anew (R112): of WIDTH, FORMAT, LB_LINES or TILE? -/
def needsBlocks (old new : List Word) : Bool :=
  descW old != descW new || descFmt old != descFmt new || descLines old != descLines new || descTile old != descTile new

def layerSetBody (p : Packet) (m : Mach) : Mach × Rep :=
  let d := p.params.drop 1
  if !descOk d then (m, err stBAD_PARAM) else
  withLay (ctxN p) (par p 0) (fun i m =>
    let moves := (List.range 8).any (fun g => inStacks m g i && groupOf m (descTile d) != some g)
    let anew := needsBlocks (lastDesc m i) d
    let blocks := if anew then descBlocks m d else (layOf m i).blocks
    let m' := setLay i { layOf m i with pend := some d, blocks := blocks } m
    if moves || !bufSuits m (lastBuf m i) d then (m, err stBAD_PARAM)
    else if anew && decide (512 < blocksUsed m (some i) + blocks) then (m, err stNO_RESOURCE)
    else if dramFits m' then (m', ok []) else (m, err stNO_RESOURCE)) m

/-- LAYER_SET (R108 to R112, R129). -/
def execLayerSet (p : Packet) (s : State) : Host.Outcome State Fault Refusal :=
  runDratus (.layerSet p) (native 0x2A 1 .topaz .any false false) noReply (withLen (· == 6) layerSetBody) p s

def layerAttachBody (p : Packet) (m : Mach) : Mach × Rep :=
  let c := ctxN p
  withLay c (par p 0) (fun i m =>
    if par p 1 = 0 then (setLay i { layOf m i with pendBuf := some 0 } m, ok [])
    else withBuf c (par p 1) (fun _ m =>
      if bufSuits m (par p 1).toNat (lastDesc m i) then
        (setLay i { layOf m i with pendBuf := some (par p 1).toNat } m, ok [])
      else (m, err stBAD_PARAM)) m) m

/-- LAYER_ATTACH (R108, R110). -/
def execLayerAttach (p : Packet) (s : State) : Host.Outcome State Fault Refusal :=
  runDratus (.layerAttach p) (native 0x2B 0 .hw .any false false) noReply (withLen (· == 2) layerAttachBody) p s

/-! ### Release of handles (R104) -/

/-- The pages of a released handle return, and HANDLE_RELEASED goes to the context that held it. -/
def pageReturn (h : Nat) (m : Mach) : Mach :=
  let i := hIdx h
  if bufNamed m h && (bufOf m i).due then
    let c := (bufOf m i).ctx
    m |> dropBuf i |> eventTo 4 [w32 h] (2 ^ c)
  else if layNamed m h && (layOf m i).due then
    let c := (layOf m i).ctx
    m |> dropLay i |> eventTo 4 [w32 h] (2 ^ c)
  else m

/-- PAGE_RETURN (R104). -/
def execPageReturn (t : Nat) (handle : Nat) (s : State) : Host.Outcome State Fault Refusal :=
  runEvent t (pageReturn handle) s

end Sys2Proof.Machine
end

