-- ==== Sys2Proof/Machine/Timing.lean ====
section
/-!
DEFINITION. The commands of timing groups: commit (R195 to R198), TIMING_SET (R202, R203), the blend stack (R129, R130), the
colour matrix (R134), racing (R151), meshes (R136), and placement (R117 to R122).
-/

namespace Sys2Proof.Machine

/-- Run `f` on the group that bits [4:0] of word 0 name (R182). -/
def withGroup (p : Packet) (f : Nat → Mach → Mach × Rep) (m : Mach) : Mach × Rep :=
  let g := bits (par p 0) 4 0
  if g < 8 then f g m else (m, err stBAD_PARAM)

/-- Run `f` when context `c` owns group `g` (R69). -/
def asOwner (c g : Nat) (f : Mach → Mach × Rep) (m : Mach) : Mach × Rep :=
  if ownsGroup m c g then f m else (m, err stNOT_OWNER)

/-! ### COMMIT (R70, R195 to R198) -/

/-- The changes of context `c`, as owner of group `g`, other than its layers. -/
def ownerChanges (m : Mach) (c g : Nat) : GSet :=
  let meshes := (tilesOf m g).filterMap (fun t =>
    let k := tget [] m.pix.meshPend (32 * c + t)
    if k.isEmpty then none else some (t, k))
  { gpendOf m c g with meshes := meshes }

/-- The layers of context `c` in group `g`. -/
def commitLayers (m : Mach) (c g : Nat) : List Nat :=
  (usedLays m).filter (fun n => (layOf m n).ctx == c && !(layOf m n).retiring && layGroup m n == some g)

/-- The pending change of a layer moves into the committed set, or into what joins it after the latch. -/
def commitLay (late : Bool) (n : Nat) (m : Mach) : Mach :=
  let r := layOf m n
  let r := if late then { r with late := later? r.pend r.late, lateBuf := later? r.pendBuf r.lateBuf }
    else { r with com := later? r.pend r.com, comBuf := later? r.pendBuf r.comBuf }
  setLay n { r with pend := none, pendBuf := none } m

/-- The pending changes of context `c` for group `g` move; `late`: the commit completes within 4 PIX cycles of the latch. -/
def moveChanges (c g : Nat) (late : Bool) (m : Mach) : Mach :=
  let m := forEach (commitLayers m c g) (commitLay late) m
  let r := grpOf m g
  let m := if late then setGrp g { r with lateCtx := setBit r.lateCtx c } m else setGrp g { r with comCtx := setBit r.comCtx c } m
  if !ownsGroup m c g then m
  else
    let ch := ownerChanges m c g
    let r := grpOf m g
    let r := if late then { r with late := mergeSet ch r.late } else { r with com := mergeSet ch r.com }
    let ts := tilesOf m g
    m |> setGrp g r |> setGpend c g {} |>
      setPix (fun s => { s with meshPend := ts.foldl (fun k t => tput [] k (32 * c + t) []) s.meshPend })

/-- COMMIT of context `c` to a running group `g`: SCN_COMMIT_STATUS (R197). It is late only in the last line before the
latch, or in any line of a group that is to re-lock (R192). -/
def commitGroup (c g : Nat) (late : Bool) (m : Mach) : Mach × Rep :=
  let late := late && (lastLine m g || relocks m g)
  let first := (frameOf m g + (if late then 3 else 2)) % 2 ^ 32
  let rel := if late then 2 else 1
  let a := rSCN_COMMIT_STATUS g
  let m := m |> moveChanges c g late |> setF a fSCN_COMMIT_STATUS_REL rel |> setF a fSCN_COMMIT_STATUS_CTX c |>
    setF a fSCN_COMMIT_STATUS_FIRST first |> showPend g
  (m, ok [w32 first, w32 rel])

def commitBody (late : Bool) (p : Packet) (m : Mach) : Mach × Rep :=
  require (clean (par p 0) [(4, 0)]) (withGroup p (fun g m =>
    if !takesPart m (ctxN p) g then (m, err stNOT_OWNER)
    else if !grpRuns m g || m.pwr.st == 1 then stateReject m (rSCN_GRP_STAT g)
    else commitGroup (ctxN p) g late m)) m

/-- COMMIT (R196, R370). -/
def execCommit (p : Packet) (late : Bool) (s : State) : Host.Outcome State Fault Refusal :=
  runDratus (.commit p late) (native 0x30 0 .hw .any false true) (replyLen 2) (withLen (· == 1) (commitBody late)) p s

/-- COMMIT_STATUS (R197). -/
def execCommitStatus (p : Packet) (s : State) : Host.Outcome State Fault Refusal :=
  runDratus (.commitStatus p) (native 0x31 0 .hw .any true true) (replyLen 1)
    (withLen (· == 1) (fun p => require (clean (par p 0) [(4, 0)])
      (withGroup p (fun g m => (m, ok [viewReg m (rSCN_COMMIT_STATUS g)]))))) p s

/-! ### TIMING_SET and SCN_RATE (R202, R203) -/

/-- An accepted timing set: a running group takes it at its next latch; any other at once, and it starts if it is enabled
and step B7 has passed (R190). -/
def acceptTiming (g : Nat) (ws : List Word) (m : Mach) : Mach :=
  if grpRuns m g then setGrp g { grpOf m g with tset := some ws } m
  else
    let m := applyTiming g ws m
    setGrp g { grpOf m g with starting := enabledGrp m g && m.saf.started, startAt := m.now } m

def timingSetBody (p : Packet) (m : Mach) : Mach × Rep :=
  require (clean (par p 0) [(4, 0)]) (withGroup p (fun g m =>
    let ws := p.params.drop 1
    match timingRefused m g ws with
    | some st => (m, err st)
    | none =>
      let en := fget (ws.getD 3 0) fSCN_RATE_EN != 0
      if en && m.pwr.st == 1 then stateReject m (rSCN_GRP_STAT g) else
      if en && pending m .cal then (m, err stBUSY) else
      let m' := acceptTiming g ws m
      if grpRuns m g then
        let dest := replyTo (native 0x32 1 .topaz .h0p false false) p
        ({ m' with pends := m'.pends ++ [⟨.timing, g, some dest⟩] }, later)
      else (m', ok []))) m

/-- TIMING_SET (R202; R370 in IDLE). -/
def execTimingSet (p : Packet) (s : State) : Host.Outcome State Fault Refusal :=
  runDratus (.timingSet p) (native 0x32 1 .topaz .h0p false false) noReply (withLen (· == 7) timingSetBody) p s

/-- The staged register writes of group `g` with `v` for SCN_RATE are checked as TIMING_SET and take effect, or are
discarded (R203). -/
def rateWrite (g : Nat) (v : Word) (m : Mach) : Mach :=
  let st := (grpOf m g).staged
  let ws := ((timingWords m g).zipIdx).map (fun e => if e.2 = 3 then v else (tget none st e.2).getD e.1)
  let m := setGrp g { grpOf m g with staged := [] } m
  let fails := (timingRefused m g ws).isSome || ((pending m .cal || m.pwr.st == 1) && fget v fSCN_RATE_EN != 0)
  if fails then latchBit (rSCN_GRP_STAT g) fSCN_GRP_STAT_CFG_ERR m else acceptTiming g ws m

/-! ### STACK_SET (R129, R130) -/

/-- The entries of a STACK_SET: handle and settings. -/
def stackEntries : List Word → List (Word × Word)
  | h :: e :: rest => (h, e) :: stackEntries rest
  | _ => []

/-- The checks of R129 and R130 on one entry whose handle has been checked. -/
def entryOk (m : Mach) (g : Nat) (e : Word × Word) : Bool :=
  let d := lastDesc m (hIdx e.1.toNat)
  let mode := fget e.2 fCMP_STACK_MODE
  let op := fget e.2 fCMP_STACK_OPACITY
  clean e.2 [(30, 27), (15, 0)] && decide (mode ≤ 4) && decide (op ≤ 0x8000) && groupOf m (descTile d) == some g &&
    (mode == 4 || !((fmtOf (descFmt d)).map FmtInfo.alpha).getD false) &&
    (fget e.2 fCMP_STACK_GFM == 0 || (mode == 4 && op == 0x8000))

/-- Is a layer named twice? -/
def namedTwice : List Nat → Bool
  | [] => false
  | n :: ns => ns.contains n || namedTwice ns

/-- The word of CMP_STACK for an entry. -/
def stackWord (e : Word × Word) : Word := w32 (2 ^ 31 + hIdx e.1.toNat <<< 16) ||| (e.2 &&& 0x7800FFFF)

/-- A stack for group `g` in the name of its owner `c`: the words of CMP_STACK, or the status that refuses it. -/
def stackChecked (m : Mach) (c g : Nat) (es : List (Word × Word)) : Except Nat (List Word) :=
  match es.filterMap (fun e => layRefused m (setBit (contribOf m g) c) e.1.toNat) with
  | st :: _ => .error st
  | [] =>
    let gfmTiles := (es.filter (fun e => fget e.2 fCMP_STACK_GFM != 0)).map (fun e => descTile (lastDesc m (hIdx e.1.toNat)))
    if !es.all (entryOk m g) || namedTwice (es.map (fun e => hIdx e.1.toNat)) || namedTwice gfmTiles then .error stBAD_PARAM
    else .ok (es.map stackWord)

def stackSetBody (p : Packet) (m : Mach) : Mach × Rep :=
  let n := bits (par p 0) 13 8
  if p.params.length ≠ 1 + 2 * n then (m, err stBAD_LENGTH)
  else
    require (clean (par p 0) [(13, 8), (4, 0)] && decide (1 ≤ n) && decide (n ≤ 32)) (withGroup p (fun g =>
      asOwner (ctxN p) g (fun m =>
        match stackChecked m (ctxN p) g (stackEntries (p.params.drop 1)) with
        | .error st => (m, err st)
        | .ok ws => (setGpend (ctxN p) g { gpendOf m (ctxN p) g with stack := some ws } m, ok [])))) m

/-- STACK_SET (R129). -/
def execStackSet (p : Packet) (s : State) : Host.Outcome State Fault Refusal :=
  runDratus (.stackSet p) (native 0x2C 1 .topaz .any false false) noReply stackSetBody p s

/-! ### COLOUR_MATRIX_SET, RACING_SET -/

/-- COLOUR_MATRIX_SET (R134). -/
def execColourMatrixSet (p : Packet) (s : State) : Host.Outcome State Fault Refusal :=
  runDratus (.colourMatrixSet p) (native 0x2D 1 .topaz .any false false) noReply
    (withLen (· == 7) (fun p => require (clean (par p 0) [(4, 0)]) (withGroup p (fun g => asOwner (ctxN p) g (fun m =>
      (setGpend (ctxN p) g { gpendOf m (ctxN p) g with matrix := some (p.params.drop 1) } m, ok [])))))) p s

def racingSetBody (p : Packet) (m : Mach) : Mach × Rep :=
  let w := par p 0
  let lead := fget w fCMP_GRP_CFG_LEAD
  require (clean w [(31, 31), (25, 16), (11, 8), (4, 0)]) (withGroup p (fun g => asOwner (ctxN p) g (fun m =>
    let short (k : Mach) : Bool := vtotal k g != 0 && decide (vtotal k g < lead + 8)
    if bit w 31 && (lead == 0 || (admitted m).any short) then (m, err stBAD_PARAM)
    else (setGpend (ctxN p) g { gpendOf m (ctxN p) g with racing := some (w &&& 0x83FF0F00) } m, ok [])))) m

/-- RACING_SET (R151). -/
def execRacingSet (p : Packet) (s : State) : Host.Outcome State Fault Refusal :=
  runDratus (.racingSet p) (native 0x33 1 .topaz .any false false) noReply (withLen (· == 1) racingSetBody) p s

/-! ### WARP_MESH_LOAD (R135, R136) -/

/-- The 64-bit words of a mesh buffer. -/
def meshWords (mem : Tab Byte) (i : Nat) : List Nat :=
  (List.range 2145).map (fun k => leNat (poolBytes mem i (8 * k) 8))

/-- The mesh in a buffer, or none where a reserved bit is set. -/
def meshOf (mem : Tab Byte) (i : Nat) : Option (List MeshPt) :=
  let ps := (meshWords mem i).map meshPoint
  if ps.all Option.isSome then some (ps.filterMap id) else none

/-- Is buffer `i` RAW, with at least `n` bytes? -/
def rawBuf (m : Mach) (i n : Nat) : Bool := (bufOf m i).fmt == 0 && decide (n ≤ (bufOf m i).size)

/-- Run `f` on the tile that bits [4:0] of word 0 name, with its group and geometry (R461). -/
def withTileGeom (p : Packet) (f : Nat → Nat → Nat → Nat → MemRep) (mem : Tab Byte) (m : Mach) : MemRep :=
  let t := bits (par p 0) 4 0
  if 24 ≤ t then ⟨mem, m, err stBAD_PARAM⟩ else
  match tileGeom m t with
  | none => ⟨mem, m, err stBAD_PARAM⟩
  | some (g, w, h) => f t g w h

def warpMeshBody (p : Packet) (mem : Tab Byte) (m : Mach) : MemRep :=
  let stop (st : Nat) : MemRep := ⟨mem, m, err st⟩
  let c := ctxN p
  if p.params.length ≠ 2 then stop stBAD_LENGTH
  else if !clean (par p 0) [(4, 0)] then stop stBAD_PARAM
  else withTileGeom p (fun t g w h =>
    if !ownsGroup m c g then stop stNOT_OWNER else
    match bufRefused m c (par p 1).toNat with
    | some st => stop st
    | none =>
      let i := hIdx (par p 1).toNat
      if !rawBuf m i 17160 then stop stBAD_PARAM else
      match meshOf mem i with
      | none => stop stBAD_PARAM
      | some mesh =>
        let span := meshSpan mesh w h
        if 24 < span then stop stBAD_PARAM
        else ⟨mem, setPix (fun s => { s with meshPend := tput [] s.meshPend (32 * c + t) mesh }) m, ok [w32 span]⟩) mem m

/-- WARP_MESH_LOAD (R136). -/
def execWarpMeshLoad (p : Packet) (s : State) : Host.Outcome State Fault Refusal :=
  runDratusMem (.warpMeshLoad p) (native 0x34 1 .topaz .any false true) (replyLen 1) warpMeshBody p s

/-! ### Placement -/

/-- PLACEMENT_MAP (R122). -/
def execPlacementMap (p : Packet) (s : State) : Host.Outcome State Fault Refusal :=
  runDratus (.placementMap p) (native 0x37 2 .topaz .any true true) (replyLen 35)
    (withLen (· == 0) (fun _ m => (m, ok ((([rPLC_GEN, rPLC_POOL_STAT, rPLC_ENG_MAP] ++ (List.range 24).map rPLC_TILE_MAP ++
      (List.range 8).map rPLC_REGION_MAP)).map (viewReg m))))) p s

/-- The groups that the object of a move serves (R117): its own, and for a portion of maps or tables the groups of every tile that has
content in its region. -/
def servedGroups (m : Mach) (v : PlanMove) : Nat :=
  let ts := if v.kind = 3 ∧ v.src < 64 then tilesIn m v.src else []
  (v.group.val :: ts.filterMap (groupOf m)).foldl setBit 0

/-- A move of plan `n` as it starts (R119). Buffer pages need no frame boundary. -/
def moveRec (m : Mach) (n : Nat) (v : PlanMove) : MoveRec :=
  let gs := servedGroups m v
  { plan := n, at_ := m.now, kind := v.kind, group := v.group, groups := gs, left := if v.kind = 1 then 0 else gs, tile := v.tile, engA := v.engA % 16, engB := v.engB % 16, split := v.split % 256
    src := if v.src < 64 then some v.src else none, dst := if v.dst < 64 then some v.dst else none, use := v.use % 16
    lost := v.lost, bad := v.bad, copied := v.kind == 2, wait := if v.kind = 2 then 2 else 1 }

/-- Can placement decide on these moves now: no group has a migration under way (R36), the destinations are spare (R117), and the
engines end as R23 says? -/
def planFits (moves : List MoveRec) (m : Mach) : Bool :=
  let dsts := moves.filterMap MoveRec.dst
  let eng := moves.filter (fun v => v.kind == 4)
  !topazStopped m && !moves.any (fun v => (members 8 v.groups).any (planBusy m)) && dsts.all (fun d => regionUse m d == 0) && decide dsts.Nodup &&
    (eng.isEmpty || eng.all (moveInService m) && enginesOk (forEach eng (fun v m => setEngines v.tile v.engA v.engB v.split m) m))

/-- Does a move free a resource: a region, or an engine of the tile? -/
def moveFrees (m : Mach) (v : MoveRec) : Bool :=
  if v.kind = 4 then (enginesOf m v.tile).any (fun e => e != v.engA && e != v.engB) else v.src.isSome

/-- Placement decides on a plan (R117): moves that free a resource come before those that consume one, destinations are reserved and
unreadable pages are filled with zeros (R120). A plan that placement cannot decide on now changes nothing. -/
def placementPlan (e : PlanEnv) (mem : Tab Byte) (m : Mach) : Tab Byte × Mach :=
  let n := m.pix.planId + 1
  let moves := e.moves.map (moveRec m n)
  let moves := moves.filter (moveFrees m) ++ moves.filter (fun v => !moveFrees m v)
  if !planFits moves m then (mem, m) else
  let m := forEach (moves.filterMap MoveRec.dst) (fun d m => setRegionUse d 6 m) m
  let lost := e.lost.filter (fun l => (bufOf m l.1).used && decide (l.2 < bufPages (bufOf m l.1)))
  let mem := lost.foldl (fun mem l => poolZeroPage l.1 l.2 mem) mem
  let m := forEach lost (fun l m => setBuf l.1 { bufOf m l.1 with damaged := true } m) m
  let m := setPix (fun s => { s with
    plan := s.plan ++ moves, planId := n, planNew := if moves.isEmpty then s.planNew else s.planNew ++ [n] }) m
  (mem, forEach (List.range 8) movesIfStopped m)

/-- PLACEMENT_PLAN (R117). -/
def execPlacementPlan (t : Nat) (plan : PlanEnv) (s : State) : Host.Outcome State Fault Refusal :=
  runEventMem t (placementPlan plan) s

/-- The first move of `g` in the plan that is still being copied is copied. -/
def copyFirst (g : Nat) : List MoveRec → List MoveRec
  | [] => []
  | v :: vs => if v.group = g ∧ v.copied = false then { v with copied := true } :: vs else v :: copyFirst g vs

/-- A copy or table load of a move ends (R119): buffer pages switch at once, the others at their boundary. -/
def migrationCopyDone (g : Nat) (m : Mach) : Mach :=
  m |> setPix (fun s => { s with plan := copyFirst g s.plan }) |>
    movesAct g (fun v => v.group == g && v.kind == 1 && v.copied && v.freeAt.isNone) |> movesIfStopped g

/-- MIGRATION_COPY_DONE (R119). -/
def execMigrationCopyDone (t : Nat) (g : Fin 8) (s : State) : Host.Outcome State Fault Refusal :=
  runEvent t (migrationCopyDone g) s

end Sys2Proof.Machine
end

