-- ==== Sys2Proof/Machine/Photo.lean ====
section
/-!
DEFINITION. The commands of the photometric chain (R155 to R181): uniformity, wear and its snapshots, repair, derating, global
scale, transfer curves, and what is read and checked of the compliance maps.
-/

namespace Sys2Proof.Machine

/-- Run `f` on the tile that bits [4:0] of word 0 name. -/
def withTile (p : Packet) (f : Nat → Mach → Mach × Rep) (m : Mach) : Mach × Rep :=
  let t := bits (par p 0) 4 0
  if t < 24 then f t m else (m, err stBAD_PARAM)

/-! ### GAIN_GLOBAL_SET (R171) -/

/-- A new SCALE for group `g` in the name of context `c`. -/
def setScale (c g : Nat) (v : Nat) (m : Mach) : Mach × Rep :=
  asOwner c g (fun m => (setGrp g { grpOf m g with gain := some v } m, ok [])) m

/-- GAIN_GLOBAL_SET (R171). -/
def execGainGlobalSet (p : Packet) (s : State) : Host.Outcome State Fault Refusal :=
  runDratus (.gainGlobalSet p) (native 0x40 1 .topaz .any false false) noReply
    (withLen (· == 2) (fun p => require (clean (par p 0) [(4, 0)] && clean (par p 1) [(15, 0)])
      (withGroup p (fun g => setScale (ctxN p) g (bits (par p 1) 15 0))))) p s

/-! ### UNIFORMITY_LOAD (R157) -/

def uniformityBody (p : Packet) (mem : Tab Byte) (m : Mach) : MemRep :=
  let stop (st : Nat) : MemRep := ⟨mem, m, err st⟩
  if p.params.length ≠ 2 then stop stBAD_LENGTH
  else if !clean (par p 0) [(4, 0)] then stop stBAD_PARAM
  else withTileGeom p (fun t _ w h =>
    match bufRefused m (ctxN p) (par p 1).toNat with
    | some st => stop st
    | none =>
      let i := hIdx (par p 1).toNat
      let n := w * h * (if tileRgb m t then 3 else 1)
      if !rawBuf m i n then stop stBAD_PARAM
      else if flashThere m && !berylWrites m then ⟨mem, raise 316 noInst m, errW stINTERNAL (w32 316)⟩
      else
        let codes := poolBytes mem i 0 n
        ⟨mem, m |> setTilePix t { pixOf m t with unifNew := some codes } |>
          setFlash (fun s => { s with unif := tput [] s.unif t codes }), ok []⟩) mem m

/-- UNIFORMITY_LOAD (R157). -/
def execUniformityLoad (p : Packet) (s : State) : Host.Outcome State Fault Refusal :=
  runDratusMem (.uniformityLoad p) (native 0x41 2 .topaz .h0p false false) noReply uniformityBody p s

/-! ### Wear (R160 to R162) -/

/-- The bytes of a wear table. -/
def wearBytes : Nat := 2288

def wearTableBody (p : Packet) (mem : Tab Byte) (m : Mach) : MemRep :=
  let stop (st : Nat) : MemRep := ⟨mem, m, err st⟩
  if p.params.length ≠ 1 then stop stBAD_LENGTH else
  match bufRefused m (ctxN p) (par p 0).toNat with
  | some st => stop st
  | none =>
    let i := hIdx (par p 0).toNat
    if !rawBuf m i wearBytes then stop stBAD_PARAM
    else
      let tab := poolBytes mem i 0 wearBytes
      if !wearTabOk tab then stop stBAD_PARAM
      else if flashThere m && !berylWrites m then ⟨mem, raise 316 noInst m, errW stINTERNAL (w32 316)⟩
      else ⟨mem, m |> setPix (fun s => { s with wearTab := tab }) |> setFlash (fun s => { s with wearTab := tab }), ok []⟩

/-- WEAR_TABLE_LOAD (R160). -/
def execWearTableLoad (p : Packet) (s : State) : Host.Outcome State Fault Refusal :=
  runDratusMem (.wearTableLoad p) (native 0x42 1 .topaz .h0p false false) noReply wearTableBody p s

/-- Is every slice of the present pass written? -/
def passDone (m : Mach) : Bool := (allSlices m).all (fun sl => m.pix.slices.contains sl)

/-- The pass ends: the next one has the next number, and a snapshot that waited for it is answered (R161, R162). -/
def endPass (m : Mach) : Mach :=
  m |> setNvm (fun s => { s with wearPass := (s.wearPass + 1) % 2 ^ 32 }) |> setPix (fun s => { s with slices := [] }) |>
    finish .wear 0 (ok [])

/-- The next slice of the pass is written (R161). -/
def writeSlice (m : Mach) : Mach :=
  if !berylWrites m then m else
  match nextSlice m with
  | none => finish .wear 0 (ok []) m
  | some sl =>
    let cells := sliceCells m sl
    let m := m |> setFlash (fun s => { s with wear := tput none s.wear (sliceKey m sl) (some ⟨s.wearPass, cells⟩) }) |>
      setPix (fun s => { s with slices := s.slices ++ [sl] })
    m |> when (passDone m) endPass |> showPass

/-- A command that answers PENDING now and is finished under `kind` and `key` later (R63). -/
def pend (o : OpInfo) (kind : PendKind) (key : Nat) (p : Packet) (m : Mach) : Mach × Rep :=
  ({ m with pends := m.pends ++ [⟨kind, key, some (replyTo o p)⟩] }, pendingRep)

/-- WEAR_SNAPSHOT (R162). -/
def execWearSnapshot (p : Packet) (s : State) : Host.Outcome State Fault Refusal :=
  let o := native 0x44 2 .topaz .h0 false false
  runDratus (.wearSnapshot p) o noReply
    (withLen (· == 0) (fun p m => if pending m .wear then (m, err stBUSY) else pend o .wear 0 p m)) p s

/-! ### REPAIR_CONFIG, DERATE_CONFIG -/

/-- Is an overlap pair word within its ranges? -/
def pairOk (w : Word) : Bool := clean w [(31, 31), (28, 24), (20, 16), (15, 0)] && decide (fget w fPHO_OVL_PAIR_SHARE_A ≤ 0x8000)

/-- The tiles of the enabled pairs, in order. -/
def pairTiles (ws : List Word) : List Nat :=
  (ws.filter (fun w => fget w fPHO_OVL_PAIR_EN != 0)).flatMap (fun w =>
    [fget w fPHO_OVL_PAIR_TILE_A, fget w fPHO_OVL_PAIR_TILE_B])

/-- Are the tiles of every enabled pair in one group, which has a geometry (R168, R461)? -/
def pairGroups (m : Mach) (ws : List Word) : Bool :=
  (ws.filter (fun w => fget w fPHO_OVL_PAIR_EN != 0)).all (fun w =>
    let ga := groupOf m (fget w fPHO_OVL_PAIR_TILE_A)
    (tileGeom m (fget w fPHO_OVL_PAIR_TILE_A)).isSome && ga == groupOf m (fget w fPHO_OVL_PAIR_TILE_B))

/-- REPAIR_CONFIG's checks and effect (R168). DESIGN CHOICE: an enabled pair with TILE_A = TILE_B names its tile twice and is refused; no case of
R168 names it. -/
def repairBody (p : Packet) (m : Mach) : Mach × Rep :=
  let n := bits (par p 1) 3 0
  let ws := p.params.drop 2
  if p.params.length < 2 ∨ p.params.length ≠ 2 + n then (m, err stBAD_LENGTH)
  else
    require (clean (par p 1) [(3, 0)] && decide (n ≤ 12) && clean (par p 0) [(31, 8)] &&
        decide (fget (par p 0) fPHO_REPAIR_CFG_SPREAD ≤ 0x8000) && ws.all pairOk && pairGroups m ws &&
        !namedTwice (pairTiles ws)) (fun m =>
      (m |> setReg rPHO_REPAIR_CFG (par p 0) |> forEach (List.range 12) (fun k =>
        setReg (rPHO_OVL_PAIR k) (ws.getD k (regReset (rPHO_OVL_PAIR k)))), ok [])) m

/-- REPAIR_CONFIG (R168). -/
def execRepairConfig (p : Packet) (s : State) : Host.Outcome State Fault Refusal :=
  runDratus (.repairConfig p) (native 0x45 1 .topaz .h0p false false) noReply repairBody p s

/-- DERATE_CONFIG (R170). -/
def execDerateConfig (p : Packet) (s : State) : Host.Outcome State Fault Refusal :=
  runDratus (.derateConfig p) (native 0x46 1 .topaz .h0p false false) noReply
    (withLen (· == 3) (fun p => require (clean (par p 0) [(4, 0)] && clean (par p 2) [(7, 0)] &&
        decide (fget (par p 1) fPHO_DERATE_A_FLOOR ≤ 0x8000)) (withTile p (fun t m =>
      (m |> setReg (rPHO_DERATE_A t) (par p 1) |> setReg (rPHO_DERATE_B t) (par p 2), ok []))))) p s

/-! ### Transfer curves (R180) -/

/-- Item `t` of the settings area in use changes (NVM_SET_STAT); with no area in use the item is kept until a save. -/
def storeInSettings (f : Settings → Settings) (m : Mach) : Mach :=
  let b := flag m rNVM_SET_STAT fNVM_SET_STAT_CUR
  let g (s : Settings) : Settings := sealSettings (f s)
  berylWrite (areaLine b) 8192 (fun s => if b then { s with setB := s.setB.map g } else { s with setA := s.setA.map g }) m

def curveBody (p : Packet) (mem : Tab Byte) (m : Mach) : MemRep :=
  let stop (st : Nat) : MemRep := ⟨mem, m, err st⟩
  let t := bits (par p 0) 4 0
  if p.params.length ≠ 2 then stop stBAD_LENGTH
  else if !clean (par p 0) [(4, 0)] || decide (24 ≤ t) then stop stBAD_PARAM else
  match bufRefused m (ctxN p) (par p 1).toNat with
  | some st => stop st
  | none =>
    let i := hIdx (par p 1).toNat
    if !rawBuf m i 8192 then stop stBAD_PARAM
    else
      let curve := (List.range 4096).map (fun k => leNat (poolBytes mem i (2 * k) 2))
      if !curveRises curve (tileRgb m t) then stop stBAD_PARAM
      else if !berylWrites m then ⟨mem, raise 314 noInst m, errW stINTERNAL (w32 314)⟩
      else ⟨mem, m |> setTilePix t { pixOf m t with curve := curve } |>
        storeInSettings (fun s => { s with curves := tput [] s.curves t curve }), ok []⟩

/-- TRANSFER_CURVE_LOAD (R180). -/
def execTransferCurveLoad (p : Packet) (s : State) : Host.Outcome State Fault Refusal :=
  runDratusMem (.transferCurveLoad p) (native 0x43 1 .topaz .h0p false false) noReply curveBody p s

/-- The check of the transfer curves (R180); `bad` are the tiles whose curve does not agree with its CRC. -/
def curveCheck (bad : Nat) (m : Mach) : Mach :=
  let ts := (members 24 bad).filter (fun t => !(pixOf m t).curve.isEmpty)
  if ts.isEmpty then causeOff 17 m
  else forEach ts (fun t => raise 8 (detail t 0)) (causeOn 17 m)

/-- CURVE_CHECK (R180). -/
def execCurveCheck (t : Nat) (bad : Nat) (s : State) : Host.Outcome State Fault Refusal := runOnyx t (curveCheck bad) s

/-! ### Compliance maps (R175 to R178) -/

/-- Zones of a set of geometry `w` × `h` (R172). -/
def zoneCount (w h : Nat) : Nat := cdiv w 8 * cdiv h 8

/-- Is the set of tile `t` for beam mode `b` valid? -/
def mapValid (m : Mach) (t b : Nat) : Bool := hasBit (getF m (rPHO_MAP_STAT t) fPHO_MAP_STAT_VALID) b

def complianceReadBody (p : Packet) (m : Mach) : Mach × Rep :=
  let b := bits (par p 0) 9 8
  let first := (par p 1).toNat
  let n := (par p 2).toNat
  require (clean (par p 0) [(9, 8), (4, 0)] && decide (1 ≤ n)) (withTile p (fun t m =>
    if !mapValid m t b then stateReject m (rPHO_MAP_STAT t)
    else
      let s := tget {} (pixOf m t).sets b
      if zoneCount s.w s.h < first + n then (m, err stBAD_PARAM)
      else (m, ok (s.crc :: (s.zones.drop first).take n)))) m

/-- COMPLIANCE_READ (R178). -/
def execComplianceRead (p : Packet) (s : State) : Host.Outcome State Fault Refusal :=
  runDratus (.complianceRead p) (native 0x47 2 .topaz .any true true)
    (fun p _ => if p.params.length = 3 then 1 + (par p 2).toNat else 0) (withLen (· == 3) complianceReadBody) p s

/-- A set with PERSIST = 1 that is in use is written to external flash (R175 step 5), by Topaz once it runs (R66). -/
def mapPersist (t : Nat) (ok : Bool) (m : Mach) : Mach :=
  if !berylWrites m then m else
  let r := pixOf m t
  match r.toFlash with
  | [] => m
  | b :: rest =>
    let m := setTilePix t { r with toFlash := rest } m
    if ok then setFlash (fun s => { s with maps := tput {} s.maps (4 * t + b) (tget {} r.sets b) }) m
    else raise 316 noInst m

/-- MAP_PERSIST (R175). -/
def execMapPersist (t : Nat) (tile : Fin 24) (writeOk : Bool) (s : State) : Host.Outcome State Fault Refusal :=
  runEvent t (fun m => when (!topazStopped m) (mapPersist tile writeOk) m) s

/-- A valid set whose MAP_CRC no longer agrees is not valid (R177). -/
def mapBad (e : Nat × Nat) (m : Mach) : Mach :=
  let a := rPHO_MAP_STAT e.1
  when (decide (e.1 < 24) && decide (e.2 < 4)) (setF a fPHO_MAP_STAT_VALID (clrBit (getF m a fPHO_MAP_STAT_VALID) e.2)) m

/-- MAP_CRC_SCAN (R177). -/
def execMapCrcScan (t : Nat) (bad : List (Nat × Nat)) (s : State) : Host.Outcome State Fault Refusal :=
  runOnyx t (fun m => mapCause (forEach bad mapBad m)) s

end Sys2Proof.Machine
end

