-- ==== Sys2Proof/Machine/Ports.lean ====
section
/-!
DEFINITION. The Cirrus ports: reception of blocks (R210 to R220), detectors (R222, R223), the link state table (R230, R231),
idle (R227 to R229), loopbacks (R233 to R235), the eye monitor (R236 to R238), twins and spares (R239 to R244).
-/

namespace Sys2Proof.Machine

/-! ### Reception of a block -/

/-- Does the receiver of port `p` take blocks from its pins: TRAIN, UP, EXIT, RESYNC, and LOOP but for the internal loops (R233)? -/
def receives (m : Mach) (p : Nat) : Bool :=
  let st := portState m p
  hubRuns m && (st == 3 || st == 4 || st == 6 || st == 7 || farLoop m p)

/-- A block whose type or OP the port does not accept (R211). -/
def countType (p : Nat) (m : Mach) : Mach := bump (rCPL_BLK_ERR p) fCPL_BLK_ERR_TYPE m

/-- The receiver of port `p` hears its partner, so that the live bits follow: LOS ends, SQ is set, and LOL ends once the frequency has
been right for 10 µs (R222, R224). -/
def heard (p : Nat) (m : Mach) : Mach :=
  let st := rCPL_DET_STAT p
  let m := m |> setPort p { portOf m p with losAt := none } |> setB st fCPL_DET_STAT_LOS false |> setB st fCPL_DET_STAT_SQ true
  match (portOf m p).lolAt with
  | some a => if a + us 10 ≤ m.now then m |> setPort p { portOf m p with lolAt := none } |> setB st fCPL_DET_STAT_LOL false else m
  | none => m

/-- The adaptation is frozen (R226). -/
def freezeEq (p : Nat) (m : Mach) : Mach := setB (rCPL_RXEQ_STAT p) fCPL_RXEQ_STAT_FROZEN true m

/-- The receiver adapts on the payload of a block that qualifies (R226). Where the CTLE goes is a free value: any code in training, at
most one step up or down after 64 such blocks in UP and LOOP. -/
def adaptEq (p : Nat) (m : Mach) : Mach :=
  let cfg := rCPL_RXEQ_CFG p
  let st := rCPL_RXEQ_STAT p
  if !adaptState (portState m p) || !flag m cfg fCPL_RXEQ_CFG_ADAPT_EN then m else
  let m := setB st fCPL_RXEQ_STAT_FROZEN false m
  if flag m cfg fCPL_RXEQ_CFG_CTLE_FIX then m
  else if portState m p = 3 ∨ portState m p = 7 then
    let (d, m) := draw m
    setF st fCPL_RXEQ_STAT_CTLE (d.toNat % 16) m
  else
    let r := portOf m p
    if r.eqN + 1 < 64 then setPort p { r with eqN := r.eqN + 1 } m
    else
      let (d, m) := draw m
      m |> setPort p { r with eqN := 0 } |>
        setF st fCPL_RXEQ_STAT_CTLE (capN 15 (getF m st fCPL_RXEQ_STAT_CTLE + d.toNat % 3 - 1))

/-- An errored block (HDR, CV or SEQ) is counted, and in its 1 ms window (R222, R459). -/
def errBlk (p : Nat) (f : Fld) (m : Mach) : Mach :=
  let ix := (m.now - m.pwr.hubAt) / ms 1
  let r := portOf m p
  let same := r.errIx == ix
  m |> bump (rCPL_BLK_ERR p) f |>
    setPort p { r with errIx := ix, errN := (if same then r.errN else 0) + 1, errHit := same && r.errHit }

/-- The SEQ of a block that is not TRAIN is checked (R212): `next` is what the receiver expects after it. -/
def checkSeqIn (p seq next : Nat) (m : Mach) : Mach :=
  let r := portOf m p
  let m := setPort p { r with seqIn := some (next % 256) } m
  match r.seqIn with
  | none => m
  | some e =>
    if e = seq % 256 then m else errBlk p fCPL_BLK_ERR_SEQ m

/-- Is port `p` in host role; a port in tile or spare role serves a tile? -/
def hostRole (m : Mach) (p : Nat) : Bool := getF m (rCPL_CFG p) fCPL_CFG_ROLE == 2
def tileRole (m : Mach) (p : Nat) : Bool :=
  let r := getF m (rCPL_CFG p) fCPL_CFG_ROLE
  r == 1 || r == 3

/-- A port leaves RESYNC, EXIT or its wait for the partner for full training (R231). -/
def retrain (p : Nat) (m : Mach) : Mach := m |> sendLink p 3 [] |> toTrain p

/-- The blocks that the elastic buffer holds move with the clocks of the two ends, by at most one block: a free value (R220). -/
def ebDrift (p : Nat) (m : Mach) : Mach :=
  let (d, m) := draw m
  setF (rCPL_EB p) fCPL_EB_LEVEL (capN 8 (getF m (rCPL_EB p) fCPL_EB_LEVEL + d.toNat % 3 - 1)) m

/-- At a level of 2 or less the reader inserts a FILL of its own (R220). -/
def ebInsert (p : Nat) (m : Mach) : Mach :=
  let level := getF m (rCPL_EB p) fCPL_EB_LEVEL
  when (decide (level ≤ 2)) (fun m => m |> bump (rCPL_EB p) fCPL_EB_INS |> setF (rCPL_EB p) fCPL_EB_LEVEL (level + 1)) m

/-- Does the elastic buffer of port `p` work: does the port carry data? -/
def ebWorks (m : Mach) (p : Nat) : Bool := portState m p == 4 || portState m p == 8

/-- A block other than FILL comes to the elastic buffer (R220): is it taken? A partner that keeps to R219 moves the level at its FILL
blocks only; one that sends 1,024 other blocks in a row moves it then. At a full buffer the block is discarded. -/
def ebTake (p : Nat) (m : Mach) : Bool × Mach :=
  if !ebWorks m p then (true, m) else
  let r := portOf m p
  let m := if r.noFill < 1023 then setPort p { r with noFill := r.noFill + 1 } m
    else m |> setPort p { r with noFill := 0 } |> ebDrift p
  if getF m (rCPL_EB p) fCPL_EB_LEVEL < 8 then (true, ebInsert p m)
  else (false, m |> latchBit (rCPL_DET_STAT p) fCPL_DET_STAT_EB_OVF |> raise (181 + p) noInst)

/-- A block in RESYNC that is no LINK block: before 10 µs it ends the resync (R231). -/
def resyncBreak (p : Nat) (m : Mach) : Mach :=
  when (decide (m.now < (portOf m p).resyncAt + us 10)) (portEvent p 7 (retrain p)) m

/-- Does port `p` return its partner's blocks (R233)? -/
def returns (m : Mach) (p : Nat) : Bool := loopActive m p && (portOf m p).loopMode == 4

/-- A block goes back unchanged (R233), after a FILL where R219 asks for one; TRAIN does not advance SEQ (R212). -/
def returnBlk (p type : Nat) (b : Blk) (m : Mach) : Mach :=
  let m := m |> when (runFull m p) (txFill p) |> txRaw p type b.seq b.words
  setPort p { portOf m p with seqOut := if type = 7 then (portOf m p).seqOut else (b.seq + 1) % 256, lastTx := m.now } m

/-- A valid block that carries data (no FILL, no LINK, no TRAIN) arrives: what happens before its content counts. In LOOP
with mode 4 it goes back unchanged; in RESYNC it may end the resync (R231, R233). `accept` says that the role accepts it; what it does not
accept is counted (R211). -/
def takeBlk (type : Nat) (accept : Bool) (b : Blk) (f : Mach → Mach) (m : Mach) : Mach :=
  let p := b.port.val
  if !receives m p then m else
  let (ok, m) := m |> heard p |> adaptEq p |> ebTake p
  if !ok then m else
  let m := checkSeqIn p b.seq (b.seq + 1) m
  if portState m p = 7 then m |> when (!accept) (countType p) |> resyncBreak p
  else if returns m p then returnBlk p type b m
  else if !accept then countType p m
  else if portState m p = 4 then f m
  else m

/-- Does a LINK block end a far-end loop? -/
def endsLoop (b : Blk) : Bool := bits (b.words.getD 0 0) 31 24 == 4 && !bit (b.words.getD 1 0) 0

/-- A LINK block arrives: `f` is its effect. In LOOP with mode 4 it goes back unchanged as well, but for the end of the loop. -/
def takeLink (b : Blk) (f : Mach → Mach) (m : Mach) : Mach :=
  let p := b.port.val
  if !receives m p then m else
  let (ok, m) := m |> heard p |> adaptEq p |> ebTake p
  if !ok then m else
  let m := checkSeqIn p b.seq (b.seq + 1) m
  if returns m p && !endsLoop b then returnBlk p 6 b m else f m

/-- Word `k` of a block. -/
def blkWord (b : Blk) (k : Nat) : Word := b.words.getD k 0

/-- FILL (R220): a loop that returns blocks has none to return and sends FILL (R219, R233). The elastic buffer deletes it at a level of 6 or
more, and inserts one at 2 or less. -/
def fillBlk (b : Blk) (m : Mach) : Mach :=
  let p := b.port.val
  if !receives m p then m else
  let m := m |> heard p |> freezeEq p |> checkSeqIn p b.seq b.seq
  if portState m p = 7 then resyncBreak p m
  else if !ebWorks m p then m
  else
    let m := m |> when (returns m p) (txFill p)
    let m := m |> setPort p { portOf m p with noFill := 0 } |> ebDrift p
    let level := getF m (rCPL_EB p) fCPL_EB_LEVEL
    if 6 ≤ level then m |> bump (rCPL_EB p) fCPL_EB_DEL |> setF (rCPL_EB p) fCPL_EB_LEVEL (level - 1) else ebInsert p m

/-- FILL (R220). -/
def execFill (b : Blk) (s : State) : Host.Outcome State Fault Refusal := runEvent b.t (fillBlk b) s

/-! ### Streams of host ports (R106, R107) -/

/-- The stream content of a PIXEL block goes into the layer pool. -/
def pixelBlk (b : Blk) (mem : Tab Byte) (m : Mach) : Tab Byte × Mach :=
  let p := b.port.val
  if receives m p && portState m p == 4 && hostRole m p then
    let (ok, m) := m |> heard p |> adaptEq p |> ebTake p
    if ok then streamPixels p (wordsBytes (pad64 b.words)) mem (checkSeqIn p b.seq (b.seq + 1) m) else (mem, m)
  else (mem, takeBlk 1 (hostRole m p) b id m)

/-- PIXEL (R106). -/
def execPixel (b : Blk) (s : State) : Host.Outcome State Fault Refusal := runEventMem b.t (pixelBlk b) s

/-- ROW_START (R106, R211). -/
def execRowStart (b : Blk) (s : State) : Host.Outcome State Fault Refusal :=
  runEvent b.t (fun m => takeBlk 2 (hostRole m b.port) b (streamRow b.port (bits (blkWord b 0) 11 0)) m) s

/-- FRAME_START (R107). -/
def execFrameStart (b : Blk) (s : State) : Host.Outcome State Fault Refusal :=
  runEvent b.t (fun m => takeBlk 3 (hostRole m b.port) b (streamFrame b.port) m) s

/-! ### Training and resync (R230, R231) -/

/-- Full training has ended: UP, or the far-end loop carries data (R230, R233). -/
def trainingEnds (p : Nat) (m : Mach) : Mach :=
  if portState m p = 3 then toUp p true m
  else
    m |> bump (rCPL_TRAIN_CNT p) fCPL_TRAIN_CNT_FULL |>
      setPort p { portOf m p with loopUp := some m.now, testN := 0, testOut := 0, trainBits := 0, fails := 0 } |> setF (rCPL_EB p) fCPL_EB_LEVEL 4

/-- A TRAIN_SEQ block in full training: alignment after four, adaptation for 30 µs, RX_OK of both sides. -/
def trainStep (p : Nat) (partnerOk : Bool) (m : Mach) : Mach :=
  let m := txLate p m
  let r := portOf m p
  let n := r.seqs + 1
  let aligned := r.alignAt.isNone && decide (4 ≤ n)
  let r := { r with seqs := n, alignAt := if aligned then some m.now else r.alignAt }
  let adapted := match r.alignAt with
    | some a => decide (a + us 30 ≤ m.now)
    | none => false
  let newOk := !r.rxOk && adapted && decide (8 ≤ n)
  let r := { r with rxOk := r.rxOk || newOk, rxOkAt := if newOk then m.now else r.rxOkAt }
  let m := setPort p r m
  let m := when aligned (setB (rCPL_DET_STAT p) fCPL_DET_STAT_LOA false) m
  if r.rxOk && partnerOk then
    portEvent p 7 (fun m => m |> forEach [0, 1, 2, 3] (fun _ m => txSeq p 6 (trainSeqWords m p) m) |>
      trainingEnds p) m
  else m

/-- A TRAIN_SEQ block in RESYNC: 10 µs of them with the last 8 valid end it. -/
def resyncStep (p : Nat) (m : Mach) : Mach :=
  let r := portOf m p
  let m := setPort p { r with seqs := r.seqs + 1 } m
  if r.resyncAt + us 10 ≤ m.now ∧ 8 ≤ r.seqs + 1 then portEvent p 7 (toUp p false) m else m

/-- TRAIN_SEQ. -/
def trainSeqBlk (b : Blk) (m : Mach) : Mach :=
  let p := b.port.val
  takeLink b (fun m =>
    let w := blkWord b 1
    let m := m |> setPort p { portOf m p with partnerMax := bits w 31 16 } |>
      setB (rCPL_STATE p) fCPL_STATE_PARTNER_OK (bit w 0)
    if training m p then trainStep p (bit w 0) m else if portState m p = 7 then resyncStep p m else m) m

/-- TRAIN_SEQ (R230). -/
def execTrainSeq (b : Blk) (s : State) : Host.Outcome State Fault Refusal := runEvent b.t (trainSeqBlk b) s

/-- A TRAIN marker: the second of two consecutive ones ends the exit from idle (R228, R229, R231). -/
def trainMarker (b : Blk) (m : Mach) : Mach :=
  let p := b.port.val
  if !receives m p then m else
  let m := m |> heard p |> freezeEq p
  if returns m p then returnBlk p 7 b m else
  if portState m p ≠ 6 then m else
  let r := portOf m p
  if r.markers = 0 ∨ r.markers ≠ b.seq then setPort p { r with markers := b.seq + 1 } m
  else
    portEvent p 7 (fun m =>
      if m.now - r.rxIdleAt ≤ us (idleEff m p) then m |> bump (rCPL_TRAIN_CNT p) fCPL_TRAIN_CNT_FAST |> toUp p false
      else m |> setPort p { r with resyncAt := m.now, seqs := 0 } |> setPortState p 7) m

/-- TRAIN (R228). -/
def execTrain (b : Blk) (s : State) : Host.Outcome State Fault Refusal := runEvent b.t (trainMarker b) s

/-- TRAINING_FAILURE (R230): RX_OK not set within 50 µs, or the partner's not within 1 ms of it. -/
def trainingFailure (p : Nat) (m : Mach) : Mach :=
  let r := portOf m p
  let due := if r.rxOk then decide (r.rxOkAt + ms 1 ≤ m.now) else decide (r.trainAt + us 50 ≤ m.now)
  if !training m p || !due then m
  else
    portEvent p 7 (fun m =>
      let m := setPort p { portOf m p with fails := r.fails + 1 } m
      if 3 ≤ r.fails + 1 then
        m |> setPort p { portOf m p with failedAt := m.now } |> setF (rCPL_STATE p) fCPL_STATE_LAST_CAUSE 8 |>
          setPortState p 9 |> raise (133 + p) noInst
      else if portState m p = 3 then toTrain p m
      else m |> txLate p |> startTraining p) m

/-- TRAINING_FAILURE (R230). -/
def execTrainingFailure (t : Nat) (port : Fin 24) (s : State) : Host.Outcome State Fault Refusal :=
  runEvent t (trainingFailure port) s

/-- FAILED_TIMEOUT (R231). A spare is not retried until it has been in STANDBY again (R243). -/
def execFailedTimeout (t : Nat) (port : Fin 24) (s : State) : Host.Outcome State Fault Refusal :=
  runEvent t (fun m =>
    let r := portOf m port
    if portState m port == 9 && decide (r.failedAt + ms 10 ≤ m.now) && getF m (rCPL_CFG port) fCPL_CFG_ROLE != 3 then
      m |> setPort port { r with fails := 0 } |> portEvent port 7 (toDetect port)
    else m) s

/-- DETECT_COMPLETE (R231): LOS has been clear for 1 µs, with the port reference in range. -/
def execDetectComplete (t : Nat) (port : Fin 24) (s : State) : Host.Outcome State Fault Refusal :=
  runEvent t (fun m =>
    let r := portOf m port
    if portState m port == 2 && decide (r.detectAt + us 1 ≤ m.now) && flag m rCPL_REF_STAT fCPL_REF_STAT_REF_OK then
      m |> heard port |> portEvent port 7 (toTrain port)
    else m) s

/-- RESYNC_TIMEOUT (R231). -/
def execResyncTimeout (t : Nat) (port : Fin 24) (s : State) : Host.Outcome State Fault Refusal :=
  runEvent t (fun m =>
    if portState m port == 7 && decide ((portOf m port).resyncAt + us 20 ≤ m.now) then portEvent port 7 (retrain port) m else m) s

/-! ### Detectors (R222, R223) -/

/-- A detector's live bit and its sticky bit (R224): none in OFF. -/
def detect (p : Nat) (live sticky : Fld) (m : Mach) : Mach :=
  if portState m p = 0 then m
  else m |> setB (rCPL_DET_STAT p) live true |> latchBit (rCPL_DET_STAT p) sticky

/-- LOS asserts: after an IDLE_REQ it is the idle; with LOS_HOLD = 0 it ends UP or TRAIN at once. -/
def losAssert (p : Nat) (m : Mach) : Mach :=
  let m := m |> detect p fCPL_DET_STAT_LOS fCPL_DET_STAT_LOS_S |> setB (rCPL_DET_STAT p) fCPL_DET_STAT_SQ false |> freezeEq p
  let r := portOf m p
  let idle := match r.idleReqAt with
    | some a => decide (m.now ≤ a + us 1)
    | none => false
  let now := getF m (rCPL_DET_CFG p) fCPL_DET_CFG_LOS_HOLD == 0
  let st := portState m p
  if st = 0 then m
  else if st == 4 && idle then
    portEvent p 4 (fun m => m |> setPort p { r with idleReqAt := none, rxIdleAt := m.now } |> setPortState p 5) m
  else if st == 4 && now then portEvent p 4 (linkDown p 1 true) m
  else if st == 3 && now then portEvent p 4 (toDetect p) m
  else if st = 2 then setPort p { r with detectAt := m.now } m
  else setPort p { r with losAt := some m.now } m

/-- LOS (R222). -/
def execLos (t : Nat) (port : Fin 24) (s : State) : Host.Outcome State Fault Refusal := runEvent t (losAssert port) s

/-- LOS_HOLD_EXPIRY (R223). -/
def execLosHoldExpiry (t : Nat) (port : Fin 24) (s : State) : Host.Outcome State Fault Refusal :=
  runEvent t (fun m =>
    let r := portOf m port
    match r.losAt with
    | none => m
    | some a =>
      if m.now < a + us (getF m (rCPL_DET_CFG port) fCPL_DET_CFG_LOS_HOLD) then m
      else if portState m port = 4 then portEvent port 4 (linkDown port 1 true) m
      else if portState m port = 3 then portEvent port 4 (toDetect port) m
      else m) s

/-- LOL (R222). -/
def execLol (t : Nat) (port : Fin 24) (s : State) : Host.Outcome State Fault Refusal :=
  runEvent t (fun m =>
    let m := m |> detect port fCPL_DET_STAT_LOL fCPL_DET_STAT_LOL_S |> setPort port { portOf m port with lolAt := some m.now }
    when (portState m port == 4) (portEvent port 4 (linkDown port 2 true)) m) s

/-- LOA (R222). -/
def execLoa (t : Nat) (port : Fin 24) (s : State) : Host.Outcome State Fault Refusal :=
  runEvent t (fun m =>
    when (portState m port == 4) (fun m =>
      m |> detect port fCPL_DET_STAT_LOA fCPL_DET_STAT_LOA_S |> portEvent port 4 (linkDown port 3 true)) m) s

/-- Are there more than ERR_MAX errored blocks in the present 1 ms window, and is that not yet taken (R222, R459)? -/
def errorRateDue (m : Mach) (p : Nat) : Bool :=
  let r := portOf m p
  r.errIx == (m.now - m.pwr.hubAt) / ms 1 && decide (getF m (rCPL_DET_CFG p) fCPL_DET_CFG_ERR_MAX < r.errN) && !r.errHit

/-- ERROR_RATE_EXCEEDED (R222). -/
def errorRate (p : Nat) (m : Mach) : Mach :=
  if !errorRateDue m p then m else
  let m := m |> setPort p { portOf m p with errHit := true } |> latchBit (rCPL_DET_STAT p) fCPL_DET_STAT_ERR_RATE
  when (portState m p == 4) (portEvent p 5 (linkDown p 4 true)) m

/-- ERROR_RATE_EXCEEDED (R222). -/
def execErrorRateExceeded (t : Nat) (port : Fin 24) (s : State) : Host.Outcome State Fault Refusal := runEvent t (errorRate port) s

/-- TRANSMIT_PLL_LOSS_OF_LOCK (R223). -/
def execTransmitPllLossOfLock (t : Nat) (port : Fin 24) (s : State) : Host.Outcome State Fault Refusal :=
  runEvent t (fun m => when (portState m port == 4) (portEvent port 4 (linkDown port 2 true)) m) s

/-- A block is discarded: its port no longer has 8 valid blocks in a row (R230), and the adaptation is frozen (R226). -/
def badBlk (p : Nat) (f : Fld) (m : Mach) : Mach :=
  let m := m |> heard p |> freezeEq p |> errBlk p f
  setPort p { portOf m p with seqs := 0 } m

/-- HEADER_CHECK_FAILURE (R210). -/
def execHeaderCheckFailure (t : Nat) (port : Fin 24) (s : State) : Host.Outcome State Fault Refusal :=
  runEvent t (fun m => when (receives m port) (badBlk port fCPL_BLK_ERR_HDR) m) s

/-- CODE_VIOLATION (R216). -/
def execCodeViolation (t : Nat) (port : Fin 24) (s : State) : Host.Outcome State Fault Refusal :=
  runEvent t (fun m => when (receives m port)
    (fun m => m |> badBlk port fCPL_BLK_ERR_CV |> latchBit (rCPL_DET_STAT port) fCPL_DET_STAT_CV_S) m) s

/-- A block of reserved type, or a LINK block (type 6) with an undefined OP, is discarded and counted (R211). -/
def reservedBlk (type : Nat) (b : Blk) (m : Mach) : Mach :=
  if type = 6 then takeLink b (countType b.port) m else takeBlk type false b id m

/-- RESERVED_BLOCK_TYPE (R211). -/
def execReservedBlockType (b : Blk) (type : Fin 16) (s : State) : Host.Outcome State Fault Refusal := runEvent b.t (reservedBlk type b) s

/-- PORT_REFERENCE_LOSS (R223, R231): every port but those in OFF goes to electrical idle; the cause PORT_REF is held. The detector is off in
SLEEP, DEEP and OFF (R383). -/
def referenceLoss (m : Mach) : Mach :=
  if !hubRuns m || !flag m rCPL_REF_STAT fCPL_REF_STAT_REF_OK then m else
  let m := m |> setB rCPL_REF_STAT fCPL_REF_STAT_REF_OK false |> latchBit rCPL_REF_STAT fCPL_REF_STAT_REF_LOSS
  let m := forEach (List.range 24) (fun p m =>
    if portState m p = 0 then m
    else
      let m := m |> portEvent p 2 (setPortState p 2) |> setB (rCPL_STATE p) fCPL_STATE_TX_IDLE true |>
        setF (rCPL_STATE p) fCPL_STATE_LAST_CAUSE 7
      setPort p { portOf m p with txIdleAt := m.now } m) m
  m |> causeOn 5 |> raise 15 noInst

/-- PORT_REFERENCE_LOSS (R223). -/
def execPortReferenceLoss (t : Nat) (s : State) : Host.Outcome State Fault Refusal := runEvent t referenceLoss s

/-- PORT_REFERENCE_RESTORED (R231). -/
def execPortReferenceRestored (t : Nat) (s : State) : Host.Outcome State Fault Refusal :=
  runEvent t (fun m =>
    if flag m rCPL_REF_STAT fCPL_REF_STAT_REF_OK then m
    else
      let m := setB rCPL_REF_STAT fCPL_REF_STAT_REF_OK true m
      let m := forEach (List.range 24) (fun p m => when (portState m p == 2) (toDetect p) m) m
      causeOff 5 m) s

/-! ### Electrical idle (R227 to R229) -/

/-- IDLE_REQ (R227). -/
def execIdleReq (b : Blk) (s : State) : Host.Outcome State Fault Refusal :=
  runEvent b.t (takeLink b (fun m =>
    when (portState m b.port == 4) (fun m => setPort b.port { portOf m b.port with idleReqAt := some m.now } m) m)) s

/-- IDLE_REQ_TIMEOUT (R227). -/
def execIdleReqTimeout (t : Nat) (port : Fin 24) (s : State) : Host.Outcome State Fault Refusal :=
  runEvent t (fun m =>
    let r := portOf m port
    match r.idleReqAt with
    | some a => if a + us 1 < m.now then setPort port { r with idleReqAt := none } m else m
    | none => m) s

/-- SQUELCH_EXIT (R231): armed in RX_IDLE and STANDBY. -/
def execSquelchExit (t : Nat) (port : Fin 24) (s : State) : Host.Outcome State Fault Refusal :=
  runEvent t (fun m =>
    let st := portState m port
    if st = 5 then
      let m := heard port m
      m |> setPort port { portOf m port with exitAt := m.now, markers := 0 } |> portEvent port 7 (setPortState port 6)
    else when (st == 1) (setB (rCPL_DET_STAT port) fCPL_DET_STAT_SQ true) m) s

/-- EXIT_TIMER (R231). -/
def execExitTimer (t : Nat) (port : Fin 24) (s : State) : Host.Outcome State Fault Refusal :=
  runEvent t (fun m =>
    if portState m port == 6 && decide ((portOf m port).exitAt + us 1 ≤ m.now) then portEvent port 7 (retrain port) m else m) s

/-- May the transmitter of port `p` go to electrical idle (R227)? Replies, events and messages are sent as they arise, so
that none waits while the tile's group is not running. -/
def idleDue (m : Mach) (p : Nat) : Bool :=
  let busy := match tileOfPort m p with
    | some t => ((groupOf m t).map (grpRuns m)).getD false
    | none => false
  portState m p == 4 && flag m (rCPL_CFG p) fCPL_CFG_TX_IDLE_EN && !flag m (rCPL_STATE p) fCPL_STATE_TX_IDLE &&
    decide ((portOf m p).lastTx + us (getF m (rCPL_IDLE_CFG p) fCPL_IDLE_CFG_TX_IDLE_DLY) ≤ m.now) && !(tileRole m p && busy)

/-- TX_IDLE_ENTRY (R227): the other member of a pair goes to idle with the port where it may. -/
def execTxIdleEntry (t : Nat) (port : Fin 24) (s : State) : Host.Outcome State Fault Refusal :=
  runEvent t (fun m =>
    when (idleDue m port) (idlePorts ((withMates m port).filter (idleDue m))) m) s

/-- Does a block wait at port `p`: a message for a sync or porch line of the tile that it carries (R219, R228)? -/
def blockWaits (m : Mach) (p : Nat) : Bool :=
  match tileOfPort m p with
  | some t => (tileOf m t).msgQ != [] && (sendPorts m t).contains p
  | none => false

/-- TX_IDLE_EXIT (R228). Other blocks take their idle transmitter out of idle as they are sent. -/
def execTxIdleExit (t : Nat) (port : Fin 24) (s : State) : Host.Outcome State Fault Refusal :=
  runEvent t (fun m => when (portState m port == 4 && blockWaits m port) (forEach (withMates m port) txExit) m) s

/-- RETRAIN_REQ (R231). -/
def execRetrainReq (b : Blk) (s : State) : Host.Outcome State Fault Refusal :=
  runEvent b.t (takeLink b (fun m => when (portState m b.port == 4) (portEvent b.port 6 (linkDown b.port 5 false)) m)) s

/-! ### Loopbacks (R233 to R235) -/

/-- Entry to LOOP (R231, R233): the internal loops carry data after 50 µs and 1 µs, the far-end loops after full training. DESIGN CHOICE: the
receiver of an internal loop begins with the SEQ that its own transmitter sends next. -/
def enterLoop (p mode : Nat) (m : Mach) : Mach :=
  let m := setPortState p 8 m
  let m := setPort p { portOf m p with
    loopMode := mode, loopUp := if mode = 1 then some (m.now + us 50) else if mode = 2 then some (m.now + us 1) else none
    testN := 0, testOut := 0, trainBits := 0, seqIn := if mode ≤ 2 then some (portOf m p).seqOut else (portOf m p).seqIn, txIdleAt := m.now } m
  if mode ≤ 2 then setB (rCPL_STATE p) fCPL_STATE_TX_IDLE true m else startTraining p m

/-- LOOP_REQ: a port with mode 4 loops the partner's stream, or ends the loop; without mode 4 it is counted. -/
def loopReq (b : Blk) (m : Mach) : Mach :=
  let p := b.port.val
  if getF m (rCPL_LOOP p) fCPL_LOOP_MODE ≠ 4 then countType p m
  else if bit (blkWord b 1) 0 then
    when (portState m p == 4) (portEvent p 7 (enterLoop p 4)) m
  else when (portState m p == 8) (portEvent p 7 (toTrain p)) m

/-- LOOP_REQ (R233). -/
def execLoopReq (b : Blk) (s : State) : Host.Outcome State Fault Refusal := runEvent b.t (takeLink b (loopReq b)) s

/-- Bit errors of a TEST block against the n-th one (R235). -/
def testErrors (n : Nat) (b : Blk) : Nat :=
  ((List.range 63).map (fun k => popcount 32 (blkWord b (k + 1) ^^^ w32 (63 * n + k)).toNat)).sum

/-- TEST: the checker counts bit errors, 2,016 of them for each block lost in the loop, which its SEQ tells (R235). In modes 1 and 2 the
blocks stay inside the device, where nothing alters them. -/
def testBlk (b : Blk) (m : Mach) : Mach :=
  let p := b.port.val
  if !loopActive m p then m
  else
    let m := txLate p m
    let r := portOf m p
    let lost := (b.seq + 256 - (r.seqOut + 255 * r.testOut + r.testN) % 256) % 256
    let n := r.testN + lost
    m |> bumpBy (2016 * lost + testErrors n b) (rCPL_TEST_ERR p) fCPL_TEST_ERR_BITS |> setPort p { r with testN := n + 1 }

/-- TEST (R235). -/
def execTest (b : Blk) (s : State) : Host.Outcome State Fault Refusal := runEvent b.t (takeLink b (testBlk b)) s

/-- Run `f` on the port that bits [4:0] of word 0 name. -/
def withPort (p : Packet) (f : Nat → Mach → Mach × Rep) (m : Mach) : Mach × Rep :=
  let k := bits (par p 0) 4 0
  if k < 24 then f k m else (m, err stBAD_PARAM)

/-- PORT_LOOPBACK with mode `mode` on port `k` (R231, R233). -/
def setLoopback (k mode : Nat) (m : Mach) : Mach :=
  let st := portState m k
  let m := setF (rCPL_LOOP k) fCPL_LOOP_MODE mode m
  if mode = 0 then
    if st = 8 then portEvent k 7 (fun m => m |> when ((portOf m k).loopMode == 3) (sendLink k 4 [0]) |> toTrain k) m else m
  else if mode = 4 then m
  else if st = 4 then
    let m := when (mode == 3) (sendLink k 4 [1]) m
    portEvent k 7 (enterLoop k mode) m
  else m

def loopBody (mode : Nat) (p : Packet) (m : Mach) : Mach × Rep :=
  require (clean (par p 0) [(10, 8), (4, 0)] && bits (par p 0) 10 8 == mode) (withPort p (fun k m =>
    if mode ≠ 0 ∧ portFree m k = false then stateReject m (rCPL_STATE k)
    else if pending m .cal then (m, err stBUSY)
    else (setLoopback k mode m, ok []))) m

/-- A row of PORT_LOOPBACK. -/
def loopRow (i : Instr) (mode : Nat) (p : Packet) (s : State) : Host.Outcome State Fault Refusal :=
  runDratus i (native 0x52 1 .topaz .h0p false false) noReply (withLen (· == 1) (loopBody mode)) p s

/-- PORT_LOOPBACK mode 0 (R233). -/
def execLoopbackOff (p : Packet) (s : State) : Host.Outcome State Fault Refusal := loopRow (.loopbackOff p) 0 p s

/-- PORT_LOOPBACK mode 1 (R233). -/
def execNearEndSerial (p : Packet) (s : State) : Host.Outcome State Fault Refusal := loopRow (.nearEndSerial p) 1 p s

/-- PORT_LOOPBACK mode 2 (R233). -/
def execNearEndParallel (p : Packet) (s : State) : Host.Outcome State Fault Refusal := loopRow (.nearEndParallel p) 2 p s

/-- PORT_LOOPBACK mode 3 (R233). -/
def execFarEndRequest (p : Packet) (s : State) : Host.Outcome State Fault Refusal := loopRow (.farEndRequest p) 3 p s

/-- PORT_LOOPBACK mode 4 (R233). -/
def execFarEndAccept (p : Packet) (s : State) : Host.Outcome State Fault Refusal := loopRow (.farEndAccept p) 4 p s

/-! ### PORT_CONFIG, PORT_STATUS, EYE_SCAN -/

/-- The ranges of the port's field tables (R245). -/
def portCfgOk (p : Packet) : Bool :=
  let cfg := par p 1
  let det := par p 4
  let idle := par p 5
  clean cfg [(31, 29), (26, 24), (22, 20), (15, 13)] && decide (fget cfg fCPL_CFG_ROLE ≤ 3) &&
    decide (fget cfg fCPL_CFG_TX_RATE ≤ 4) && decide (fget cfg fCPL_CFG_RX_RATE ≤ 4) &&
    clean (par p 2) [(22, 20), (15, 12), (10, 8)] && clean (par p 3) [(31, 30), (27, 24), (16, 16)] &&
    clean det [(31, 28), (23, 8)] && decide (4 ≤ fget det fCPL_DET_CFG_LOS_TH) && decide (1 ≤ fget det fCPL_DET_CFG_ERR_MAX) &&
    decide (10 ≤ fget idle fCPL_IDLE_CFG_IDLE_MAX) && decide (10 ≤ fget idle fCPL_IDLE_CFG_TX_IDLE_DLY)

/-- New settings of port `k` take effect (R231, R232): ROLE 0 goes first; a port in use trains again. -/
def applyPort (k : Nat) (m : Mach) : Mach :=
  let st := portState m k
  let m := if getF m (rCPL_CFG k) fCPL_CFG_ROLE = 0 ∨ st = 0 ∨ portFenced m k then applyRole k m
    else if st = 1 then m
    else portEvent k 3 (fun m => m |> setF (rCPL_STATE k) fCPL_STATE_LAST_CAUSE 6 |> toTrain k) m
  m |> setEq k |> streamRole k

def portConfigBody (p : Packet) (m : Mach) : Mach × Rep :=
  require (clean (par p 0) [(4, 0)] && portCfgOk p) (withPort p (fun k m =>
    if portFree m k = false then stateReject m (rCPL_STATE k)
    else if pending m .cal then (m, err stBUSY)
    else
      (m |> txLate k |> setReg (rCPL_CFG k) (par p 1) |> setReg (rCPL_TXEQ k) (par p 2) |> setReg (rCPL_RXEQ_CFG k) (par p 3) |>
        setReg (rCPL_DET_CFG k) (par p 4) |> setReg (rCPL_IDLE_CFG k) (par p 5) |> applyPort k, ok []))) m

/-- PORT_CONFIG (R244). -/
def execPortConfig (p : Packet) (s : State) : Host.Outcome State Fault Refusal :=
  runDratus (.portConfig p) (native 0x50 1 .topaz .h0p false false) noReply (withLen (· == 6) portConfigBody) p s

/-- PORT_STATUS (R244). -/
def execPortStatus (p : Packet) (s : State) : Host.Outcome State Fault Refusal :=
  runDratus (.portStatus p) (native 0x51 1 .topaz .any true true) (replyLen 9)
    (withLen (· == 1) (fun p => require (clean (par p 0) [(4, 0)]) (withPort p (fun k m =>
      (m, ok ([rCPL_STATE k, rCPL_DET_STAT k, rCPL_BLK_ERR k, rCPL_EB k, rCPL_RXEQ_STAT k, rCPL_EYE k, rCPL_TEST_ERR k,
        rCPL_TRAIN_CNT k, rCPL_LOOP k].map (viewReg m))))))) p s

/-- EYE_SCAN (R237). -/
def execEyeScan (p : Packet) (s : State) : Host.Outcome State Fault Refusal :=
  let o := native 0x53 2 .topaz .h0 false true
  runDratus (.eyeScan p) o (replyLen 1)
    (withLen (· == 1) (fun p => require (clean (par p 0) [(4, 0)]) (withPort p (fun k m =>
      if portState m k ≠ 4 ∧ portState m k ≠ 8 then stateReject m (rCPL_STATE k)
      else if (pendOf m .eye k).isSome || pending m .cal then (m, err stBUSY)
      else pend o .eye k p m)))) p s

/-- EYE_SCAN_DONE (R236). -/
def execEyeScanDone (t : Nat) (port : Fin 24) (width height : Nat) (s : State) : Host.Outcome State Fault Refusal :=
  runEvent t (fun m =>
    if (pendOf m .eye port).isNone then m
    else
      let m := setReg (rCPL_EYE port) (w32 (2 ^ 31 + min width 64 <<< 16 + min height 1000)) m
      finish .eye port (ok [viewReg m (rCPL_EYE port)]) m) s

/-! ### Twins and spares (R239 to R244) -/

/-- Is port `p` a member of a pair, or a spare? -/
def pairedPort (m : Mach) (p : Nat) : Bool :=
  (List.range 24).any (fun t => flag m (rCPL_TWIN t) fCPL_TWIN_EN &&
    (getF m (rCPL_TWIN t) fCPL_TWIN_PRIMARY == p || getF m (rCPL_TWIN t) fCPL_TWIN_TWIN == p)) ||
  (List.range 8).any (fun k => flag m (rCPL_SPARE k) fCPL_SPARE_EN && getF m (rCPL_SPARE k) fCPL_SPARE_PORT == p)

/-- Have two ports the same rates? -/
def sameRates (m : Mach) (a b : Nat) : Bool :=
  getF m (rCPL_CFG a) fCPL_CFG_TX_RATE == getF m (rCPL_CFG b) fCPL_CFG_TX_RATE &&
    getF m (rCPL_CFG a) fCPL_CFG_RX_RATE == getF m (rCPL_CFG b) fCPL_CFG_RX_RATE

/-- A TWIN_SET waits for the next latch of the tile's group, or takes effect at once (R244). -/
def setTwin (t : Nat) (w : Word) (m : Mach) : Mach :=
  if ((groupOf m t).map (grpRuns m)).getD false then setTilePix t { pixOf m t with twinNew := some w } m
  else applyTwin t w m

def twinBody (en : Bool) (p : Packet) (m : Mach) : Mach × Rep :=
  let w := par p 1
  let a := bits w 4 0
  let b := bits w 12 8
  require (clean (par p 0) [(31, 31), (4, 0)] && bit (par p 0) 31 == en && clean w [(12, 8), (4, 0)])
    (withTile p (fun t m =>
      if !en then (setTwin t (w &&& 0x1F1F) m, ok [])
      else if decide (24 ≤ a) || decide (24 ≤ b) || a == b || getF m (rCPL_CFG a) fCPL_CFG_ROLE != 1 ||
          getF m (rCPL_CFG b) fCPL_CFG_ROLE != 1 || !sameRates m a b || pairedPort m a || pairedPort m b then
        (m, err stBAD_PARAM)
      else (setTwin t (w ||| 0x80000000) m, ok []))) m

/-- TWIN_SET (R239). -/
def execTwinSet (p : Packet) (s : State) : Host.Outcome State Fault Refusal :=
  runDratus (.twinSet p) (native 0x57 1 .topaz .h0p false false) noReply (withLen (· == 2) (twinBody true)) p s

/-- TWIN_SET with EN = 0 (R244). -/
def execTwinRemove (p : Packet) (s : State) : Host.Outcome State Fault Refusal :=
  runDratus (.twinRemove p) (native 0x57 1 .topaz .h0p false false) noReply (withLen (· == 2) (twinBody false)) p s

/-- Are the enabled entries of a SPARE_SET in order (R244)? -/
def sparesOk (m : Mach) (ws : List Word) : Bool :=
  let on := ws.filter (fun w => bit w 31)
  ws.all (fun w => clean w [(31, 31), (12, 8), (4, 0)]) &&
    on.all (fun w => decide (bits w 12 8 < 24) && decide (bits w 4 0 < 24) &&
      getF m (rCPL_CFG (bits w 12 8)) fCPL_CFG_ROLE == 3 && sameRates m (bits w 12 8) (carryPort m (bits w 4 0))) &&
    !namedTwice (on.map (fun w => bits w 12 8)) && !namedTwice (on.map (fun w => bits w 4 0))

/-- Entry `k` of the spares takes a word; a spare that goes on carrying its tile stays in use. -/
def setSpare (k : Nat) (w : Word) (m : Mach) : Mach :=
  let a := rCPL_SPARE k
  let same := flag m a fCPL_SPARE_IN_USE && getF m a fCPL_SPARE_PORT == bits w 12 8 && getF m a fCPL_SPARE_TILE == bits w 4 0 &&
    bit w 31
  m |> setReg a w |> setB a fCPL_SPARE_IN_USE same

/-- SPARE_SET (R242, R244). -/
def execSpareSet (p : Packet) (s : State) : Host.Outcome State Fault Refusal :=
  runDratus (.spareSet p) (native 0x58 1 .topaz .h0p false false) noReply (fun p m =>
    let n := bits (par p 0) 3 0
    let ws := p.params.drop 1
    if p.params.length ≠ 1 + n then (m, err stBAD_LENGTH)
    else
      require (clean (par p 0) [(3, 0)] && decide (n ≤ 8) && sparesOk m ws) (fun m =>
        (forEach (List.range 8) (fun k m => setSpare k (ws.getD k 0) m) m, ok [])) m) p s

/-- A spare of tile `t` that satisfies `f`. -/
def spareOf (m : Mach) (t : Nat) (f : Nat → Bool) : Option Nat :=
  (List.range 8).find? (fun k => flag m (rCPL_SPARE k) fCPL_SPARE_EN && getF m (rCPL_SPARE k) fCPL_SPARE_TILE == t && f k)

/-- A port in UP carries the tile, or a member of its pair is in UP (R242, R243). -/
def servedUp (m : Mach) (t : Nat) : Bool :=
  let a := rCPL_TWIN t
  let pair := if flag m a fCPL_TWIN_EN then [getF m a fCPL_TWIN_PRIMARY, getF m a fCPL_TWIN_TWIN] else []
  (carriers m t ++ pair).any (fun p => portState m p == 4)

/-- SPARE_BRING_IN (R242, R243). -/
def execSpareBringIn (t : Nat) (tile : Fin 24) (s : State) : Host.Outcome State Fault Refusal :=
  runEvent t (fun m =>
    match spareOf m tile (fun k => !flag m (rCPL_SPARE k) fCPL_SPARE_IN_USE && portState m (getF m (rCPL_SPARE k) fCPL_SPARE_PORT) == 1) with
    | none => m
    | some k =>
      if servedUp m tile || decide (m.now < (tileOf m tile).noUpAt + us 100) then m
      else
        let p := getF m (rCPL_SPARE k) fCPL_SPARE_PORT
        m |> setB (rCPL_SPARE k) fCPL_SPARE_IN_USE true |> portEvent p 7 (toDetect p)) s

/-- TWIN_REJOIN (R241). -/
def execTwinRejoin (t : Nat) (tile : Fin 24) (s : State) : Host.Outcome State Fault Refusal :=
  runEvent t (fun m =>
    let a := rCPL_TWIN tile
    if flag m a fCPL_TWIN_EN && rejoinStat m tile != getF m a fCPL_TWIN_STAT then
      setTilePix tile { pixOf m tile with rejoin := true } m
    else m) s

/-- SPARE_RETURN (R242): the former carrying port becomes the new spare, in STANDBY. -/
def execSpareReturn (t : Nat) (tile : Fin 24) (s : State) : Host.Outcome State Fault Refusal :=
  runEvent t (fun m =>
    match (pixOf m tile).former, spareOf m tile (fun k => flag m (rCPL_SPARE k) fCPL_SPARE_IN_USE) with
    | some p, some k =>
      if up100 m p then
        m |> setTilePix tile { pixOf m tile with former := none } |> setF (rCPL_CFG p) fCPL_CFG_ROLE 3 |>
          setF (rCPL_SPARE k) fCPL_SPARE_PORT p |> setB (rCPL_SPARE k) fCPL_SPARE_IN_USE false |> toDark p 1
      else m
    | _, _ => m) s

end Sys2Proof.Machine
end

