-- ==== Sys2Proof/Machine/Tiles.lean ====
section
/-!
DEFINITION. Tile partners: reports (R249 to R252), identity and authentication (R253 to R258), HEALTH (R250, R262, R263),
dead-pixel lists (R165, R250) and the tile commands (R264).
-/

namespace Sys2Proof.Machine

/-! ### Reports (R249 to R252) -/

/-- KIND, RSEQ, PART and PARTS of a report. -/
def repKind (b : Blk) : Nat := bits (blkWord b 0) 31 24
def repSeq (b : Blk) : Nat := bits (blkWord b 0) 23 16
def repPart (b : Blk) : Nat := bits (blkWord b 0) 15 8
def repParts (b : Blk) : Nat := bits (blkWord b 0) 7 0

/-- Words `lo` to `hi` of a block. -/
def blkWords (b : Blk) (lo hi : Nat) : List Word := (List.range (hi + 1 - lo)).map (fun k => blkWord b (lo + k))

/-- Are the words `lo` to 62 zero? -/
def zeroFrom (b : Blk) (lo : Nat) : Bool := (blkWords b lo 62).all (· == 0)

/-- Are the reserved words of a report zero (R249)? A SIGNATURE report with a count outside 1 to 30 is refused with them. -/
def reservedOk (b : Blk) : Bool :=
  match repKind b with
  | 1 => zeroFrom b 4
  | 2 =>
    let n := bits (blkWord b 1) 4 0
    decide (1 ≤ n) && decide (n ≤ 30) && zeroFrom b (2 + 2 * n)
  | 3 => true
  | 4 => zeroFrom b 45 && (bits (blkWord b 7) 7 0 == 37 || zeroFrom b 8)
  | _ => zeroFrom b 18

/-- The CRC-32C over words 0 to 62 (R249). -/
def repCrc (b : Blk) : Nat := crc crc32c (wordsBytes (blkWords b 0 62))

/-- Does a report pass the checks of R249 as a report of KIND `kind`? -/
def reportOk (kind : Nat) (b : Blk) : Bool :=
  repKind b == kind && decide (repPart b < repParts b) && reservedOk b && (blkWord b 63).toNat == repCrc b

/-- A discarded report or entry is counted (R249, R250). -/
def countCheck (t : Nat) (m : Mach) : Mach := bump (rTIL_ERR t) fTIL_ERR_CHECK m

/-- A report that passed its checks is taken once (R251), if the tile was asked for it (`wanted`, R250), and at most 64 in a window of
1 ms (R252, R459). -/
def takeOnce (t : Nat) (b : Blk) (wanted : Bool) (f : Mach → Mach) (m : Mach) : Mach :=
  let r := tileOf m t
  let key := (repKind b, repSeq b, repPart b)
  if r.recent.contains key then m
  else if !wanted then countCheck t m
  else
  let ix := (m.now - m.pwr.hubAt) / ms 1
  let n := if r.win.1 = ix then r.win.2 else 0
  if 64 ≤ n then
    let sx := (m.now - m.pwr.hubAt) / sec 1
    let same := r.flood.1 == sx
    m |> bump (rTIL_ERR t) fTIL_ERR_FLOOD |>
      setTile t { r with flood := (sx, (if same then r.flood.2 else 0) + 1), flooded := same && r.flooded }
  else
    m |> setTile t { r with win := (ix, n + 1), recent := (key :: r.recent).take 16 } |>
      setF (rTIL_STAT t) fTIL_STAT_PORT b.port |> f

/-- A STATUS block that carries a report of KIND `kind`: `wanted` says whether the tile was asked for it. -/
def takeReport (kind : Nat) (wanted : Mach → Nat → Bool) (b : Blk) (f : Nat → Mach → Mach) (m : Mach) : Mach :=
  takeBlk 5 (tileRole m b.port && (tileOfPort m b.port).isSome) b (fun m =>
    match tileOfPort m b.port with
    | none => m
    | some t => if reportOk kind b then takeOnce t b (wanted m t) (f t) m else countCheck t m) m

/-- A report that a tile sends unasked. -/
def unasked (_ : Mach) (_ : Nat) : Bool := true

/-- REPORT_FLOOD (R252): once in a window of 1 s. -/
def execReportFlood (t : Nat) (tile : Fin 24) (s : State) : Host.Outcome State Fault Refusal :=
  runEvent t (fun m =>
    let r := tileOf m tile
    if r.flood.1 == (m.now - m.pwr.hubAt) / sec 1 && decide (1000 < r.flood.2) && !r.flooded then
      m |> setTile tile { r with flooded := true } |> raise 284 (detail tile 0)
    else m) s

/-! ### HEALTH -/

/-- TEMP of a HEALTH report: plausible within −50 to 175 °C and within 20 °C of the one before it, if that is less than
100 ms old (R250). -/
def takeTemp (t : Nat) (code : Nat) (m : Mach) : Mach :=
  let v := sgn 16 code
  let r := tileOf m t
  let jump := match r.lastTemp with
    | some (old, at_) => decide (m.now < at_ + ms 100) && decide (320 < (v - old).natAbs)
    | none => false
  let m := setTile t { r with lastTemp := some (v, m.now) } m
  if decide (v < -800) || decide (2800 < v) || jump then bump (rTIL_ERR t) fTIL_ERR_IMPLAUS m
  else m |> setF (rTIL_TEMP t) fTIL_TEMP_TEMP code |> setTile t { tileOf m t with tempAt := some m.now }

/-- The LIMP bit is compared with a level of LIMP_N that has stood for 100 ms (R262). -/
def limpTest (t : Nat) (limp : Bool) (m : Mach) : Mach :=
  let bad := decide (m.limpAt + ms 100 ≤ m.now) && limp == m.saf.limpHigh
  let was := hasBit m.flt.limpDiff t
  let m := { m with flt := { m.flt with limpDiff := if bad then setBit m.flt.limpDiff t else clrBit m.flt.limpDiff t } }
  when (bad && !was) (raise 13 (detail t 0)) m

/-- The tile's input from a member of its pair is lost (R240): only training is sent there (DEDUCED: the port leaves UP). -/
def inputLost (t p : Nat) (m : Mach) : Mach :=
  let m := twinLost t p m
  when (portState m p == 4) (retrain p) m

/-- A HEALTH report (R250, R258, R262, R263). -/
def healthReport (b : Blk) (t : Nat) (m : Mach) : Mach :=
  let w := blkWord b 2
  let st := rTIL_STAT t
  let m := takeTemp t (bits (blkWord b 1) 15 0) m
  let hadFault := flag m st fTIL_STAT_TFAULT
  let m := m |> setF st fTIL_STAT_IN (bits w 1 0) |> setB st fTIL_STAT_HOLDING (bit w 3) |>
    setB st fTIL_STAT_LIMP (bit w 2) |> setB st fTIL_STAT_TFAULT (bit w 4)
  let m := when (bit w 4) (setF st fTIL_STAT_FAULT_CODE (bits w 15 8)) m
  let m := when (bit w 4 && !hadFault) (raise 282 (detail t 0)) m
  let m := limpTest t (bit w 2) m
  let m := setTile t { tileOf m t with healthAt := m.now } m
  let m := if tileState m t = 7 then toTileState t (tileOf m t).before m else m
  let a := rCPL_TWIN t
  let pair := flag m a fCPL_TWIN_EN
  let stat := getF m a fCPL_TWIN_STAT
  m |> when (pair && !bit w 0 && (stat == 0 || stat == 1)) (inputLost t (getF m a fCPL_TWIN_PRIMARY)) |>
    when (pair && !bit w 1 && (stat == 0 || stat == 2)) (inputLost t (getF m a fCPL_TWIN_TWIN))

/-- HEALTH (R250). -/
def execHealth (b : Blk) (s : State) : Host.Outcome State Fault Refusal :=
  runEvent b.t (fun m => takeReport 1 unasked b (healthReport b) m) s

/-- SILENT_TIMEOUT (R258). -/
def execSilentTimeout (t : Nat) (tile : Fin 24) (s : State) : Host.Outcome State Fault Refusal :=
  runEvent t (fun m =>
    let st := tileState m tile
    let r := tileOf m tile
    if (st == 3 || st == 4) && decide (r.healthAt + ms (10 * getF m rTIL_TMO fTIL_TMO_SILENT_TMO) ≤ m.now) then
      m |> setTile tile { r with before := st } |> toTileState tile 7 |> raise (253 + tile) noInst
    else m) s

/-! ### SIGNATURE -/

/-- SIGNATURE (R200): each pair is compared. -/
def execSignature (b : Blk) (s : State) : Host.Outcome State Fault Refusal :=
  runEvent b.t (fun m => takeReport 2 unasked b (fun t m =>
    forEach (List.range (bits (blkWord b 1) 4 0)) (fun k m =>
      sigReport t (blkWord b (2 + 2 * k)).toNat (blkWord b (3 + 2 * k)).toNat m) m) m) s

/-! ### DEAD_LIST (R165, R250) -/

/-- The tile is declared degraded (R165); the declaration holds until the next start. -/
def degrade (t : Nat) (m : Mach) : Mach :=
  if flag m (rPHO_TILE_STAT t) fPHO_TILE_STAT_DEGRADED then m
  else m |> markLoss t |> setB (rPHO_TILE_STAT t) fPHO_TILE_STAT_DEGRADED true |> tileChanged t |> raise (229 + t) noInst

/-- Does an entry, as column and row, lie within the tile's geometry? A tile without geometry has none to lie outside of. -/
def inGeom (m : Mach) (t : Nat) (q : Nat × Nat) : Bool :=
  match tileGeom m t with
  | some (_, w, h) => decide (q.1 < w) && decide (q.2 < h)
  | none => true

/-- PHO_TILE_STAT shows the newest dead-pixel list (R181). -/
def showDead (t : Nat) (m : Mach) : Mach :=
  let list := (((pixOf m t).deads.head?).map Prod.snd).getD []
  m |> setF (rPHO_TILE_STAT t) fPHO_TILE_STAT_DEAD list.length |>
    setF (rPHO_TILE_STAT t) fPHO_TILE_STAT_CLUSTER (capN 255 (largestCluster list.length list))

/-- A complete list of `total` entries is taken; the device keeps up to 1,024 of them. -/
def takeDead (t total : Nat) (list : List (Nat × Nat)) (m : Mach) : Mach :=
  let list := list.eraseDups.take 1024
  let old := (pixOf m t).deads
  let due := old.takeWhile (fun e => decide (m.now < e.1 + ms 2))
  let m := m |> setTilePix t { pixOf m t with deads := (m.now, list) :: due ++ (old.drop due.length).take 1 } |> showDead t
  let cmax := getF m rPHO_REPAIR_CFG fPHO_REPAIR_CFG_CLUSTER_MAX
  let clustered := cmax != 0 && decide (cmax < largestCluster list.length list)
  when (decide (1024 < total) || clustered) (degrade t) m

/-- A part of a dead-pixel list. -/
def deadReport (b : Blk) (t : Nat) (m : Mach) : Mach :=
  let gen := bits (blkWord b 1) 31 16
  let total := bits (blkWord b 1) 15 0
  let part := repPart b
  let ents := ((blkWords b 2 62).filter (· != 0xFFFFFFFF)).map (fun w => (bits w 10 0, bits w 26 16))
  let out := ents.filter (fun q => !inGeom m t q)
  let m := bumpBy out.length (rTIL_ERR t) fTIL_ERR_CHECK m
  let m := when (part == 0 && decide (1024 < total)) (degrade t) m
  let r := tileOf m t
  let asm := tget {} r.asms gen
  let asm := if asm.parts.isEmpty then { asm with total := total, startAt := m.now } else asm
  let asm := { asm with parts := tput [(2048, 2048)] asm.parts part (ents.filter (inGeom m t)) }
  let need := max 1 (cdiv asm.total 61)
  if (List.range need).all (fun k => tget [(2048, 2048)] asm.parts k != [(2048, 2048)]) then
    m |> setTile t { r with asms := tput {} r.asms gen {} } |> takeDead t asm.total (asm.parts.flatMap Prod.snd)
  else setTile t { r with asms := tput {} r.asms gen asm } m

/-- DEAD_LIST (R250). -/
def execDeadList (b : Blk) (s : State) : Host.Outcome State Fault Refusal :=
  runEvent b.t (fun m => takeReport 3 unasked b (deadReport b) m) s

/-- DEAD_LIST_TIMEOUT (R250). -/
def execDeadListTimeout (t : Nat) (tile : Fin 24) (s : State) : Host.Outcome State Fault Refusal :=
  runEvent t (fun m =>
    let r := tileOf m tile
    setTile tile { r with asms := r.asms.filter (fun e => decide (m.now < e.2.startAt + ms 50)) } m) s

/-! ### Identity (R247, R253 to R256) -/

/-- Word `k` of an IDENT report that an exchange has taken. -/
def idWord (e : Exchange) (k : Nat) : Word := e.ident.getD k 0

/-- The certificate of an IDENT report, and its bytes. -/
def idCert (e : Exchange) : List Word := (e.ident.drop 8).take 37
def certBytes (e : Exchange) : List Nat := wordsBytes (idCert e)

/-- A public key of 64 bytes, X then Y. -/
def keyOf (bytes : List Nat) : Nat × Nat := (beNat (bytes.take 32), beNat ((bytes.drop 32).take 32))

/-- Anchor key `k` (TIL_ANCHOR). -/
def anchorKey (m : Mach) (k : Nat) : Nat × Nat :=
  keyOf (wordsBytes ((List.range 16).map (fun w => reg m (rTIL_ANCHOR k w))))

/-- Is SERIAL of the report the one recorded for the tile? -/
def sameSerial (m : Mach) (t : Nat) (e : Exchange) : Bool :=
  idWord e 1 == reg m (rTIL_ID_LO t) && idWord e 2 == reg m (rTIL_ID_HI t)

/-- Check 6 of R255: the pinned SERIAL. -/
def pinOk (m : Mach) (t : Nat) (e : Exchange) : Bool :=
  !flag m (rTIL_CFG t) fTIL_CFG_PIN ||
    (idWord e 1 == reg m (rTIL_EXPECT_LO t) && idWord e 2 == reg m (rTIL_EXPECT_HI t))

/-- The first of the checks 2 to 4 of R255 that fails, as its cause; 0 when all hold. -/
def certCause (m : Mach) (t : Nat) (e : Exchange) : Nat :=
  let c := certBytes e
  let anchor := c.getD 1 0
  let sig := c.drop 84
  let known := (tileOf m t).cert == idCert e
  if !(bits (idWord e 7) 7 0 == 37 && c.getD 0 0 == 1 && decide (anchor < 4) &&
      hasBit (getF m rTIL_AUTH_CFG fTIL_AUTH_CFG_ANCHOR_EN) anchor) then 2
  else if !known && !ecdsaOk (anchorKey m anchor) (sha256 (c.take 84)) (beNat (sig.take 32)) (beNat ((sig.drop 32).take 32)) then 3
  else if (idCert e).drop 1 |>.take 4 |> (· != [idWord e 1, idWord e 2, idWord e 3, idWord e 4]) then 4
  else 0

/-- The first successful identification after a start records SERIAL, capabilities and key (R247); the certificate is recorded once it has been
`verified`, so that its check is never skipped for one that was not (R255). -/
def recordTile (t : Nat) (e : Exchange) (verified : Bool) (m : Mach) : Mach :=
  let m := if (tileOf m t).known then m
    else m |> noteCaps t e.ident |> setReg (rTIL_ID_LO t) (idWord e 1) |> setReg (rTIL_ID_HI t) (idWord e 2) |>
      (fun m => setTile t { tileOf m t with known := true } m)
  let r := tileOf m t
  setTile t { r with cert := if verified && r.cert == [] then idCert e else r.cert } m

/-- The identity that the other ports of the tile must present (R247): the one recorded, or before any success that of the IDENT that placed it;
its certificate, if it has one. -/
def refSerial (m : Mach) (t : Nat) : List Word :=
  let r := tileOf m t
  if r.known then [reg m (rTIL_ID_LO t), reg m (rTIL_ID_HI t)] else [r.ident.getD 1 0, r.ident.getD 2 0]

def refCert (m : Mach) (t : Nat) : List Word :=
  let r := tileOf m t
  if r.cert ≠ [] then r.cert else if bits (r.ident.getD 7 0) 7 0 = 37 then (r.ident.drop 8).take 37 else []

/-- The nonce of a challenge: eight draws of the device's random generator. -/
def drawNonce : Nat → Mach → List Word × Mach
  | 0, m => ([], m)
  | n + 1, m =>
    let (w, m) := draw m
    let (ws, m) := drawNonce n m
    (w :: ws, m)

/-- The bytes of R255 that the tile signs: nonce, device identifier, port and SERIAL. -/
def challengeBytes (nonce : List Word) (port : Nat) : List Nat :=
  wordsBytes nonce ++ wordsBytes [w32 Config.uid, w32 (Config.uid >>> 32)] ++ [port]

/-- AUTH_CHAL with a fresh nonce (R248); the exchange waits for AUTH_RESP. -/
def challenge (t : Nat) (e : Exchange) (m : Mach) : Exchange × Mach :=
  let (nonce, m) := drawNonce 8 m
  let mseq := (tileOf m t).mseqOut
  ({ e with stage := 2, nonce := nonce, mseq := mseq, sentAt := m.now },
    tileMsg t e.port 2 (challengeBytes nonce e.port) m)

/-- The tile is the one it claims to be: READY, or MISMATCH; after an authentication DEAD_REQ is sent (R258). -/
def checksPass (t : Nat) (e : Exchange) (verified : Bool) (m : Mach) : Mach :=
  m |> recordTile t e verified |> when verified (tileMsg t e.port 3 []) |> acceptTile t 3

/-- A twin or spare on which the tile was to be identified presents another SERIAL than the one recorded: it is not used for the tile
(R247, R263), which is identified on another of its ports in UP. DESIGN CHOICE (the spec names no next state): with no such port the
tile is ABSENT. -/
def strangerPort (t p : Nat) (m : Mach) : Mach :=
  let m := m |> otherPortFails t p 6 |> setTile t { tileOf m t with ex := none, carry := none, badPorts := setBit (tileOf m t).badPorts p }
  match (tilePorts m t).find? (fun q => portState m q == 4 && !hasBit (tileOf m t).badPorts q) with
  | some q => startIdent t q m
  | none => toTileState t 0 m

/-- IDENT on the carrying port (R255, R256, R258). -/
def identMain (t : Nat) (e : Exchange) (m : Mach) : Mach :=
  if (tileOf m t).known && !sameSerial m t e then
    (if e.port = getF m (rTIL_CFG t) fTIL_CFG_PORT then authFail t 6 m else strangerPort t e.port m)
  else if !flag m rTIL_AUTH_CFG fTIL_AUTH_CFG_AUTH_EN then
    (if pinOk m t e then checksPass t e false m else authFail t 6 m)
  else
    let cause := certCause m t e
    if cause ≠ 0 then authFail t cause m
    else
      let (e, m) := challenge t e m
      m |> setTile t { tileOf m t with ex := some e } |> toTileState t 2

/-- Another port of the tile has proved to be the tile's (R247): a spare that was brought in takes over at the next latch
(R242). -/
def otherPortPasses (t : Nat) (e : Exchange) (m : Mach) : Mach :=
  let r := tileOf m t
  let m := setTile t { r with checks := withoutPort e.port r.checks, badPorts := clrBit r.badPorts e.port } m
  let spare := (spareOf m t (fun k => flag m (rCPL_SPARE k) fCPL_SPARE_IN_USE && getF m (rCPL_SPARE k) fCPL_SPARE_PORT == e.port)).isSome
  if spare then m |> when (e.stage == 3) (tileMsg t e.port 3 []) |> setTilePix t { pixOf m t with toSpare := some e.port } else m

/-- The check of a port goes on as exchange `e`. -/
def setCheck (t : Nat) (e : Exchange) (m : Mach) : Mach :=
  setTile t { tileOf m t with checks := (tileOf m t).checks.map (fun c => if c.port = e.port then e else c) } m

/-- IDENT on another port of the tile (R247, R258): the same SERIAL, then a challenge with the recorded key, where one is. -/
def identOther (t : Nat) (e : Exchange) (m : Mach) : Mach :=
  if [idWord e 1, idWord e 2] ≠ refSerial m t then otherPortFails t e.port 6 m
  else if flag m rTIL_AUTH_CFG fTIL_AUTH_CFG_AUTH_EN && refCert m t != [] then
    let (e, m) := challenge t e m
    setCheck t e m
  else otherPortPasses t e m

/-- The exchange of tile `t` that a report on port `p` answers at stage `stage`: `true` for the carrying port's. -/
def exchangeFor (m : Mach) (t p stage : Nat) : Option (Bool × Exchange) :=
  let r := tileOf m t
  match r.checks.find? (fun e => e.stage == stage && e.port == p), r.ex.filter (fun e => e.stage == stage) with
  | some e, _ => some (false, e)
  | none, some e => some (true, e)
  | none, none => none

/-- IDENT (R258). -/
def execIdent (b : Blk) (s : State) : Host.Outcome State Fault Refusal :=
  runEvent b.t (fun m => takeReport 4 (fun m t => (exchangeFor m t b.port 1).isSome) b (fun t m =>
    match exchangeFor m t b.port 1 with
    | some (true, e) =>
      let e := { e with ident := blkWords b 0 44 }
      m |> setTile t { tileOf m t with ex := some e } |> identMain t e
    | some (false, e) => identOther t { e with ident := blkWords b 0 44 } m
    | none => m) m) s

/-- Does an AUTH_RESP answer the challenge of the exchange? -/
def answers (m : Mach) (t : Nat) (b : Blk) : Bool :=
  match exchangeFor m t b.port 2 with
  | some (_, e) => e.mseq == bits (blkWord b 1) 7 0
  | none => false

/-- AUTH_RESP (R255): the signature goes to verification. -/
def execAuthResp (b : Blk) (s : State) : Host.Outcome State Fault Refusal :=
  runEvent b.t (fun m => takeReport 5 (fun m t => answers m t b) b (fun t m =>
    match exchangeFor m t b.port 2 with
    | some (main, e) =>
      let e := { e with stage := 3, sigWords := blkWords b 2 17 }
      if main then setTile t { tileOf m t with ex := some e } m else setCheck t e m
    | none => m) m) s

/-- Does the answer verify under the key of certificate `cert` (R255, check 5)? -/
def answerOk (e : Exchange) (cert : List Word) (serial : List Word) : Bool :=
  let sig := wordsBytes e.sigWords
  let msg := challengeBytes e.nonce e.port ++ wordsBytes serial
  ecdsaOk (keyOf ((wordsBytes cert).drop 20)) (sha256 msg) (beNat (sig.take 32)) (beNat ((sig.drop 32).take 32))

/-- The verification of tile `t` ends (R255, R258). -/
def authEnd (t : Nat) (m : Mach) : Mach :=
  let r := tileOf m t
  match r.ex.filter (fun e => e.stage == 3), r.checks.find? (fun e => e.stage == 3) with
  | some e, _ =>
    if !answerOk e (idCert e) [idWord e 1, idWord e 2] then authFail t 5 m
    else if !pinOk m t e then authFail t 6 m
    else m |> setB (rTIL_STAT t) fTIL_STAT_AUTH true |> checksPass t e true
  | none, some e =>
    if answerOk e (refCert m t) (refSerial m t) then otherPortPasses t e m else otherPortFails t e.port 5 m
  | none, none => m

/-- AUTHENTICATION_END (R255). -/
def execAuthenticationEnd (t : Nat) (tile : Fin 24) (s : State) : Host.Outcome State Fault Refusal := runEvent t (authEnd tile) s

/-! ### Timers of an exchange (R255, R258) -/

/-- Has the exchange waited `lim` ms at stage `stage`? -/
def waited (m : Mach) (stage lim : Nat) (e : Exchange) : Bool := e.stage == stage && decide (e.sentAt + ms lim ≤ m.now)

/-- The third IDENT_REQ stays unanswered: check 1 fails, NO_ID. -/
def noIdent (t : Nat) (m : Mach) : Mach :=
  m |> setF (rTIL_STAT t) fTIL_STAT_CAUSE 1 |> setB (rTIL_STAT t) fTIL_STAT_AUTH false |>
    setTile t { tileOf m t with ex := none, noIdAt := m.now } |> raise 280 (detail t 0) |> toTileState t 9

/-- IDENT_REQ once more. -/
def askAgain (e : Exchange) (m : Mach) : Exchange := { e with tries := e.tries + 1, sentAt := m.now }

/-- IDENT_TMO runs out for an exchange of tile `t`. -/
def identTimeout (t : Nat) (m : Mach) : Mach :=
  let lim := getF m rTIL_TMO fTIL_TMO_IDENT_TMO
  let r := tileOf m t
  let late := r.checks.filter (waited m 1 lim)
  let m := match r.ex.filter (waited m 1 lim) with
    | some e =>
      if 3 ≤ e.tries then noIdent t m
      else
        let m := tileMsg t e.port 1 [] m
        setTile t { tileOf m t with ex := some (askAgain e m) } m
    | none => m
  forEach late (fun e m =>
    if 3 ≤ e.tries then
      m |> setF (rTIL_STAT t) fTIL_STAT_CAUSE 1 |> setTile t { tileOf m t with checks := withoutPort e.port (tileOf m t).checks }
    else
      let m := tileMsg t e.port 1 [] m
      setCheck t (askAgain e m) m) m

/-- IDENT_TIMEOUT (R258). -/
def execIdentTimeout (t : Nat) (tile : Fin 24) (s : State) : Host.Outcome State Fault Refusal := runEvent t (identTimeout tile) s

/-- AUTH_TMO runs out for an exchange of tile `t`: cause 5. -/
def authTimeout (t : Nat) (m : Mach) : Mach :=
  let lim := getF m rTIL_TMO fTIL_TMO_AUTH_TMO
  let r := tileOf m t
  let late := r.checks.filter (waited m 2 lim)
  let m := if (r.ex.filter (waited m 2 lim)).isSome then authFail t 5 m else m
  forEach late (fun e m => when ((tileOf m t).checks.contains e) (otherPortFails t e.port 5) m) m

/-- AUTH_TIMEOUT (R255). -/
def execAuthTimeout (t : Nat) (tile : Fin 24) (s : State) : Host.Outcome State Fault Refusal := runEvent t (authTimeout tile) s

/-- NO_ID_RETRY (R258): on the carrying port, or on another port of the tile that is in UP. -/
def execNoIdRetry (t : Nat) (tile : Fin 24) (s : State) : Host.Outcome State Fault Refusal :=
  runEvent t (fun m =>
    match (carryPort m tile :: tilePorts m tile).find? (fun p => portState m p == 4) with
    | some p => if tileState m tile == 9 && decide ((tileOf m tile).noIdAt + sec 1 ≤ m.now) then startIdent tile p m else m
    | none => m) s

/-- TILE_ABSENT (R258): a REFUSED state that holds until the next start stays. -/
def execTileAbsent (t : Nat) (tile : Fin 24) (s : State) : Host.Outcome State Fault Refusal :=
  runEvent t (fun m =>
    let st := tileState m tile
    let r := tileOf m tile
    if st == 8 || (st == 5 && r.stuck) || tileHasUp m tile || decide (m.now < r.noUpAt + sec 1) then m
    else m |> setTile tile { r with ex := none, checks := [] } |> toTileState tile 0) s

/-! ### Commands (R264) -/

/-- TILE_ENUMERATE (R264). -/
def execTileEnumerate (p : Packet) (s : State) : Host.Outcome State Fault Refusal :=
  runDratus (.tileEnumerate p) (native 0x54 1 .topaz .any true true) (replyLen 24)
    (withLen (· == 0) (fun _ m => (m, ok ((List.range 24).map (fun t => viewReg m (rTIL_STAT t)))))) p s

/-- TILE_INFO (R264). -/
def execTileInfo (p : Packet) (s : State) : Host.Outcome State Fault Refusal :=
  runDratus (.tileInfo p) (native 0x55 1 .topaz .any true true) (replyLen 8)
    (withLen (· == 1) (fun p => require (clean (par p 0) [(4, 0)]) (withTile p (fun t m =>
      (m, ok ([rTIL_STAT t, rTIL_INFO t, rTIL_TEMP t, rTIL_ERR t, rTIL_ID_LO t, rTIL_ID_HI t].map (viewReg m) ++
        [(tileOf m t).ident.getD 3 0, (tileOf m t).ident.getD 5 0])))))) p s

/-- The options of every form of TILE_AUTH_POLICY. -/
def policyOp : OpInfo := native 0x56 1 .topaz .h0p false false

/-- Bits [1:0] name FORM; `idx` says that the form has an INDEX. -/
def policyHead (p : Packet) (form : Nat) (idx : Bool) : Bool :=
  clean (par p 0) (if idx then [(12, 8), (1, 0)] else [(1, 0)]) && bits (par p 0) 1 0 == form

/-- TILE_AUTH_POLICY form 0 (R264). -/
def execTileAuthPolicy (p : Packet) (s : State) : Host.Outcome State Fault Refusal :=
  runDratus (.tileAuthPolicy p) policyOp noReply
    (withLen (· == 2) (fun p => require (policyHead p 0 false && clean (par p 1) [(31, 30), (19, 0)] &&
      decide (fget (par p 1) fTIL_AUTH_CFG_GEN_CAP ≤ 0x8000)) (fun m => (setReg rTIL_AUTH_CFG (par p 1) m, ok [])))) p s

/-- TIL_TMO within its ranges. -/
def tmoOk (w : Word) : Bool :=
  let within (f : Fld) (lo hi : Nat) : Bool := decide (lo ≤ fget w f) && decide (fget w f ≤ hi)
  within fTIL_TMO_IDENT_TMO 2 100 && within fTIL_TMO_AUTH_TMO 10 200 && within fTIL_TMO_SILENT_TMO 5 100 &&
    within fTIL_TMO_HOLD 20 250

/-- TILE_AUTH_POLICY form 1 (R264). -/
def execPolicyTimeouts (p : Packet) (s : State) : Host.Outcome State Fault Refusal :=
  runDratus (.policyTimeouts p) policyOp noReply
    (withLen (· == 2) (fun p => require (policyHead p 1 false && tmoOk (par p 1)) (fun m => (setReg rTIL_TMO (par p 1) m, ok [])))) p s

/-- TILE_AUTH_POLICY form 2 (R264): the key must be a point on P-256. -/
def execPolicyAnchor (p : Packet) (s : State) : Host.Outcome State Fault Refusal :=
  runDratus (.policyAnchor p) policyOp noReply
    (withLen (· == 17) (fun p =>
      let k := bits (par p 0) 12 8
      require (policyHead p 2 true && decide (k < 4) && onCurve (keyOf (wordsBytes (p.params.drop 1)))) (fun m =>
        (forEach (List.range 16) (fun w m => setReg (rTIL_ANCHOR k w) (par p (w + 1)) m) m, ok [])))) p s

/-- Is `w` a value for TIL_CFG[t]: a home port in tile role that is the home of no other tile in use? -/
def tileCfgOk (m : Mach) (t : Nat) (w : Word) : Bool :=
  let port := fget w fTIL_CFG_PORT
  clean w [(31, 30), (4, 0)] && decide (port < 24) && getF m (rCPL_CFG port) fCPL_CFG_ROLE == 1 &&
    !(List.range 24).any (fun k => k != t && flag m (rTIL_CFG k) fTIL_CFG_EN && getF m (rTIL_CFG k) fTIL_CFG_PORT == port)

/-- TILE_AUTH_POLICY form 3 (R264). -/
def execPolicyTile (p : Packet) (s : State) : Host.Outcome State Fault Refusal :=
  runDratus (.policyTile p) policyOp noReply
    (withLen (· == 4) (fun p m =>
      let t := bits (par p 0) 12 8
      require (policyHead p 3 true && decide (t < 24) && tileCfgOk m t (par p 1)) (fun m =>
        (m |> setReg (rTIL_CFG t) (par p 1) |> setReg (rTIL_EXPECT_LO t) (par p 2) |> setReg (rTIL_EXPECT_HI t) (par p 3), ok [])) m)) p s

end Sys2Proof.Machine
end

