-- ==== Sys2Proof/Machine/Chain.lean ====
section
/-!
DEFINITION. The chain and Aurora commands (R269, R273, R274, R276, R280, R281).
-/

namespace Sys2Proof.Machine

/-- An item waits for the next t0 (R273, R281). -/
def stage (x : ChnStage) (m : Mach) : Mach := setChn (fun s => { s with stage := s.stage ++ [x] }) m

/-- CHN_PORT_CFG within its ranges, with the timing condition of R269. -/
def chnPortOk (w : Word) : Bool :=
  let per := fget w fCHN_PORT_CFG_PWM_PER
  clean w [(31, 29), (26, 24), (20, 8)] && decide (10 ≤ per) && decide (per ≤ 90) &&
    chainFits (fget w fCHN_PORT_CFG_DEVICES + 1) (fget w fCHN_PORT_CFG_SCK_DIV)

/-- CHN_PORT_CFG[n] takes a value; a port that is enabled has its first two updates unchecked, and one that is disabled ends its runs
of consecutive updates (R270), as do devices that a lower DEVICES leaves out. -/
def setChnPort (n : Nat) (w : Word) (m : Mach) : Mach :=
  let was := flag m (rCHN_PORT_CFG n) fCHN_PORT_CFG_EN
  m |> setReg (rCHN_PORT_CFG n) w |> when (!was || fget w fCHN_PORT_CFG_EN == 0) (forgetPort n) |>
    forgetDevices n (fget w fCHN_PORT_CFG_DEVICES + 1)

/-- CHAIN_CONFIG (R269). -/
def execChainConfig (p : Packet) (s : State) : Host.Outcome State Fault Refusal :=
  runDratus (.chainConfig p) (native 0x60 1 .topaz .h0p false false) noReply
    (withLen (· == 2) (fun p => require (clean (par p 0) [(1, 0)] && chnPortOk (par p 1)) (fun m =>
      (setChnPort (bits (par p 0) 1 0) (par p 1) m, ok [])))) p s

def chainWriteBody (p : Packet) (m : Mach) : Mach × Rep :=
  let w := par p 0
  let n := bits w 27 16
  let first := bits w 11 0
  let vals := p.params.drop 1
  if p.params.length ≠ 1 + n then (m, err stBAD_LENGTH)
  else
    require (clean w [(27, 16), (11, 0)] && decide (1 ≤ n) && decide (first + n ≤ 3072) && vals.all (fun v => clean v [(23, 4)]))
      (fun m => (forEach vals.zipIdx (fun v m => stage (.host (first + v.2) (bits v.1 23 4)) m) m, ok [])) m

/-- CHAIN_WRITE (R273). -/
def execChainWrite (p : Packet) (s : State) : Host.Outcome State Fault Refusal :=
  runDratus (.chainWrite p) (native 0x61 0 .topaz .any false false) noReply chainWriteBody p s

/-- The 25 words of device `d` of port `n` (R281). -/
def readbackWords (m : Mach) (n d : Nat) : List Word :=
  let f := tget [] m.chn.ret (32 * n + d)
  w32 (f.getD 0 0) :: (List.range 24).map (fun c =>
    let r := chanOf m (768 * n + 24 * d + c)
    w32 (f.getD (c + 1) 0 % 2 ^ 24 + b2n r.undiag <<< 31 + b2n (r.isOpen || r.isShort) <<< 30))

def chainReadbackBody (p : Packet) (m : Mach) : Mach × Rep :=
  let w := par p 0
  let k := bits w 21 16
  let first := bits w 12 8
  require (clean w [(21, 16), (12, 8), (1, 0)] && decide (1 ≤ k) && decide (first + k ≤ 32) && decide (25 * k ≤ pathMax p.path))
    (fun m => (m, ok ((List.range k).flatMap (fun d => readbackWords m (bits w 1 0) (first + d))))) m

/-- CHAIN_READBACK (R281): a reply too long for the path is refused by the command itself, with BAD_PARAM. DESIGN CHOICE: R45 gives
BAD_LENGTH for every such reply; the chapter of the command governs (R17). -/
def execChainReadback (p : Packet) (s : State) : Host.Outcome State Fault Refusal :=
  runDratus (.chainReadback p) (native 0x62 1 .topaz .any true true) noReply (withLen (· == 1) chainReadbackBody) p s

/-! ### Function groups -/

/-- The members that group `g` has, or takes at the next t0. -/
def membersNext (m : Mach) (g : Nat) : List Nat :=
  m.chn.stage.foldl (fun l s => match s with
    | .members k new => if k = g then new else l
    | _ => l) (membersOf m g)

/-- CHN_GRP_PROBE within its ranges. -/
def grpProbeOk (w : Word) : Bool :=
  let i := fget w fCHN_GRP_PROBE_PROBE_INT
  clean w [(31, 31), (23, 0)] && decide (1 ≤ fget w fCHN_GRP_PROBE_T_MIN) && decide (1 ≤ i) && decide (i ≤ 100)

/-- CHN_GRP_CFG and CHN_GRP_DER within their ranges. -/
def grpCfgOk (cfg der : Word) : Bool :=
  clean cfg [(31, 28), (26, 20), (14, 3)] && decide (1 ≤ fget cfg fCHN_GRP_CFG_CONFIRM) &&
    decide (fget cfg fCHN_GRP_CFG_TSRC ≤ 24) && clean der [(31, 16), (11, 0)]

/-- The members that GROUP_CONFIG names for group `g` (R281). -/
def groupMembersOk (m : Mach) (g : Nat) (ms : List Word) : Bool :=
  let chans := ms.map (fun w => bits w 11 0)
  ms.all (fun w => clean w [(13, 0)]) && !namedTwice chans &&
    chans.all (fun c => decide (c < 3072) && decide (c % 768 / 24 < devices m (c / 768)) &&
      !(List.range 64).any (fun k => k != g && (membersNext m k).any (fun w => chanNo w == c)))

def groupConfigBody (p : Packet) (m : Mach) : Mach × Rep :=
  let n := bits (par p 0) 14 8
  let g := bits (par p 0) 5 0
  let ms := p.params.drop 4
  if p.params.length ≠ 4 + n then (m, err stBAD_LENGTH)
  else
    require (clean (par p 0) [(14, 8), (5, 0)] && decide (n ≤ 64) && grpCfgOk (par p 1) (par p 2) && grpProbeOk (par p 3) &&
        groupMembersOk m g ms) (fun m =>
      let had := getF m (rCHN_GRP_CFG g) fCHN_GRP_CFG_MEMBERS
      (m |> setReg (rCHN_GRP_CFG g) (par p 1) |> setF (rCHN_GRP_CFG g) fCHN_GRP_CFG_MEMBERS had |>
        setReg (rCHN_GRP_DER g) (par p 2) |> setReg (rCHN_GRP_PROBE g) (par p 3) |>
        stage (.members g (ms.map (fun w => bits w 13 0))), ok [])) m

/-- GROUP_CONFIG (R281). -/
def execGroupConfig (p : Packet) (s : State) : Host.Outcome State Fault Refusal :=
  runDratus (.groupConfig p) (native 0x63 1 .topaz .h0p false false) noReply groupConfigBody p s

/-- PROBE_CONFIG (R281). -/
def execProbeConfig (p : Packet) (s : State) : Host.Outcome State Fault Refusal :=
  runDratus (.probeConfig p) (native 0x66 1 .topaz .h0p false false) noReply
    (withLen (· == 2) (fun p => require (clean (par p 0) [(5, 0)] && grpProbeOk (par p 1)) (fun m =>
      (setReg (rCHN_GRP_PROBE (bits (par p 0) 5 0)) (par p 1) m, ok [])))) p s

/-- The telltale of group `g` is cleared: the group is lit again, and a member is confirmed failed only by CONFIRM further
captures (R276). -/
def relight (g : Nat) (m : Mach) : Mach :=
  if !flag m (rCHN_GRP_STAT g) fCHN_GRP_STAT_TELLTALE then m else
  let m := m |> setB (rCHN_GRP_STAT g) fCHN_GRP_STAT_TELLTALE false |> setB (rCHN_GRP_STAT g) fCHN_GRP_STAT_OFF false
  forEach (membersOf m g) (fun w m => setChan (chanNo w) { chanOf m (chanNo w) with openN := 0, shortN := 0, openHit := false, shortHit := false } m) m

/-! ### Aurora -/

/-- The checks of R274 on one instruction of a program of `n`. -/
def auroraOk (n : Nat) (w : Word) : Bool :=
  let o := bits w 31 28
  decide (o ≤ 7) && (if o = 6 then decide (bits w 27 22 < n) else decide (bits w 27 22 ≤ bits w 21 16))

def auroraLoadBody (p : Packet) (m : Mach) : Mach × Rep :=
  let n := bits (par p 0) 23 16
  let e := bits (par p 0) 3 0
  let ws := p.params.drop 1
  if p.params.length ≠ 1 + n then (m, err stBAD_LENGTH)
  else
    require (clean (par p 0) [(23, 16), (3, 0)] && decide (e < 8) && decide (1 ≤ n) && decide (n ≤ 64) && ws.all (auroraOk n))
      (fun m =>
        if flag m (rAUR_STAT e) fAUR_STAT_RUN then (m, err stBUSY) else (stage (.prog e ws) m, ok [])) m

/-- AURORA_LOAD (R274). -/
def execAuroraLoad (p : Packet) (s : State) : Host.Outcome State Fault Refusal :=
  runDratus (.auroraLoad p) (native 0x64 1 .topaz .any false false) noReply auroraLoadBody p s

def gammaLoadBody (p : Packet) (m : Mach) : Mach × Rep :=
  let n := bits (par p 0) 23 16
  let ws := p.params.drop 1
  if p.params.length ≠ 1 + n then (m, err stBAD_LENGTH)
  else
    require (clean (par p 0) [(23, 16), (3, 0)] && bits (par p 0) 3 0 == 8 && n == 128 && ws.all (fun w => clean w [(27, 16), (11, 0)]))
      (fun m => (stage (.gamma ws) m, ok [])) m

/-- AURORA_LOAD with ENGINE 8 (R281). -/
def execGammaLoad (p : Packet) (s : State) : Host.Outcome State Fault Refusal :=
  runDratus (.gammaLoad p) (native 0x64 1 .topaz .any false false) noReply gammaLoadBody p s

/-- AURORA_RUN on a valid engine with a program. -/
def auroraRunBody (start : Bool) (p : Packet) (m : Mach) : Mach × Rep :=
  let w := par p 0
  let e := bits w 3 0
  require (clean w [(31, 31), (13, 8), (3, 0)] && bit w 31 == start && decide (e < 8)) (fun m =>
    if !hasProg m e then stateReject m (rAUR_STAT e)
    else if start then (aurStart e (bits w 13 8) m, ok [])
    else (setB (rAUR_STAT e) fAUR_STAT_RUN false m, ok [])) m

/-- AURORA_RUN with START = 1 (R281). -/
def execAuroraStart (p : Packet) (s : State) : Host.Outcome State Fault Refusal :=
  runDratus (.auroraStart p) (native 0x65 0 .topaz .any false false) noReply (withLen (· == 1) (auroraRunBody true)) p s

/-- AURORA_RUN with START = 0 (R281). -/
def execAuroraStop (p : Packet) (s : State) : Host.Outcome State Fault Refusal :=
  runDratus (.auroraStop p) (native 0x65 0 .topaz .any false false) noReply (withLen (· == 1) (auroraRunBody false)) p s

/-! ### Colour loop -/

/-- COLOUR_LOOP_SET (R280). -/
def execColourLoopSet (p : Packet) (s : State) : Host.Outcome State Fault Refusal :=
  runDratus (.colourLoopSet p) (native 0x67 1 .topaz .h0p false false) noReply
    (withLen (· == 3) (fun p =>
      let tr := fget (par p 1) fCHN_CLR_TGT_TR
      let tg := fget (par p 1) fCHN_CLR_TGT_TG
      require (clean (par p 0) [(31, 18), (9, 0)] && decide (fget (par p 0) fCHN_CLR_CFG_TILE < 24) && clean (par p 2) [(31, 16), (9, 0)] &&
          tr != 0 && tg != 0 && decide (tr + tg < 65536)) (fun m =>
        (m |> setReg rCHN_CLR_CFG (par p 0) |> setReg rCHN_CLR_TGT (par p 1) |> setReg rCHN_CLR_LIM (par p 2), ok [])))) p s

end Sys2Proof.Machine
end

