-- ==== Sys2Proof/Machine/Garnet.lean ====
section
/-!
DEFINITION. The PER tick (R269, R284), motor channels, control loops, banks, injection and analog inputs (R285 to R307).
-/

namespace Sys2Proof.Machine

/-! ### The tick -/

/-- The pitch that loop 8 takes (R299), in 16.16 degrees: the prediction at this instant; 0 in the modes none and fallback. -/
def pitchNow (m : Mach) : Int :=
  let s := m.pix.pose
  if poseMode m = 0 ∨ poseMode m = 4 then 0
  else fx (roundR ((s.p + s.q * seconds ((m.now : Int) - s.at_)) * 65536))

/-- ADC_STAT shows the scheduled load of the converters in per cent. -/
def showAdc (m : Mach) : Mach :=
  m |> setF rADC_STAT fADC_STAT_LOAD_A (adcLoad m false / 10000) |> setF rADC_STAT fADC_STAT_LOAD_B (adcLoad m true / 10000)

/-- MOTn_FLT_N goes low (R296): the hardware turns every gate off, in any state. -/
def driverFault (c : Nat) (m : Mach) : Mach :=
  let st := motState m c
  let m := setB (rMOT_STAT c) fMOT_STAT_DRV_FLT true m
  let m := when (st == 1 || st == 2 || st == 4) (parkMotor c 4) m
  m |> setMot c { motOf m c with gates := false } |> raise (303 + c) noInst

/-- MOTn_FLT_N is high again: a parked fan or pump runs at PARK_DUTY again (R297). -/
def driverOk (c : Nat) (m : Mach) : Mach :=
  let m := setB (rMOT_STAT c) fMOT_STAT_DRV_FLT false m
  when (motState m c == 3 && !isAxis m c) (setMot c { motOf m c with gates := true }) m

/-- MOTn_FLT_N as a tick finds it: DRV_FLT follows it (R308). -/
def driverPin (low : Bool) (c : Nat) (m : Mach) : Mach :=
  let was := flag m (rMOT_STAT c) fMOT_STAT_DRV_FLT
  if low = was then m else if low then driverFault c m else driverOk c m

/-- What a tick does to motor channel `c` before its loops: counts, errors, the driver-fault pin, the reference that the tick before
handed inward, a LOOP_CONFIG that takes the channel through OFF, and the way out of OFF (R284, R295, R296, R307). -/
def tickMotor (env : TickEnv) (c : Nat) (m : Mach) : Mach :=
  let m := m |> followPins c (env.pins.getD c []) |> latchCount c |> driverPin (hasBit env.fltLow c) c
  let m := setMot c { motOf m c with iref := (motOf m c).irefNext } m
  let r := motOf m c
  let m := if r.reconfig then m |> setMot c { r with reconfig := false } |> motorOff c else m
  m |> when (motState m c == 0) (applyFunc c) |> showNocoef c

/-- The tick after the point of no return (R371 E5): the final chain update with DUTY 0, then chain ports, Aurora engines and
motors stop. -/
def lastTick (env : TickEnv) (m : Mach) : Mach :=
  let m := { m with tickAt := m.now } |> wrapInc rGAR_TICK fGAR_TICK_TICK |> when (!golden m) (chainUpdate env true) |> chainStop |> parkAll
  { m with pwr := { m.pwr with entry := m.pwr.entry.map (fun e => { e with step := 6 }) } }

/-- Has the sample of a scheduled swap been reached? GAR_TICK wraps. -/
def swapDue (m : Mach) (r : LoopRec) : Bool :=
  match r.swapAt with
  | none => false
  | some (tk, k) =>
    let past := (getF m rGAR_TICK fGAR_TICK_TICK + 2 ^ 32 - tk) % 2 ^ 32
    (past == 0 && decide (m.tickAt + us (50 * k) ≤ m.now)) || (past != 0 && decide (past < 2 ^ 31))

/-! ### The steps of a calibration run that fall between its start and its end (R417) -/

/-- The items of the run under way; 0 without one, or with a restoration (64). -/
def calItems (m : Mach) : Nat := ((m.pends.find? (fun p => p.kind == .cal)).map PendRec.key).getD 0 % 64

/-- Every port in UP trains again after the termination item, with LAST_CAUSE 6 (step 6). -/
def retrainPorts (m : Mach) : Mach :=
  forEach ((List.range 24).filter (fun p => portState m p == 4)) (fun p m =>
    m |> setF (rCPL_STATE p) fCPL_STATE_LAST_CAUSE 6 |> toTrain p) { m with calTrained := true }

/-- The ports that are neither in UP nor in LOOP. -/
def darkPorts (m : Mach) : Nat := ((List.range 24).filter (fun p => portState m p != 4 && portState m p != 8)).foldl setBit 0

/-- The ports train again by 65 ms, at the last 1 kHz tick before. DEDUCED: the scans of the eye item, which end by 290 ms and take up to
221.5 ms each (R237), begin at the last tick before 68.5 ms. -/
def calTick (m : Mach) : Mach :=
  let m := when (hasBit (calItems m) 4 && !m.calTrained && decide (m.calAt + ms 64 < m.now)) retrainPorts m
  if hasBit (calItems m) 5 && m.calEye.isNone && decide (2 * m.calAt + ms 135 < 2 * m.now) then { m with calEye := some (darkPorts m) } else m

/-- TICK (R269, R284): chain updates, the swaps that fall in it, motor channels, then the loops that sample at this tick and do not overrun.
In thermal hold the chain ports and the Aurora engines alone go on (R363); under the golden image nothing runs (R395). -/
def tick (env : TickEnv) (m : Mach) : Mach :=
  if !(hubRuns m || m.pwr.st == 5) then m else
  if m.pwr.entry.any (fun e => e.step == 5) then lastTick env m else
  if golden m then { m with tickAt := m.now } |> wrapInc rGAR_TICK fGAR_TICK_TICK else
  if m.pwr.st = 5 then { m with tickAt := m.now } |> wrapInc rGAR_TICK fGAR_TICK_TICK |> chainUpdate env false else
  let m := { m with tickAt := m.now } |> wrapInc rGAR_TICK fGAR_TICK_TICK |> calTick
  if m.pwr.entry.any (fun e => e.step == 6) then m else
  let m := m |> chainUpdate env false |> (fun m => switchBanks (swapDue m) m) |> forEach [0, 1, 2, 3] (tickMotor env)
  let n := getF m rGAR_TICK fGAR_TICK_TICK % 10
  let runs (l : Nat) : Bool := !hasBit env.overs l
  m |> forEach [0, 1, 2, 3] (fun c m => m |> when (runs (4 + c)) (outerSample c) |> freezeTest c) |>
    when (n == 0 && runs 8) (levelSample (pitchNow m)) |> when (n == 5 && runs 9) (colourSample env.pd)

/-- TICK (R269). -/
def execTick (t : Nat) (env : TickEnv) (s : State) : Host.Outcome State Fault Refusal := runEvent t (tick env) s

/-- CURRENT_SAMPLE (R285). -/
def execCurrentSample (t : Nat) (chan : Fin 4) (adcU adcV : Nat) (pins : List (Nat × Nat)) (s : State) : Host.Outcome State Fault Refusal :=
  runEvent t (fun m => when (hubRuns m) (fun m => m |> switchBanks (swapDue m) |> currentSample chan adcU adcV pins) m) s

/-- LOOP_OVERRUN (R292): the third in a row acts. For a current loop the row comes at the deadline of the sample that CURRENT_SAMPLE
started. -/
def execLoopOverrun (t : Nat) (l : Fin 10) (s : State) : Host.Outcome State Fault Refusal :=
  runEvent t (fun m =>
    let a := rGAR_LOOP_STAT l
    let m := if l < 4 then undoSample l m else m
    let was := getF m a fGAR_LOOP_STAT_CONSEC
    m |> bump a fGAR_LOOP_STAT_OVR |> bump a fGAR_LOOP_STAT_CONSEC |> when (was == 2) (overrunThird l)) s

/-! ### Banks -/

/-- Bank `b` (`true`: B) of loop `l` takes an image. -/
def putBank (l : Nat) (b : Bool) (image : List Nat) (m : Mach) : Mach :=
  let r := loopOf m l
  m |> setLoop l (if b then { r with bankB := image } else { r with bankA := image }) |>
    setB (rGAR_LOOP_STAT l) (if b then fGAR_LOOP_STAT_VALID_B else fGAR_LOOP_STAT_VALID_A) true |> forEach [0, 1, 2, 3] showNocoef

def coefLoadBody (p : Packet) (mem : Tab Byte) (m : Mach) : MemRep :=
  let stop (st : Nat) : MemRep := ⟨mem, m, err st⟩
  let l := bits (par p 0) 3 0
  if p.params.length ≠ 2 then stop stBAD_LENGTH
  else if !clean (par p 0) [(3, 0)] || decide (9 ≤ l) then stop stBAD_PARAM
  else match bufRefused m (ctxN p) (par p 1).toNat with
    | some st => stop st
    | none =>
      let i := hIdx (par p 1).toNat
      let image := poolBytes mem i 0 688
      if !rawBuf m i 688 || !bankValid image then stop stBAD_PARAM
      else if flag m (rGAR_LOOP_STAT l) fGAR_LOOP_STAT_SWAP_PEND then stop stBUSY
      else ⟨mem, putBank l (!bankSel m l) image m, ok [w32 (crc crc32c image)]⟩

/-- COEF_LOAD (R289). -/
def execCoefLoad (p : Packet) (s : State) : Host.Outcome State Fault Refusal :=
  runDratusMem (.coefLoad p) (native 0x69 1 .topaz .h0 false true) (replyLen 1) coefLoadBody p s

/-- The sample in which a swap falls (R290): tick and sample index of the first sample start of the slowest loop in `mask`
that begins 10 µs or more after this instant. -/
def swapInstant (m : Mach) (mask : Nat) : Nat × Nat :=
  let k := getF m rGAR_TICK fGAR_TICK_TICK
  let wait := m.now + us 10 - m.tickAt
  if mask < 16 then
    let j := (wait + us 50 - 1) / us 50
    ((k + j / 20) % 2 ^ 32, j % 20)
  else
    let n := (wait + us 1000 - 1) / us 1000
    let rest := ((List.range 10).find? (fun j => (k + n + j) % 2 ^ 32 % 10 == 0)).getD 0
    if mask < 256 then ((k + n) % 2 ^ 32, 0) else ((k + n + rest) % 2 ^ 32, 0)

def bankSwapBody (p : Packet) (m : Mach) : Mach × Rep :=
  let mask := bits (par p 0) 8 0
  let ls := members 9 mask
  require (clean (par p 0) [(8, 0)] && mask != 0) (fun m =>
    match ls.find? (fun l => !bankOk m l (!bankSel m l)) with
    | some l => stateReject m (rGAR_LOOP_STAT l)
    | none =>
      if ls.any (fun l => flag m (rGAR_LOOP_STAT l) fGAR_LOOP_STAT_SWAP_PEND) then (m, err stBUSY)
      else
        let (tk, k) := swapInstant m mask
        (forEach ls (fun l m => m |> setLoop l { loopOf m l with swapAt := some (tk, k) } |>
          setB (rGAR_LOOP_STAT l) fGAR_LOOP_STAT_SWAP_PEND true) m, ok [w32 tk, w32 k])) m

/-- BANK_SWAP (R290). -/
def execBankSwap (p : Packet) (s : State) : Host.Outcome State Fault Refusal :=
  runDratus (.bankSwap p) (native 0x6A 0 .topaz .h0 false true) (replyLen 2) (withLen (· == 1) bankSwapBody) p s

/-- BANK_SWITCH (R290). -/
def execBankSwitch (t : Nat) (s : State) : Host.Outcome State Fault Refusal :=
  runEvent t (fun m => switchBanks (swapDue m) m) s

/-- The check of bank `b` of loop `l` fails (R291). For loop 8, bank A takes its default values and is active. -/
def bankFails (l : Nat) (b : Bool) (m : Mach) : Mach :=
  if !bankOk m l b then m
  else if b ≠ bankSel m l then
    setB (rGAR_LOOP_STAT l) (if b then fGAR_LOOP_STAT_VALID_B else fGAR_LOOP_STAT_VALID_A) false m
  else
    let m := raise 312 (detail l 0) m
    if l < 8 then when (motState m (l % 4) == 2) (parkMotor (l % 4) 5) m
    else m |> putBank 8 false loop8Default |> setB (rGAR_LOOP_STAT 8) fGAR_LOOP_STAT_ACTIVE false

/-- COEF_CHECK (R291): bit 2l stands for bank A of loop l, bit 2l + 1 for bank B. -/
def execCoefCheck (t : Nat) (bad : Nat) (s : State) : Host.Outcome State Fault Refusal :=
  runEvent t (fun m => forEach (members 18 bad) (fun k m => bankFails (k / 2) (k % 2 == 1) m) m) s

/-! ### Events of a motor channel -/

/-- FROZEN_FEEDBACK (R298). -/
def execFrozenFeedback (t : Nat) (chan : Fin 4) (s : State) : Host.Outcome State Fault Refusal :=
  runEvent t (fun m =>
    when (motState m chan == 2 && decide (getF m (rMOT_FRZ chan) fMOT_FRZ_FRZ_T ≤ (motOf m chan).frz)) (loseMotor chan 2) m) s

/-- Have there been more than 16 encoder errors in the last 10 ms (R295)? -/
def encoderBad (m : Mach) (c : Nat) : Bool :=
  decide (16 < ((motOf m c).errAt.filter (fun a => decide (m.now < a + ms 10))).length)

/-- ENCODER_ERRORS (R295). -/
def execEncoderErrors (t : Nat) (chan : Fin 4) (s : State) : Host.Outcome State Fault Refusal :=
  runEvent t (fun m => when (motState m chan == 2 && encoderBad m chan) (loseMotor chan 3) m) s

/-- HOMING_COMPLETE (R296): the count has not changed for 50 ms. -/
def execHomingComplete (t : Nat) (chan : Fin 4) (s : State) : Host.Outcome State Fault Refusal :=
  runEvent t (fun m =>
    let r := motOf m chan
    if motState m chan == 1 && decide (50 ≤ r.still) then
      m |> setMot chan { r with endStop := r.count, frz := 0 } |> setReg (rMOT_POS chan) (wordI (posMin m chan)) |>
        setB (rMOT_STAT chan) fMOT_STAT_HOMED true |> setMotState chan 2
    else m) s

/-- HOMING_TIMEOUT (R296). -/
def execHomingTimeout (t : Nat) (chan : Fin 4) (s : State) : Host.Outcome State Fault Refusal :=
  runEvent t (fun m =>
    if motState m chan == 1 && decide ((motOf m chan).homeAt + ms (100 * getF m (rMOT_HOME chan) fMOT_HOME_HOME_T) ≤ m.now) then
      m |> parkMotor chan 6 |> raise (307 + chan) noInst
    else m) s

/-- MOTOR_DRIVER_FAULT (R296): the hardware turns every gate off, in any state. -/
def execMotorDriverFault (t : Nat) (chan : Fin 4) (s : State) : Host.Outcome State Fault Refusal :=
  runEvent t (fun m =>
    driverFault chan m) s

/-! ### MOTOR_CMD -/

/-- A row of MOTOR_CMD with command `cmd`; `body` has the channel and VALUE. -/
def motorRow (i : Instr) (cmd : Nat) (body : Nat → Word → Mach → Mach × Rep) (p : Packet) (s : State) :
    Host.Outcome State Fault Refusal :=
  runDratus i (native 0x6B 0 .topaz .any false false) noReply
    (withLen (· == 2) (fun p => require (clean (par p 0) [(10, 8), (1, 0)] && bits (par p 0) 10 8 == cmd) (fun m =>
      if pending m .cal then (m, err stBUSY) else body (bits (par p 0) 1 0) (par p 1) m))) p s

/-- MOTOR_CMD POSITION (R301, R307). -/
def execMotorPosition (p : Packet) (s : State) : Host.Outcome State Fault Refusal :=
  motorRow (.motorPosition p) 0 (fun c v m =>
    let x := sgn 32 v.toNat
    if x < posMin m c ∨ posMax m c < x then (m, err stBAD_PARAM)
    else if motFunc m c ≠ 2 then stateReject m (rMOT_STAT c)
    else (setMot c { motOf m c with cmdPos := x } m, ok [])) p s

/-- MOTOR_CMD SPEED (R301, R307). -/
def execMotorSpeed (p : Packet) (s : State) : Host.Outcome State Fault Refusal :=
  motorRow (.motorSpeed p) 1 (fun c v m =>
    if motFunc m c ≠ 3 ∧ motFunc m c ≠ 4 then stateReject m (rMOT_STAT c)
    else (setMot c { motOf m c with cmdSpeed := v.toNat } m, ok [])) p s

/-- MOTOR_CMD PARK (R296): R296 has it in CLOSED. -/
def execMotorPark (p : Packet) (s : State) : Host.Outcome State Fault Refusal :=
  motorRow (.motorPark p) 2 (fun c v m =>
    if v ≠ 0 then (m, err stBAD_PARAM)
    else if motState m c ≠ 2 then stateReject m (rMOT_STAT c)
    else (parkMotor c 7 m, ok [])) p s

/-- May a channel be released (R296)? A fenced one is held PARKED (R345). -/
def releasable (m : Mach) (c : Nat) : Bool :=
  (motState m c == 3 || motState m c == 4) && !flag m (rMOT_STAT c) fMOT_STAT_DRV_FLT && banksOk m c &&
    !hasBit (getF m rFLT_FENCE_MISC fFLT_FENCE_MISC_MOTOR) c

/-- The loop closes from the measured position (R296); zero codes are measured when it was PARKED (R294). -/
def releaseMotor (c : Nat) (m : Mach) : Mach :=
  let home := flag m (rMOT_CFG c) fMOT_CFG_HOME && !flag m (rMOT_STAT c) fMOT_STAT_HOMED
  let m := closeMotor c home (motState m c == 3) m
  let r := motOf m c
  setMot c { r with level := posReg m c, cmdPos := if motFunc m c = 2 then posReg m c else r.cmdPos } m

/-- MOTOR_CMD RELEASE (R296). -/
def execMotorRelease (p : Packet) (s : State) : Host.Outcome State Fault Refusal :=
  motorRow (.motorRelease p) 3 (fun c v m =>
    if v ≠ 0 then (m, err stBAD_PARAM)
    else if !releasable m c then stateReject m (rMOT_STAT c)
    else (releaseMotor c m, ok [])) p s

/-! ### LOOP_CONFIG, LEVEL_SET -/

/-- The seven values of LOOP_CONFIG within their ranges. -/
def motWordsOk (p : Packet) : Bool :=
  let cfg := par p 1
  let enc := par p 2
  let frz := par p 4
  let sense := par p 5
  let home := par p 6
  let u := fget sense fMOT_ISENSE_CH_U
  let v := fget sense fMOT_ISENSE_CH_V
  let f := fget cfg fMOT_CFG_FUNC
  clean cfg [(31, 27), (23, 0)] && decide (f ≤ 4) && decide (1 ≤ fget cfg fMOT_CFG_POLES) && decide (10 ≤ fget cfg fMOT_CFG_DT) &&
    decide (1 ≤ fget enc fMOT_ENC_SCALE) && decide (6 ≤ fget enc fMOT_ENC_REV) && decide (5 ≤ fget frz fMOT_FRZ_FRZ_T) &&
    decide (1 ≤ fget frz fMOT_FRZ_FRZ_I) && clean sense [(28, 24), (20, 16), (15, 0)] && decide (u < 12) && decide (12 ≤ v) &&
    decide (v < 24) && clean home [(31, 8)] && decide (1 ≤ fget home fMOT_HOME_HOME_T) && clean (par p 7) [(23, 0)] &&
    !((f == 3 || f == 4) && par p 7 != 0)

/-- Inputs and tiles of channel `c` that another channel has: of a channel with FUNC 0 the inputs are not in use. -/
def motShared (m : Mach) (c : Nat) (p : Packet) : Bool :=
  let f := fget (par p 1) fMOT_CFG_FUNC
  let others := [0, 1, 2, 3].filter (· != c)
  others.any (fun k => (f != 0 && motFunc m k != 0 &&
      (getF m (rMOT_ISENSE k) fMOT_ISENSE_CH_U == fget (par p 5) fMOT_ISENSE_CH_U ||
        getF m (rMOT_ISENSE k) fMOT_ISENSE_CH_V == fget (par p 5) fMOT_ISENSE_CH_V)) ||
    (reg m (rMOT_TILES k) &&& par p 7) != 0)

def loopConfigBody (p : Packet) (m : Mach) : Mach × Rep :=
  let c := bits (par p 0) 1 0
  require (clean (par p 0) [(1, 0)] && motWordsOk p && !motShared m c p) (fun m =>
    if pending m .cal then (m, err stBUSY)
    else
      let m := forEach [(rMOT_CFG c, 1), (rMOT_ENC c, 2), (rMOT_LIM c, 3), (rMOT_FRZ c, 4), (rMOT_ISENSE c, 5), (rMOT_HOME c, 6),
        (rMOT_TILES c, 7)] (fun e m => setReg e.1 (par p e.2) m) m
      (m |> setMot c { motOf m c with reconfig := true } |> showAdc, ok [])) m

/-- LOOP_CONFIG (R307). -/
def execLoopConfig (p : Packet) (s : State) : Host.Outcome State Fault Refusal :=
  runDratus (.loopConfig p) (native 0x68 1 .topaz .h0p false false) noReply (withLen (· == 8) loopConfigBody) p s

/-- An AIM within ±3.0 degrees. -/
def aimOk (w : Word) : Bool := decide ((sgn 32 w.toNat).natAbs ≤ 3 * 2 ^ 20)

/-- LEVEL_SET (R299). -/
def execLevelSet (p : Packet) (s : State) : Host.Outcome State Fault Refusal :=
  runDratus (.levelSet p) (native 0x6F 1 .topaz .any false false) noReply
    (withLen (· == 2) (fun p => require (clean (par p 0) [(1, 0)] && bits (par p 0) 1 0 != 3 && aimOk (par p 1)) (fun m =>
      (m |> setReg rGAR_LEVEL (par p 0) |> setReg rGAR_AIM (par p 1), ok [])))) p s

/-! ### Injection (R302) -/

/-- Sample rate of a loop in Hz. -/
def loopRate (l : Nat) : Nat := if l < 4 then 20000 else if l < 8 then 1000 else 100

def tuneInjectBody (o : OpInfo) (p : Packet) (m : Mach) : Mach × Rep :=
  let w := par p 0
  let l := bits w 3 0
  let sig := bits w 13 12
  let freq := bits (par p 2) 31 16
  let n := bits (par p 2) 12 0
  let dec := bits (par p 3) 7 0
  require (clean w [(13, 12), (9, 8), (3, 0)] && decide (l < 9) && decide (sig ≤ 2) && decide (bits w 9 8 ≤ 1) &&
      clean (par p 2) [(31, 16), (12, 0)] && !(sig == 1 && decide (8 * loopRate l < freq)) && decide (1 ≤ n) && decide (n ≤ 4096) &&
      clean (par p 3) [(7, 0)] && decide (1 ≤ dec)) (fun m =>
    if m.inject.isSome then (m, err stBUSY)
    else if !loopClosed m l then stateReject m (rGAR_LOOP_STAT l)
    else
      let j : InjRec := { lp := l, point := bits w 9 8, signal := sig, ampl := sgn 32 (par p 1).toNat, freq := freq, samples := n, decim := dec }
      { m with inject := some j, capture := [] } |> setReg rGAR_CAP_STAT 0 |> setB rGAR_CAP_STAT fGAR_CAP_STAT_ACTIVE true |>
        setF rGAR_CAP_STAT fGAR_CAP_STAT_LOOP l |> pend o .inject 0 p) m

/-- TUNE_INJECT (R302). -/
def execTuneInject (p : Packet) (s : State) : Host.Outcome State Fault Refusal :=
  let o := native 0x6C 2 .topaz .h0 false false
  runDratus (.tuneInject p) o noReply (withLen (· == 4) (tuneInjectBody o)) p s

/-- INJECTION_END (R302). -/
def execInjectionEnd (t : Nat) (s : State) : Host.Outcome State Fault Refusal :=
  runEvent t (fun m =>
    match m.inject with
    | none => m
    | some j =>
      if j.samples ≤ m.capture.length then endInject (ok []) m
      else if !loopClosed m j.lp then endInject (errW stSTATE_REJECT (viewReg m (rGAR_LOOP_STAT j.lp))) m
      else m) s

def captureReadBody (p : Packet) (m : Mach) : Mach × Rep :=
  let first := bits (par p 0) 12 0
  let n := bits (par p 1) 12 0
  require (clean (par p 0) [(12, 0)] && clean (par p 1) [(12, 0)]) (fun m =>
    if !flag m rGAR_CAP_STAT fGAR_CAP_STAT_VALID then stateReject m rGAR_CAP_STAT
    else if m.capture.length < first + n ∨ pathMax p.path < 4 * n then (m, err stBAD_PARAM)
    else (m, ok (((m.capture.drop first).take n).flatMap (fun (r, y, u, e) => [wordI r, wordI y, wordI u, wordI e])))) m

/-- CAPTURE_READ (R307): a range too long for the path is refused by the command itself, with BAD_PARAM. DESIGN CHOICE: R45 gives
BAD_LENGTH for every such reply; the chapter of the command governs (R17). -/
def execCaptureRead (p : Packet) (s : State) : Host.Outcome State Fault Refusal :=
  runDratus (.captureRead p) (native 0x6D 2 .topaz .any true true) noReply (withLen (· == 2) captureReadBody) p s

/-! ### Analog inputs (R303 to R305) -/

/-- Channel `first + j` takes its three words. -/
def setAdcChan (p : Packet) (first j : Nat) (m : Mach) : Mach :=
  m |> setReg (rADC_CH_CFG (first + j)) (par p (3 * j + 1)) |> setReg (rADC_CH_SCALE (first + j)) (par p (3 * j + 2)) |>
    setReg (rADC_CH_LIM (first + j)) (par p (3 * j + 3))

def adcConfigBody (p : Packet) (m : Mach) : Mach × Rep :=
  let n := bits (par p 0) 12 8
  let first := bits (par p 0) 4 0
  if p.params.length ≠ 1 + 3 * n then (m, err stBAD_LENGTH)
  else
    require (clean (par p 0) [(12, 8), (4, 0)] && decide (1 ≤ n) && decide (first + n ≤ 24) &&
        (List.range n).all (fun j => clean (par p (3 * j + 1)) [(31, 28)] && fget (par p (3 * j + 1)) fADC_CH_CFG_RATE != 3 &&
          clean (par p (3 * j + 3)) [(31, 31), (27, 16), (11, 0)])) (fun m =>
      if pending m .cal then (m, err stBUSY)
      else
        let m' := forEach (List.range n) (setAdcChan p first) m
        if 1000000 < adcLoad m' false ∨ 1000000 < adcLoad m' true then (m, err stNO_RESOURCE) else (showAdc m', ok [])) m

/-- ADC_CONFIG (R303). -/
def execAdcConfig (p : Packet) (s : State) : Host.Outcome State Fault Refusal :=
  runDratus (.adcConfig p) (native 0x6E 1 .topaz .h0p false false) noReply adcConfigBody p s

/-- Scanning stands still from step 4 of a CAL_RUN with item 0 until its results have settled, at 1,005 ms (R417). -/
def scanStopped (m : Mach) : Bool := hasBit (calItems m) 0 && decide (m.calAt + ms 5 ≤ m.now) && decide (m.now < m.calAt + ms 1005)

/-- A conversion of the scanned channel `k` (R303). -/
def adcConversion (k : Nat) (raw : Int) (m : Mach) : Mach :=
  when (flag m (rADC_CH_CFG k) fADC_CH_CFG_EN && hubRuns m && !scanStopped m) (convert k raw) m

/-- ADC_CONVERSION (R304). -/
def execAdcConversion (t : Nat) (k : Fin 24) (raw : Int) (s : State) : Host.Outcome State Fault Refusal :=
  runEvent t (adcConversion k raw) s

end Sys2Proof.Machine
end

