-- ==== Sys2Proof/Machine/Envelope.lean ====
section
/-!
DEFINITION. The safety envelope: its form and checks (R314 to R317), producers (R318), the objects (R319), beam modes in
force (R320), the compliance-map copy (R174, R175) and the replies of SAFE_READ and SAFE_STATUS (R321).
-/

namespace Sys2Proof.Machine

/-! ### Form and CRC -/

/-- An envelope that has passed checks 1 and 2 (R314). -/
structure Env where
  prod : Nat
  seq : Nat
  deadline : Nat
  obj : Nat
  data : List Word
  deriving DecidableEq, Repr

/-- Checks 1 and 2 of R317: the rejection cause, or the envelope. The parameter list of a Dratus packet is exactly the
envelope; a CAN frame may be longer (R316). -/
def parseEnv (exact : Bool) (ws : List Word) : Nat ⊕ Env :=
  let w1 := ws.getD 1 0
  let w2 := ws.getD 2 0
  let len := bits w2 7 0
  let fits := if exact then decide (ws.length = 4 + len) else decide (4 + len ≤ ws.length)
  let dl := bits w1 15 0
  if ws.length < 4 ∨ fits = false ∨ 12 < len ∨ bits w2 23 8 ≠ 0 ∨ dl = 0 ∨ 1000 < dl then .inl 1
  else if crc crcSaf (wordsBytes (ws.take (3 + len))) ≠ (ws.getD (3 + len) 0).toNat then .inl 2
  else .inr { prod := (ws.getD 0 0).toNat, seq := bits w1 31 16, deadline := dl, obj := bits w2 31 24, data := (ws.drop 3).take len }

/-! ### Producers -/

/-- The producer that takes an envelope: `none` inside for the built-in provisioning producer, else the slot (R318). -/
def producerOf (m : Mach) (id : Nat) : Option (Option Nat) :=
  if !locked m && id == 0 then some none
  else ((List.range 4).find? (fun k => flag m (rSAF_PROD_CFG k) fSAF_PROD_CFG_EN && (reg m (rSAF_PROD_ID k)).toNat == id)).map some

def lastSeq (m : Mach) : Option Nat → Nat
  | none => m.saf.provLast
  | some k => getF m (rSAF_PROD_STAT k) fSAF_PROD_STAT_LAST_SEQ

def inSync (m : Mach) : Option Nat → Bool
  | none => m.saf.provSync
  | some k => flag m (rSAF_PROD_STAT k) fSAF_PROD_STAT_SYNC

def seqWin (m : Mach) : Option Nat → Nat
  | none => 7
  | some k => getF m (rSAF_PROD_CFG k) fSAF_PROD_CFG_SEQ_WIN

/-- Is object `obj` defined, and allowed for the producer (R317 check 8, R318)? COMPLIANCE_MAP cannot be read (R319). -/
def objAllowed (m : Mach) (who : Option Nat) (write : Bool) (obj : Nat) : Bool :=
  decide (1 ≤ obj) && decide (obj ≤ 6) && !(!write && obj == 4) &&
  match who with
  | none => !write || obj == 1 || obj == 6
  | some k => hasBit (getF m (rSAF_PROD_CFG k) fSAF_PROD_CFG_OBJ) obj

/-- The held cause ENVELOPE: a producer with REACT 2 is expired (R311, R318). -/
def envelopeCause (m : Mach) : Mach :=
  causeIs 2 ((List.range 4).any (fun k => flag m (rSAF_PROD_CFG k) fSAF_PROD_CFG_EN &&
    flag m (rSAF_PROD_STAT k) fSAF_PROD_STAT_EXPIRED && getF m (rSAF_PROD_CFG k) fSAF_PROD_CFG_REACT == 2)) m

/-! ### Beam modes (R320) -/

/-- The beam mode of group `g` is forced to FB_BEAM. -/
def beamForced (m : Mach) (g : Nat) : Bool :=
  (List.range 4).any (fun n => getF m (rSAF_IN_CFG n) fSAF_IN_CFG_FUNC == 1 && getF m (rSAF_IN_STAT n) fSAF_IN_STAT_STATE != 0 &&
    hasBit (getF m (rSAF_IN_CFG n) fSAF_IN_CFG_GMASK) g) ||
  (List.range 4).any (fun k => flag m (rSAF_PROD_STAT k) fSAF_PROD_STAT_FALLBACK &&
    hasBit (getF m (rSAF_PROD_CFG k) fSAF_PROD_CFG_GMASK) g)

/-- The mode in force for every group, as SAF_BEAM.FORCE holds it. -/
def beamWord (m : Mach) : Nat :=
  (List.range 8).foldl (fun a g => a +
    (if beamForced m g then getF m rSAF_GEN_CFG fSAF_GEN_CFG_FB_BEAM else getF m rSAF_BEAM fSAF_BEAM_REQ / 4 ^ g % 4) * 4 ^ g) 0

/-- The modes in force follow the requests and the forces; a group whose mode changes remembers the old one until the
first band latched 4 PIX cycles later (R172). -/
def setBeams (m : Mach) : Mach :=
  let w := beamWord m
  let m := forEach (List.range 8) (fun g m =>
    let r := grpOf m g
    if w / 4 ^ g % 4 = beamOf m g then m
    else setGrp g { r with beamWas := if r.beamAt = m.now then r.beamWas else beamOf m g, beamAt := m.now } m) m
  m |> setF rSAF_BEAM fSAF_BEAM_FORCE w |> showBeams |> mapCause

/-- The mask enables take the word `en` (R131). -/
def setMasks (en : Nat) (m : Mach) : Mach :=
  let was := getF m rSAF_MASK_EN fSAF_MASK_EN_EN
  let m := forEach (List.range 8) (fun g m =>
    let r := grpOf m g
    if hasBit en g = hasBit was g then m
    else setGrp g { r with maskWas := if r.maskAt = m.now then r.maskWas else b2n (hasBit was g), maskAt := m.now } m) m
  setF rSAF_MASK_EN fSAF_MASK_EN_EN en m

/-! ### Inputs: their effects (R322) -/

/-- Is input `n` with function `f` ACTIVE or FAULT? -/
def inputActs (m : Mach) (f n : Nat) : Bool :=
  getF m (rSAF_IN_CFG n) fSAF_IN_CFG_FUNC == f && getF m (rSAF_IN_STAT n) fSAF_IN_STAT_STATE != 0

/-- The causes and forces that the inputs bring about. -/
def inputEffects (m : Mach) : Mach :=
  m |> causeIs 3 ((List.range 4).any (inputActs m 2)) |> causeIs 23 ((List.range 4).any (inputActs m 3)) |> setBeams

/-! ### Accounting (R317, R318) -/

/-- The producer is renewed: EXPIRED clears and its time expectation starts again. -/
def renew (k : Nat) (m : Mach) : Mach :=
  { m with saf := { m.saf with renewed := tput 0 m.saf.renewed k m.now } } |>
    setB (rSAF_PROD_STAT k) fSAF_PROD_STAT_EXPIRED false |> envelopeCause

/-- A rejection is counted in the slot. -/
def countRej (k cause : Nat) (m : Mach) : Mach :=
  m |> bump (rSAF_PROD_REJ k) fSAF_PROD_REJ_REJ |> setF (rSAF_PROD_REJ k) fSAF_PROD_REJ_LAST cause

/-- An envelope of object `obj` of the producer in slot `k` is accepted: its FALLBACK ends at one that sets the beam mode, or at any one
where it may send none that does (R318). The modes in force follow, with the requests of a BEAM_MODE once they are taken. -/
def endFallback (k obj : Nat) (m : Mach) : Mach :=
  let a := rSAF_PROD_STAT k
  if flag m a fSAF_PROD_STAT_FALLBACK && (obj == 2 || !hasBit (getF m (rSAF_PROD_CFG k) fSAF_PROD_CFG_OBJ) 2) then
    m |> setB a fSAF_PROD_STAT_FALLBACK false |> when (obj != 2) setBeams
  else m

/-- What an envelope does to its producer; cause 0 stands for acceptance. A COMPLIANCE_MAP is accepted only once its copy has been
checked (R175). -/
def accountEnv (who : Option Nat) (e : Env) (write : Bool) (cause : Nat) (m : Mach) : Mach :=
  let taken := cause == 0 || decide (6 ≤ cause)
  let unsync := cause == 0 || cause == 6
  match who with
  | none =>
    { m with saf := { m.saf with
      provLast := if taken then e.seq else m.saf.provLast
      provSync := m.saf.provSync && !unsync } }
  | some k =>
    let a := rSAF_PROD_STAT k
    let m := m |> when taken (setF a fSAF_PROD_STAT_LAST_SEQ e.seq) |> when unsync (setB a fSAF_PROD_STAT_SYNC false) |>
      when (taken && cause != 7) (renew k) |> when (cause != 0) (countRej k cause)
    when (cause == 0 && !(write && e.obj == 4)) (endFallback k e.obj) m

/-- Checks 4 to 11 of R317 (and 10 only for a write): the cause, or 0. `wait` is the time since reception in PIX cycles. -/
def envCause (m : Mach) (who : Option Nat) (e : Env) (wait : Nat) (write dataOk stateOk : Bool) : Nat :=
  let step := (e.seq + 65536 - lastSeq m who) % 65536
  if e.seq = lastSeq m who then 4
  else if inSync m who = false ∧ seqWin m who < step then 5
  else if inSync m who ∧ e.obj ≠ 1 then 6
  else if ms e.deadline < wait then 7
  else if objAllowed m who write e.obj = false then 8
  else if dataOk = false then 9
  else if write ∧ e.obj = 6 ∧ locked m then 10
  else if stateOk = false then 11
  else 0

/-- SAFETY_REJECT with its cause (R85). -/
def safReject (m : Mach) (cause : Nat) : Mach × Rep := (m, errW stSAFETY_REJECT (w32 cause))

/-- An envelope goes through its checks; `effect` is what it does once accepted, given the producer slot. -/
def runEnv (exact : Bool) (ws : List Word) (wait : Nat) (write : Bool) (dataOk stateOk : Nat → List Word → Mach → Bool)
    (effect : Option Nat → Env → Mach → Mach × Rep) (m : Mach) : Mach × Rep :=
  if hwSafe m then safReject m 11 else
  match parseEnv exact ws with
  | .inl c => safReject m c
  | .inr e =>
    match producerOf m e.prod with
    | none => safReject m 3
    | some who =>
      let c := envCause m who e wait write (dataOk e.obj e.data m) (stateOk e.obj e.data m)
      let m := accountEnv who e write c m
      if c = 0 then effect who e m else safReject m c

/-! ### SAFE_WRITE -/

/-- The opcode of SAFE_WRITE (R79). -/
def opSafeWrite : OpInfo := native 0x78 0 .onyx .any false false

/-- Does Onyx take a native frame (R316)? -/
def nativeTaken (m : Mach) (f : CanFrame) : Bool :=
  decide (m.pwr.st ≤ 2) && flag m rSAF_CAN fSAF_CAN_EN && getF m rSAF_CAN fSAF_CAN_CTRL == f.can &&
  flag m rSAF_CAN fSAF_CAN_XTD == f.xtd && sameId f.xtd (getF m rSAF_CAN fSAF_CAN_ID) f.id

/-- A row of SAFE_WRITE: object `obj`, its data check, its state check and its effect; the effect has the producer slot,
the packet if there is one, and the data. An OBJECT other than the row's own fails check 8: the undefined codes come as
the row HEARTBEAT. -/
def safeWrite (i : Instr) (obj : Nat) (dataOk stateOk : List Word → Mach → Bool)
    (effect : Option Nat → Option Packet → List Word → Mach → Mach × Rep) (src : EnvSrc) (s : State) :
    Host.Outcome State Fault Refusal :=
  let eff (p : Option Packet) (who : Option Nat) (e : Env) (m : Mach) : Mach × Rep := effect who p e.data m
  let dOk (o : Nat) (d : List Word) (m : Mach) : Bool := o == obj && dataOk d m
  let sOk (_ : Nat) (d : List Word) (m : Mach) : Bool := stateOk d m
  match src with
  | .dratus p waitMs =>
    runDratus i opSafeWrite noReply (fun p m =>
      runEnv true p.params (m.now - p.t + ms waitMs) true dOk sOk (eff (some p)) m) p s
  | .native f waitMs =>
    runEvent f.t (fun m =>
      if !nativeTaken m f then m else
      let (m, r) := runEnv false f.words (ms waitMs) true dOk sOk (eff none) m
      when (m.pwr.st == 2 && r.status != stSAFETY_REJECT) (wakeEvent 8) m) s

/-- No object but those with a state check of their own is refused for the state. -/
def anyState (_ : List Word) (_ : Mach) : Bool := true

/-- HEARTBEAT (R319): renews only. -/
def execHeartbeat (src : EnvSrc) (s : State) : Host.Outcome State Fault Refusal :=
  safeWrite (.heartbeat src) 1 (fun d _ => d.isEmpty) anyState (fun _ _ _ m => (m, ok [])) src s

/-- The requested modes with those of the selected groups replaced. -/
def selectModes (req sel new : Nat) : Nat :=
  (List.range 8).foldl (fun a g => a + (if hasBit sel g then new else req) / 4 ^ g % 4 * 4 ^ g) 0

/-- BEAM_MODE (R319, R320). -/
def execBeamMode (src : EnvSrc) (s : State) : Host.Outcome State Fault Refusal :=
  safeWrite (.beamMode src) 2 (fun d _ => decide (d.length = 1) && clean (d.getD 0 0) [(31, 24), (15, 0)]) anyState
    (fun _ _ d m =>
      let w := d.getD 0 0
      (m |> setF rSAF_BEAM fSAF_BEAM_REQ (selectModes (getF m rSAF_BEAM fSAF_BEAM_REQ) (bits w 31 24) (bits w 15 0)) |>
        setBeams, ok [])) src s

/-- MASK_ENABLE (R319, R131). -/
def execMaskEnable (src : EnvSrc) (s : State) : Host.Outcome State Fault Refusal :=
  safeWrite (.maskEnable src) 3 (fun d _ => decide (d.length = 1) && clean (d.getD 0 0) [(15, 0)]) anyState
    (fun _ _ d m =>
      let sel := bits (d.getD 0 0) 15 8
      let en := bits (d.getD 0 0) 7 0
      let was := getF m rSAF_MASK_EN fSAF_MASK_EN_EN
      (setMasks ((en &&& sel) ||| (was &&& (sel ^^^ 0xFF))) m, ok [])) src s

/-- OUTPUT (R319, R324): switching on is refused in STOP and while the output's FAULT is set. -/
def execOutput (src : EnvSrc) (s : State) : Host.Outcome State Fault Refusal :=
  safeWrite (.output src) 5 (fun d _ => decide (d.length = 1) && clean (d.getD 0 0) [(5, 4), (1, 0)])
    (fun d m => !(members 2 (bits (d.getD 0 0) 5 4 &&& bits (d.getD 0 0) 1 0)).any (fun j =>
      stopPresent m || flag m (rSAF_OUT_STAT j) fSAF_OUT_STAT_FAULT))
    (fun _ _ d m =>
      let sel := bits (d.getD 0 0) 5 4
      let on := bits (d.getD 0 0) 1 0
      let off := (m.saf.offBy &&& (sel ^^^ 3)) ||| (sel &&& (on ^^^ 3))
      (safUpdate { m with saf := { m.saf with offBy := off } }, ok [])) src s

/-! ### SAFE_CONFIG -/

/-- The address of the SAF register at `off`. -/
def safAddr (off : Nat) : Nat := rSAF_STAT + off

/-- The slot, or input, or output whose register lies at `off` from `base` with stride `st`. -/
def safInst (base st n off : Nat) : Option Nat := (List.range n).find? (fun k => off == base + st * k)

/-- May SAFE_CONFIG name this offset, and is the value within the ranges of its fields (R319, R323, R330)? -/
def safValueOk (off : Nat) (v : Word) : Bool :=
  let f (g : Fld) : Nat := fget v g
  let within (lo hi x : Nat) : Bool := decide (lo ≤ x) && decide (x ≤ hi)
  if off = 0x10 then clean v [(31, 31), (29, 28), (19, 12), (7, 0)] && within 10 255 (f fSAF_GEN_CFG_ACK_LOW) &&
    within 5 100 (f fSAF_GEN_CFG_TOPAZ_WD)
  else if off = 0x14 then true
  else if (safInst 0x100 0x10 4 off).isSome then true
  else if (safInst 0x104 0x10 4 off).isSome then
    clean v [(31, 29), (26, 8), (6, 1)] && decide (f fSAF_PROD_CFG_REACT ≤ 2) && within 1 7 (f fSAF_PROD_CFG_SEQ_WIN) &&
      within 20 200 (f fSAF_PROD_CFG_TEXP)
  else if (safInst 0x200 8 4 off).isSome then
    decide (f fSAF_IN_CFG_FUNC ≤ 4) && f fSAF_IN_CFG_SRC_A != f fSAF_IN_CFG_SRC_B && within 1 31 (f fSAF_IN_CFG_FILT) &&
      within 1 15 (f fSAF_IN_CFG_DISC_T) && within 2 255 (f fSAF_IN_CFG_RATE_MAX)
  else if off = 0x240 then
    clean v [(31, 16), (3, 0)] && within 10 250 (f fSAF_TP_CFG_PERIOD) && within 10 100 (f fSAF_TP_CFG_WIDTH) &&
      decide (40 * f fSAF_TP_CFG_WIDTH < 1000 * f fSAF_TP_CFG_PERIOD)
  else if (safInst 0x280 8 2 off).isSome then clean v [(31, 29), (23, 16)] && within 5 100 (f fSAF_OUT_CFG_FB_T)
  else false

/-- Does the offset name a register that SAFE_CONFIG sets? -/
def safSettable (off : Nat) : Bool :=
  off == 0x10 || off == 0x14 || off == 0x240 || (safInst 0x100 0x10 4 off).isSome || (safInst 0x104 0x10 4 off).isSome ||
  (safInst 0x200 8 4 off).isSome || (safInst 0x280 8 2 off).isSome

/-- A slot is enabled, or its identity changes: SYNC set, EXPIRED and FALLBACK cleared, timer started (R318). -/
def slotStarts (k : Nat) (m : Mach) : Mach :=
  let a := rSAF_PROD_STAT k
  { m with saf := { m.saf with renewed := tput 0 m.saf.renewed k m.now } } |> setB a fSAF_PROD_STAT_SYNC true |>
    setB a fSAF_PROD_STAT_EXPIRED false |> setB a fSAF_PROD_STAT_FALLBACK false

/-- A slot is disabled (R318). -/
def slotStops (k : Nat) (m : Mach) : Mach :=
  let a := rSAF_PROD_STAT k
  m |> setB a fSAF_PROD_STAT_EXPIRED false |> setB a fSAF_PROD_STAT_FALLBACK false

/-- Everything that the safety settings decide is judged again. -/
def safApply (m : Mach) : Mach := m |> inputEffects |> envelopeCause |> safUpdate

/-- The SAF register at `off` takes `v`. -/
def safSet (off : Nat) (v : Word) (m : Mach) : Mach :=
  let was := reg m (safAddr off)
  let m := setReg (safAddr off) v m
  let m := match safInst 0x100 0x10 4 off with
    | some k => when (was != v && flag m (rSAF_PROD_CFG k) fSAF_PROD_CFG_EN) (slotStarts k) m
    | none => m
  let m := match safInst 0x104 0x10 4 off with
    | some k =>
      let old := fget was fSAF_PROD_CFG_EN
      let new := fget v fSAF_PROD_CFG_EN
      if old = 0 ∧ new = 1 then slotStarts k m else if old = 1 ∧ new = 0 then slotStops k m else m
    | none => m
  safApply m

/-- SAFE_CONFIG (R319). -/
def execSafeConfig (src : EnvSrc) (s : State) : Host.Outcome State Fault Refusal :=
  safeWrite (.safeConfig src) 6
    (fun d _ => decide (d.length = 2) && clean (d.getD 0 0) [(15, 0)] && safValueOk (bits (d.getD 0 0) 15 0) (d.getD 1 0)) anyState
    (fun _ _ d m => (safSet (bits (d.getD 0 0) 15 0) (d.getD 1 0) m, ok [])) src s

/-! ### COMPLIANCE_MAP (R174, R175) -/

/-- Check 9 of the compliance-map object. -/
def mapDataOk (d : List Word) (m : Mach) : Bool :=
  let w := d.getD 0 0
  let h := (d.getD 1 0).toNat
  decide (d.length = 3) && clean w [(16, 16), (9, 8), (4, 0)] && decide (bits w 4 0 < 24) && bufNamed m h &&
  match mapGeom m (bits w 4 0) with
  | none => false
  | some (gw, gh) => rawBuf m (hIdx h) (4 * zoneCount gw gh)

/-- Zones of the map sets that the table region holds: valid ones, copied ones and those reserved. -/
def zonesHeld (m : Mach) : Nat :=
  ((List.range 24).map (fun t =>
    let r := pixOf m t
    (r.sets.map (fun e => e.2.zones.length)).sum + (r.setsNew.map (fun e => e.2.zones.length)).sum +
      (r.copies.map (fun c => if c.noSpace then 0 else zoneCount c.w c.h)).sum)).sum

/-- The copy starts: PENDING for a SAFE_WRITE. -/
def startMap (who : Option Nat) (p : Option Packet) (d : List Word) (m : Mach) : Mach × Rep :=
  let w := d.getD 0 0
  let t := bits w 4 0
  let (gw, gh) := (mapGeom m t).getD (0, 0)
  let c : MapCopy :=
    { beam := bits w 9 8, handle := (d.getD 1 0).toNat, crc := d.getD 2 0, persist := bit w 16, w := gw, h := gh, slot := who,
      dratus := p.isSome, noSpace := !Config.mapRoom (zonesHeld m) (zoneCount gw gh) }
  let m := setTilePix t { pixOf m t with copies := (pixOf m t).copies ++ [c] } m
  match p with
  | some p => pend opSafeWrite .map t p m
  | none => (m, ok [])

/-- COMPLIANCE_MAP (R174). -/
def execComplianceMap (src : EnvSrc) (s : State) : Host.Outcome State Fault Refusal :=
  safeWrite (.complianceMap src) 4 mapDataOk anyState startMap src s

/-- The words that Onyx copies out of the buffer. -/
def mapWords (mem : Tab Byte) (c : MapCopy) : List Word :=
  (List.range (zoneCount c.w c.h)).map (fun k => poolWord mem (hIdx c.handle) (4 * k))

/-- Step 3 of R175: the copy agrees with MAP_CRC and no zone word has a reserved bit set. -/
def mapCopyOk (mem : Tab Byte) (m : Mach) (c : MapCopy) : Bool :=
  let ws := mapWords mem c
  bufNamed m c.handle && rawBuf m (hIdx c.handle) (4 * ws.length) && w32 (crc crcSaf (wordsBytes ws)) == c.crc &&
  ws.all (fun w => clean w [(27, 16), (11, 0)])

/-- The copy is rejected with cause 12 or 13. -/
def mapRejected (c : MapCopy) (t cause : Nat) (m : Mach) : Mach :=
  let m := match c.slot with
    | some k => countRej k cause m
    | none => m
  when c.dratus (finish .map t (errW stSAFETY_REJECT (w32 cause))) m

/-- The oldest copy of the tile ends. -/
def mapCopyDone (mem : Tab Byte) (t : Nat) (m : Mach) : Mach :=
  let r := pixOf m t
  match r.copies with
  | [] => m
  | c :: rest =>
    let m := setTilePix t { r with copies := rest } m
    if c.noSpace then mapRejected c t 12 m
    else if !mapCopyOk mem m c then mapRejected c t 13 m
    else
      let set : MapSet := { w := c.w, h := c.h, zones := mapWords mem c, crc := c.crc, persist := c.persist }
      let m := match c.slot with
        | some k => endFallback k 4 m
        | none => m
      m |> setTilePix t { pixOf m t with setsNew := tput {} (pixOf m t).setsNew c.beam set } |> when c.dratus (finish .map t (ok []))

/-- MAP_COPY_DONE (R175). -/
def execMapCopyDone (t : Nat) (tile : Fin 24) (s : State) : Host.Outcome State Fault Refusal :=
  runEvent t (fun m => when (!hwSafe m) (mapCopyDone s.mem tile) m) s

/-! ### SAFE_READ, SAFE_STATUS -/

/-- Onyx's reply envelope (R321). -/
def replyEnv (obj : Nat) (data : List Word) (m : Mach) : Mach × Rep :=
  let n := m.saf.replyCnt
  let ws := [w32 Config.uid, w32 (n <<< 16), w32 (obj <<< 24 + data.length)] ++ data
  ({ m with saf := { m.saf with replyCnt := (n + 1) % 65536 } }, ok (ws ++ [w32 (crc crcSaf (wordsBytes ws))]))

/-- Is the request data of a SAFE_READ right: an OFFSET for SAFE_CONFIG, none otherwise (R319)? -/
def readDataOk (obj : Nat) (d : List Word) (_ : Mach) : Bool :=
  if obj = 6 then decide (d.length = 1) && clean (d.getD 0 0) [(15, 0)] && safSettable (bits (d.getD 0 0) 15 0) else d.isEmpty

/-- The current value of an object (R319). -/
def objValue (m : Mach) (obj : Nat) (d : List Word) : List Word :=
  if obj = 2 then [viewReg m rSAF_BEAM]
  else if obj = 3 then [viewReg m rSAF_MASK_EN]
  else if obj = 5 then [viewReg m (rSAF_OUT_STAT 0), viewReg m (rSAF_OUT_STAT 1)]
  else if obj = 6 then [d.getD 0 0, viewReg m (safAddr (bits (d.getD 0 0) 15 0))]
  else []

/-- SAFE_READ (R319, R321). -/
def execSafeRead (p : Packet) (s : State) : Host.Outcome State Fault Refusal :=
  runDratus (.safeRead p) (native 0x79 0 .onyx .any false true) (replyLen 6) (fun p m =>
    runEnv true p.params (m.now - p.t) false readDataOk (fun _ _ _ => true) (fun _ e m => replyEnv e.obj (objValue m e.obj e.data) m) m)
    p s

/-- SAFE_STATUS (R321). -/
def execSafeStatus (p : Packet) (s : State) : Host.Outcome State Fault Refusal :=
  runDratus (.safeStatus p) (native 0x7A 0 .onyx .any false true) (replyLen 10) (withLen (· == 0) (fun _ m =>
    if hwSafe m then safReject m 11
    else replyEnv 0 [viewReg m rSAF_STAT, viewReg m rSAF_CAUSE, viewReg m rSAF_BEAM, viewReg m rSAF_MASK_EN,
      viewReg m (rSAF_OUT_STAT 0), viewReg m (rSAF_OUT_STAT 1)] m)) p s

end Sys2Proof.Machine
end

