-- ==== Sys2Proof/Machine/Onyx.lean ====
section
/-!
DEFINITION. What Onyx sees and does of its own: producer expiry (R318), safety inputs and test pulses (R322, R323), outputs
and their feedback (R324), LIMP_N (R310, R312), clocks (R327), HWSAFE (R328) and the SAF_ACK edge (R313, R454).
-/

namespace Sys2Proof.Machine

/-! ### Producers -/

/-- The producer timers run: after the self-test, and not from step E5 of an entry until the return to RUN (R329, R371, R378). -/
def timersRun (m : Mach) : Bool :=
  m.saf.selfTested && hubRuns m && match m.pwr.entry with
    | some e => decide (e.step < 5)
    | none => true

/-- The producer in slot `k` expires (R318). -/
def expire (k : Nat) (m : Mach) : Mach :=
  let a := rSAF_PROD_STAT k
  let m := m |> setB a fSAF_PROD_STAT_EXPIRED true |> setB a fSAF_PROD_STAT_SYNC true |>
    bump (rSAF_PROD_REJ k) fSAF_PROD_REJ_EXPIRY |> raise 10 (detail k 0)
  let r := getF m (rSAF_PROD_CFG k) fSAF_PROD_CFG_REACT
  m |> when (r == 1) (fun m => m |> setB a fSAF_PROD_STAT_FALLBACK true |> setBeams) |> envelopeCause

/-- PRODUCER_EXPIRY (R318): the SAF cycle in which the timer expires is over, since an envelope that renews in it is in time. -/
def execProducerExpiry (t : Nat) (k : Fin 4) (s : State) : Host.Outcome State Fault Refusal :=
  runOnyx t (fun m =>
    let due := tget 0 m.saf.renewed k + ms (getF m (rSAF_PROD_CFG k) fSAF_PROD_CFG_TEXP)
    when (timersRun m && flag m (rSAF_PROD_CFG k) fSAF_PROD_CFG_EN && !flag m (rSAF_PROD_STAT k) fSAF_PROD_STAT_EXPIRED &&
      decide (due / 6 < m.now / 6)) (expire k) m) s

/-! ### Inputs -/

def inOf (m : Mach) (n : Nat) : SafIn := tget {} m.saf.ins n
def setIn (n : Nat) (r : SafIn) (m : Mach) : Mach := { m with saf := { m.saf with ins := tput {} m.saf.ins n r } }
def inState (m : Mach) (n : Nat) : Nat := getF m (rSAF_IN_STAT n) fSAF_IN_STAT_STATE
def inFunc (m : Mach) (n : Nat) : Nat := getF m (rSAF_IN_CFG n) fSAF_IN_CFG_FUNC
def chanA (m : Mach) (n : Nat) : Bool := flag m (rSAF_IN_STAT n) fSAF_IN_STAT_A
def chanB (m : Mach) (n : Nat) : Bool := flag m (rSAF_IN_STAT n) fSAF_IN_STAT_B

/-- Input `n` takes state `st`, with what follows; in SLEEP, ACTIVE and FAULT of a used input wake the device (R375). -/
def setInState (n st : Nat) (m : Mach) : Mach :=
  if inState m n = st then m else
  let f := inFunc m n
  m |> setF (rSAF_IN_STAT n) fSAF_IN_STAT_STATE st |> inputEffects |>
    when (m.pwr.st == 2 && st != 0 && decide (1 ≤ f) && decide (f ≤ 3)) (wakeEvent 5)

/-- Input `n` enters FAULT with a cause (R322). -/
def inputFault (n cause : Nat) (m : Mach) : Mach :=
  if inState m n = 2 then m
  else m |> setF (rSAF_IN_STAT n) fSAF_IN_STAT_FCAUSE cause |> setInState n 2 |> raise 11 (detail n 0)

/-- The end of the first pulse of TPk, and the period, in PIX cycles (R323). -/
def pulseSeries (m : Mach) (k : Nat) : Nat × Nat :=
  let period := getF m rSAF_TP_CFG fSAF_TP_CFG_PERIOD
  (m.pwr.safAt + ms (k * period) / 4 + us (10 * getF m rSAF_TP_CFG fSAF_TP_CFG_WIDTH), ms (max 1 period))

/-- Does the instant lie in a pulse of TPk or within `tail` after it (R322, R323)? -/
def inPulse (m : Mach) (k tail : Nat) : Bool :=
  let (first, period) := pulseSeries m k
  let width := us (10 * getF m rSAF_TP_CFG fSAF_TP_CFG_WIDTH)
  decide (first ≤ m.now + width) && decide ((m.now + width - first) % period < width + tail)

/-- The level that a filtered channel supplied from TP `src` takes: the raw one once it has been stable for FILT ms; a sample in the
channel's own test pulse or within 100 µs after it is not used (R322). -/
def filtered (m : Mach) (n src since : Nat) (was raw : Bool) : Bool :=
  if since + ms (getF m (rSAF_IN_CFG n) fSAF_IN_CFG_FILT) ≤ m.now ∧ inPulse m src (us 100) = false then raw else was

/-- The raw channels of input `n` show `a` and `b`, test pulses left out; a level that was not seen before has stood no longer than the last
change that was. The filtered channels follow. -/
def inputChange (n : Nat) (a b : RawLevel) (m : Mach) : Mach :=
  let r := inOf m n
  let r := { r with rawA := a.high, rawB := b.high, aAt := max r.aAt a.since, bAt := max r.bAt b.since }
  let a := filtered m n (getF m (rSAF_IN_CFG n) fSAF_IN_CFG_SRC_A) r.aAt (chanA m n) a.high
  let b := filtered m n (getF m (rSAF_IN_CFG n) fSAF_IN_CFG_SRC_B) r.bAt (chanB m n) b.high
  let m := m |> setB (rSAF_IN_STAT n) fSAF_IN_STAT_A a |> setB (rSAF_IN_STAT n) fSAF_IN_STAT_B b |>
    setIn n { r with differAt := if chanA m n == chanB m n && a != b then m.now else r.differAt }
  when (inState m n != 2 && a == b) (setInState n (b2n a)) m

/-- SAFETY_INPUT_CHANGE (R322). -/
def execSafetyInputChange (t : Nat) (n : Fin 4) (a b : RawLevel) (s : State) : Host.Outcome State Fault Refusal :=
  runOnyx t (inputChange n a b) s

/-- INPUT_DISCREPANCY (R322). -/
def execInputDiscrepancy (t : Nat) (n : Fin 4) (s : State) : Host.Outcome State Fault Refusal :=
  runOnyx t (fun m =>
    let due := (inOf m n).differAt + ms (5 * getF m (rSAF_IN_CFG n) fSAF_IN_CFG_DISC_T)
    when (inFunc m n != 0 && chanA m n != chanB m n && decide (due ≤ m.now)) (inputFault n 1) m) s

/-- INPUT_RATE_WINDOW (R322, R459): `changes` of the raw channels in the 100 ms window that has ended. -/
def execInputRateWindow (t : Nat) (n : Fin 4) (changes : Nat) (s : State) : Host.Outcome State Fault Refusal :=
  runOnyx t (fun m =>
    if inFunc m n = 0 ∨ windowDue m.pwr.safAt (ms 100) (inOf m n).ratedAt m = false then m else
    let bad := decide (getF m (rSAF_IN_CFG n) fSAF_IN_CFG_RATE_MAX < changes)
    m |> setIn n { inOf m n with rateBad := bad, ratedAt := windowEnd m.pwr.safAt (ms 100) m } |> when bad (inputFault n 4)) s

/-- Is input `n` tested with pulses (R323)? An unused input is not. -/
def pulseTested (m : Mach) (n : Nat) : Bool := hasBit (getF m rSAF_TP_CFG fSAF_TP_CFG_TPCHK) n && inFunc m n != 0

/-- Failing periods after one more reading at the end of a pulse; 2 of them are a fault. -/
def pulseFails (fails : Nat) (high : Bool) : Nat := if high then capN 2 (fails + 1) else 0

/-- The check of input `n` at the end of a pulse of TPk, with the levels of its two channels. -/
def pulseCheck (k n : Nat) (a b : Bool) (m : Mach) : Mach :=
  if !pulseTested m n then m else
  let r := inOf m n
  let srcA := getF m (rSAF_IN_CFG n) fSAF_IN_CFG_SRC_A == k
  let srcB := getF m (rSAF_IN_CFG n) fSAF_IN_CFG_SRC_B == k
  let fa := if srcA then pulseFails r.failA a else r.failA
  let fb := if srcB then pulseFails r.failB b else r.failB
  m |> setIn n { r with failA := fa, failB := fb } |> when (srcA && fa == 2) (inputFault n 2) |>
    when (srcB && fb == 2) (inputFault n 3)

/-- Has a pulse of TPk ended that has not been judged (R323)? -/
def pulseDue (m : Mach) (k : Nat) : Bool :=
  let (first, period) := pulseSeries m k
  decide (first ≤ m.now) && decide (tget 0 m.saf.pulseAt k < windowEnd first period m)

/-- A pulse of TPk ends, with the levels of the channels. -/
def testPulse (k levels : Nat) (m : Mach) : Mach :=
  if !pulseDue m k then m else
  let (first, period) := pulseSeries m k
  { m with saf := { m.saf with pulseAt := tput 0 m.saf.pulseAt k (windowEnd first period m) } } |>
    forEach (List.range 4) (fun n m => pulseCheck k n (hasBit levels (2 * n)) (hasBit levels (2 * n + 1)) m)

/-- TEST_PULSE (R323): bit 2n of `levels` is channel A of input n, bit 2n + 1 channel B. -/
def execTestPulse (t : Nat) (k : Fin 4) (levels : Nat) (s : State) : Host.Outcome State Fault Refusal :=
  runOnyx t (testPulse k levels) s

/-- Does input `n` pass R322 and R323 at this instant? -/
def inputPasses (m : Mach) (n : Nat) : Bool :=
  let r := inOf m n
  chanA m n == chanB m n && !(pulseTested m n && (r.failA != 0 || r.failB != 0)) && !r.rateBad

/-! ### Outputs -/

/-- The causes OUT_STUCK and OUT_LOST follow the faults of the outputs (R311, R324). -/
def outputCauses (m : Mach) : Mach :=
  let is (j c : Nat) : Bool := flag m (rSAF_OUT_STAT j) fSAF_OUT_STAT_FAULT && getF m (rSAF_OUT_STAT j) fSAF_OUT_STAT_FCAUSE == c
  let stuck (j : Nat) : Bool := is j 2 || (is j 3 && hasBit m.saf.pinHigh j)
  let lost (j : Nat) : Bool := is j 1 || (is j 3 && !hasBit m.saf.pinHigh j)
  m |> causeIs 21 (stuck 0 || stuck 1) |> causeIs 22 (lost 0 || lost 1)

/-- Output `j` fails with cause `c`; its feedback and its pin stand at `fb` and `pin` (R324). -/
def outputFails (j c : Nat) (fb pin : Bool) (m : Mach) : Mach :=
  let a := rSAF_OUT_STAT j
  let high := if c = 3 ∧ pin then setBit m.saf.pinHigh j else clrBit m.saf.pinHigh j
  { m with saf := { m.saf with pinHigh := high } } |> setB a fSAF_OUT_STAT_FAULT true |> setF a fSAF_OUT_STAT_FCAUSE c |>
    when (c != 2) (driveOut j false) |>
    when (c != 1) (fun m => m |> setB a fSAF_OUT_STAT_FB fb |> setB a fSAF_OUT_STAT_PIN pin) |>
    outputCauses |> raise 9 (detail j 0)

/-- Does level `fb` of SFBj show a closed contactor (R324)? -/
def fbClosed (m : Mach) (j : Nat) (fb : Bool) : Bool := fb == flag m (rSAF_OUT_CFG j) fSAF_OUT_CFG_FB_POL

/-- The feedback of output `j` has been checked for 1 ms: the check begins FB_T after a switching (R324). -/
def fbChecked (m : Mach) (j : Nat) : Bool :=
  decide (tget 0 m.saf.drivenAt j + ms (getF m (rSAF_OUT_CFG j) fSAF_OUT_CFG_FB_T + 1) ≤ m.now)

/-- A mismatch of an output in use, in the order of the table of R324. -/
def outputMismatch (j : Nat) (fb pin : Bool) (m : Mach) : Mach :=
  let on := flag m (rSAF_OUT_STAT j) fSAF_OUT_STAT_OUT
  if !flag m (rSAF_OUT_CFG j) fSAF_OUT_CFG_EN then m
  else if fbChecked m j && on && !fbClosed m j fb then outputFails j 1 fb pin m
  else if fbChecked m j && !on && fbClosed m j fb then outputFails j 2 fb pin m
  else if pin != on then outputFails j 3 fb pin m
  else m

/-- OUTPUT_FEEDBACK_MISMATCH (R324). -/
def execOutputFeedbackMismatch (t : Nat) (j : Fin 2) (fb pin : Bool) (s : State) : Host.Outcome State Fault Refusal :=
  runOnyx t (outputMismatch j fb pin) s

/-! ### LIMP_N, clocks, HWSAFE -/

/-- The cause CLOCK_IO (R310, R327). -/
def clockIo (m : Mach) : Mach := causeIs 19 (m.flt.clkBad != 0 || m.flt.limpBad) m

/-- LIMP_READBACK (R310). -/
def execLimpReadback (t : Nat) (s : State) : Host.Outcome State Fault Refusal :=
  runOnyx t (fun m => { m with flt := { m.flt with limpBad := true } } |> clockIo |> raise 5 noInst) s

/-- CLOCK_MONITOR (R327): clocks 0 to 4 are the 25 MHz reference, HUB, PIX, PER and MEM. The monitor is suspended from step E6 of an entry to
the wake (R383), and the clock of PIX stands in IDLE. -/
def execClockMonitor (t : Nat) (clk : Fin 5) (s : State) : Host.Outcome State Fault Refusal :=
  runOnyx t (fun m =>
    if !hubRuns m || m.pwr.entry.any (fun e => e.step == 6) || (clk == 2 && !inRun m) then m
    else { m with flt := { m.flt with clkBad := setBit m.flt.clkBad clk } } |>
      latchBit rCLK_STAT ⟨15 - clk.val, 1⟩ |> clockIo |> raise 4 (detail clk 0)) s

/-- A condition that Onyx reads from a pin or measures has ended where the reading says so: clocks, the LIMP_N readback, SAF_ACK high. -/
def readPins (pins : SafPins) (m : Mach) : Mach :=
  { m with flt := { m.flt with
    clkBad := m.flt.clkBad &&& pins.clkBad
    limpBad := m.flt.limpBad && pins.limpBad
    ackHigh := m.flt.ackHigh && pins.ack } }

/-- LIMP_N goes high when no cause is present (R312). -/
def limpRises (m : Mach) : Mach :=
  if causePresent m || m.saf.limpHigh then m
  else { m with saf := { m.saf with limpHigh := true }, limpAt := m.now } |> setB rSAF_STAT fSAF_STAT_LIMP false

/-- The SAF tick, once in each 1 ms: Onyx reads its pins again, and LIMP_N goes high when no cause is present (R310, R312, R327). -/
def safTick (pins : SafPins) (m : Mach) : Mach :=
  if !windowDue m.pwr.safAt (ms 1) m.saf.tickAt m then m
  else { m with saf := { m.saf with tickAt := windowEnd m.pwr.safAt (ms 1) m } } |> readPins pins |> clockIo |> limpRises

/-- SAF_TICK (R312). -/
def execSafTick (r : SafReading) (s : State) : Host.Outcome State Fault Refusal := runOnyx r.t (safTick r.pins) s

/-- HWSAFE (R328). -/
def execHwsafe (t : Nat) (s : State) : Host.Outcome State Fault Refusal :=
  runEvent t (fun m => when (safOn m) enterHwSafe m) s

/-! ### SAF_ACK -/

/-- SAF_ACK has been high since `riseAt`, for more than 60 s (R313). -/
def ackStuck (riseAt : Nat) (m : Mach) : Mach :=
  if m.now ≤ riseAt + sec 60 ∨ m.flt.ackHigh then m
  else { m with flt := { m.flt with ackHigh := true } } |> raise 14 noInst

/-- ACK_STUCK (R313). -/
def execAckStuck (ack : AckHigh) (s : State) : Host.Outcome State Fault Refusal := runOnyx ack.t (ackStuck ack.since) s

/-- Step 1 of R313 for input `n`. -/
def ackInput (n : Nat) (m : Mach) : Mach :=
  when (inState m n == 2 && inputPasses m n)
    (fun m => m |> setF (rSAF_IN_STAT n) fSAF_IN_STAT_FCAUSE 0 |> setInState n (b2n (chanA m n))) m

/-- Step 2 of R313 for output `j`: a FAULT whose feedback is correct clears; after a wrong readback the pin must agree too. -/
def ackOutput (pins : SafPins) (j : Nat) (m : Mach) : Mach :=
  let a := rSAF_OUT_STAT j
  let on := flag m a fSAF_OUT_STAT_OUT
  let fb := hasBit pins.sfb j
  let pin := hasBit pins.sout j
  let right := fbClosed m j fb == on && (getF m a fSAF_OUT_STAT_FCAUSE != 3 || pin == on)
  if !flag m a fSAF_OUT_STAT_FAULT then m
  else
    let m := m |> setB a fSAF_OUT_STAT_FB fb |> setB a fSAF_OUT_STAT_PIN pin
    if right then
      { m with saf := { m.saf with pinHigh := clrBit m.saf.pinHigh j } } |> setB a fSAF_OUT_STAT_FAULT false |>
        setF a fSAF_OUT_STAT_FCAUSE 0
    else m

/-- Step 3 of R313: latched causes whose condition has ended clear, but for one recorded in this very cycle. -/
def ackCauses (m : Mach) : Mach :=
  let latched := getF m rSAF_CAUSE fSAF_CAUSE_LATCHED
  let stays (k : Nat) : Bool := hasBit m.saf.cond (16 + k) || tget 0 m.saf.recAt (16 + k) == safCycle m + 1
  let left := (members 8 latched).filter stays
  m |> setF rSAF_CAUSE fSAF_CAUSE_LATCHED (left.foldl setBit 0) |> when (!left.isEmpty) (bump rSAF_STAT fSAF_STAT_ACK_REJ)

/-- The edge within 10 s of UNPROVISION writes the lock line unlocked and restarts the device (R454). -/
def ackUnprovision (m : Mach) : Mach :=
  match m.saf.unprov with
  | none => m
  | some e =>
    if e / 6 < m.now / 6 then m
    else if !berylWrites m then m
    else lockLine false (getF m rHUB_LOCK fHUB_LOCK_LOCK_CNT) m |> chipReset 7 0

/-- Is the edge qualified: SAF_ACK low since `lowAt` for ACK_LOW ms, high since `riseAt` for 10 ms, and all of it since the SAF domain
left reset and since the last edge (R313)? -/
def ackQualified (lowAt riseAt : Nat) (m : Mach) : Bool :=
  decide (m.pwr.safAt ≤ lowAt) && decide (m.saf.ackAt ≤ lowAt) &&
    decide (lowAt + ms (getF m rSAF_GEN_CFG fSAF_GEN_CFG_ACK_LOW) ≤ riseAt) && decide (riseAt + ms 10 ≤ m.now)

/-- What a qualified SAF_ACK edge does (R313). -/
def ackEdge (pins : SafPins) (m : Mach) : Mach :=
  let m := forEach (List.range 4) ackInput m
  let m := forEach (List.range 2) (ackOutput pins) m
  let m := m |> readPins pins |> outputCauses |> clockIo |> ackCauses
  { m with saf := { m.saf with ackSeen := true, ackAt := m.now } } |> safUpdate |> ackUnprovision

/-- QUALIFIED_SAF_ACK_EDGE (R313). -/
def execQualifiedSafAckEdge (t : Nat) (edge : AckEdge) (s : State) : Host.Outcome State Fault Refusal :=
  runOnyx t (fun m => when (ackQualified edge.lowAt edge.riseAt m) (ackEdge edge.pins) m) s

/-- UNPROVISION_TIMEOUT (R454). -/
def execUnprovisionTimeout (t : Nat) (s : State) : Host.Outcome State Fault Refusal :=
  runEvent t (fun m =>
    match m.saf.unprov with
    | none => m
    | some e =>
      if m.now < e then m
      else { m with saf := { m.saf with unprov := none } } |> setB rHUB_LOCK fHUB_LOCK_ARMED false) s

end Sys2Proof.Machine
end

