-- ==== Sys2Proof/Machine/Faults.lean ====
section
/-!
DEFINITION. The events of Jasper: arriving faults and their order (R331, R339, R341), retries (R337), records (R342), parity
and the first scan (R343, R344), ERR_N (R344), the persistent-fence request (R347) and the fault log (R350, R411).
-/

namespace Sys2Proof.Machine

/-! ### Arrival -/

/-- A parity error in Jasper's registers, found by the scan or at an access (R343): it sets the FATAL latch with source 0, past records and
arbitration. -/
def parityError (m : Mach) : Mach :=
  fatal 0 { src := 0, cls := 4, fcls := 4, last := 0, det := noInst, timeMs := calMs m, uncertain := uncertain m, fatal := true } m

/-- A corrected DRAM error: source 100 takes its class, and FLT_TRANS[100] counts it in any class (R339). -/
def correctedError (det : Word) (m : Mach) : Mach :=
  m |> lasting 100 det |> when (srcClass m 100 != 0) (bump (rFLT_TRANS 100) fFLT_TRANS_COUNT)

/-- A corrected error in DRAM region `r` (R339): more than CE_MAX within 3,600 s of RUN raise dram-uncorrectable. -/
def dramCorrected (r : Nat) (det : Word) (m : Mach) : Mach :=
  let l := within3600 m (tget [] m.flt.corr r) ++ [runTime m]
  let mx := getF m rFLT_CFG fFLT_CFG_CE_MAX
  let m := correctedError det { m with flt := { m.flt with corr := tput [] m.flt.corr r l } }
  when (mx != 0 && decide (mx < l.length)) (lasting (36 + r) noInst) m

/-- All stacked DRAM is lost (R37, R311). -/
def dramLost (m : Mach) : Mach := causeOn 4 { m with flt := { m.flt with dramLost := true } }

/-- One fault arrives, with what its source's own condition brings (R220, R37). Source 0 is a parity error found at an access (R343). -/
def takeHit (h : Nat × Word) (m : Mach) : Mach :=
  if 320 ≤ h.1 then m
  else if h.1 = 0 then parityError m
  else if h.1 = 100 then (if bits h.2 31 24 < 64 then dramCorrected (bits h.2 31 24) h.2 m else correctedError h.2 m)
  else if h.1 = 16 then m |> dramLost |> raise 16 h.2
  else
    m |> when (h.1 == 315) (sectorCorrected (bits h.2 23 0)) |> when (decide (181 ≤ h.1) && decide (h.1 < 205)) (latchBit (rCPL_DET_STAT (h.1 - 181)) fCPL_DET_STAT_EB_OVF) |> raise h.1 h.2

/-- FAULT_ARRIVAL (R331): each source with its detail word. -/
def execFaultArrival (t : Nat) (hits : List (Nat × Word)) (s : State) : Host.Outcome State Fault Refusal :=
  runEvent t (fun m => when (hubRuns m) (forEach (sortHits m hits) takeHit) m) s

/-- RETRY_END (R337). -/
def execRetryEnd (t : Nat) (src : Fin 320) (passed : Bool) (s : State) : Host.Outcome State Fault Refusal :=
  runEvent t (fun m => when (hubRuns m) (retryEnd src passed) m) s

/-- REC_HOLD_EXPIRY (R342). -/
def execRecHoldExpiry (t : Nat) (s : State) : Host.Outcome State Fault Refusal :=
  runEvent t (fun m => when (decide (m.flt.lastMerge + ms (getF m rFLT_CFG fFLT_CFG_REC_HOLD) ≤ m.now)) closeRecord m) s

/-- PARITY_SCAN (R343). -/
def execParityScan (t : Nat) (bad : Bool) (s : State) : Host.Outcome State Fault Refusal :=
  runEvent t (fun m => when (hubRuns m && bad) parityError m) s

/-! ### ERR_N -/

/-- FIRST_REGISTER_SCAN (R344): ERR_N goes high unless another case holds it. -/
def execFirstRegisterScan (t : Nat) (s : State) : Host.Outcome State Fault Refusal :=
  runEvent t (fun m =>
    if !m.flt.errStart then m
    else { m with flt := { m.flt with errStart := false } } |>
      when (!flag m rFLT_FATAL fFLT_FATAL_SET && !hwSafe m) (setB rFLT_ERRN fFLT_ERRN_ACTIVE false)) s

/-- May ERR_N be released (R344)? -/
def mayRelease (m : Mach) : Bool :=
  !m.flt.errStart && !flag m rFLT_FATAL fFLT_FATAL_SET && !hwSafe m && decide (m.flt.errLowAt + ms 1 ≤ m.now) &&
  !(List.range 320).any (fun s => reacts m s fFLT_SRC_CFG_E && liveBit m s)

/-- A write of 1 to FLT_ERRN.RELEASE. -/
def releaseErr (m : Mach) : Mach := when (mayRelease m) (setB rFLT_ERRN fFLT_ERRN_ACTIVE false) m

/-- A write of 1 to FLT_PFENCE_CLR.GO: the persistent fences are cleared at the next start (R347). -/
def clearFences (m : Mach) : Mach := setFences (fun s => { s with clear := true }) m

/-! ### The fault log -/

/-- The eight words of a log entry (R350). -/
def logWords (m : Mach) (r : LogRec) : List Word :=
  let body := [w32 r.timeMs, w32 (r.timeMs >>> 32 + b2n r.uncertain <<< 31), w32 m.nvm.starts,
    w32 (r.merged <<< 24 + (r.cls <<< 4 + r.fcls) <<< 16 + r.src), w32 (b2n r.fatal <<< 16 + r.last), r.det, w32 r.openMs]
  body ++ [w32 (crc crc32c (wordsBytes body))]

/-- NVM_LOG_HEAD shows the newest entries (R411), NVM_SPARE the spare sectors. -/
def showLog (m : Mach) : Mach :=
  m |> showSpares |> setF rNVM_LOG_HEAD fNVM_LOG_HEAD_SAFETY m.nvm.safHead |> setF rNVM_LOG_HEAD fNVM_LOG_HEAD_GENERAL m.nvm.genHead

/-- The record takes the next entry of its ring: SEVERE and FATAL in the safety ring. -/
def logEntry (r : LogRec) (m : Mach) : Mach :=
  let ws := logWords m r
  let m := { m with pwr := { m.pwr with berylMs := calMs m } }
  let s := m.nvm
  let line (k : Nat) : Nat := 64 * 2624 + k / 2
  showLog (if 3 ≤ r.cls then
      let k := if s.safAny then (s.safHead + 1) % 2048 else 0
      berylWrite (line k) 1 (fun s => { s with log := tput [] s.log k ws, safHead := k, safAny := true }) m
    else
      let k := if s.genAny then (if s.genHead = 32767 then 2048 else s.genHead + 1) else 2048
      berylWrite (line k) 1 (fun s => { s with log := tput [] s.log k ws, genHead := k, genAny := true }) m)

/-- Topaz writes a record, first the copy of one that the AON domain keeps, since a start that found the FATAL latch clear (R348, R363). -/
def logWrite (ok : Bool) (m : Mach) : Mach :=
  if topazStopped m || !hubRuns m || m.thm.shutting then m else
  let put (r : LogRec) (m : Mach) : Mach := if ok then logEntry r m else raise 1 noInst m
  match m.flt.aonRec, m.flt.aonDue with
  | some r, true => put r { m with flt := { m.flt with aonRec := none, aonDue := false } }
  | _, _ =>
    match m.flt.logQ with
    | [] => m
    | r :: rest => { m with flt := { m.flt with logQ := rest } } |> showQueued |> put r

/-- LOG_WRITE (R350). -/
def execLogWrite (t : Nat) (writeOk : Bool) (s : State) : Host.Outcome State Fault Refusal := runEvent t (logWrite writeOk) s

/-- Entry `k` is loaded into NVM_LOG_DATA; an entry that nothing has written has no correct CRC (R411). -/
def loadEntry (k : Nat) (m : Mach) : Mach :=
  let ws := tget [] m.nvm.log k
  let bad := w32 (crc crc32c (wordsBytes (ws.take 7))) != ws.getD 7 0 || ws.length != 8
  forEach (List.range 8) (fun j m => setReg (rNVM_LOG_DATA j) (ws.getD j 0) m)
    (m |> setF rNVM_LOG_SEL fNVM_LOG_SEL_ENTRY k |> setB rNVM_LOG_SEL fNVM_LOG_SEL_BAD bad)

end Sys2Proof.Machine
end

