-- ==== Sys2Proof/Machine/Thermal.lean ====
section
/-!
DEFINITION. Temperature sensing, throttling, the floor limit, shutdown and thermal hold (R352 to R366), and the die sensors
in SLEEP (R376).
-/

namespace Sys2Proof.Machine

def setThm (f : ThmState → ThmState) (m : Mach) : Mach := { m with thm := f m.thm }

/-! ### The grid -/

/-- The neighbours of sensor `k` in the grid of 3 rows and 4 columns (R353). -/
def gridNear (k : Nat) : List Nat :=
  (List.range 12).filter (fun j =>
    (j / 4 == k / 4 && (j + 1 == k || k + 1 == j)) || (j % 4 == k % 4 && (j + 4 == k || k + 4 == j)))

def sensFailed (m : Mach) (k : Nat) : Bool := flag m (rTHM_SENS k) fTHM_SENS_FAILED
def estOf (m : Mach) (k : Nat) : Int := sgn 16 (getF m (rTHM_MODEL k) fTHM_MODEL_EST)

/-- Can the reading be a temperature (R355)? -/
def readingOk (r : Option Int) : Bool :=
  match r with
  | none => false
  | some v => decide (-880 ≤ v) && decide (v ≤ 2800)

/-- The reading of sensor `k`. -/
def readingOf (reads : List (Option Int)) (k : Nat) : Int := (reads.getD k none).getD 0

/-- The highest of some values, `d` where there are none. -/
def highest (d : Int) : List Int → Int
  | [] => d
  | x :: xs => xs.foldl max x

/-- Is the reading of sensor `k` suspect, with `dead` the sensors that have failed (R355)? -/
def suspectNow (m : Mach) (model : Bool) (reads : List (Option Int)) (dead : Nat → Bool) (k : Nat) : Bool :=
  let ns := (gridNear k).filter (fun j => !dead j)
  let n : Int := ns.length
  let sum := (ns.map (readingOf reads)).foldl (· + ·) 0
  let r := readingOf reads k
  !ns.isEmpty && decide (16 * (getF m rTHM_TOL fTHM_TOL_N_TOL : Int) * n < (n * r - sum).natAbs) &&
  (!model || decide (16 * (getF m rTHM_TOL fTHM_TOL_M_TOL : Int) < (r - estOf m k).natAbs))

/-- The substitute for sensor `k` (R356). -/
def substitute (m : Mach) (model : Bool) (reads : List (Option Int)) (dead : Nat → Bool) (k : Nat) : Int :=
  let margin : Int := 16 * getF m rTHM_RISE fTHM_RISE_SUB_MARGIN
  let ns := ((gridNear k).filter (fun j => !dead j)).map (readingOf reads)
  if ns.isEmpty then (if model then estOf m k + margin else degOf (thmLimits m).2.1)
  else if model then max (highest 0 ns) (estOf m k + margin)
  else highest 0 ns + margin

/-- What a sample gives: the values of the twelve sensors, and the sensors that fail in it. -/
structure Sensed where
  vals : List Int
  fresh : List Nat
  deriving DecidableEq, Repr

/-- A sample of the grid (R355, R356), with or without the model: the sensor registers take it. -/
def senseGrid (useModel : Bool) (reads : List (Option Int)) (m : Mach) : Mach × Sensed :=
  let model := useModel && !flag m rTHM_STAT fTHM_STAT_MODEL_BAD
  let dead0 (k : Nat) : Bool := sensFailed m k || !readingOk (reads.getD k none)
  let count (k : Nat) : Nat :=
    if !dead0 k && suspectNow m model reads dead0 k then capN 10 (tget 0 m.thm.suspect k + 1) else 0
  let dead (k : Nat) : Bool := dead0 k || decide ((if model then 3 else 10) ≤ count k)
  let value (k : Nat) : Int := if dead k then substitute m model reads dead k else readingOf reads k
  let ks := List.range 12
  let m' := forEach ks (fun k n =>
    setThm (fun s => { s with suspect := tput 0 s.suspect k (count k) }) n |> setB (rTHM_SENS k) fTHM_SENS_FAILED (dead k) |>
      setB (rTHM_SENS k) fTHM_SENS_SUB (dead k) |> setF (rTHM_SENS k) fTHM_SENS_SUSPECT (capN 3 (count k)) |>
      setF (rTHM_SENS k) fTHM_SENS_T (unsgn 16 (value k))) m
  (m', { vals := ks.map value, fresh := ks.filter (fun k => dead k && !sensFailed m k) })

/-- The governing sensor. -/
def govOf (vals : List Int) : Nat :=
  let top := highest 0 vals
  ((List.range 12).find? (fun k => vals.getD k 0 == top)).getD 0

/-- T_gov (R356, R357): the highest value, at least T_FLOOR when four sensors have failed. -/
def tgovOf (m : Mach) (vals : List Int) : Int :=
  let top := highest 0 vals
  if 4 ≤ ((List.range 12).filter (sensFailed m)).length then max top (degOf (thmLimits m).2.1) else top

/-- THM_STAT shows T_gov and its sensor (R357). -/
def showGov (vals : List Int) (m : Mach) : Mach :=
  let gov := govOf vals
  m |> setF rTHM_STAT fTHM_STAT_GOV gov |> setB rTHM_STAT fTHM_STAT_SUBGOV (sensFailed m gov) |>
    setF rTHM_STAT fTHM_STAT_T_GOV (unsgn 16 (tgovOf m vals))

def tgovNow (m : Mach) : Int := sgn 16 (getF m rTHM_STAT fTHM_STAT_T_GOV)

/-- The detail word of a thermal source (R352). -/
def thmDetail (m : Mach) : Word :=
  detail 0xFF (getF m rTHM_STAT fTHM_STAT_GOV <<< 16 + getF m rTHM_STAT fTHM_STAT_T_GOV)

/-! ### The model (R354) -/

/-- P̄ of region `j` for sensor `k` after the reading `p` in mW: one step of the first-order filter with τ of the sensor. -/
def filterPower (m : Mach) (p k j : Nat) : Nat :=
  let old : Int := (tget 0 m.thm.filt (6 * k + j) : Nat)
  (old + (65536 * (p : Int) - old) * (Config.filterShare (modelWord m k 6) : Int) / 65536).toNat

/-- The readings of the six regions at one instant. -/
def onePower (pw : List Nat) (m : Mach) : Mach :=
  let m := forEach (List.range 6) (fun j m => setF (rTHM_PWR j) fTHM_PWR_P (pw.getD j 0) m) m
  forEach (List.range 72) (fun i m =>
    let f := filterPower m (pw.getD (i % 6) 0) (i / 6) (i % 6)
    setThm (fun s => { s with filt := tput 0 s.filt i f }) m) m

/-- The sum over the regions of θ × P̄ for sensor `k`, in 1/16 °C. DESIGN CHOICE (the spec names no rounding): rounded down. -/
def modelSum (m : Mach) (k : Nat) : Int :=
  ((List.range 6).map (fun j => sgn 32 (modelWord m k j).toNat * ((tget 0 m.thm.filt (6 * k + j) : Nat) : Int))).foldl (· + ·) 0 / 2 ^ 32

/-- The power readings of every ms since the last sample pass through the filters, and the estimates follow. -/
def takePower (pws : List (List Nat)) (m : Mach) : Mach :=
  let m := forEach (pws.take ((m.now - m.thm.sampledAt) / ms 1)) onePower m
  forEach (List.range 12) (fun k m => setF (rTHM_MODEL k) fTHM_MODEL_EST (unsgn 16 (m.thm.base + modelSum m k)) m) m

/-- Do more than half of the sensors that have not failed differ from their estimates by more than M_TOL? -/
def manyDiffer (m : Mach) (vals : List Int) : Bool :=
  let live := (List.range 12).filter (fun k => !sensFailed m k)
  let off := live.filter (fun k => decide (16 * (getF m rTHM_TOL fTHM_TOL_M_TOL : Int) < (vals.getD k 0 - estOf m k).natAbs))
  decide (live.length < 2 * off.length)

/-- Has `o` lasted `d` PIX cycles? -/
def lasted (m : Mach) (o : Option Nat) (d : Nat) : Bool :=
  match o with
  | some t => decide (t + d ≤ m.now)
  | none => false

/-- MODEL_BAD: set once more than half have differed for 1 s, clear once no more than half have for 10 s. -/
def trackModel (vals : List Int) (m : Mach) : Mach :=
  let now := m.now
  let many := manyDiffer m vals
  let m := setThm (fun s => { s with
    badSince := if many then some (s.badSince.getD now) else none
    goodSince := if many then none else some (s.goodSince.getD now) }) m
  if lasted m m.thm.badSince (sec 1) then setB rTHM_STAT fTHM_STAT_MODEL_BAD true m
  else if lasted m m.thm.goodSince (sec 10) then setB rTHM_STAT fTHM_STAT_MODEL_BAD false m
  else m

/-- A value takes its place in a rising list. -/
def insertInt (x : Int) : List Int → List Int
  | [] => [x]
  | y :: ys => if x ≤ y then x :: y :: ys else y :: insertInt x ys

/-- The median of some values. -/
def median (l : List Int) : Int :=
  let s := l.foldr insertInt []
  let hi := s.getD (s.length / 2) 0
  let lo := s.getD (s.length / 2 - 1) 0
  if s.length % 2 = 1 ∨ lo = hi then hi else Config.evenMedian lo hi

/-- B is recomputed. -/
def modelBase (m : Mach) : Mach :=
  let live := (List.range 12).filter (fun k => !sensFailed m k)
  if live.isEmpty then m
  else setThm (fun s => { s with base := median (live.map (fun k => sgn 16 (getF m (rTHM_SENS k) fTHM_SENS_T) - modelSum m k)) }) m

/-- MODEL_BASE_UPDATE (R354): once in each 1 s window (R459). -/
def execModelBaseUpdate (t : Nat) (s : State) : Host.Outcome State Fault Refusal :=
  runEvent t (fun m =>
    when (hubRuns m && windowDue m.pwr.hubAt (sec 1) m.thm.baseAt m)
      (fun m => modelBase (setThm (fun s => { s with baseAt := windowEnd m.pwr.hubAt (sec 1) m }) m)) m) s

/-! ### Rates of rise (R357, R358) -/

/-- The sample taken 100 ms earlier: the youngest at least as old. -/
def sampleBefore (now : Nat) (hist : List (Nat × List Int)) : Option (List Int) :=
  (hist.find? (fun e => decide (e.1 + ms 100 ≤ now))).map Prod.snd

/-- The samples that a later rise still needs. -/
def trimTemps (now : Nat) : List (Nat × List Int) → List (Nat × List Int)
  | [] => []
  | e :: es => if e.1 + ms 100 ≤ now then [e] else e :: trimTemps now es

/-- 16 times the rate of rise of each sensor. -/
def rises (m : Mach) (vals : List Int) : List Int :=
  match sampleBefore m.now m.thm.hist with
  | none => vals.map (fun _ => 0)
  | some old => (List.range 12).map (fun k => (vals.getD k 0 - old.getD k 0) * 10)

/-- A rate of rise as THM_SENS shows it. -/
def riseCode (r : Int) : Nat := unsgn 8 (satS 8 (if r % 16 = 0 then r / 16 else Config.riseRound r))

/-- Rates of rise, thermal-rate, RISING and FAST. -/
def trackRises (vals : List Int) (m : Mach) : Mach :=
  let rs := rises m vals
  let fast := rs.any (fun r => decide ((getF m rTHM_RISE fTHM_RISE_RISE_MAX : Int) * 16 < r))
  let was := m.thm.fastRise
  let m := forEach (List.range 12) (fun k => setF (rTHM_SENS k) fTHM_SENS_RISE (riseCode (rs.getD k 0))) m
  let m := setThm (fun s => { s with
    hist := (m.now, vals) :: trimTemps m.now s.hist
    fastRise := fast
    riseAt := if fast then some m.now else s.riseAt }) m
  let m := setB rTHM_STAT fTHM_STAT_RISING (m.thm.riseAt.isSome && !lasted m m.thm.riseAt (sec 1)) m
  let m := when (fast && !was) (raise 23 (thmDetail m)) m
  let warm := fast || decide (onset m - 192 ≤ tgovNow m)
  let m := when warm (setThm (fun s => { s with hotAt := some m.now })) m
  if fast || decide (onset m - 160 ≤ tgovNow m) then setB rTHM_STAT fTHM_STAT_FAST true m
  else if lasted m m.thm.hotAt (sec 1) then setB rTHM_STAT fTHM_STAT_FAST false m
  else m

/-! ### Limits (R352, R361) -/

/-- Excursion `b` above `limit`: its source is raised once, and a new one starts only after 1 s at 2 °C or more below. -/
def excursion (b src : Nat) (limit : Int) (m : Mach) : Mach :=
  let v := tgovNow m
  let low := decide (v + 32 ≤ limit)
  let since := tget 0 m.thm.below b
  let ended := low && since != 0 && decide (since + sec 1 ≤ m.now + 1)
  let m := setThm (fun s => { s with
    below := tput 0 s.below b (if low then (if since = 0 then m.now + 1 else since) else 0)
    exc := if ended then clrBit s.exc b else s.exc }) m
  if limit ≤ v ∧ hasBit m.thm.exc b = false then
    m |> setThm (fun s => { s with exc := setBit s.exc b }) |> raise src (thmDetail m)
  else m

/-- The cause THERMAL is recorded (R361). -/
def thermalOn (m : Mach) : Mach := m |> setB rTHM_STAT fTHM_STAT_THERMAL true |> causeOn 6

/-- T_FLOOR: THERMAL, and its end after 1 s below T_FLOOR − 5 °C. -/
def floorLimit (m : Mach) : Mach :=
  let v := tgovNow m
  let lim := degOf (thmLimits m).2.1
  if lim ≤ v then m |> setThm (fun s => { s with coolSince := none }) |> thermalOn
  else if !flag m rTHM_STAT fTHM_STAT_THERMAL then m
  else
    let m := setThm (fun s => { s with coolSince := if v < lim - 80 then some (s.coolSince.getD m.now) else none }) m
    if lasted m m.thm.coolSince (sec 1) then m |> setB rTHM_STAT fTHM_STAT_THERMAL false |> causeOff 6 else m

/-! ### Throttling (R359 to R362) -/

/-- The target for an excess of `e16` sixteenths of a degree: max(floor, 1 − E × K), rounded to 1.15. -/
def target (floor k e16 : Nat) : Nat := max floor ((2 * (32768 * 32 - e16 * k) + 32) / 64)

/-- Both targets at temperature `v`. -/
def targets (m : Mach) (v : Int) : Nat × Nat :=
  let e := (v - onset m).toNat
  (target (getF m rTHM_GAIN fTHM_GAIN_GD_MIN) (getF m rTHM_GAIN fTHM_GAIN_KG) e,
    target (getF m rTHM_RATE fTHM_RATE_FR_MIN) (getF m rTHM_RATE fTHM_RATE_KR) e)

/-- T_loose (R360). DEDUCED: it holds wherever a sensor has failed, also while a substitute does not govern, since a fall of the substitute
alone ("never loosens throttling by itself") can end its governing. With every sensor sound it is T_gov. -/
def looseTemp (m : Mach) : Int :=
  let live := (List.range 12).filter (fun k => !sensFailed m k)
  if live.isEmpty || live.length == 12 then tgovNow m
  else max (tgovNow m) (highest 0 (live.map (fun k => sgn 16 (getF m (rTHM_SENS k) fTHM_SENS_T))) +
    16 * (getF m rTHM_RISE fTHM_RISE_SUB_MARGIN : Int))

/-- One output: a lower target at once, a higher one by at most 1/64 where a step is due. -/
def approach (cur tgt loose : Nat) (step : Bool) : Nat :=
  if tgt < cur then tgt else if step then max cur (min loose (cur + 512)) else cur

/-- G and F (R359). While THERMAL is present both stand at their lowest (R361). -/
def throttle (m : Mach) : Mach :=
  let g := getF m rTHM_OUT fTHM_OUT_G_DIE
  let f := getF m rTHM_OUT fTHM_OUT_RATE_F
  let thermal := flag m rTHM_STAT fTHM_STAT_THERMAL
  let lowest := (getF m rTHM_GAIN fTHM_GAIN_GD_MIN, getF m rTHM_RATE fTHM_RATE_FR_MIN)
  let tg := if thermal then lowest else targets m (tgovNow m)
  let lo := if thermal then lowest else targets m (looseTemp m)
  let wants := decide (g < lo.1) || decide (f < lo.2)
  let due := wants && decide (m.thm.looseAt + ms 100 ≤ m.now)
  let m := setThm (fun s => { s with looseAt := if due || !wants then m.now else s.looseAt }) m
  let g' := approach g tg.1 lo.1 due
  let f' := approach f tg.2 lo.2 due
  m |> setF rTHM_OUT fTHM_OUT_G_DIE g' |> setF rTHM_OUT fTHM_OUT_RATE_F f' |>
    setB rTHM_STAT fTHM_STAT_THROTTLE (decide (g' < 0x8000) || decide (f' < 0x8000))

/-- The fan and pump demand of channel `c` in rpm (R362). -/
def fanDemand (m : Mach) (c : Nat) : Nat :=
  let a := rTHM_FAN c
  let mx := getF m a fTHM_FAN_MAX
  if flag m rTHM_STAT fTHM_STAT_THERMAL then mx
  else min mx ((tgovNow m - degOf (getF m a fTHM_FAN_KNEE)).toNat * getF m a fTHM_FAN_SLOPE)

def fanDemands (m : Mach) : Mach :=
  forEach (List.range 4) (fun c m => setThm (fun s => { s with demand := tput 0 s.demand c (fanDemand m c) }) m) m

/-! ### Shutdown (R363, R365) -/

/-- The shutdown is decided: counted in its series, THERMAL recorded, an entry abandoned (R366), thermal-shutdown raised. -/
def decideShutdown (m : Mach) : Mach :=
  let inSeries := match m.thm.series with
    | some t => decide (calMs m ≤ t + 3600000)
    | none => false
  let n := if inSeries then getF m rTHM_SHUT fTHM_SHUT_COUNT + 1 else 1
  let m := setThm (fun s => { s with
    shutting := true
    shutAt := m.now
    series := if inSeries then s.series else some (calMs m) }) m
  let m := m |> setF rTHM_SHUT fTHM_SHUT_COUNT (capN 255 n) |> setF rTHM_SHUT fTHM_SHUT_LAST_T (unsgn 16 (tgovNow m)) |>
    when (decide (3 ≤ n)) (setB rTHM_SHUT fTHM_SHUT_LOCK true) |> thermalOn
  { m with pwr := { m.pwr with entry := none } } |> setB rPWR_STAT fPWR_STAT_ENTRY false |> setReg rPWR_TARGET 0 |> abandonXfer |> raise 21 (thmDetail m)

/-- T_SHUT in two samples running. -/
def shutLimit (m : Mach) : Mach :=
  let hit := decide (degOf (thmLimits m).2.2.1 ≤ tgovNow m)
  let m := setThm (fun s => { s with shutHits := if hit then capN 2 (s.shutHits + 1) else 0 }) m
  when (m.thm.shutHits == 2) decideShutdown m

/-- Is a sample due, `n` ms after the last? -/
def sampleDue (m : Mach) (n : Nat) : Bool := decide (m.thm.sampledAt + ms n ≤ m.now)

/-- A sample of the thermal block: every 10 ms, or every 1 ms in FAST (R358). -/
def thermalSample (reads : List (Option Int)) (pw : List (List Nat)) (m : Mach) : Mach :=
  if !hubRuns m || m.thm.shutting || !sampleDue m (if flag m rTHM_STAT fTHM_STAT_FAST then 1 else 10) then m else
  let m := takePower pw m
  let (m, sd) := senseGrid true reads m
  let m := m |> setThm (fun s => { s with sampledAt := m.now }) |> trackModel sd.vals |> showGov sd.vals
  let m := forEach sd.fresh (fun k m => raise (24 + k) (thmDetail m) m) m
  let m := m |> trackRises sd.vals
  m |> excursion 0 22 (onset m) |> excursion 1 20 (degOf (thmLimits m).2.1) |> floorLimit |> throttle |> fanDemands |> shutLimit

/-- THERMAL_SAMPLE (R357): a reading is `none` for an open or shorted diode. -/
def execThermalSample (t : Nat) (reads : List (Option Int)) (pw : List (List Nat)) (s : State) : Host.Outcome State Fault Refusal :=
  runEvent t (thermalSample reads pw) s

/-- Every motor channel parks with CAUSE 8 (R363). One without a function has no output to turn off or on. -/
def parkEvery (m : Mach) : Mach :=
  forEach [0, 1, 2, 3] (fun c m =>
    if motFunc m c = 0 then m |> setMotState c 3 |> setF (rMOT_STAT c) fMOT_STAT_CAUSE 8 else parkMotor c 8 m) m

/-- The held domains stop (R363 steps 3 and 4): the record is kept in the AON domain, the motors park, ports and groups end. A line write that
was in progress at the decision has completed, or 2 ms have passed and the journal is left with it (R364). -/
def shutdownStop (m : Mach) : Mach :=
  if !m.thm.shutting then m else
  let m := lineCut (m.now ≥ m.thm.shutAt + ms 2 && inProgress m.thm.shutAt m) m
  let opened := flag m rFLT_FIRST_SRC fFLT_FIRST_SRC_OPEN
  let m := { m with flt := { m.flt with aonRec := if opened then some (recOf false m) else m.flt.aonRec } }
  let m := parkEvery m
  let m := forEach (List.range 24) (fun p m => m |> setF (rCPL_STATE p) fCPL_STATE_STATE 0 |> setB (rCPL_STATE p) fCPL_STATE_TX_IDLE true) m
  let m := forEach (List.range 8) (fun g m => setB (rSCN_GRP_STAT g) fSCN_GRP_STAT_RUN false m) m
  m |> setThm (fun s => { s with shutting := false, holdCool := none }) |> setPower 5

/-- SHUTDOWN_STOP (R363). -/
def execShutdownStop (t : Nat) (s : State) : Host.Outcome State Fault Refusal := runEvent t shutdownStop s

/-- Is every sensor that has not failed below T_SHUT − SHUT_HYST (R365)? -/
def holdIsCool (m : Mach) : Bool :=
  let l := thmLimits m
  (List.range 12).all (fun k => sensFailed m k ||
    decide (sgn 16 (getF m (rTHM_SENS k) fTHM_SENS_T) < degOf l.2.2.1 - 16 * (l.2.2.2 : Int)))

/-- A sample of the SAF domain, without the model (R363, R376). Jasper stands still: the sources of the sensors that fail are raised at the
wake. -/
def safSample (reads : List (Option Int)) (m : Mach) : Mach :=
  let (m, sd) := senseGrid false reads m
  m |> setThm (fun s => { s with sampledAt := m.now, late := sd.fresh.foldl setBit s.late }) |> showGov sd.vals

/-- The sources of the sensors that failed in SLEEP (R355, R376). -/
def raiseLate (m : Mach) : Mach :=
  let ks := members 12 m.thm.late
  forEach ks (fun k m => raise (24 + k) (thmDetail m) m) (setThm (fun s => { s with late := 0 }) m)

/-- HOLD_SENSOR_SAMPLE (R363): every 10 ms. -/
def execHoldSensorSample (t : Nat) (reads : List (Option Int)) (s : State) : Host.Outcome State Fault Refusal :=
  runEvent t (fun m =>
    if m.pwr.st ≠ 5 ∨ sampleDue m 10 = false then m else
    let m := safSample reads m
    setThm (fun s => { s with holdCool := if holdIsCool m then some (s.holdCool.getD m.now) else none }) m) s

/-- THERMAL_HOLD_END (R365). -/
def execThermalHoldEnd (t : Nat) (s : State) : Host.Outcome State Fault Refusal :=
  runEvent t (fun m =>
    when (m.pwr.st == 5 && !flag m rTHM_SHUT fTHM_SHUT_LOCK && lasted m m.thm.holdCool (sec 1)) (chipReset 3 0) m) s

/-- SLEEP_SENSOR_SAMPLE (R376): every 1 s; T_gov at T_THR wakes the device (R375, source 6). -/
def execSleepSensorSample (t : Nat) (reads : List (Option Int)) (s : State) : Host.Outcome State Fault Refusal :=
  runEvent t (fun m =>
    if m.pwr.st ≠ 2 ∨ sampleDue m 1000 = false then m else
    let m := safSample reads m
    when (decide (degOf (thmLimits m).1 ≤ tgovNow m)) (wakeEvent 6) m) s

end Sys2Proof.Machine
end

