-- ==== Sys2Proof/Machine/Store.lean ====
section
/-!
DEFINITION. The Beryl store as commands see it: image headers (R401), the settings areas (R398, R399, R409), the flash
directory (R400) and the calibration record in use (R419, R420).
-/

namespace Sys2Proof.Machine

/-! ### Image headers (R401) -/

/-- A number of `n` bytes at an offset of some bytes, least significant byte first. -/
def leAt (b : List Byte) (off n : Nat) : Nat := leNat (((b.drop off).take n).map BitVec.toNat)

/-- `n` bytes at an offset. -/
def bytesAt (b : List Byte) (off n : Nat) : List Nat := ((b.drop off).take n).map BitVec.toNat

def hdrKind (h : List Byte) : Nat := leAt h 7 1
def hdrSetFmt (h : List Byte) : Nat := leAt h 10 1
def hdrSetMin (h : List Byte) : Nat := leAt h 11 1
def hdrStateFmt (h : List Byte) : Nat := leAt h 12 2
def hdrVersion (h : List Byte) : Nat := leAt h 16 4
def hdrMinVersion (h : List Byte) : Nat := leAt h 20 4
def hdrBodyLen (h : List Byte) : Nat := leAt h 24 4
def hdrXferLen (h : List Byte) : Nat := leAt h 28 4
def hdrHash (h : List Byte) : List Nat := bytesAt h 32 32
def hdrBaseHash (h : List Byte) : List Nat := bytesAt h 64 32

/-- SIG verifies with the boot-ROM key that KEY_ID names. -/
def hdrSigned (h : List Byte) : Bool :=
  ecdsaOk (Config.romKey (leAt h 96 1)) (sha256 (bytesAt h 0 128)) (beNat (bytesAt h 128 32)) (beNat (bytesAt h 160 32))

/-- The slot of an image by number. -/
def slotOf (m : Mach) (k : Nat) : SlotRec := if k = 0 then m.nvm.slot0 else m.nvm.slot1

/-- A slot's record changes: lines of its first sector, which holds header and mark, or those of the body that grows (R393, R401). -/
def setSlot (k : Nat) (r : SlotRec) (m : Mach) : Mach :=
  let old := slotOf m k
  let base := 64 * (if k = 0 then 256 else 1280)
  let first := old.body.length / 64
  let put (s : NvmState) : NvmState := if k = 0 then { s with slot0 := r } else { s with slot1 := r }
  if old.body.length < r.body.length then berylWrite (base + 64 + first) ((r.body.length + 63) / 64 - first) put m
  else berylWrite base 4 put m

/-- Is the slot valid (R394): a mark, the hash of the body, the signature of the header? -/
def slotValid (r : SlotRec) : Bool :=
  r.mark && (r.header.isEmpty || (sha256 (r.body.map BitVec.toNat) == hdrHash r.header && hdrSigned r.header))

def runSlot (m : Mach) : Nat := getF m rUPD_STAT fUPD_STAT_RUN_SLOT
def updState (m : Mach) : Nat := getF m rUPD_STAT fUPD_STAT_STATE
def setUpdState (st : Nat) (m : Mach) : Mach := setF rUPD_STAT fUPD_STAT_STATE st m

/-- The body of a slot; the image of delivery where the header is empty. -/
def slotBody (r : SlotRec) : List Byte := if r.header.isEmpty then Config.baseBody else r.body

/-- VERSION of a slot's image. -/
def slotVersion (r : SlotRec) : Nat := if r.header.isEmpty then Config.baseVersion.1 else hdrVersion r.header

/-- STATE_FMT of a slot's image. -/
def slotStateFmt (r : SlotRec) : Nat := if r.header.isEmpty then Config.baseVersion.2 else hdrStateFmt r.header

/-- SET_FMT and SET_FMT_MIN of a slot's image. -/
def slotFmts (r : SlotRec) : Nat × Nat :=
  if r.header.isEmpty then Config.baseSetFmt else (hdrSetFmt r.header, hdrSetMin r.header)

/-- SET_FMT and SET_FMT_MIN of the running image. -/
def runFmts (m : Mach) : Nat × Nat := if golden m then Config.goldenImage.1 else slotFmts (slotOf m (runSlot m))

/-- STATE_FMT of the running image. -/
def runStateFmt (m : Mach) : Nat := if golden m then Config.goldenImage.2.2 else slotStateFmt (slotOf m (runSlot m))

/-- The registers that mirror the boot record and the slots (R412). -/
def showUpd (m : Mach) : Mach :=
  let ver (k : Nat) : Nat := if (slotOf m k).mark then slotVersion (slotOf m k) else 0
  m |> setReg (rUPD_SLOT_VER 0) (w32 (ver 0)) |> setReg (rUPD_SLOT_VER 1) (w32 (ver 1)) |>
    setReg rUPD_FLOOR (w32 m.nvm.boot.floor) |> setF rUPD_STAT fUPD_STAT_START_CNT m.nvm.boot.startCnt |>
    setReg rUPD_RUN_VER (w32 (if golden m then Config.goldenImage.2.1 else slotVersion (slotOf m (runSlot m))))

/-! ### Settings (R398) -/

/-- The NV bits of a register. -/
def nvMask (flds : List FldDesc) : Word := fieldMask (flds.filter (fun d => d.nv))

/-- The NV bits of the register at an address. -/
def nvBits (a : Nat) : Word :=
  match regAt a with
  | none => 0
  | some (r, _) => nvMask r.flds

/-- `new` in the NV bits, `old` elsewhere. -/
def mergeNv (a : Nat) (new old : Word) : Word := (old &&& ~~~ nvBits a) ||| (new &&& nvBits a)

/-- The registers with an NV field that differ from their absent value there. -/
def nvRegs (m : Mach) : Tab Word :=
  (m.regs.map (fun e => (e.1, mergeNv e.1 e.2 (regReset e.1)))).filter (fun e => decide (e.2 ≠ regReset e.1))

/-- Do the words of Aurora programs or of the gamma table lie here? -/
def progAddr (a : Nat) : Bool :=
  (decide (rAUR_PROG 0 0 ≤ a) && decide (a < rAUR_PROG 8 0)) || (decide (rAUR_GAMMA 0 ≤ a) && decide (a < rAUR_GAMMA 128))

/-- The coefficient banks in use, keyed 2 × loop + bank. -/
def heldBanks (m : Mach) : Tab (List Nat) :=
  (List.range 18).foldl (fun t k =>
    let b := k % 2 == 1
    let image := if b then (loopOf m (k / 2)).bankB else (loopOf m (k / 2)).bankA
    if bankOk m (k / 2) b then tput [] t k image else t) []

/-- The settings in force, as SETTINGS_SAVE stores them. -/
def settingsNow (fmt gen : Nat) (m : Mach) : Settings :=
  { fmt := fmt, gen := gen, regs := nvRegs m
    curves := (List.range 24).foldl (fun t k => tput [] t k (pixOf m k).curve) []
    banks := heldBanks m
    active := ((List.range 9).filter (bankSel m)).foldl setBit 0
    members := m.chn.members
    progs := m.regs.filter (fun e => progAddr e.1)
    lens := (List.range 8).foldl (fun t e => tput 0 t e (aurOf m e).len) [] }

/-- The area in use is B. -/
def curB (m : Mach) : Bool := flag m rNVM_SET_STAT fNVM_SET_STAT_CUR

def area (b : Bool) (m : Mach) : Option Settings := if b then m.nvm.setB else m.nvm.setA

/-- Does an area in use exist? -/
def areaUsed (m : Mach) : Bool :=
  flag m rNVM_SET_STAT (if curB m then fNVM_SET_STAT_B_OK else fNVM_SET_STAT_A_OK)

/-- The settings in use. -/
def settingsOf (m : Mach) : Option Settings := if areaUsed m then area (curB m) m else none

/-- Area `b` becomes the one in use. -/
def useArea (b : Bool) (s : Settings) (m : Mach) : Mach :=
  m |> setB rNVM_SET_STAT fNVM_SET_STAT_CUR b |> setF rNVM_SET_STAT fNVM_SET_STAT_FMT s.fmt |>
    setF rNVM_SET_STAT fNVM_SET_STAT_GEN s.gen

/-- Area `b` is written, passes its check and becomes the one in use (R399). -/
def writeArea (b : Bool) (s : Settings) (m : Mach) : Mach :=
  let s := sealSettings s
  m |> berylWrite (areaLine b) 8192 (fun n => if b then { n with setB := some s } else { n with setA := some s }) |>
    setB rNVM_SET_STAT (if b then fNVM_SET_STAT_B_OK else fNVM_SET_STAT_A_OK) true |> useArea b s

/-- Settings as the area not in use takes them, with GEN + 1, the running image's format, and the records unknown to it unchanged (R398). -/
def saveArea (s : Settings) (m : Mach) : Mach :=
  let gen := match settingsOf m with
    | some old => old.gen + 1
    | none => 1
  let others := match settingsOf m with
    | some old => old.others
    | none => []
  writeArea (!curB m) { s with fmt := (runFmts m).1, gen := gen, others := others } m

/-- The geometry of a tile as configured (R400). -/
def cfgGeom (m : Mach) (t : Nat) : Nat × Nat := (mapGeom m t).getD (0, 0)

/-- The geometries of the 24 tiles. -/
def geomsNow (m : Mach) : List (Nat × Nat) := (List.range 24).map (cfgGeom m)

/-- Does the layout of the geometries fit the flash, when one is present? -/
def layoutFits (m : Mach) : Bool :=
  !flashThere m || decide (Config.layoutBytes (geomsNow m) ≤ 2 ^ getF m rNVM_XSPI_STAT fNVM_XSPI_STAT_SIZE)

/-- The items of tile `t` in the flash are absent. -/
def dropFlash (t : Nat) (s : NvmState) : NvmState :=
  { s with
    unif := tput [] s.unif t []
    maps := tdrop (4 * t) (4 * t + 4) s.maps
    wear := s.wear |> tdrop (64 * t) (64 * t + 64) |> tdrop (65536 + 64 * t) (65536 + 64 * t + 64) }

/-- The copy of the directory that is not in use takes new geometries, with the next generation (R400, R397). -/
def putDir (g : List (Nat × Nat)) (s : NvmState) : NvmState :=
  let gen := ((newerCopy Prod.fst s.dir0 s.dir1).map Prod.fst).getD 0
  if writesZero Prod.fst s.dir0 s.dir1 then { s with dir0 := some (gen + 1, g) } else { s with dir1 := some (gen + 1, g) }

/-- The directory is rebuilt when a save stores a changed geometry (R400). -/
def rebuildDir (m : Mach) : Mach :=
  let new := geomsNow m
  let old := m.nvm.geoms
  if new == old || !flashThere m then m else
  let moved := (List.range 24).filter (Config.flashMoved old new)
  m |> setFlash (fun s => moved.foldl (fun s t => dropFlash t s) s) |> setFlash (putDir new)

/-- SETTINGS_SAVE, once nothing refuses it. -/
def saveSettings (m : Mach) : Mach := m |> saveArea (settingsNow 0 0 m) |> rebuildDir

/-- SETTINGS_SAVE (R399); `writeOk`: the Beryl write succeeds. -/
def execSettingsSave (p : Packet) (writeOk : Bool) (s : State) : Host.Outcome State Fault Refusal :=
  runDratus (.settingsSave p writeOk) (native 0x75 1 .topaz .h0 false false) noReply
    (withLen (· == 0) (fun _ m =>
      if updState m = 4 then stateReject m rUPD_STAT
      else if !layoutFits m then (m, err stNO_RESOURCE)
      else if !writeOk || !berylWrites m then (raise 314 noInst m, errW stINTERNAL (w32 314))
      else (saveSettings m, ok []))) p s

/-- The stored value of a register, where it belongs to the safety settings (`saf`) or to the others. -/
def loadRegs (saf : Bool) (s : Settings) (m : Mach) : Mach :=
  forEach s.regs (fun e m => if (addrBlock e.1 == 14) == saf then setReg e.1 (mergeNv e.1 e.2 (reg m e.1)) m else m) m

/-- A stored coefficient bank is loaded; its check decides whether it is valid (R289). -/
def loadBank (l : Nat) (b : Bool) (image : List Nat) (m : Mach) : Mach :=
  if bankValid image then putBank l b image m else m

/-- The coefficient banks of a start (R289): those stored; bank A of loop 8 otherwise the default one. -/
def loadBanks (s : Settings) (m : Mach) : Mach :=
  let m := forEach s.banks (fun e m => loadBank (e.1 / 2) (e.1 % 2 == 1) e.2 m) m
  let m := forEach (members 9 s.active) (fun l m => setB (rGAR_LOOP_STAT l) fGAR_LOOP_STAT_ACTIVE true m) m
  if bankOk m 8 false || bankOk m 8 true then m else putBank 8 false loop8Default m

/-- The settings that are not registers. -/
def loadItems (s : Settings) (m : Mach) : Mach :=
  let m := forEach s.curves (fun e m => setTilePix e.1 { pixOf m e.1 with curve := e.2 } m) m
  let m := forEach s.progs (fun e m => setReg e.1 e.2 m) m
  let m := forEach s.lens (fun e m => setAur e.1 { aurOf m e.1 with len := e.2 } m) m
  let m := setChn (fun c => { c with members := s.members }) m
  let m := forEach (List.range 64) (fun g m => setF (rCHN_GRP_CFG g) fCHN_GRP_CFG_MEMBERS (membersOf m g).length m) m
  { m with aim := sgn 32 (reg m rGAR_AIM).toNat } |> loadBanks s

/-- Every NV field and item but the safety settings takes its stored value (R16, B5 of R396). -/
def loadSettings (s : Settings) (m : Mach) : Mach := m |> loadRegs false s |> loadItems s

/-- Does the running image accept the format of a settings area (R401)? -/
def accepts (fmts : Nat × Nat) (s : Settings) : Bool := decide (fmts.2 ≤ s.fmt) && decide (s.fmt ≤ fmts.1)

/-- The area that a start uses (R398): of those whose check and format qualify, the one of the higher GEN. -/
def chooseArea (fmts : Nat × Nat) (m : Mach) : Option (Bool × Settings) :=
  let pick (b : Bool) : Option (Bool × Settings) :=
    if !flag m rNVM_SET_STAT (if b then fNVM_SET_STAT_B_OK else fNVM_SET_STAT_A_OK) then none
    else ((area b m).filter (accepts fmts)).map (fun s => (b, s))
  match pick false, pick true with
  | some a, some b => if a.2.gen < b.2.gen then some b else some a
  | some a, none => some a
  | none, b => b

/-- The trial image brings settings of an older format into its own (R409): converted, or absent when too old, written
to the area not in use. -/
def convertSettings (m : Mach) : Mach :=
  match settingsOf m with
  | none => m
  | some s =>
    let fmts := runFmts m
    if s.fmt = fmts.1 then m
    else if fmts.2 ≤ s.fmt ∧ s.fmt < fmts.1 then saveArea s m
    else if s.fmt < fmts.2 then saveArea {} m
    else m

/-- The settings of a start: the area in use, settings-lost where none qualifies, and the trial image's conversion. An
area that the trial image does not accept for its age gives the absent values (R409). -/
def startSettings (m : Mach) : Mach :=
  let trial := updState m == 4
  let m := match chooseArea (runFmts m) m with
    | some (b, s) => useArea b s m
    | none =>
      let m := raise 317 noInst m
      if trial then
        match chooseArea ((runFmts m).2, 0) m with
        | some (b, s) => useArea b s m
        | none => m
      else m
  let m := if trial then convertSettings m else m
  let m := match (settingsOf m).filter (accepts (runFmts m)) with
    | some s => loadSettings s m
    | none => loadBanks {} m
  m

/-! ### Calibration (R419, R420) -/

/-- CAL_STAT shows the record in use. -/
def useRecord (src : Nat) (r : CalRec) (m : Mach) : Mach :=
  { m with cal := some r } |> setF rCAL_STAT fCAL_STAT_SRC src |> setF rCAL_STAT fCAL_STAT_ORIGIN r.origin |>
    setF rCAL_STAT fCAL_STAT_GEN r.gen

/-- Does a record qualify: its check word is right and its identifier is the device's (R420, R457)? -/
def calPass (r : CalRec) : Bool := r.magic == 0xCA1B0A7E && r.fmt == 1 && r.uid == Config.uid && r.crc == calCrc r

/-- The integrator copies whose header is present, the higher generation first. -/
def calCopies (m : Mach) : List CalRec :=
  match m.nvm.cal0, m.nvm.cal1 with
  | some a, some b => if a.gen < b.gen then [b, a] else [a, b]
  | some a, none => [a]
  | none, some b => [b]
  | none, none => []

/-- Those that qualify. -/
def goodCopies (m : Mach) : List CalRec := (calCopies m).filter calPass

/-- The calibration of a start (R420): the first record of the list that qualifies. Cause 2 where an integrator copy that stands before it in the
list fails; cause 1 where none qualifies. -/
def startCal (m : Mach) : Mach :=
  let failed := (calCopies m).head?.any (fun r => !calPass r)
  match goodCopies m with
  | r :: _ => m |> useRecord 2 r |> when failed (raise 318 (detail 0xFF 2))
  | [] =>
    match m.nvm.calFactory.filter calPass with
    | some r => m |> useRecord 1 r |> when failed (raise 318 (detail 0xFF 2))
    | none => raise 318 (detail 0xFF 1) m

end Sys2Proof.Machine
end

