-- ==== Sys2Proof/Machine/Boot.lean ====
section
/-!
DEFINITION. The start (R329, R394 to R397), the supplies and RESET_N (R433 to R435), and the crystal and backup supply of the
calendar (R384, R386).
-/

namespace Sys2Proof.Machine

/-! ### Supplies and reset -/

/-- HWSAFE ends, as only a power-up ends it (R328). -/
def endHwSafe (m : Mach) : Mach :=
  m |> setB rSAF_STAT fSAF_STAT_HWSAFE false |> setB rFLT_ERRN fFLT_ERRN_HWSAFE false

/-- The series of shutdowns ends: THM_SHUT.COUNT and LOCK clear (R365). -/
def endShutSeries (m : Mach) : Mach :=
  m |> setF rTHM_SHUT fTHM_SHUT_COUNT 0 |> setF rTHM_SHUT fTHM_SHUT_LOCK 0 |> setThm (fun s => { s with series := none })

/-- THM_SHUT and its series are 0 at power-up (R365, R367), and after a reset of the AON domain, which holds them (R434). -/
def clearShut (m : Mach) : Mach := m |> clearReg rTHM_SHUT |> setThm (fun s => { s with series := none })

/-- UNCERTAIN is set (R386). -/
def timeUncertain (m : Mach) : Mach := setB rRTC_STAT fRTC_STAT_UNCERTAIN true m

/-- The calendar is set and is uncertain. -/
def setCalendar (ms : Nat) (m : Mach) : Mach :=
  timeUncertain { m with pwr := { m.pwr with rtcMs := ms % 2 ^ 48, rtcAt := m.now } }

/-- VAON was lost in a state without RUN: a calendar that is uncertain takes the last time stored in Beryl (R388). -/
def calendarAfterLoss (m : Mach) : Mach := when (m.pwr.vaonLost && uncertain m) (setCalendar m.pwr.berylMs) m

/-- The AON clock of a device that runs is the RC oscillator while the crystal stands (R384). -/
def showSource (m : Mach) : Mach := when m.pwr.rtcStopped (setF rRTC_STAT fRTC_STAT_SRC 1) m

/-- The power-on reset of an unpowered device releases (R433). -/
def powerUp (m : Mach) : Mach :=
  if m.pwr.st ≠ 6 ∨ m.pwr.pinHeld then m else
  let m := m |> endHwSafe |> clearShut |> calendarAfterLoss |> startUp 0 |> showSource
  { m with pwr := { m.pwr with vaonLost := false } }

/-- POWER_UP (R433). -/
def execPowerUp (t : Nat) (s : State) : Host.Outcome State Fault Refusal := runEvent t powerUp s

/-- Does a low pulse of `lowNs` on RESET_N reset the device (R435)? -/
def resetPulse (lowNs : Nat) : Bool := decide (10000 ≤ lowNs) || (decide (1000 ≤ lowNs) && Config.shortReset lowNs)

/-- The reset by RESET_N, which holds while the pin is low. -/
def pinReset (m : Mach) : Mach := m |> endShutSeries |> startUp 1

/-- RESET_N falls and stays low for `lowNs` (R435). It is ignored in OFF while RAIL_EN is low; an unpowered device, and one that returns
from OFF, start no earlier than it rises (R433). -/
def resetFalls (lowNs : Nat) (m : Mach) : Mach :=
  if m.pwr.st = 4 ∧ !m.pwr.exiting then m else
  let low (m : Mach) : Mach := { m with pwr := { m.pwr with rstLow := max m.pwr.rstLow (m.now + cdiv (3 * lowNs) 5) } }
  if m.pwr.st = 4 ∨ m.pwr.st = 6 then low m
  else if resetPulse lowNs then pinReset (low m) else m

/-- RESET_N (R435). -/
def execResetN (t : Nat) (lowNs : Nat) (s : State) : Host.Outcome State Fault Refusal := runEvent t (resetFalls lowNs) s

/-- Chip reset, held until the rails are back (POWER_UP; R434). -/
def brownOut (m : Mach) : Mach :=
  if m.pwr.st = 4 ∨ (m.pwr.st = 6 ∧ !m.pwr.pinHeld) then m else
  let m := chipReset 0 6 m
  { m with pwr := { m.pwr with pinHeld := false } }

/-- SUPPLY_BROWN_OUT (R434). -/
def execSupplyBrownOut (t : Nat) (s : State) : Host.Outcome State Fault Refusal := runEvent t brownOut s

/-- VDD_SAF_EXCURSION (R434): its monitor acts wherever the SAF domain is powered, in a reset by a brown-out of the core rails too. -/
def execVddSafExcursion (t : Nat) (s : State) : Host.Outcome State Fault Refusal :=
  runEvent t (fun m => when (safOn m || m.pwr.st == 6) enterHwSafe m) s

/-- SAF_POWER_ON_RESET (R434): the SAF domain starts afresh and the FATAL latch clears. -/
def safReset (m : Mach) : Mach :=
  let n := { m with
    saf := {}
    pwr := { m.pwr with safAt := m.now }
    regs := m.regs.filter (fun e => addrBlock e.1 != 14)
    limpAt := if m.saf.limpHigh then m.now else m.limpAt }
  n |> keepHwSafe m |> setReg rFLT_FATAL 0 |> setB rFLT_ERRN fFLT_ERRN_FATAL false

def execSafPowerOnReset (t : Nat) (s : State) : Host.Outcome State Fault Refusal := runEvent t safReset s

/-- VAON_LOSS (R434): the AON domain is reset, and its counter and record with it (R387), and THM_SHUT (R365). In OFF nothing is left that
holds RAIL_EN low: it is released when VAON returns, and a power-up follows (R379, R433). -/
def aonReset (m : Mach) : Mach :=
  let m := m |> forEach [rPWR_WAKE_EN, rPWR_WAKE_SRC, rPWR_WAKE_TMR, rPWR_SLEEP_TIME] clearReg |> clearShut
  { m with
    pwr := { m.pwr with
      aonCnt := 0, aonAt := m.now, aonHi := none, recMs := 0, recAon := 0, vaonLost := m.pwr.st == 2 || m.pwr.st == 3 || m.pwr.st == 4
      st := if m.pwr.st = 4 then 6 else m.pwr.st
      exiting := m.pwr.exiting && m.pwr.st != 4 }
    flt := { m.flt with aonRec := none } }

def execVaonLoss (t : Nat) (s : State) : Host.Outcome State Fault Refusal := runEvent t aonReset s

/-- BKUP_LOST (R386). -/
def execBkupLost (t : Nat) (s : State) : Host.Outcome State Fault Refusal :=
  runEvent t (fun m => m |> latchBit rRTC_STAT fRTC_STAT_BKUP_LOST |> timeUncertain) s

/-- CRYSTAL_STOP (R384): the calendar stands still; the AON domain goes over to the RC oscillator, which does not run in
OFF. -/
def crystalStop (m : Mach) : Mach :=
  if m.pwr.rtcStopped then m else
  { m with pwr := { m.pwr with rtcMs := calMs m, rtcAt := m.now, rtcStopped := true } } |>
    latchBit rRTC_STAT fRTC_STAT_OSC_STOP |> timeUncertain |> when (m.pwr.st != 4) (setF rRTC_STAT fRTC_STAT_SRC 1)

def execCrystalStop (t : Nat) (s : State) : Host.Outcome State Fault Refusal := runEvent t crystalStop s

/-- CRYSTAL_RETURN (R384): the crystal has run for 1 s. -/
def crystalReturn (m : Mach) : Mach :=
  if !m.pwr.rtcStopped then m else
  { m with pwr := { m.pwr with rtcMs := (m.pwr.rtcMs + 1000) % 2 ^ 48, rtcAt := m.now, rtcStopped := false } } |>
    setF rRTC_STAT fRTC_STAT_SRC 0

def execCrystalReturn (t : Nat) (s : State) : Host.Outcome State Fault Refusal := runEvent t crystalReturn s

/-! ### BOOT (R394, R396 B2 to B5) -/

/-- An item that has failed its check. -/
def lostIf {α : Type} (b : Bool) (o : Option α) : Option α := if b then none else o

/-- What a start finds damaged in Beryl, as bits of BOOT's operand: 0 and 1 settings A and B, 2 the lock line, 3 and 4 slots 0 and 1, 5 and
6 integrator copies 0 and 1, 7 the factory record, 8 and 9 the copies of the fences, 10 and 11 those of the boot record, 12 and 13 those of
the remap table (R393, R394, R397, R398, R420). -/
def damage (bad : Nat) (s : NvmState) : NvmState :=
  let b (k : Nat) : Bool := hasBit bad k
  let table := if b 12 then (if b 13 then [] else s.remap1) else s.remap
  { s with
    setA := if b 0 then s.setA.map spoilSettings else s.setA
    setB := if b 1 then s.setB.map spoilSettings else s.setB
    lock := lostIf (b 2) s.lock
    slot0 := if b 3 then { s.slot0 with mark := false } else s.slot0
    slot1 := if b 4 then { s.slot1 with mark := false } else s.slot1
    cal0 := if b 5 then s.cal0.map calSpoilt else s.cal0
    cal1 := if b 6 then s.cal1.map calSpoilt else s.cal1
    calFactory := if b 7 then s.calFactory.map calSpoilt else s.calFactory
    fence0 := lostIf (b 8) s.fence0
    fence1 := lostIf (b 9) s.fence1
    boot0 := lostIf (b 10) s.boot0
    boot1 := lostIf (b 11) s.boot1
    remap := table
    remap1 := if b 12 && b 13 then [] else if b 13 then s.remap else s.remap1 }

/-- The store without the newest line write: the external flash is not under the journal. -/
def withoutLine (was now : NvmState) : NvmState :=
  { was with unif := now.unif, maps := now.maps, wearTab := now.wearTab, wear := now.wear, wearPass := now.wearPass, dir0 := now.dir0, dir1 := now.dir1 }

/-- The boot ROM replays the journal (R392). How it finds the record of a line write that was cut short, `torn` says: DONE (0); OPEN with its CRC
right (1): the line is written again, and counts in REPLAYED; or with its CRC wrong (2): it is discarded, and the line keeps its old
content. -/
def replayJournal (torn : Nat) (m : Mach) : Mach :=
  let cut := m.nvm.jrn.head?.any (fun r => r.opened)
  let nvm := match m.nvmWas with
    | some was => if cut && decide (2 ≤ torn) then withoutLine was m.nvm else m.nvm
    | none => m.nvm
  { m with nvmWas := none, nvm := { nvm with jrn := nvm.jrn.map (fun r => { r with opened := false }) } } |>
    setF rNVM_STAT fNVM_STAT_REPLAYED (b2n (cut && torn == 1))

/-- A revert's boot record (R408): TRIAL cleared and with it the trial slot's mark erased; firmware-revert. -/
def revertRecord (m : Mach) : Mach :=
  match m.nvm.boot.trial with
  | none => m
  | some k =>
    m |> setBoot (fun b => { b with trial := none }) |> setSlot k { slotOf m k with mark := false, fresh := false } |> raise 19 noInst

/-- An image runs: its slot, and whether it is on trial or golden. -/
def runImage (k : Nat) (trial gold : Bool) (m : Mach) : Mach :=
  let other := 1 - k
  let st := if trial then 4 else if (slotOf m other).mark && (slotOf m other).fresh then 3 else 0
  m |> setF rUPD_STAT fUPD_STAT_RUN_SLOT k |> setB rUPD_STAT fUPD_STAT_GOLDEN gold |> setUpdState st

/-- The slot of the active image is no longer one that was verified and waits for its activation (R410). -/
def settleSlot (k : Nat) (s : NvmState) : NvmState :=
  if k = 0 then { s with slot0 := { s.slot0 with fresh := false } } else { s with slot1 := { s.slot1 with fresh := false } }

/-- The image of a start that runs no trial (R394). -/
def startActive (good : Nat → Bool) (m : Mach) : Mach :=
  let a := m.nvm.boot.active
  let o := 1 - a
  if good a then runImage a false false m
  else if good o && decide (m.nvm.boot.floor ≤ slotVersion (slotOf m o)) then
    m |> setBoot (fun b => { b with active := o }) |> setNvm (settleSlot o) |> runImage o false false |> raise 19 noInst
  else runImage a false true m

/-- The boot ROM chooses an image (R394). -/
def chooseImage (m : Mach) : Mach :=
  let good (k : Nat) : Bool := slotValid (slotOf m k)
  match m.nvm.boot.trial with
  | none => startActive good m
  | some k =>
    if m.nvm.boot.startCnt < 3 ∧ good k = true then
      m |> setBoot (fun b => { b with startCnt := b.startCnt + 1 }) |> runImage k true false
    else startActive (fun j => good j && j != k) (revertRecord m)

/-- HUB_LOCK takes the lock line (R452). -/
def loadLock (m : Mach) : Mach :=
  match m.nvm.lock with
  | none => m
  | some (l, n) => m |> setB rHUB_LOCK fHUB_LOCK_LOCKED l |> setF rHUB_LOCK fHUB_LOCK_LOCK_CNT n

/-- The persistent fences are cleared when that was asked for, and applied (R347, R382). -/
def loadFences (m : Mach) : Mach :=
  let m := when m.nvm.fences.clear (setFences (fun _ => {})) m
  m |> setF rFLT_FENCE_OPAL fFLT_FENCE_OPAL_FENCED m.nvm.pfOpal |> setF rPLC_ENG_MAP fPLC_ENG_MAP_FENCED m.nvm.pfOpal |>
    setF (rFLT_FENCE_DRAM 0) fFLT_FENCE_DRAM_FENCED m.nvm.pfDram |>
    setF (rFLT_FENCE_DRAM 1) fFLT_FENCE_DRAM_FENCED (m.nvm.pfDram >>> 32) |>
    setF rPWR_RET_STAT fPWR_RET_STAT_FENCED m.nvm.pfBank |> forEach (members 64 m.nvm.pfDram) (fun r => setRegionUse r 14)

/-- The blocks that run from B5 on: ports with their roles, motor channels, AUTO Aurora engines (`auto`; R271, R306). The golden
image leaves motors and Aurora engines disabled (R395). -/
def startBlocks (auto : Bool) (m : Mach) : Mach :=
  let m := forEach (List.range 24) (fun p m => m |> applyRole p |> streamRole p) m
  let m := updateMode m
  if golden m then m else
  let m := forEach [0, 1, 2, 3] applyFunc m
  forEach (List.range 8) (fun e m =>
    when (auto && flag m (rAUR_CFG e) fAUR_CFG_AUTO && (aurOf m e).len != 0)
      (fun m => aurStart e (getF m (rAUR_CFG e) fAUR_CFG_ADDR) m) m) m

/-- The fields of a register that hold configuration (R13): a host writes them, or the stored settings do. -/
def cfgMask (a : Nat) : Word :=
  match regAt a with
  | none => 0
  | some (r, _) => fieldMask (r.flds.filter (fun d => d.nv || d.acc == .rw || d.acc == .rwl || d.acc == .src || d.acc == .ro0))

/-- Is the configuration of the register at `a` lost where that of the device is: not the safety settings, nor what outlives a
reset? -/
def cfgLost (a : Nat) : Bool := addrBlock a != 14 && !keepsReset a

/-- The configuration is taken from the Beryl settings again (R381, banks 6 to 9). -/
def reloadConfig (m : Mach) : Mach :=
  let m := forEach (m.regs.filter (fun e => cfgLost e.1)) (fun e m =>
    let k := cfgMask e.1
    setReg e.1 ((e.2 &&& ~~~ k) ||| (regReset e.1 &&& k)) m) m
  match settingsOf m with
  | some s => loadSettings s m
  | none => loadBanks {} m

/-- Topaz runs, from this instant on. A start that finds the FATAL latch clear has the AON domain's record logged (R348). -/
def topazRuns (m : Mach) : Mach :=
  { m with
    flt := { m.flt with aonDue := m.flt.aonRec.isSome && !flag m rFLT_FATAL fFLT_FATAL_SET }
    upd := { m.upd with booted := true, bootAt := m.now, trialAt := runTime m }, saf := { m.saf with hb := none, hbAt := m.now } }

/-- The start up to B5. -/
def boot (torn bad : Nat) (m : Mach) : Mach :=
  if m.pwr.st ≠ 0 ∨ m.upd.booted then m else
  let m := m |> replayJournal torn |> setNvm (damage bad) |> chooseImage
  let m := m |> setB rNVM_SET_STAT fNVM_SET_STAT_A_OK (m.nvm.setA.any settingsPass) |>
    setB rNVM_SET_STAT fNVM_SET_STAT_B_OK (m.nvm.setB.any settingsPass) |> setNvm (fun s => { s with starts := s.starts + 1 })
  m |> startSettings |> startCal |> loadLock |> loadFences |> fitEngines |> assignAll |> placePool |> showRates |> showLog |> showUpd |> showBeams |>
    startBlocks true |> showAdc |> topazRuns

/-- BOOT (R396). -/
def execBoot (t : Nat) (torn bad : Nat) (s : State) : Host.Outcome State Fault Refusal := runEvent t (boot torn bad) s

/-! ### SELF_TEST_END (R329, B4) -/

/-- Every group's requested mode starts at FB_BEAM, every mask enable at 0 (R329). -/
def startModes (m : Mach) : Mach :=
  m |> setF rSAF_BEAM fSAF_BEAM_REQ (getF m rSAF_GEN_CFG fSAF_GEN_CFG_FB_BEAM * 0x5555) |> setMasks 0 |> setBeams

/-- Onyx loads the safety settings (R319); after DEEP it has its state from the retention banks (R378). -/
def loadSafety (safOk : Bool) (m : Mach) : Mach :=
  if m.saf.restored then m else
  match (settingsOf m).filter (accepts (runFmts m)) with
  | none => startModes m
  | some s => startModes (if safOk then loadRegs true s m else raise 12 noInst m)

/-- Every enabled producer has SYNC set and its timer started (R329, R378). -/
def startProducers (m : Mach) : Mach :=
  forEach [0, 1, 2, 3] (fun k m =>
    when (flag m (rSAF_PROD_CFG k) fSAF_PROD_CFG_EN) (fun m => m |> setB (rSAF_PROD_STAT k) fSAF_PROD_STAT_SYNC true |> renew k) m) m

def selfTestEnd (pass safOk : Bool) (m : Mach) : Mach :=
  if m.pwr.st ≠ 0 ∨ m.upd.booted = false ∨ m.saf.selfTested = true ∨ hwSafe m = true then m
  else if !pass || flag m rFLT_FATAL fFLT_FATAL_SET then enterHwSafe m
  else
    let m := m |> loadSafety safOk |> startProducers
    let m := { m with saf := { m.saf with selfTested := true } }
    m |> driveOut 0 false |> driveOut 1 false |> setB rSAF_STAT fSAF_STAT_STARTED true |> mapCause |> startCause |> safApply

/-- SELF_TEST_END (R329). -/
def execSelfTestEnd (t : Nat) (pass safOk : Bool) (s : State) : Host.Outcome State Fault Refusal := runEvent t (selfTestEnd pass safOk) s

/-! ### FLASH_LOAD_END (B6) -/

/-- Does a flash that the controller can use answer: one of 64 MiB to 1 GiB (R400)? -/
def flashUsable (f : FlashLoad) : Bool := f.present && decide (26 ≤ f.size) && decide (f.size ≤ 30)

/-- The mode in use (NVM_XSPI_STAT, R412): the one asked for, where the SFDP table declares it, and at most the fastest that it declares, `fast`.
DEDUCED: MODE 3 asks for the fastest, and is then shown as that mode's own code. -/
def flashMode (want fast : Nat) : Nat := if want = 3 then min fast 2 else min want (min fast 2)

/-- Every item of the flash is absent. -/
def dropItems (s : NvmState) : NvmState := { s with unif := [], maps := [], wearTab := [], wear := [] }

/-- The directory (R400): a copy that fails its check is lost. With both of them lost nothing tells where the items lie: they are absent. -/
def loadDir (dirBad : Nat) (s : NvmState) : NvmState :=
  let n := { s with dir0 := lostIf (hasBit dirBad 0) s.dir0, dir1 := lostIf (hasBit dirBad 1) s.dir1 }
  if (s.dir0.isSome || s.dir1.isSome) && n.dir0.isNone && n.dir1.isNone then dropItems n else n

/-- What the external flash gives at B6. -/
def flashLoad (f : FlashLoad) (m : Mach) : Mach :=
  if m.pwr.st ≠ 0 ∨ m.upd.booted = false ∨ m.pix.loaded = true then m else
  let on := flashUsable f
  let m := { m with pix := { m.pix with loaded := true } } |> setB rNVM_XSPI_STAT fNVM_XSPI_STAT_PRESENT on |>
    setF rNVM_XSPI_STAT fNVM_XSPI_STAT_MODE (if on then flashMode (getF m rNVM_XSPI_CFG fNVM_XSPI_CFG_MODE) f.mode else 0) |>
    setF rNVM_XSPI_STAT fNVM_XSPI_STAT_SIZE (if on then f.size else 0) |> when on (setNvm (loadDir f.dirBad))
  m |> forEach (List.range 24) (loadUnif f.unifBad) |> loadWear f.wearBad f.tableBad |> loadMaps f.mapsBad |> mapCause

/-- FLASH_LOAD_END (R396). -/
def execFlashLoadEnd (t : Nat) (flash : FlashLoad) (s : State) : Host.Outcome State Fault Refusal := runEvent t (flashLoad flash) s

/-! ### GROUP_START (B7) -/

/-- Group `g` starts, or shows CFG_ERR (R203). -/
def startGroup (g : Nat) (m : Mach) : Mach :=
  if !enabledGrp m g then m else
  match timingRefused m g (timingWords m g) with
  | some _ => latchBit (rSCN_GRP_STAT g) fSCN_GRP_STAT_CFG_ERR m
  | none =>
    { m with saf := { m.saf with awaitFrame := setBit m.saf.awaitFrame g } } |> setGrp g { grpOf m g with starting := true, startAt := m.now }

/-- B7 is due (R396): the flash loads have ended, and no enabled tile is in ABSENT, IDENT or AUTH, or TILE_WAIT has passed since B5. -/
def startDue (m : Mach) : Bool :=
  m.pix.loaded && (decide (m.upd.bootAt + ms (getF m rNVM_BOOT_CFG fNVM_BOOT_CFG_TILE_WAIT) ≤ m.now) ||
    (List.range 24).all (fun t => !flag m (rTIL_CFG t) fTIL_CFG_EN || decide (3 ≤ tileState m t)))

/-- Every enabled group that passes the checks of TIMING_SET starts; none under the golden image (R395). -/
def groupStart (m : Mach) : Mach :=
  if m.pwr.st ≠ 0 ∨ m.upd.booted = false ∨ m.saf.started = true ∨ golden m = true ∨ startDue m = false then m else
  let m := forEach (List.range 8) startGroup m
  startCause { m with saf := { m.saf with started := true } }

/-- GROUP_START (R396). -/
def execGroupStart (t : Nat) (s : State) : Host.Outcome State Fault Refusal := runEvent t groupStart s

end Sys2Proof.Machine
end

