-- ==== Sys2Proof/Machine/Update.lean ====
section
/-!
DEFINITION. Firmware update (R401 to R410): UPD_BEGIN, UPD_DATA, UPD_VERIFY, activation, confirmation and revert.
-/

namespace Sys2Proof.Machine

/-! ### UPD_BEGIN (R402) -/

/-- The slot that the running image does not occupy. -/
def inactive (m : Mach) : Nat := 1 - runSlot m

def toBytes (l : List Nat) : List Byte := l.map (BitVec.ofNat 8)

/-- Check 1 of R402: MAGIC, HFMT, zero fields and lengths. -/
def hdrShapeOk (h : List Byte) : Bool :=
  let len := hdrBodyLen h
  let zero (l : List Nat) : Bool := l.all (· == 0)
  leAt h 0 4 == 0xA5C30F15 && leAt h 6 1 == 1 && zero (bytesAt h 14 2) && zero (bytesAt h 97 31) &&
  decide (4 ≤ len) && decide (len ≤ 4190208) && len % 4 == 0 && hdrXferLen h % 4 == 0 &&
  (hdrKind h != 0 || (hdrXferLen h == len && zero (hdrBaseHash h)))

/-- Check 6: KIND is allowed by UPD_CFG.MODE; the golden image takes full images alone. -/
def kindOk (m : Mach) (kind : Nat) : Bool :=
  let mode := getF m rUPD_CFG fUPD_CFG_MODE
  (kind == 0 && (golden m || mode == 0 || mode == 2)) || (kind == 1 && !golden m && (mode == 1 || mode == 2))

/-- The bytes of the active body. -/
def activeBody (m : Mach) : List Nat := (slotBody (slotOf m (runSlot m))).map BitVec.toNat

/-- The first check of R402 that the header fails; 0 where none does. -/
def headerCause (m : Mach) (h : List Byte) : Nat :=
  let step := getF m rHUB_REV fHUB_REV_STEP
  if !hdrShapeOk h then 1
  else if leAt h 4 2 ≠ 0x3024 then 2
  else if step < leAt h 8 1 ∨ leAt h 9 1 < step then 3
  else if 4 ≤ leAt h 96 1 ∨ hdrSigned h = false then 4
  else if hdrVersion h < m.nvm.boot.floor then 5
  else if !kindOk m (hdrKind h) then 6
  else if hdrKind h = 1 ∧ sha256 (activeBody m) ≠ hdrBaseHash h then 7
  else if locked m = true ∧ getF m rNVM_SET_STAT fNVM_SET_STAT_FMT < hdrSetMin h then 8
  else 0

/-- A cause of IMAGE_REJECT or IMAGE_CHECK shows in UPD_STAT. -/
def showCause (c : Nat) (m : Mach) : Mach := setF rUPD_STAT fUPD_STAT_CAUSE c m

/-- A command that Beryl cannot serve any more (R363): the write fails like one that cannot be read back. -/
def noBeryl (m : Mach) : Mach × Rep := (raise 314 noInst m, errW stINTERNAL (w32 314))

def updBeginBody (p : Packet) (m : Mach) : Mach × Rep :=
  let h := toBytes (wordsBytes p.params)
  if updState m = 2 ∨ updState m = 4 then stateReject m rUPD_STAT else
  let c := headerCause m h
  if c ≠ 0 then (showCause c m, errW stIMAGE_REJECT (w32 c))
  else if !berylWrites m then noBeryl m
  else
    let m := { m with upd := { m.upd with part := [] } }
    (m |> setSlot (inactive m) { header := h } |> setReg rUPD_NEXT 0 |> setUpdState 1 |> showUpd, ok [])

def opUpdBegin : OpInfo := native 0x70 1 .topaz .h0 false false

/-- UPD_BEGIN (R402). -/
def execUpdBegin (p : Packet) (s : State) : Host.Outcome State Fault Refusal :=
  runDratus (.updBegin p) opUpdBegin noReply (withLen (· == 48) updBeginBody) p s

/-- UPD_BEGIN with PLEN 0 (R402): an update in RECEIVING or VERIFIED ends; there is nothing to cancel in IDLE. -/
def updCancelBody (_ : Packet) (m : Mach) : Mach × Rep :=
  let st := updState m
  if st = 2 ∨ st = 4 then stateReject m rUPD_STAT
  else if (st == 1 || st == 3) && !berylWrites m then noBeryl m
  else if st = 1 ∨ st = 3 then
    (m |> setSlot (inactive m) { slotOf m (inactive m) with mark := false, fresh := false } |> setUpdState 0 |> showUpd, ok [])
  else (m, ok [])

/-- UPD_CANCEL (R402). -/
def execUpdCancel (p : Packet) (s : State) : Host.Outcome State Fault Refusal :=
  runDratus (.updCancel p) opUpdBegin noReply (withLen (· == 0) updCancelBody) p s

/-! ### UPD_DATA (R403) -/

/-- Take whole delta records from the words: the words left over and the body, or nothing on an error. `n` bounds the number
of records, `base` is the active body, `len` BODY_LEN. -/
def deltaRun (base : List Nat) (len : Nat) : Nat → List Word → List Byte → Option (List Word × List Byte)
  | 0, ws, body => some (ws, body)
  | _ + 1, [], body => some ([], body)
  | n + 1, w :: ws, body =>
    let k := bits w 23 0
    let code := bits w 31 28
    if code = 0 ∨ 3 < code ∨ len < body.length + k then none
    else if code = 1 then
      match ws with
      | [] => some ([w], body)
      | src :: ws =>
        if base.length < src.toNat + k then none
        else deltaRun base len n ws (body ++ toBytes ((base.drop src.toNat).take k))
    else if code = 2 then
      let need := (k + 3) / 4
      if ws.length < need then some (w :: ws, body)
      else deltaRun base len n (ws.drop need) (body ++ toBytes ((wordsBytes (ws.take need)).take k))
    else deltaRun base len n ws (body ++ List.replicate k 0)

/-- The update ends with IMAGE_CHECK. -/
def imageFails (c : Nat) (m : Mach) : Mach × Rep := (m |> showCause c |> setUpdState 0, errW stIMAGE_CHECK (w32 c))

def updDataBody (p : Packet) (m : Mach) : Mach × Rep :=
  if p.params.length < 2 then (m, err stBAD_LENGTH) else
  let ws := p.params.drop 1
  let next := (reg m rUPD_NEXT).toNat
  let k := inactive m
  let r := slotOf m k
  if updState m ≠ 1 ∨ (par p 0).toNat ≠ next ∨ hdrXferLen r.header < next + 4 * ws.length then (m, err stBAD_PARAM)
  else if !berylWrites m then noBeryl m
  else
    let m' := setReg rUPD_NEXT (w32 (next + 4 * ws.length)) m
    if hdrKind r.header = 0 then (setSlot k { r with body := r.body ++ toBytes (wordsBytes ws) } m', ok [])
    else
      let all := m.upd.part ++ ws
      match deltaRun (activeBody m) (hdrBodyLen r.header) all.length all r.body with
      | none => imageFails 2 m
      | some (part, body) =>
        (setSlot k { r with body := body } { m' with upd := { m'.upd with part := part } }, ok [])

/-- UPD_DATA (R403). -/
def execUpdData (p : Packet) (s : State) : Host.Outcome State Fault Refusal :=
  runDratus (.updData p) (native 0x71 2 .topaz .h0 false false) noReply updDataBody p s

/-! ### UPD_VERIFY (R404) -/

def opUpdVerify : OpInfo := native 0x72 2 .topaz .h0 false false

/-- UPD_VERIFY (R404). -/
def execUpdVerify (p : Packet) (s : State) : Host.Outcome State Fault Refusal :=
  runDratus (.updVerify p) opUpdVerify noReply
    (withLen (· == 0) (fun p m =>
      if updState m = 1 ∧ (reg m rUPD_NEXT).toNat = hdrXferLen (slotOf m (inactive m)).header then
        pend opUpdVerify .verify 0 p (setUpdState 2 m)
      else stateReject m rUPD_STAT)) p s

/-- The verdict on the body (R404): the cause of IMAGE_CHECK, or 0. -/
def verifyCause (r : SlotRec) (writeOk : Bool) : Nat :=
  if hdrKind r.header = 1 ∧ r.body.length < hdrBodyLen r.header then 1
  else if sha256 (r.body.map BitVec.toNat) ≠ hdrHash r.header then 3
  else if !writeOk then 4
  else 0

/-- Verification ends. -/
def verifyDone (writeOk : Bool) (m : Mach) : Mach :=
  if updState m ≠ 2 then m else
  let k := inactive m
  let r := slotOf m k
  let c := verifyCause r (writeOk && berylWrites m)
  if c ≠ 0 then m |> showCause c |> setUpdState 0 |> finish .verify 0 (errW stIMAGE_CHECK (w32 c))
  else m |> setSlot k { r with mark := true, fresh := true } |> setUpdState 3 |> showUpd |> finish .verify 0 (ok [])

/-- VERIFY_DONE (R404). -/
def execVerifyDone (t : Nat) (writeOk : Bool) (s : State) : Host.Outcome State Fault Refusal := runEvent t (verifyDone writeOk) s

/-! ### ACTIVATE (R405, R406) -/

/-- An activation pause begins (P2 of R406): packets for Topaz are held, the heartbeat check is suspended. -/
def startPause (m : Mach) : Mach :=
  { m with upd := { m.upd with pause := some m.now, pauseReset := false }, saf := { m.saf with hbPaused := true } }

/-- The image of slot `k` is to run instead of the present one: in the pause form where the formats of the handed-over state
agree, else in the restart form. Answers the form: 0 for a pause, 1 for a restart. -/
def changeImage (k : Nat) (m : Mach) : Mach × Nat :=
  if golden m = false ∧ slotStateFmt (slotOf m k) = runStateFmt m then (startPause m, 0)
  else ({ m with flt := { m.flt with dueReset := some 7 } }, 1)

def activateBody (_ : Packet) (m : Mach) : Mach × Rep :=
  if updState m ≠ 3 then stateReject m rUPD_STAT
  else if m.pwr.entry.isSome || !m.pix.plan.isEmpty || pending m .cal then (m, err stBUSY)
  else if !berylWrites m then noBeryl m
  else
    let k := inactive m
    let m := m |> setSlot k { slotOf m k with fresh := false } |>
      setBoot (fun b => { b with trial := some k, startCnt := 0, trialMs := 0 }) |> setUpdState 4
    let m := showUpd { m with upd := { m.upd with trialAt := runTime m } }
    let (m, form) := changeImage k m
    (m, ok [w32 form])

/-- ACTIVATE (R405). -/
def execActivate (p : Packet) (s : State) : Host.Outcome State Fault Refusal :=
  runDratus (.activate p) (native 0x73 0 .topaz .h0 false true) (replyLen 1) (withLen (· == 0) activateBody) p s

/-- Every NV field takes its absent value (R409). DESIGN CHOICE: those of Onyx, which runs on through the pause, take theirs at its next
start. -/
def absentFields (m : Mach) : Mach :=
  forEach (m.regs.filter (fun e => addrBlock e.1 != 14)) (fun e => setReg e.1 (mergeNv e.1 (regReset e.1) e.2)) m

/-- The settings area of an image that takes over in a pause (R406, R409): what is in force stays, unless its format is too old for the image. -/
def pauseSettings (m : Mach) : Mach :=
  if updState m = 4 then
    let old := (settingsOf m).any (fun s => decide (s.fmt < (runFmts m).2))
    m |> convertSettings |> when old (fun m => m |> absentFields |> startBlocks false)
  else match chooseArea (runFmts m) m with
    | some (b, s) => useArea b s m
    | none => m

/-- A retention bank or unit `b` fails its check (R381): retention-check, with the bank in detail [23:16]. -/
def retentionFails (b : Nat) (m : Mach) : Mach := raise 18 (detail 0xFF (b <<< 16)) m

/-- The banks of a bit set that fail the pattern too are fenced persistently (R382). -/
def fenceBanks (banks : Nat) (m : Mach) : Mach :=
  let f := (m.nvm.pfBank ||| banks) % 65536
  m |> when (f != m.nvm.pfBank) (setFences (fun s => { s with bank := f })) |> setF rPWR_RET_STAT fPWR_RET_STAT_FENCED f

/-- The retention banks that the new firmware finds wrong (R381): bits 15:0 fail their check, bits 31:16 the pattern as well. -/
def pauseBanks (failed : Nat) (m : Mach) : Mach :=
  let bad := (List.range 8).map (2 + ·) |>.filter (hasBit failed)
  m |> forEach bad retentionFails |> fenceBanks (failed >>> 16 &&& failed &&& 0x3FC) |>
    when (bad.any (fun b => decide (b < 6))) (eventAll 8 [3]) |> when (bad.any (fun b => decide (6 ≤ b))) (fun m => m |> reloadConfig |> startBlocks false)

/-- Topaz is reset in the pause (P4 of R406): the boot ROM starts the trial slot, or reverts and starts the active one. -/
def pauseTopazReset (failed : Nat) (m : Mach) : Mach :=
  if m.upd.pause.isNone || m.upd.pauseReset then m else
  let m := chooseImage m
  { m with upd := { m.upd with pauseReset := true }, saf := { m.saf with hb := none } } |> pauseSettings |> showUpd |>
    pauseBanks failed

/-- ACTIVATION_TOPAZ_RESET (R406). -/
def execActivationTopazReset (t : Nat) (failed : Nat) (s : State) : Host.Outcome State Fault Refusal :=
  runEvent t (pauseTopazReset failed) s

/-- No heartbeat has arrived 250 ms after P2 (R407). -/
def activationOverrun (m : Mach) : Mach :=
  if !m.saf.hbPaused || !lasted m m.upd.pause (ms 250) then m
  else { m with saf := { m.saf with hbPaused := false, hbAt := m.now } } |> causeOn 20

/-- ACTIVATION_OVERRUN (R407). -/
def execActivationOverrun (t : Nat) (s : State) : Host.Outcome State Fault Refusal := runOnyx t activationOverrun s

/-! ### Confirmation and revert (R408) -/

/-- MIN_VERSION of a slot's image. -/
def slotMinVersion (r : SlotRec) : Nat := if r.header.isEmpty then 0 else hdrMinVersion r.header

def confirmBody (_ : Packet) (m : Mach) : Mach × Rep :=
  match m.nvm.boot.trial with
  | some k =>
    if updState m ≠ 4 then stateReject m rUPD_STAT
    else if !berylWrites m then noBeryl m
    else
      let fl := max m.nvm.boot.floor (slotMinVersion (slotOf m k))
      (m |> setBoot (fun b => { b with active := k, trial := none, floor := fl }) |> setUpdState 0 |> showUpd,
        ok [])
  | none => stateReject m rUPD_STAT

/-- CONFIRM (R408). -/
def execConfirm (p : Packet) (s : State) : Host.Outcome State Fault Refusal :=
  runDratus (.confirm p) (native 0x74 0 .topaz .h0 false false) noReply (withLen (· == 0) confirmBody) p s

/-- TRIAL_MS is written into the boot record. -/
def saveTrialMs (m : Mach) : Mach :=
  if updState m ≠ 4 ∨ berylWrites m = false then m else
  let ms := trialMs m
  { m with upd := { m.upd with trialAt := runTime m } } |> setBoot (fun b => { b with trialMs := ms })

/-- TRIAL_MS_SAVE (R408): every 10 s of RUN. -/
def execTrialMsSave (t : Nat) (s : State) : Host.Outcome State Fault Refusal :=
  runEvent t (fun m => when (!topazStopped m && decide (m.upd.trialAt + sec 10 ≤ runTime m)) saveTrialMs m) s

/-- The trial has lasted 600,000 ms of RUN: revert, then the active image as by ACTIVATE. -/
def trialTimeout (m : Mach) : Mach :=
  if updState m ≠ 4 ∨ topazStopped m = true ∨ trialMs m < 600000 ∨ berylWrites m = false then m
  else
    let m := m |> saveTrialMs |> revertRecord |> setUpdState 0
    (changeImage m.nvm.boot.active (showUpd m)).1

/-- TRIAL_TIMEOUT (R408). -/
def execTrialTimeout (t : Nat) (s : State) : Host.Outcome State Fault Refusal := runEvent t trialTimeout s

end Sys2Proof.Machine
end

