-- ==== Sys2Proof/Machine/Calib.lean ====
section
/-!
DEFINITION. Calibration runs (R413 to R421) and the check-value units (R422 to R425).
-/

namespace Sys2Proof.Machine

/-! ### CAL_RUN (R416) -/

/-- The key under which an accepted run is pending: its items, or 64 for FACTORY. -/
def calFactoryKey : Nat := 64

/-- Is a motor channel in HOMING, CLOSED or LOST (R416)? -/
def anyMotorActs (m : Mach) : Bool := [0, 1, 2, 3].any (fun c => motState m c == 1 || motState m c == 2 || motState m c == 4)

/-- The checks of R416 beyond the parameter word, and the start of the run (R417 step 1). -/
def calStart (o : OpInfo) (key : Nat) (p : Packet) (m : Mach) : Mach × Rep :=
  if anyGrpRuns m || anyMotorActs m then stateReject m rHUB_DEV_STAT
  else if pending m .cal then (m, err stBUSY)
  else pend o .cal key p (setB rCAL_STAT fCAL_STAT_RUN true { m with calAt := m.now, calTrained := false, calEye := none })

def opCalRun : OpInfo := native 0x76 2 .topaz .h0p false true

/-- CAL_RUN (R416): FACTORY = 0. -/
def execCalRun (p : Packet) (s : State) : Host.Outcome State Fault Refusal :=
  runDratus (.calRun p) opCalRun (replyLen 2)
    (withLen (· == 1) (fun p =>
      let items := bits (par p 0) 5 0
      require (clean (par p 0) [(5, 3), (1, 0)] && items != 0) (calStart opCalRun items p))) p s

/-- CAL_RUN_FACTORY (R416): FACTORY = 1 with ITEMS = 0. -/
def execCalRunFactory (p : Packet) (s : State) : Host.Outcome State Fault Refusal :=
  runDratus (.calRunFactory p) opCalRun (replyLen 2)
    (withLen (· == 1) (fun p => require (par p 0 == 0x80000000) (calStart opCalRun calFactoryKey p))) p s

/-! ### CALIBRATION_DONE (R415 to R419) -/

/-- The item of instance `k` of CAL_RES (R421); 110 + p stands for the eye of port p. -/
def calItem (k : Nat) : Nat :=
  if k < 24 then 0 else if k < 46 then 1 else if k < 58 then 2 else if k < 62 then 3 else if k < 110 then 4 else 5

/-- The pass limit of instance `k` (R413). -/
def calLimit (k : Nat) : Option Nat :=
  if k < 24 then some 8 else if k < 46 then some 2000 else if k < 58 then some 8 else if k = 58 then some 5000
  else if k = 59 then some 10000 else if k < 62 then none else if k < 110 then some 30000 else none

/-- What a run gave for an instance: the words of its values, its residual, and the cause of its failure, 0 where it passes. -/
structure CalInst where
  vals : List Word
  res : Int
  cause : Nat
  deriving DecidableEq, Repr

/-- An instance that lies outside its capture range, or of which there is no measurement: cause 3. -/
def calWild : CalInst := { vals := [], res := 0, cause := 3 }

/-- An instance with its values and residual: cause 4 beyond the pass limit (R418). -/
def calJudge (k : Nat) (vals : List Word) (res : Int) : CalInst :=
  { vals := vals, res := res, cause := if (calLimit k).any (fun l => decide (l < res.natAbs)) then 4 else 0 }

def sumI (l : List Int) : Int := l.foldl (· + ·) 0

/-- Do all readings of a set of 256 lie from `lo` to `hi`? -/
def captured (lo hi : Int) (l : List Int) : Bool := l.length == 256 && l.all (fun x => decide (lo ≤ x) && decide (x ≤ hi))

/-- Item 0 of channel `k` (R418): OFS is the mean with the input shorted, GAIN brings CAL_REF to 4,095. The residual is the deviation of the
second means, in 1/16 LSB. DESIGN CHOICE (the spec has one residual for two points): the greater one, that at 0 V where they are equal. -/
def calAdc (k : Nat) (c : AdcCal) : CalInst :=
  if !captured (-48) 48 c.zero || !captured 4047 4143 c.ref || c.zero2.length != 256 || c.ref2.length != 256 then calWild
  else
    let ofs := sumI c.zero
    let gain := roundDiv (4095 * 256 * 32768) (sumI c.ref - ofs)
    let mean (l : List Int) : Int := sumI (l.map (fun x => (correctCode ofs gain x : Nat)))
    let z := mean c.zero2
    let r := mean c.ref2 - 4095 * 256
    calJudge k [w32 (unsgn 16 ofs * 65536 + unsgn 16 gain)] (roundDiv (if z.natAbs < r.natAbs then r else z) 16)

/-- Item 1 (R413): the gain that makes half full scale of the reading. -/
def calSense (k : Nat) (e : Nat × Nat) : CalInst :=
  let gain := roundDiv (500000 * 32768) e.1
  if e.1 = 0 ∨ 65536 ≤ gain then calWild else calJudge k [w32 gain.toNat] ((e.2 : Int) - 500000)

/-- The nominal frequency of the oscillator of instance `k` in mHz: SAF (R327), RC and crystal (R384), AON counter (R387). -/
def oscNominal (k : Nat) : Nat := if k = 58 then 100000000000 else if k = 60 then 1024000 else 32768000

/-- Item 3: the trim, which the SAF oscillator and the RC have, the frequency (the SAF oscillator's in Hz, the others' in mHz), the deviation
in ppm. -/
def calOsc (k : Nat) (e : Word × Nat) : CalInst :=
  let f := e.2
  let n := oscNominal k
  calJudge k [if k < 60 then e.1 else 0, w32 (if k = 58 then f / 1000 else f)] (roundDiv (((f : Int) - n) * 1000000) n)

/-- Item 4: the 24 codes and the residual. -/
def calTerm (k : Nat) (e : List Word × Int) : CalInst := if e.1.length = 24 then calJudge k e.1 e.2 else calWild

/-- Item 5: the scan of port `p`. One that was neither in UP nor in LOOP, or left it, fails with cause 5 (R417). -/
def calScan (m : Mach) (p : Nat) (out : CalOut) : CalInst :=
  match out.eyes.getD p none with
  | some w => if hasBit (m.calEye.getD (darkPorts m)) p then { vals := [], res := 0, cause := 5 } else { vals := [w ||| 0x80000000], res := 0, cause := 0 }
  | none => { vals := [], res := 0, cause := 5 }

/-- Instance `k`. The spec states a capture range for item 0 alone: which instances of the others lie outside theirs is the run's. -/
def calInst (m : Mach) (out : CalOut) (k : Nat) : CalInst :=
  if k < 24 then (out.adc[k]?.map (calAdc k)).getD calWild
  else if out.wild.contains k then calWild
  else if k < 46 then (out.sense[k - 24]?.map (calSense k)).getD calWild
  else if 58 ≤ k ∧ k < 62 then (out.osc[k - 58]?.map (calOsc k)).getD calWild
  else if 62 ≤ k ∧ k < 110 then (out.term[k - 62]?.map (calTerm k)).getD calWild
  else calScan m (k - 110) out

/-- The instances of an item. -/
def calInsts (i : Nat) : List Nat := (List.range 134).filter (fun k => calItem k == i)

/-- The failures of a run over `items`, as (instance, cause) (R418). -/
def calFails (m : Mach) (items : Nat) (out : CalOut) : List (Nat × Nat) :=
  ((List.range 134).filter (fun k => hasBit items (calItem k))).filterMap (fun k =>
    let c := (calInst m out k).cause
    if c = 0 then none else some (k, c))

/-- The order in which the items of a run end (R417): the oscillator gate last. -/
def calOrder : List Nat := [0, 1, 4, 5, 3]

/-- The cause of the first failure: by item in the order of the run, then by instance. -/
def firstCause (fails : List (Nat × Nat)) : Nat :=
  (calOrder.findSome? (fun i => (fails.find? (fun e => calItem e.1 == i)).map Prod.snd)).getD 0

/-- What a run shows in CAL_STAT and replies. -/
def calResult (key failed passed cause : Nat) (m : Mach) : Mach :=
  { m with calTrained := false, calEye := none } |> setB rCAL_STAT fCAL_STAT_RUN false |> setF rCAL_STAT fCAL_STAT_FAILED failed |>
    setF rCAL_STAT fCAL_STAT_PASSED passed |> setF rCAL_STAT fCAL_STAT_CAUSE cause |>
    finish .cal key (ok [w32 (failed <<< 8 + passed), w32 cause])

/-- The calendar time of a run (R419). -/
def calTime (m : Mach) : Nat := calMs m + b2n (uncertain m) * 2 ^ 63

/-- A new integrator record is written to the copy that does not hold the higher valid generation, and is used (R419). -/
def writeRecord (r : CalRec) (m : Mach) : Mach :=
  let gen := ((goodCopies m).map CalRec.gen).head?.getD 0
  let r := calSealed { r with gen := gen + 1, uid := Config.uid, time := calTime m }
  let zero := writesZero CalRec.gen (m.nvm.cal0.filter calPass) (m.nvm.cal1.filter calPass)
  m |> berylWrite (64 * (if zero then 2576 else 2592)) ((64 + r.len + 4 + 63) / 64)
      (fun s => if zero then { s with cal0 := some r } else { s with cal1 := some r }) |> useRecord 2 r

/-- The block that the instances of an item give. -/
def calBlock (m : Mach) (out : CalOut) (i : Nat) : List Word :=
  (calInsts i).flatMap (fun k =>
    let c := calInst m out k
    if i = 5 then c.vals else c.vals ++ [w32 (unsgn 32 c.res)])

/-- The block of item `i` in a record, where it holds one. -/
def blockOf (i : Nat) (r : Option CalRec) : Option (List Word) := r.bind (fun r => if hasBit r.mask i then some (tget [] r.blocks i) else none)

/-- The record of a run: the items of `passed` take new blocks, item 2 is that of the factory record (R414), the others stand as in the record in
use. -/
def newRecord (m : Mach) (passed : Nat) (out : CalOut) : CalRec :=
  let block (i : Nat) : Option (List Word) :=
    if i = 2 then (blockOf 2 (m.nvm.calFactory.filter calPass)).or (blockOf 2 m.cal)
    else if hasBit passed i then some (calBlock m out i)
    else blockOf i m.cal
  (List.range 6).foldl (fun r i => match block i with
    | some ws => { r with mask := setBit r.mask i, blocks := tput [] r.blocks i ws }
    | none => r) { origin := 1 }

/-- CPL_EYE of the ports that were scanned (R236). -/
def putEyes (out : CalOut) (m : Mach) : Mach :=
  forEach (List.range 24) (fun p n => match (calScan m p out).vals with
    | [w] => setReg (rCPL_EYE p) w n
    | _ => n) m

/-- CAL_REF fails its check (R415): more than 1 % from 2.500 V (cause 1), or its 256 conversions span more than 4 LSB (cause 2). -/
def refCause (out : CalOut) : Nat :=
  if out.refUv < 2475000 ∨ 2525000 < out.refUv then 1
  else match out.refCodes with
    | [] => 0
    | x :: xs => if 4 < xs.foldl max x - xs.foldl min x then 2 else 0

/-- A run over `items` ends. -/
def calEnds (items : Nat) (out : CalOut) (m : Mach) : Mach :=
  let needsRef := hasBit items 0 || hasBit items 1 || hasBit items 4
  if needsRef && refCause out != 0 then calResult items items 0 (refCause out) m
  else
    let fails := calFails m items out
    let failed := (List.range 6).foldl (fun a i => if fails.any (fun e => calItem e.1 == i) then setBit a i else a) 0
    let passed := items - failed
    let cause := firstCause fails
    let rec' := newRecord m passed out
    let m := m |> when (hasBit items 5) (putEyes out) |> when (hasBit items 4 && !m.calTrained) retrainPorts
    if passed = 0 then calResult items failed 0 cause m
    else if !out.writeOk || !berylWrites m then calResult items failed 0 6 m
    else m |> writeRecord rec' |> calResult items failed passed cause

/-- The restoration of Holsulo's calibration ends: a record whose items are all those of the factory record. -/
def calRestores (out : CalOut) (m : Mach) : Mach :=
  if !out.writeOk || !berylWrites m then calResult calFactoryKey 0 0 6 m
  else
    let f := (m.nvm.calFactory.filter calPass).getD {}
    m |> writeRecord { origin := 2, mask := f.mask, blocks := f.blocks } |> calResult calFactoryKey 0 0 0

/-- CALIBRATION_DONE (R418). -/
def execCalibrationDone (t : Nat) (out : CalOut) (s : State) : Host.Outcome State Fault Refusal :=
  runEvent t (fun m =>
    match m.pends.find? (fun p => p.kind == .cal) with
    | none => m
    | some p => if p.key = calFactoryKey then calRestores out m else calEnds p.key out m) s

/-- CALIBRATION_CHECK (R420): the record in use, or the values applied from it, disagree with the check word. -/
def execCalibrationCheck (t : Nat) (agree : Bool) (s : State) : Host.Outcome State Fault Refusal :=
  runEvent t (fun m => when (!topazStopped m && hubRuns m && !agree && m.cal.isSome) (raise 318 (detail 0xFF 3)) m) s

/-! ### Check-value units (R422 to R425) -/

/-- A 64-bit parameter of CV_JOB at words `k` and `k` + 1. -/
def par64 (p : Packet) (k : Nat) : Nat := (par p k).toNat + (par p (k + 1)).toNat * 2 ^ 32

/-- The CRC configuration that a job's words give. -/
def jobCfg (p : Packet) : CrcCfg :=
  { w := bits (par p 0) 14 8, poly := par64 p 1, init := par64 p 3, refIn := bit (par p 0) 4, refOut := bit (par p 0) 5,
    xorOut := par64 p 5 }

/-- Does the configuration lie within R422? -/
def crcCfgOk (c : CrcCfg) : Bool :=
  decide (8 ≤ c.w) && decide (c.w ≤ 64) && decide (c.poly < 2 ^ c.w) && decide (c.init < 2 ^ c.w) && decide (c.xorOut < 2 ^ c.w) &&
  c.poly % 2 == 1

/-- Is the job's word 0 within its field table, and its configuration, where it is used, within R422? -/
def jobOk (p : Packet) : Bool :=
  let w := par p 0
  clean w [(31, 30), (17, 16), (14, 8), (5, 4), (1, 0)] && bits w 17 16 != 3 && decide (8 ≤ bits w 14 8) &&
  decide (bits w 14 8 ≤ 64) && (bit w 30 || crcCfgOk (jobCfg p))

/-- The unit takes the job (R423). -/
def startJob (u : Nat) (p : Packet) (m : Mach) : Mach :=
  let w := par p 0
  let old := cvOf m u
  let cfg := if bit w 30 then old.cfg else jobCfg p
  let r : CvRec :=
    { reg := if bit w 30 then old.reg else cfg.init, cfg := cfg, keep := bit w 31, handle := (par p 8).toNat, off := (par p 9).toNat,
      len := (par p 10).toNat, fold := bits w 17 16, foldWord := par p 7 }
  m |> setCv u r |> setB (rCVU_STAT u) fCVU_STAT_OWNED true |> setB (rCVU_STAT u) fCVU_STAT_RUN true |>
    setF (rCVU_STAT u) fCVU_STAT_OWNER (ctxN p) |> setReg (rCVU_CFG u) w |> setReg (rCVU_POLY_LO u) (w32 cfg.poly) |>
    setReg (rCVU_POLY_HI u) (w32 (cfg.poly >>> 32))

def opCvJob : OpInfo := native 0x77 1 .topaz .any false true

def cvJobBody (p : Packet) (m : Mach) : Mach × Rep :=
  let u := bits (par p 0) 1 0
  let a := rCVU_STAT u
  let c := ctxN p
  if !jobOk p then (m, err stBAD_PARAM) else
  match bufRefused m c (par p 8).toNat with
  | some st => (m, err st)
  | none =>
    let owned := flag m a fCVU_STAT_OWNED
    let mine := owned && getF m a fCVU_STAT_OWNER == c
    if (bufOf m (hIdx (par p 8).toNat)).size < (par p 9).toNat + (par p 10).toNat then (m, err stBAD_PARAM)
    else if (owned && !mine) || flag m a fCVU_STAT_RUN then (m, err stBUSY)
    else if bit (par p 0) 30 && !mine then stateReject m a
    else pend opCvJob .cv u p (startJob u p m)

/-- CV_JOB (R423). -/
def execCvJob (p : Packet) (s : State) : Host.Outcome State Fault Refusal :=
  runDratus (.cvJob p) opCvJob (replyLen 2) (withLen (· == 11) cvJobBody) p s

/-- The bytes that a job feeds, in order (R422). -/
def jobBytes (mem : Tab Byte) (r : CvRec) : List Nat :=
  let data := poolBytes mem (hIdx r.handle) r.off r.len
  if r.fold = 1 then wordBytes r.foldWord ++ data else if r.fold = 2 then data ++ wordBytes r.foldWord else data

/-- A unit becomes free (R424). -/
def freeUnit (u : Nat) (m : Mach) : Mach :=
  m |> setB (rCVU_STAT u) fCVU_STAT_OWNED false |> setB (rCVU_STAT u) fCVU_STAT_RUN false |> setF (rCVU_STAT u) fCVU_STAT_OWNER 0

/-- The job of unit `u` ends. -/
def jobDone (u : Nat) (mem : Tab Byte) (m : Mach) : Mach :=
  let a := rCVU_STAT u
  if !flag m a fCVU_STAT_RUN then m else
  let r := cvOf m u
  let reg' := crcRun r.cfg r.reg (jobBytes mem r)
  let v := crcEnd r.cfg reg'
  m |> setCv u { r with reg := reg' } |> setB a fCVU_STAT_RUN false |> wrapInc a fCVU_STAT_JOBS |>
    setReg (rCVU_RES_LO u) (w32 v) |> setReg (rCVU_RES_HI u) (w32 (v >>> 32)) |> when (!r.keep) (freeUnit u) |> dueReleases |>
    finish .cv u (ok [w32 v, w32 (v >>> 32)])

/-- CV_JOB_DONE (R424). -/
def execCvJobDone (t : Nat) (unit : Fin 4) (s : State) : Host.Outcome State Fault Refusal :=
  runEventMem t (fun mem m => (mem, jobDone unit mem m)) s

end Sys2Proof.Machine
end

