-- ==== Sys2Proof/Machine/Topaz.lean ====
section
/-!
DEFINITION. The heartbeat of Topaz, its supervision by Onyx, and what a reset of Topaz ends (R65, R66, R326, R349, R406).
-/

namespace Sys2Proof.Machine

/-! ### A reset of Topaz (R65, R66) -/

/-- INTERNAL with command-internal as its word. -/
def internalRep : Rep := errW stINTERNAL 319

/-- What a reset of Topaz leaves of the operation `r` (R66, R424). A TIMING_SET that waits for its latch makes no further
effect. -/
def endPend (r : PendRec) (m : Mach) : Mach :=
  match r.kind with
  | .wear => m
  | .eye => setB (rCPL_EYE r.key) fCPL_EYE_VALID false m
  | .inject => { m with inject := none } |> setB rGAR_CAP_STAT fGAR_CAP_STAT_ACTIVE false
  | .verify => setUpdState 1 m
  | .cal => { m with calTrained := false, calEye := none } |> setB rCAL_STAT fCAL_STAT_RUN false |> setF rCAL_STAT fCAL_STAT_CAUSE 7
  | .cv => m |> freeUnit r.key |> dueReleases
  | .map => m
  | .timing => setGrp r.key { grpOf m r.key with tset := none } m

/-- Topaz carries the operation out. -/
def byTopaz (r : PendRec) : Bool := r.kind != .map

/-- Every packet queued for Topaz that has not completed, and every operation that has not ended, is answered INTERNAL. -/
def endTopazWork (m : Mach) : Mach :=
  let mine (h : Held) : Bool := h.accepted && h.topaz
  let held := m.held.filter mine
  let pends := m.pends.filter byTopaz
  let m := { m with held := m.held.filter (fun h => !mine h), pends := m.pends.filter (fun r => !byTopaz r) }
  let m := forEach held (fun h m => answer h.dest internalRep m) m
  forEach pends (fun r m => m |> endPend r |> answerTo r.dest internalRep) m

/-- Onyx resets Topaz (R326). A pause that overran ends with it. -/
def resetTopaz (m : Mach) : Mach :=
  let m := { m with
    saf := { m.saf with topazDown := true, hbAwait := true, hb := none, hbAt := m.now, hbPaused := false }
    upd := { m.upd with pause := none, pauseReset := false } }
  let interrupted := !(m.pends.filter byTopaz).isEmpty || m.held.any (fun h => h.accepted && h.topaz)
  m |> causeOn 18 |> raise 3 noInst |> endTopazWork |> when interrupted (raise 319 noInst)

/-! ### The heartbeat (R326) -/

/-- Onyx checks the heartbeat: Topaz runs, and the check is not suspended (R383, R406). -/
def hbChecked (m : Mach) : Bool :=
  onyxActs m && hubRuns m && m.upd.booted && !m.saf.topazDown && !m.saf.hbPaused

/-- The heartbeat after the new firmware has started ends the pause (P5 of R406), and with it the condition of ACTIVATE
(R407). -/
def pauseEnds (m : Mach) : Mach :=
  let m := when (hasBit m.saf.cond 20) (causeOff 20) m
  if m.upd.pause.isSome && m.upd.pauseReset then
    { m with upd := { m.upd with pause := none, pauseReset := false }, saf := { m.saf with hbPaused := false } } |> eventAll 8 [2] |> sendHeld
  else m

/-- A heartbeat with the count that Onyx expects. -/
def goodBeat (count : Nat) (m : Mach) : Mach :=
  let m := { m with saf := { m.saf with hb := some (count % 2 ^ 32), hbAt := m.now } }
  let m := if m.saf.hbAwait then causeOff 18 { m with saf := { m.saf with hbAwait := false } } else m
  pauseEnds m

/-- Topaz writes its heartbeat. A wrong count ends it, unless the check is suspended. -/
def heartbeat (count : Nat) (m : Mach) : Mach :=
  if !onyxActs m || !hubRuns m || !m.upd.booted || m.saf.topazDown then m else
  let right := match m.saf.hb with
    | none => true
    | some c => count % 2 ^ 32 == (c + 1) % 2 ^ 32
  if right || m.saf.hbPaused then goodBeat count m else resetTopaz m

/-- TOPAZ_HEARTBEAT (R326). -/
def execTopazHeartbeat (t : Nat) (count : Nat) (s : State) : Host.Outcome State Fault Refusal := runEvent t (heartbeat count) s

/-- The heartbeat is missing. -/
def topazWatchdog (m : Mach) : Mach :=
  when (hbChecked m && decide (m.saf.hbAt + ms (getF m rSAF_GEN_CFG fSAF_GEN_CFG_TOPAZ_WD) ≤ m.now)) resetTopaz m

/-- TOPAZ_WATCHDOG (R326). -/
def execTopazWatchdog (t : Nat) (s : State) : Host.Outcome State Fault Refusal := runEvent t topazWatchdog s

/-- Topaz has restarted: the event, the FAULT events held back, and placement follows the engines that are left (R65, R349). -/
def topazRestarted (m : Mach) : Mach :=
  if !m.saf.topazDown then m else
  { m with saf := { m.saf with topazDown := false, hbAt := m.now } } |> eventAll 8 [1] |> sendHeld |> fitEngines |> showRates

/-- TOPAZ_RESTARTED (R65). -/
def execTopazRestarted (t : Nat) (s : State) : Host.Outcome State Fault Refusal := runEvent t topazRestarted s

end Sys2Proof.Machine
end

