-- ==== Sys2Proof/Machine/Contexts.lean ====
section
/-!
DEFINITION. The system opcodes (group 0): contexts (R72), permissions, paths, groups and events (R80), identification and status,
the provisioning lock (R453) and SYSTEM_RESET (R454).
-/

namespace Sys2Proof.Machine

/-! ### NOP, IDENTIFY, GET_STATUS, LOAD_QUERY, TIME_GET -/

/-- NOP (R79): up to 8 words, echoed. -/
def execNop (p : Packet) (s : State) : Host.Outcome State Fault Refusal :=
  runDratus (.nop p) (native 0x00 0 .hw .any true true) (fun p _ => p.params.length)
    (withLen (fun n => decide (n ≤ 8)) (fun p m => (m, ok p.params))) p s

/-- The six words of IDENTIFY (R80). -/
def identifyBody (_ : Packet) (m : Mach) : Mach × Rep :=
  (m, ok ([rHUB_DEV_ID, rHUB_REV, rHUB_UID_LO, rHUB_UID_HI, rHUB_FEAT, rUPD_RUN_VER].map (viewReg m)))

/-- IDENTIFY (R80). -/
def execIdentify (p : Packet) (s : State) : Host.Outcome State Fault Refusal :=
  runDratus (.identify p) (native 0x01 0 .topaz .any true true) (replyLen 6) (withLen (· == 0) identifyBody) p s

/-- The two words of GET_STATUS (R80). -/
def getStatusBody (_ : Packet) (m : Mach) : Mach × Rep := (m, ok [viewReg m rHUB_DEV_STAT, viewReg m rFLT_SUMMARY])

/-- GET_STATUS (R80). -/
def execGetStatus (p : Packet) (s : State) : Host.Outcome State Fault Refusal :=
  runDratus (.getStatus p) (native 0x05 0 .topaz .any true true) (replyLen 2) (withLen (· == 0) getStatusBody) p s

/-- LOAD_QUERY (R80): HUB_LOAD is read, and PEAK cleared (R450). -/
def execLoadQuery (p : Packet) (s : State) : Host.Outcome State Fault Refusal :=
  runDratus (.loadQuery p) (native 0x06 0 .hw .any false true) (replyLen 1)
    (withLen (· == 0) (fun _ m =>
      let (w, m) := readReg rHUB_LOAD m
      (m, ok [w]))) p s

/-- The two words of TIME_GET (R80). -/
def timeGetBody (_ : Packet) (m : Mach) : Mach × Rep :=
  (m, ok [w32 (calMs m), w32 (b2n (uncertain m) <<< 31 + calMs m >>> 32)])

/-- TIME_GET (R80). -/
def execTimeGet (p : Packet) (s : State) : Host.Outcome State Fault Refusal :=
  runDratus (.timeGet p) (native 0x0C 0 .topaz .any true true) (replyLen 2) (withLen (· == 0) timeGetBody) p s

/-! ### CONTEXT_OPEN, CONTEXT_CLOSE (R72) -/

/-- The queues of a context return to sequence 0; packets that have not completed are not answered. -/
def dropQueues (c : Nat) (m : Mach) : Mach :=
  { m with
    queues := tdrop (8 * c) (8 * c + 8) m.queues
    held := m.held.filter (fun h => !(h.accepted && h.ctx == c))
    polls := m.polls.filter (fun r => r.dest.host != c)
    pends := m.pends.map (fun r => if r.dest.any (fun dest => dest.host == c) then { r with dest := none } else r) }

/-- The event state of a context at CONTEXT_OPEN (R86, R458): nothing waits, the counter starts at 0, no path. -/
def dropEvents (c : Nat) (m : Mach) : Mach :=
  { m with wait := m.wait.filter (fun w => !isEventOf c w) } |> setCtx c {} |> clearReg (rHUB_EVT_STAT c) |>
    clearReg (rHUB_EVT_SEEN c) |> clearReg (rHUB_EVT_PATH c)

/-- The check-value units of a context become free (R424). -/
def freeUnits (c : Nat) (m : Mach) : Mach :=
  forEach (List.range 4) (fun u m =>
    when (flag m (rCVU_STAT u) fCVU_STAT_OWNED && getF m (rCVU_STAT u) fCVU_STAT_OWNER == c)
      (fun m => m |> freeUnit u |> dropPend .cv u) m) m

/-- What KEEP = 0 gives up: buffers, layers, units, and the legacy layers of Bamut traffic. -/
def giveUp (c : Nat) (m : Mach) : Mach :=
  m |> freeUnits c |> freeContext c |> setPix (fun s => { s with bamut := tput {} s.bamut c {} }) |> dueReleases

/-- The context is opened or opened again. -/
def openContext (c : Nat) (keep : Bool) (m : Mach) : Mach :=
  m |> discardPending c |> when (!keep) (giveUp c) |> dropQueues c |> dropEvents c |> setReg (rHUB_CTX_STAT c) 0 |>
    setB (rHUB_CTX_CFG c) fHUB_CTX_CFG_OPEN true

/-- CONTEXT_CLOSE acts as CONTEXT_OPEN with KEEP = 0 and then closes the context. -/
def closeContext (c : Nat) (m : Mach) : Mach := m |> openContext c false |> setB (rHUB_CTX_CFG c) fHUB_CTX_CFG_OPEN false

/-- HUB_CTX_OPPERM and HUB_CTX_WPERM of the context (R80). -/
def openReply (m : Mach) (c : Nat) : Rep := ok [viewReg m (rHUB_CTX_OPPERM c), viewReg m (rHUB_CTX_WPERM c)]

/-- CONTEXT_OPEN (R72, R80). -/
def execContextOpen (p : Packet) (s : State) : Host.Outcome State Fault Refusal :=
  runDratus (.contextOpen p) (native 0x02 0 .topaz .any false true) (replyLen 2)
    (withLen (· == 1) (fun p => require (clean (par p 0) [(0, 0)]) (fun m =>
      let m := openContext (ctxN p) (bit (par p 0) 0) m
      (m, openReply m (ctxN p))))) p s

/-- CONTEXT_CLOSE (R72). -/
def execContextClose (p : Packet) (s : State) : Host.Outcome State Fault Refusal :=
  runDratus (.contextClose p) (native 0x03 0 .topaz .any false false) noReply
    (withLen (· == 0) (fun p m => (closeContext (ctxN p) m, ok []))) p s

/-! ### Permissions, paths, groups, events (R80) -/

/-- SET_PERMISSIONS: the bits that always read as they do stand (R73). -/
def setPermissionsBody (p : Packet) (m : Mach) : Mach × Rep :=
  let c := bits (par p 0) 1 0
  require (clean (par p 0) [(1, 0)] && c != 0) (fun m =>
    (m |> setReg (rHUB_CTX_WPERM c) (par p 1 &&& 0x03FFBFFF) |> setReg (rHUB_CTX_OPPERM c) (par p 2 &&& 0x1FF ||| 1), ok [])) m

/-- SET_PERMISSIONS (R80). -/
def execSetPermissions (p : Packet) (s : State) : Host.Outcome State Fault Refusal :=
  runDratus (.setPermissions p) (native 0x08 1 .topaz .h0p false false) noReply (withLen (· == 3) setPermissionsBody) p s

/-- EVENT_SUBSCRIBE: the mask, and the path on which the packet came (R86). -/
def eventSubscribeBody (p : Packet) (m : Mach) : Mach × Rep :=
  let c := ctxN p
  require (clean (par p 0) [(15, 0)]) (fun m =>
    (m |> setF (rHUB_CTX_CFG c) fHUB_CTX_CFG_EVT_MASK (par p 0).toNat |> setF (rHUB_EVT_PATH c) fHUB_EVT_PATH_PATH p.path, ok [])) m

/-- EVENT_SUBSCRIBE (R80). -/
def execEventSubscribe (p : Packet) (s : State) : Host.Outcome State Fault Refusal :=
  runDratus (.eventSubscribe p) (native 0x09 1 .hw .any false false) noReply (withLen (· == 1) eventSubscribeBody) p s

def pathBindBody (p : Packet) (m : Mach) : Mach × Rep :=
  let w := par p 0
  let a := rHUB_PATH_BIND (bits w 4 0)
  require (clean w [(31, 31), (9, 8), (4, 0)] && decide (bits w 4 0 ≤ 28)) (fun m =>
    (m |> setF a fHUB_PATH_BIND_EN (bits w 31 31) |> setF a fHUB_PATH_BIND_CTX (bits w 9 8), ok [])) m

/-- PATH_BIND (R80). -/
def execPathBind (p : Packet) (s : State) : Host.Outcome State Fault Refusal :=
  runDratus (.pathBind p) (native 0x0A 1 .topaz .h0p false false) noReply (withLen (· == 1) pathBindBody) p s

def groupAssignBody (p : Packet) (m : Mach) : Mach × Rep :=
  let w := par p 0
  let owner := bits w 9 8
  require (clean w [(15, 12), (9, 8), (4, 0)] && decide (bits w 4 0 < 8)) (fun m =>
    ({ m with owners := tput (0, 1) m.owners (bits w 4 0) (owner, setBit (bits w 15 12) owner) }, ok [])) m

/-- GROUP_ASSIGN (R80): the owner's bit among the contributors is forced to 1. -/
def execGroupAssign (p : Packet) (s : State) : Host.Outcome State Fault Refusal :=
  runDratus (.groupAssign p) (native 0x0B 1 .topaz .h0p false false) noReply (withLen (· == 1) groupAssignBody) p s

/-! ### PROVISION_LOCK (R453) -/

/-- LOCK_CNT after one more PROVISION_LOCK. -/
def lockCount (m : Mach) : Nat := capN 0xFFFF (getF m rHUB_LOCK fHUB_LOCK_LOCK_CNT + 1)

/-- The lock: LOCKED, the settings as in force, the lock line. -/
def lockDevice (m : Mach) : Mach :=
  let n := lockCount m
  m |> setB rHUB_LOCK fHUB_LOCK_LOCKED true |> saveSettings |> lockLine true n |>
    setF rHUB_LOCK fHUB_LOCK_LOCK_CNT n

/-- `writeOk`: both Beryl writes succeed. -/
def provisionLockBody (writeOk : Bool) (_ : Packet) (m : Mach) : Mach × Rep :=
  if locked m || updState m != 0 || pending m .cal then stateReject m rHUB_DEV_STAT
  else if !layoutFits m then (m, err stNO_RESOURCE)
  else if !writeOk || !berylWrites m then (raise 314 noInst m, errW stINTERNAL 314)
  else (lockDevice m, ok [])

/-- PROVISION_LOCK (R453). Under the golden image the form of every packet (`runPacket`) lets it through: R453 refuses it. -/
def execProvisionLock (p : Packet) (writeOk : Bool) (s : State) : Host.Outcome State Fault Refusal :=
  runDratus (.provisionLock p writeOk) (native 0x07 0 .topaz .h0p false false) noReply
    (withLen (· == 0) (fun p m => if golden m then stateReject m rHUB_DEV_STAT else provisionLockBody writeOk p m)) p s

/-! ### SYSTEM_RESET (R454) -/

/-- The common part of both kinds. -/
def systemReset (i : Instr) (kind : Nat) (body : Mach → Mach × Rep) (p : Packet) (s : State) : Host.Outcome State Fault Refusal :=
  runDratus i (native 0x0D 0 .topaz .h0 false false) noReply
    (withLen (· == 1) (fun p => require (par p 0 == w32 kind) (fun m =>
      if m.pwr.entry.isSome || m.upd.pause.isSome then (m, err stBUSY) else body m))) p s

/-- KIND 0, RESTART: the reply, then a chip reset. -/
def restartBody (m : Mach) : Mach × Rep := ({ m with flt := { m.flt with dueReset := some 7 } }, ok [])

/-- SYSTEM_RESET RESTART (R454). -/
def execRestart (p : Packet) (s : State) : Host.Outcome State Fault Refusal := systemReset (.restart p) 0 restartBody p s

/-- KIND 1, UNPROVISION: armed for 10 s. -/
def unprovisionBody (m : Mach) : Mach × Rep :=
  if !locked m || anyGrpRuns m || !outsOff m || updState m != 0 then stateReject m rHUB_DEV_STAT
  else ({ m with saf := { m.saf with unprov := some (m.now + sec 10) } } |> setB rHUB_LOCK fHUB_LOCK_ARMED true, ok [])

/-- SYSTEM_RESET UNPROVISION (R454). -/
def execUnprovision (p : Packet) (s : State) : Host.Outcome State Fault Refusal := systemReset (.unprovision p) 1 unprovisionBody p s

/-! ### Packets without an opcode -/

/-- The opcode of a row that no table defines. -/
def opUnknown (ver op : Nat) : OpInfo := ⟨ver, op, 0, .hw, .any, 0, false, false⟩

/-- BAD_OPCODE (R79): the checks of R56 up to check 7. -/
def execBadOpcode (p : Packet) (ver op : Nat) (s : State) : Host.Outcome State Fault Refusal :=
  match arrive (.badOpcode p ver op) (opUnknown ver op) false p s.blk with
  | .stop m => done s m
  | .go m => done s m

end Sys2Proof.Machine
end

