-- ==== Sys2Proof/Machine/Power.lean ====
section
/-!
DEFINITION. Power states: SET_POWER (R370), entry and its abort points (R371 to R374), wake (R375), the return to RUN (R378, R381,
R388), and the load windows of HUB_LOAD and GAR_LOAD (R76, R78, R284).
-/

namespace Sys2Proof.Machine

/-! ### SET_POWER (R370) -/

/-- The homes of the roles of retention banks (R382): a fenced bank gives its role to a spare, the lowest bank first. -/
def spareBanks (m : Mach) : List Nat := [14, 15].filter (fun b => !hasBit m.nvm.pfBank b)
def fencedRoles (m : Mach) : List Nat := (List.range 14).filter (hasBit m.nvm.pfBank)

/-- The bank that holds the content of role `r`; none where no healthy bank is left for it. -/
def homeBank (m : Mach) (r : Nat) : Option Nat :=
  if hasBit m.nvm.pfBank r then ((fencedRoles m).zip (spareBanks m)).lookup r else some r

/-- A request that R370 refuses for the state of the device. -/
def powerRefused (m : Mach) (target : Nat) : Bool :=
  (target != 0 && anyGrpRuns m) || (decide (2 ≤ target) && !outsOff m) || updState m != 0 || m.upd.pause.isSome ||
  pending m .eye || pending m .inject || pending m .cal || hwSafe m || flag m rFLT_FATAL fFLT_FATAL_SET

/-- Is the wear snapshot to be completed before the entry goes on (step E2 of R371, R162)? -/
def snapshotFirst (m : Mach) (target : Nat) : Bool :=
  (target == 3 || target == 4) && flashThere m && !golden m && !(allSlices m).isEmpty

/-- Step E1 of R371. -/
def startEntry (target : Nat) (m : Mach) : Mach :=
  let e : EntryRec := { target := target, fromIdle := m.pwr.st == 1, step := if snapshotFirst m target then 2 else 3 }
  { m with pwr := { m.pwr with entry := some e } } |> setB rPWR_STAT fPWR_STAT_ENTRY true |> setF rPWR_STAT fPWR_STAT_ABORT_AP 0 |> setB rPWR_TARGET fPWR_TARGET_PEND true

/-- SET_POWER to state `target`, once its parameter word stands. IDLE is left at once (R368). -/
def setPowerTo (target : Nat) (m : Mach) : Mach × Rep :=
  if m.pwr.entry.isSome then (m, err stBUSY) else
  let m := setF rPWR_STAT fPWR_STAT_LAST_REQ target m
  if m.pwr.st = target then (m, ok [])
  else if powerRefused m target then stateReject m rPWR_STAT
  else if target = 3 ∧ ((homeBank m 0).isNone ∨ (homeBank m 1).isNone) then (m, err stNO_RESOURCE)
  else if target = 0 then
    (m |> setReg rPWR_TARGET 0 |> setPower 0, ok [])
  else (startEntry target m, ok [])

/-- The body of a row of SET_POWER: STATE is the row's. -/
def setPowerBody (target : Nat) : Packet → Mach → Mach × Rep :=
  withLen (· == 1) (fun p => require (par p 0 == w32 target) (setPowerTo target))

/-- SET_POWER with STATE 0 (R370). -/
def execSetPowerRun (p : Packet) (s : State) : Host.Outcome State Fault Refusal :=
  runDratus (.setPowerRun p) (native 0x04 0 .topaz .any false false) noReply (setPowerBody 0) p s

/-- SET_POWER with STATE 1. -/
def execSetPowerIdle (p : Packet) (s : State) : Host.Outcome State Fault Refusal :=
  runDratus (.setPowerIdle p) (native 0x04 0 .topaz .any false false) noReply (setPowerBody 1) p s

/-- SET_POWER with STATE 2. -/
def execSetPowerSleep (p : Packet) (s : State) : Host.Outcome State Fault Refusal :=
  runDratus (.setPowerSleep p) (native 0x04 0 .topaz .h0 false false) noReply (setPowerBody 2) p s

/-- SET_POWER with STATE 3. -/
def execSetPowerDeep (p : Packet) (s : State) : Host.Outcome State Fault Refusal :=
  runDratus (.setPowerDeep p) (native 0x04 0 .topaz .h0 false false) noReply (setPowerBody 3) p s

/-- SET_POWER with STATE 4. -/
def execSetPowerOff (p : Packet) (s : State) : Host.Outcome State Fault Refusal :=
  runDratus (.setPowerOff p) (native 0x04 0 .topaz .h0 false false) noReply (setPowerBody 4) p s

/-! ### Entry (R371 to R373) -/

/-- The entry under way, at its present step. -/
def entryStep (m : Mach) (k : Nat) : Option EntryRec := m.pwr.entry.filter (fun e => e.step == k)

/-- The entry goes on to step `k`. -/
def toStep (k : Nat) (m : Mach) : Mach :=
  { m with pwr := { m.pwr with entry := m.pwr.entry.map (fun e => { e with step := k }) } }

/-- The wake to act on at an abort point; none is tested under Bamut-compatible entry (R373). -/
def abortWake (m : Mach) (e : EntryRec) : Option Nat := if flag m rPWR_CFG fPWR_CFG_BAMUT_ENTRY then none else e.wake

/-- The entry is over: reached or abandoned. -/
def endEntry (m : Mach) : Mach :=
  { m with pwr := { m.pwr with entry := none } } |> setB rPWR_STAT fPWR_STAT_ENTRY false |> setB rPWR_TARGET fPWR_TARGET_PEND false

/-- The entry aborts at abort point `k` (R372). -/
def abortEntry (k : Nat) (e : EntryRec) (src : Nat) (m : Mach) : Mach :=
  m |> endEntry |> setF rPWR_TARGET fPWR_TARGET_MODE (b2n e.fromIdle) |> setF rPWR_STAT fPWR_STAT_ABORT_AP k |>
    setF rPWR_STAT fPWR_STAT_WAKE src |> eventAll 2 [w32 e.target, w32 src]

/-- A wear slice is written (R161); during an entry AP1 is tested after it, and the entry goes on once the pass is done. -/
def wearSlice (m : Mach) : Mach :=
  if !hubRuns m || topazStopped m || golden m then m else
  let pass := m.nvm.wearPass
  let m := writeSlice m
  match entryStep m 2 with
  | none => m
  | some e =>
    match abortWake m e with
    | some src => abortEntry 1 e src m
    | none => if m.nvm.wearPass = pass then m else toStep 3 m

/-- WEAR_SLICE_WRITE (R161, R371 E2). -/
def execWearSliceWrite (t : Nat) (s : State) : Host.Outcome State Fault Refusal := runEvent t wearSlice s

/-- The transmitter of a port in UP sends IDLE_REQ and enters idle (R227, R371 E4). -/
def idlePort (p : Nat) (m : Mach) : Mach :=
  if portState m p ≠ 4 ∨ flag m (rCPL_STATE p) fCPL_STATE_TX_IDLE = true then m else
  idlePorts (withMates m p) m

/-- Topaz has saved its context before a wait for state `target` (R371 E3). An orderly entry stores the calendar time in Beryl (R388). -/
def contextSaved (target : Nat) (m : Mach) : Mach :=
  let m := m |> setF rPWR_TARGET fPWR_TARGET_MODE target |> saveTrialMs
  { m with pwr := { m.pwr with berylMs := calMs m } }

/-- Topaz executes its wait-for-state instruction (R371 E3): AP2. -/
def waitForState (m : Mach) : Mach :=
  match entryStep m 3 with
  | none => m
  | some e =>
    if topazStopped m then m else
    let m := contextSaved e.target m
    match abortWake m e with
    | some src => abortEntry 2 e src m
    | none => if e.target = 1 then m |> endEntry |> setPower 1 else m |> toStep 4 |> forEach (List.range 24) idlePort

/-- WAIT_FOR_STATE (R371). -/
def execWaitForState (t : Nat) (s : State) : Host.Outcome State Fault Refusal := runEvent t waitForState s

/-- Every accepted packet has run to completion, and every operation has ended (R371 E4). -/
def drained (m : Mach) : Bool := !m.held.any (fun h => h.accepted) && m.polls.isEmpty && m.pends.isEmpty

/-- The ports whose link is up while their transmitter is idle, whatever their receiver hears (R228, R372). -/
def idledPorts (m : Mach) : List Nat :=
  (List.range 24).filter (fun p => flag m (rCPL_STATE p) fCPL_STATE_TX_IDLE && decide (4 ≤ portState m p) && decide (portState m p ≤ 7))

/-- The last reply has left: AP3, then the point of no return (R371 E5). -/
def entryDrain (m : Mach) : Mach :=
  match entryStep m 4 with
  | none => m
  | some e =>
    if !drained m then m else
    match abortWake m e with
    | some src => m |> forEach (idledPorts m) txExit |> abortEntry 3 e src
    | none => m |> toStep 5 |> causeOn 0

/-- ENTRY_DRAIN (R371). -/
def execEntryDrain (t : Nat) (s : State) : Host.Outcome State Fault Refusal := runEvent t entryDrain s

/-- A port whose domain is stopped: OFF, with the live bits at 0 (R224), the adaptation frozen (R226) and no loop. -/
def stopPort (p : Nat) (m : Mach) : Mach :=
  m |> setF (rCPL_STATE p) fCPL_STATE_STATE 0 |> setB (rCPL_STATE p) fCPL_STATE_TX_IDLE true |> setF (rCPL_DET_STAT p) ⟨28, 4⟩ 0 |>
    setF (rCPL_EB p) fCPL_EB_LEVEL 0 |> setB (rCPL_RXEQ_STAT p) fCPL_RXEQ_STAT_FROZEN true |> setPort p {}

/-- The AON domain records the calendar and its counter (R388). -/
def recordTime (m : Mach) : Mach :=
  { m with pwr := { m.pwr with recMs := calMs m, recAon := aonCount m, vaonLost := false } }

/-- A wake seen during the entry starts the exit at once (R373). -/
def latchWake (wake : Option Nat) (m : Mach) : Mach :=
  match wake with
  | none => m
  | some k => { m with pwr := { m.pwr with exiting := true } } |> setF rPWR_STAT fPWR_STAT_WAKE k

/-- The target state has been reached (R371 E6, E7). -/
def stateReached (m : Mach) : Mach :=
  match entryStep m 6 with
  | none => m
  | some e =>
    let m := m |> recordTime |> endEntry
    let m :=
      if e.target = 2 then m |> forEach (List.range 24) (fun p m => m |> endScan p |> stopPort p) |> setPower 2
      else if e.target = 3 then setPower 3 m
      else chipReset 0 4 m
    latchWake e.wake m

/-- STATE_REACHED (R371). -/
def execStateReached (t : Nat) (s : State) : Host.Outcome State Fault Refusal := runEvent t stateReached s

/-! ### Wake (R375) -/

/-- Is an entry under way, or the device in SLEEP, DEEP or OFF? -/
def wakeActs (m : Mach) : Bool := m.pwr.entry.isSome || m.pwr.st == 2 || m.pwr.st == 3 || m.pwr.st == 4

/-- WAKE has been at level `high` for `cycles` AON cycles: is that its active level, for long enough (R375)? -/
def wakeHeld (high : Bool) (cycles : Nat) (m : Mach) : Bool :=
  high == flag m rPWR_CFG fPWR_CFG_WAKE_POL && decide (getF m rPWR_CFG fPWR_CFG_WAKE_FILT ≤ cycles)

/-- WAKE_PIN (R375, source 0). -/
def execWakePin (w : WakeLevel) (s : State) : Host.Outcome State Fault Refusal :=
  runEvent w.t (fun m => when (wakeActs m && wakeHeld w.high w.cycles m) (wakeEvent 0) m) s

/-- The instant that RTC_ALARM names. -/
def alarmMs (m : Mach) : Nat := getF m rRTC_ALARM_HI fRTC_ALARM_HI_ALARM * 2 ^ 32 + (reg m rRTC_ALARM_LO).toNat

/-- CALENDAR_ALARM (R375, source 1). -/
def execCalendarAlarm (t : Nat) (s : State) : Host.Outcome State Fault Refusal :=
  runEvent t (fun m =>
    when (wakeActs m && flag m rRTC_ALARM_HI fRTC_ALARM_HI_EN && decide (alarmMs m ≤ calMs m)) (wakeEvent 1) m) s

/-- Ticks of the AON counter since the state was reached. -/
def ticksSince (m : Mach) : Nat := (aonCount m + 2 ^ 48 - m.pwr.recAon) % 2 ^ 48

/-- WAKE_TIMER (R375, source 2). -/
def execWakeTimer (t : Nat) (s : State) : Host.Outcome State Fault Refusal :=
  runEvent t (fun m =>
    let n := (reg m rPWR_WAKE_TMR).toNat
    when ((m.pwr.st == 2 || m.pwr.st == 3 || m.pwr.st == 4) && n != 0 && decide (n ≤ ticksSince m)) (wakeEvent 2) m) s

/-! ### Elapsed time (R388) -/

/-- PWR_SLEEP_TIME. -/
def showElapsed (ms : Nat) (bound : Bool) (m : Mach) : Mach :=
  m |> setF rPWR_SLEEP_TIME fPWR_SLEEP_TIME_MS (capN (2 ^ 31 - 1) ms) |> setB rPWR_SLEEP_TIME fPWR_SLEEP_TIME_BOUND bound

/-- The elapsed time at the wake. -/
def wakeTime (m : Mach) : Mach :=
  if m.pwr.vaonLost then calendarAfterLoss m
  else if uncertain m then
    let ms := ticksSince m * 1000 / 1400
    m |> setCalendar (m.pwr.recMs + ms) |> showElapsed ms true
  else showElapsed (calMs m - m.pwr.recMs) false m

/-- The clocks of the stopped domains start again: windows and ticks begin afresh, and what they had counted goes (R459). Topaz resumes its
heartbeat where it was (R326, R378). -/
def clocksStart (m : Mach) : Mach :=
  { m with
    pwr := { m.pwr with exiting := false, vaonLost := false, hubAt := m.now, loadAt := m.now }
    tickAt := m.now
    saf := { m.saf with hbAt := m.now }
    thm := { m.thm with baseAt := m.now, hist := [] }
    tiles := m.tiles.map (fun e => (e.1, { e.2 with win := (0, 0), flood := (0, 0), flooded := false }))
    ports := m.ports.map (fun e => (e.1, { e.2 with errIx := 0, errN := 0, errHit := false })) } |> showSource

/-! ### The return from SLEEP (R378, R381) -/

/-- Every context is closed and every handle ceases (R381). -/
def ceaseHandles (m : Mach) : Mach :=
  let m := forEach (usedLays m) (fun i m =>
    m |> strikePending i |> (fun m => forEach (List.range 8) (fun g m => strikeLatched g i m) m) |> dropLay i) m
  m |> forEach (usedBufs m) dropBuf |> setPix (fun s => { s with
      streams := []
      gpend := []
      meshPend := []
      bamut := [] }) |>
    forEach (List.range 4) (fun c m => m |> openContext c true |> freeUnits c |> setB (rHUB_CTX_CFG c) fHUB_CTX_CFG_OPEN false)

/-- Placement is built again from nothing (R381): every region that is not fenced takes its content as at a start, and every tile its
engines. -/
def rebuildPlacement (m : Mach) : Mach :=
  m |> setPix (fun s => { s with plan := [], planNew := [] }) |>
    forEach ((List.range 64).filter (fun r => regionUse m r != 14)) (fun r => setRegionUse r 0) |> assignAll |> placePool |> showRates

/-- Topaz's own state where its context is lost: as it starts from its slot (R381). -/
def restartTopaz (m : Mach) : Mach :=
  m |> (fun m => match chooseArea (runFmts m) m with
      | some (b, s) => useArea b s m
      | none => m) |> startCal |> loadLock |> showLog |> showUpd |> eventAll 8 [3]

/-- A motor channel parked with CAUSE 8 closes again from its kept count (R306). -/
def recloseMotor (c : Nat) (m : Mach) : Mach :=
  let parked := motState m c == 3 && getF m (rMOT_STAT c) fMOT_STAT_CAUSE == 8
  let fenced := hasBit (getF m rFLT_FENCE_MISC fFLT_FENCE_MISC_MOTOR) c
  if !parked || fenced || motFunc m c = 0 || !banksOk m c then m
  else
    let m := closeMotor c false true m
    setMot c { motOf m c with level := posReg m c } m

/-- The live memories that fail their check (R381): units 0 to 31 hold the state of Topaz, 32 to 47 placement. -/
def sleepUnits (failed : Nat) (m : Mach) : Mach :=
  let bad := (List.range 48).filter (hasBit failed)
  m |> forEach bad retentionFails |>
    when (bad.any (fun u => decide (32 ≤ u))) (fun m => m |> ceaseHandles |> rebuildPlacement) |>
    when (bad.any (fun u => decide (u < 32))) restartTopaz

/-- The device returns from SLEEP. -/
def wakeSleep (failed : Nat) (m : Mach) : Mach :=
  m |> setPower 0 |> raiseLate |> sleepUnits failed |> forEach (List.range 24) applyRole |> startProducers |>
    forEach [0, 1, 2, 3] recloseMotor |> startCause

/-! ### The return from DEEP (R378, R381, R382) -/

/-- The bits of a register that retention keeps, and those of HUB_SCRATCH, which DEEP clears (R457). -/
def scratch (a : Nat) : Bool := decide (rHUB_SCRATCH 0 ≤ a) && decide (a ≤ rHUB_SCRATCH 3)

/-- Which content classes a wake finds intact: by role 0 to 13. -/
def roleLost (m : Mach) (failed : Nat) (r : Nat) : Bool :=
  match homeBank m r with
  | none => true
  | some b => hasBit failed b

/-- A register takes bits `k` of `old`. -/
def keepBits (a : Nat) (k old : Word) (m : Mach) : Mach := setReg a ((reg m a &&& ~~~ k) ||| (old &&& k)) m

/-- Configuration (banks 6 to 9): registers, coefficient banks, chain members, Aurora programs, curves and group owners. -/
def restoreConfig (old : Mach) (m : Mach) : Mach :=
  let m := forEach (old.regs.filter (fun e => cfgLost e.1 && !scratch e.1)) (fun e m => keepBits e.1 (cfgMask e.1) e.2 m) m
  loadItems (settingsNow 0 0 old) { m with owners := old.owners }

/-- Onyx (banks 0 and 1): causes, producers, modes and safety settings. -/
def restoreOnyx (old : Mach) (m : Mach) : Mach :=
  let full (a : Nat) : Bool := a == rSAF_BEAM || (List.range 4).any (fun k => a == rSAF_PROD_STAT k)
  let m := forEach (old.regs.filter (fun e => addrBlock e.1 == 14)) (fun e m =>
    keepBits e.1 (if full e.1 then 0xFFFFFFFF else if e.1 = rSAF_CAUSE then 0x00FF0000 else cfgMask e.1) e.2 m) m
  let saf : SafState :=
    { cond := (old.saf.cond &&& 0xFF0010) ||| 1, recAt := old.saf.recAt, provLast := old.saf.provLast, provSync := old.saf.provSync,
      restored := true, started := old.saf.started, hbAt := m.now }
  { m with saf := saf }

/-- Topaz (banks 2 to 5): the store, the update and the calibration as it showed them. -/
def restoreTopaz (old : Mach) (m : Mach) : Mach :=
  let mine (a : Nat) : Bool := addrBlock a == 19 || addrBlock a == 21 || addrBlock a == 22 || a == rHUB_LOCK
  let m := forEach (old.regs.filter (fun e => mine e.1)) (fun e m => setReg e.1 e.2 m) m
  { m with cal := old.cal }

/-- Tile identity records and dead-pixel lists (banks 10 and 11). -/
def restoreTiles (old : Mach) (m : Mach) : Mach :=
  let isStat (a : Nat) : Bool := (List.range 24).any (fun t => a == rTIL_STAT t)
  let m := forEach (old.regs.filter (fun e => addrBlock e.1 == 8 && !isStat e.1)) (fun e m => setReg e.1 e.2 m) m
  let m := { m with tiles := old.tiles.filterMap (fun e =>
    if e.2.known then some (e.1, { known := true, ident := e.2.ident, cert := e.2.cert }) else none) }
  forEach old.pix.tiles (fun e m => m |> setTilePix e.1 { pixOf m e.1 with deads := e.2.deads } |> showDead e.1) m

/-- Jasper's sticky bits and counters, and the state of the wear pass (banks 12 and 13). -/
def restoreJasper (old : Mach) (m : Mach) : Mach :=
  let kept (a : Nat) : Bool :=
    a == rFLT_SUMMARY || (List.range 10).any (fun w => a == rFLT_STICKY w) || (List.range 320).any (fun s => a == rFLT_TRANS s)
  let m := forEach (old.regs.filter (fun e => addrBlock e.1 == 15 && kept e.1)) (fun e m => setReg e.1 e.2 m) m
  { m with
    flt := { m.flt with trans := old.flt.trans, corr := old.flt.corr }
    pix := { m.pix with slices := old.pix.slices }
    pwr := { m.pwr with runAcc := old.pwr.runAcc } }

/-- The wake and the last request show after a restart too (R389). -/
def showWake (old : Mach) (m : Mach) : Mach :=
  m |> setF rPWR_STAT fPWR_STAT_WAKE (getF old rPWR_STAT fPWR_STAT_WAKE) |> setF rPWR_STAT fPWR_STAT_LAST_REQ old.pwr.st

/-- The retention banks found wrong: retention-check for each bank in use, FAILED, and a fence for those that fail the pattern as
well (bits 31:16 of the operand). -/
def deepBanks (old : Mach) (failed : Nat) (m : Mach) : Mach :=
  let homes := (List.range 14).filterMap (homeBank old)
  let bad := homes.filter (hasBit failed)
  m |> forEach bad retentionFails |> latchBits rPWR_RET_STAT fPWR_RET_STAT_FAILED (bad.foldl setBit 0) |>
    fenceBanks ((bad.filter (fun b => hasBit failed (16 + b))).foldl setBit 0)

/-- The device returns from DEEP with the content of its banks. Self-test and flash loads follow in rows of their own. -/
def restoreDeep (failed : Nat) (old : Mach) : Mach :=
  let lost (l : List Nat) : Bool := l.any (roleLost old failed)
  let image (m : Mach) : Mach :=
    m |> setF rUPD_STAT fUPD_STAT_RUN_SLOT (runSlot old) |> setB rUPD_STAT fUPD_STAT_GOLDEN (golden old)
  let m := old |> chipReset 5 0 |> restoreOnyx old |> image
  let topazLost := lost [2, 3, 4, 5]
  let m := if topazLost then restartTopaz m else restoreTopaz old m
  let m := if lost [6, 7, 8, 9] then reloadConfig m else restoreConfig old m
  let m := if lost [10, 11] then m else restoreTiles old m
  let m := if lost [12, 13] then m else restoreJasper old m
  { m with upd := { m.upd with booted := true, trialAt := runTime m } } |> loadFences |> fitEngines |> assignAll |> placePool |> showRates |> showBeams |> startBlocks false |>
    setB rFLT_ERRN fFLT_ERRN_FATAL (flag m rFLT_FATAL fFLT_FATAL_SET) |> deepBanks old failed

/-- The wake from DEEP; without the state of Onyx the device restarts in full. -/
def wakeDeep (failed : Nat) (old : Mach) : Mach :=
  if roleLost old failed 0 || roleLost old failed 1 then old |> chipReset 6 0 |> deepBanks old failed |> showWake old
  else old |> restoreDeep failed |> showWake old

/-! ### EXIT_COMPLETE -/

/-- The return to RUN. `failed`: after SLEEP the units, after DEEP the banks that fail their check (R381). -/
def exitComplete (failed : Nat) (m : Mach) : Mach :=
  if !m.pwr.exiting then m
  else
    let old := wakeTime m
    if m.pwr.st = 2 then old |> clocksStart |> wakeSleep failed
    else if m.pwr.st = 3 then old |> clocksStart |> wakeDeep failed
    else if m.pwr.st = 4 then old |> clocksStart |> startUp 4 |> showWake old |> showSource
    else m

/-- EXIT_COMPLETE (R378). -/
def execExitComplete (t : Nat) (failed : Nat) (s : State) : Host.Outcome State Fault Refusal := runEvent t (exitComplete failed) s

/-! ### LOAD_WINDOW (R76, R78) -/

/-- The thresholds in force (R78): BULK_ON, BULK_OFF, NORMAL_ON, NORMAL_OFF. -/
def deferLimits (m : Mach) : Nat × Nat × Nat × Nat :=
  let f (g : Fld) : Nat := getF m rHUB_DEFER_CFG g
  let fit (on off : Nat) : Bool := decide (off < on) && decide (on ≤ 100)
  let b := if fit (f fHUB_DEFER_CFG_BULK_ON) (f fHUB_DEFER_CFG_BULK_OFF) then
    (f fHUB_DEFER_CFG_BULK_ON, f fHUB_DEFER_CFG_BULK_OFF) else (85, 70)
  let n := if fit (f fHUB_DEFER_CFG_NORMAL_ON) (f fHUB_DEFER_CFG_NORMAL_OFF) then
    (f fHUB_DEFER_CFG_NORMAL_ON, f fHUB_DEFER_CFG_NORMAL_OFF) else (95, 85)
  if n.1 < b.1 then (85, 70, 95, 85) else (b.1, b.2, n.1, n.2)

/-- Deferral of a class with hysteresis. -/
def deferNow (was : Bool) (load on off : Nat) : Bool := if was then decide (off ≤ load) else decide (on ≤ load)

/-- LOAD and PEAK of a load register. -/
def showLoad (a : Nat) (fl fp : Fld) (load : Nat) (m : Mach) : Mach :=
  m |> setF a fl (capN 255 load) |> setF a fp (max (getF m a fp) (capN 255 load))

/-- A 10 ms window has ended (R459): the loads of Topaz and of the two Garnet engines in per cent. -/
def loadWindow (load gar0 gar1 : Nat) (m : Mach) : Mach :=
  if !hubRuns m || !windowDue m.pwr.hubAt (ms 10) m.pwr.loadAt m then m else
  let m := { m with pwr := { m.pwr with loadAt := windowEnd m.pwr.hubAt (ms 10) m } }
  let (bOn, bOff, nOn, nOff) := deferLimits m
  let bulk := flag m rHUB_LOAD fHUB_LOAD_BULK_DEFER
  let norm := flag m rHUB_LOAD fHUB_LOAD_NORMAL_DEFER
  let bulk' := deferNow bulk load bOn bOff
  let norm' := deferNow norm load nOn nOff
  let m := m |> showLoad rHUB_LOAD fHUB_LOAD_LOAD fHUB_LOAD_PEAK load |>
    setB rHUB_LOAD fHUB_LOAD_BULK_DEFER bulk' |> setB rHUB_LOAD fHUB_LOAD_NORMAL_DEFER norm' |>
    showLoad (rGAR_LOAD 0) fGAR_LOAD_LOAD fGAR_LOAD_PEAK gar0 |> showLoad (rGAR_LOAD 1) fGAR_LOAD_LOAD fGAR_LOAD_PEAK gar1
  when (bulk != bulk' || norm != norm') (fun m => eventAll 7 [viewReg m rHUB_LOAD] m) m

/-- LOAD_WINDOW (R76). -/
def execLoadWindow (t : Nat) (load gar0 gar1 : Nat) (s : State) : Host.Outcome State Fault Refusal :=
  runEvent t (loadWindow load gar0 gar1) s

end Sys2Proof.Machine
end

