-- ==== Sys2Proof/Machine/RegAccess.lean ====
section
/-!
DEFINITION. Register access: what a write does field by field (R13 to R15, R451), its effects, and the commands REG_READ to
REG_POLL (R80 to R82, R448 to R450) with the rows of single registers.
-/

namespace Sys2Proof.Machine

/-! ### Fields (R13, R15) -/

/-- Whether a context writes RWL fields: H0 in the Provisioning state (R15, R67). -/
def mayConfig (m : Mach) (ctx : Nat) : Bool := ctx == 0 && !locked m

/-- Is a one-bit field of a written word 1? -/
def isSet (v : Word) (f : Fld) : Bool := fget v f != 0

/-! ### Effects of a write -/

/-- The instance of a repeated register that lies at `a`. -/
def instAt (base stride n a : Nat) : Option Nat :=
  if base ≤ a ∧ a < base + stride * n ∧ (a - base) % stride = 0 then some ((a - base) / stride) else none

/-- The group and the place of a timing register (R203). -/
def timingAt (a : Nat) : Option (Nat × Nat) :=
  ([rSCN_GEOM 0, rSCN_HTIME 0, rSCN_VTIME 0, rSCN_RATE 0, rSCN_SYNC 0, rSCN_TILES 0].zipIdx).findSome? (fun e =>
    (instAt e.1 0x40 8 a).map (fun g => (g, e.2)))

/-- The bits of FLT_STICKY[w] that a write of 1 clears: not those of FATAL-class sources (R351). -/
def stickyMask (m : Mach) (w : Nat) : Word :=
  w32 ((List.range 32).foldl (fun a b => if srcClass m (32 * w + b) = 4 then a else a + 2 ^ b) 0)

/-- The word that takes effect of a write of `v`: some written values leave what stands (R276, R299, R351, R375). -/
def takenWord (m : Mach) (a : Nat) (v : Word) : Word :=
  if a = rGAR_LEVEL ∧ fget v fGAR_LEVEL_MODE = 3 then reg m a
  else if a = rPWR_WAKE_EN then v ||| 0x40
  else match instAt (rFLT_STICKY 0) 4 10 a with
    | some w => v &&& stickyMask m w
    | none => v

/-- What follows from a write of `v` to the register at `a`, its stored word having changed; `may`: RWL fields were written. -/
def writeEffect (may : Bool) (a : Nat) (v : Word) (m : Mach) : Mach :=
  if a = rFLT_FIRST_CTL then when (isSet v fFLT_FIRST_CTL_CLOSE) closeRecord m
  else if a = rFLT_ERRN then when (isSet v fFLT_ERRN_RELEASE) releaseErr m
  else if a = rFLT_PFENCE_CLR then when (may && isSet v fFLT_PFENCE_CLR_GO) clearFences m
  else if a = rNVM_LOG_SEL then loadEntry (fget v fNVM_LOG_SEL_ENTRY) m
  else if a = rWRP_POSE_CFG then updateMode m
  else if addrBlock a = 13 then showAdc m
  else if addrBlock a = 7 then
    match instAt (rCPL_CFG 0) 0x400 24 a, instAt (rCPL_RXEQ_CFG 0) 0x400 24 a with
    | some p, _ => m |> applyRole p |> streamRole p
    | none, some p =>
      setEq p m
    | none, none => m
  else if addrBlock a = 12 then
    match instAt (rMOT_CFG 0) 0x40 4 a with
    | some c => m |> applyFunc c |> showNocoef c |> showAdc
    | none => m
  else m

/-- The word goes into the register. -/
def storeWord (a : Nat) (w : Word) (m : Mach) : Mach :=
  match instAt (rCHN_PORT_CFG 0) 0x10 4 a with
    | some n => setChnPort n w m
    | none => setReg a w m

/-- What a write answers: the state, whether a field was refused (R15), and whether the register counts as written in full
(R81). -/
structure WriteRes where
  blk : Mach
  refused : Bool
  full : Bool
  deriving DecidableEq, Repr

/-- A timing register: staged until SCN_RATE is written (R203). -/
def stageTiming (g k : Nat) (v : Word) (m : Mach) : Mach :=
  if k = 3 then rateWrite g v m
  else setGrp g { grpOf m g with staged := tput none (grpOf m g).staged k (some v) } m

/-- A write of `v` by context `ctx` to the register at `a`, write permission apart (R13, R15, R449). -/
def writeReg (ctx a : Nat) (v : Word) (m : Mach) : WriteRes :=
  match regAt a with
  | none => ⟨m, false, false⟩
  | some (r, is) =>
    let may := mayConfig m ctx
    let v := takenWord m a v
    if aonReg a then
      let refused := (writeFlds may (is.headD 0) r.flds 0 v (reg m a)).refused
      ⟨aonWrite ⟨may, a, v⟩ m, refused, !refused⟩
    else
    match timingAt a with
    | some (g, k) => if may then ⟨stageTiming g k (v &&& fieldMask r.flds) m, false, true⟩ else ⟨m, true, false⟩
    | none =>
      let m := match instAt (rCHN_GRP_STAT 0) 0x10 64 a with
        | some g => when (isSet (v &&& ~~~ fresh m a) fCHN_GRP_STAT_TELLTALE) (relight g) m
        | none => m
      let x := writeFlds may (is.headD 0) r.flds (fresh m a) v (reg m a)
      ⟨m |> storeWord a x.word |> writeEffect may a v, x.refused, !x.refused⟩

/-- Writes in order: the state, whether any field was refused, and the registers written in full. -/
def writeRegs (ctx : Nat) : List (Nat × Word) → Mach → Mach × Bool × Nat
  | [], m => (m, false, 0)
  | (a, v) :: rest, m =>
    let r := writeReg ctx a v m
    let (m, refused, n) := writeRegs ctx rest r.blk
    (m, r.refused || refused, b2n r.full + n)

/-- Write permission for the block of an address (R451); nobody has it for SAF (R68). -/
def mayWrite (m : Mach) (ctx a : Nat) : Bool := addrBlock a != 14 && hasBit (viewReg m (rHUB_CTX_WPERM ctx)).toNat (addrBlock a)

/-! ### REG_READ to REG_WRITE_LIST (R80 to R82) -/

/-- Do `n` registers from `a` on lie in one block window (R81, R448)? -/
def spanOk (a n : Nat) : Bool := addrOk a && addrOk (a + 4 * (n - 1)) && addrBlock a == addrBlock (a + 4 * (n - 1))

/-- COUNT within its range and the reserved bits clear. -/
def countOk (w : Word) : Bool := clean w [(8, 0)] && decide (1 ≤ bits w 8 0) && decide (bits w 8 0 ≤ 256)

/-- The addresses of `n` consecutive registers. -/
def span (a n : Nat) : List Nat := (List.range n).map (fun k => a + 4 * k)

/-- A read of registers only reads unless one has a read effect (R59, R450). -/
def onlyReads (l : List Nat) : Bool := !l.any readHasEffect

def regReadBody (p : Packet) (m : Mach) : Mach × Rep :=
  let a := (par p 0).toNat
  let n := bits (par p 1) 8 0
  require (countOk (par p 1)) (fun m =>
    if !spanOk a n then (m, err stBAD_ADDRESS)
    else
      let (ws, m) := readRegs (span a n) m
      (m, ok ws)) m

/-- REG_READ (R80). -/
def execRegRead (p : Packet) (s : State) : Host.Outcome State Fault Refusal :=
  let n := bits (par p 1) 8 0
  runDratus (.regRead p) (native 0x10 0 .hw .any (onlyReads (span (par p 0).toNat n)) true) (fun _ _ => n)
    (withLen (· == 2) regReadBody) p s

/-- The reply to register writes (R15, R81). -/
def writeReply (r : Mach × Bool × Nat) : Mach × Rep :=
  (r.1, { status := if r.2.1 then stLOCKED else stOK, params := [w32 r.2.2] })

def regWriteBody (p : Packet) (m : Mach) : Mach × Rep :=
  let a := (par p 0).toNat
  let n := bits (par p 1) 8 0
  if p.params.length < 2 then (m, err stBAD_LENGTH)
  else require (countOk (par p 1)) (fun m =>
    if p.params.length ≠ 2 + n then (m, err stBAD_LENGTH)
    else if !spanOk a n then (m, err stBAD_ADDRESS)
    else if !mayWrite m (ctxN p) a then (m, err stNOT_PERMITTED)
    else writeReply (writeRegs (ctxN p) ((span a n).zip (p.params.drop 2)) m)) m

/-- REG_WRITE (R80). -/
def execRegWrite (p : Packet) (s : State) : Host.Outcome State Fault Refusal :=
  runDratus (.regWrite p) (native 0x11 0 .hw .any false true) (replyLen 1) regWriteBody p s

/-- Does the register have a field that REG_MODIFY may not touch (R82)? -/
def specialReg (a : Nat) : Bool :=
  match regAt a with
  | none => false
  | some (r, _) => r.flds.any (fun d =>
    d.acc == .w1c || d.acc == .w1t || d.acc == .w1s || d.acc == .wo || d.acc == .wol)

def regModifyBody (p : Packet) (m : Mach) : Mach × Rep :=
  let a := (par p 0).toNat
  if !addrOk a then (m, err stBAD_ADDRESS)
  else if specialReg a then (m, err stBAD_PARAM)
  else if !mayWrite m (ctxN p) a then (m, err stNOT_PERMITTED)
  else
    let (old, m) := readReg a m
    let r := writeReg (ctxN p) a ((old &&& ~~~ par p 1) ||| (par p 2 &&& par p 1)) m
    (r.blk, { status := if r.refused then stLOCKED else stOK, params := [old, viewReg r.blk a] })

/-- REG_MODIFY (R80, R82). -/
def execRegModify (p : Packet) (s : State) : Host.Outcome State Fault Refusal :=
  runDratus (.regModify p) (native 0x12 0 .hw .any false true) (replyLen 2) (withLen (· == 3) regModifyBody) p s

/-- The addresses of a list. -/
def addrs (p : Packet) : List Nat := p.params.map BitVec.toNat

def regReadListBody (p : Packet) (m : Mach) : Mach × Rep :=
  if !(addrs p).all addrOk then (m, err stBAD_ADDRESS)
  else
    let (ws, m) := readRegs (addrs p) m
    (m, ok ws)

/-- REG_READ_LIST (R79). -/
def execRegReadList (p : Packet) (s : State) : Host.Outcome State Fault Refusal :=
  runDratus (.regReadList p) (native 0x13 0 .hw .any (onlyReads (addrs p)) true) (fun p _ => p.params.length)
    (withLen (fun n => decide (1 ≤ n) && decide (n ≤ 256)) regReadListBody) p s

/-- The address and value pairs of a list. -/
def writePairs : List Word → List (Nat × Word)
  | a :: v :: rest => (a.toNat, v) :: writePairs rest
  | _ => []

def regWriteListBody (p : Packet) (m : Mach) : Mach × Rep :=
  let ps := writePairs p.params
  if !ps.all (fun e => addrOk e.1) then (m, err stBAD_ADDRESS)
  else if !ps.all (fun e => mayWrite m (ctxN p) e.1) then (m, err stNOT_PERMITTED)
  else writeReply (writeRegs (ctxN p) ps m)

/-- REG_WRITE_LIST (R79, R81). -/
def execRegWriteList (p : Packet) (s : State) : Host.Outcome State Fault Refusal :=
  runDratus (.regWriteList p) (native 0x14 0 .hw .any false true) (replyLen 1)
    (withLen (fun n => n % 2 == 0 && decide (2 ≤ n) && decide (n ≤ 256)) regWriteListBody) p s

/-! ### REG_POLL (R80) -/

/-- The packet's own row. -/
def opRegPoll (p : Packet) : OpInfo := native 0x15 0 .hw .any (onlyReads [(par p 0).toNat]) true

def regPollBody (p : Packet) (m : Mach) : Mach × Rep :=
  let a := (par p 0).toNat
  let us' := bits (par p 3) 19 0
  require (clean (par p 3) [(19, 0)] && decide (1 ≤ us') && decide (us' ≤ 1000000)) (fun m =>
    if !addrOk a then (m, err stBAD_ADDRESS)
    else
      let (v, m) := readReg a m
      if v &&& par p 1 = par p 2 then (m, ok [v])
      else
        let r : PollRec :=
          { dest := replyTo (opRegPoll p) p, addr := a, mask := par p 1, expect := par p 2, last := v, endsAt := m.now + us us' }
        ({ m with polls := m.polls ++ [r] }, later)) m

/-- REG_POLL (R80): the first read is made at once. -/
def execRegPoll (p : Packet) (s : State) : Host.Outcome State Fault Refusal :=
  runDratus (.regPoll p) (opRegPoll p) (replyLen 1) (withLen (· == 4) regPollBody) p s

/-- Is the poll that of a queue? A queue has one at most (R60). -/
def pollOf (ctx q : Nat) (r : PollRec) : Bool := r.dest.host == ctx && r.dest.queue == q

/-- The poll of a queue reads again. -/
def pollRead (ctx q : Nat) (m : Mach) : Mach :=
  match (if hubRuns m then m.polls.find? (pollOf ctx q) else none) with
  | none => m
  | some r =>
    let (v, m) := readReg r.addr m
    if v &&& r.mask = r.expect then answer r.dest (ok [v]) { m with polls := dropFirst (pollOf ctx q) m.polls }
    else { m with polls := m.polls.map (fun x => if pollOf ctx q x then { x with last := v } else x) }

/-- POLL_READ (R80). -/
def execPollRead (t : Nat) (ctx : Fin 4) (q : Fin 8) (s : State) : Host.Outcome State Fault Refusal :=
  runEvent t (pollRead ctx q) s

/-- The poll of a queue ends without a match. -/
def pollTimeout (ctx q : Nat) (m : Mach) : Mach :=
  match m.polls.find? (pollOf ctx q) with
  | none => m
  | some r =>
    if m.now < r.endsAt then m
    else answer r.dest (errW stTIMEOUT r.last) { m with polls := dropFirst (pollOf ctx q) m.polls }

/-- REG_POLL_TIMEOUT (R80). -/
def execRegPollTimeout (t : Nat) (ctx : Fin 4) (q : Fin 8) (s : State) : Host.Outcome State Fault Refusal :=
  runEvent t (pollTimeout ctx q) s

/-! ### Rows of single registers -/

/-- A write that reaches a register by itself (R451): an open context with permission for the block. -/
def hubWrite (ctx a : Nat) (v : Word) (m : Mach) : Mach :=
  if hubRuns m && ctxOpen m ctx && addrOk a && mayWrite m ctx a then (writeReg ctx a v m).blk else m

/-- REGISTER_WRITE (R451). -/
def execRegisterWrite (t : Nat) (ctx : Fin 4) (addr : Nat) (v : Word) (s : State) : Host.Outcome State Fault Refusal :=
  runEvent t (hubWrite ctx addr v) s

/-- SCN_RATE_WRITE (R203). -/
def execScnRateWrite (t : Nat) (ctx : Fin 4) (g : Fin 8) (v : Word) (s : State) : Host.Outcome State Fault Refusal :=
  runEvent t (hubWrite ctx (rSCN_RATE g) v) s

/-- CLOSE (R342). -/
def execClose (t : Nat) (ctx : Fin 4) (s : State) : Host.Outcome State Fault Refusal :=
  runEvent t (hubWrite ctx rFLT_FIRST_CTL (fset 0 fFLT_FIRST_CTL_CLOSE 1)) s

/-- RELEASE (R344). -/
def execRelease (t : Nat) (ctx : Fin 4) (s : State) : Host.Outcome State Fault Refusal :=
  runEvent t (hubWrite ctx rFLT_ERRN (fset 0 fFLT_ERRN_RELEASE 1)) s

/-- FLT_PFENCE_CLR_GO (R347). -/
def execFltPfenceClrGo (t : Nat) (ctx : Fin 4) (s : State) : Host.Outcome State Fault Refusal :=
  runEvent t (hubWrite ctx rFLT_PFENCE_CLR (fset 0 fFLT_PFENCE_CLR_GO 1)) s

/-- TELLTALE_CLEAR (R276). -/
def execTelltaleClear (t : Nat) (ctx : Fin 4) (g : Fin 64) (s : State) : Host.Outcome State Fault Refusal :=
  runEvent t (hubWrite ctx (rCHN_GRP_STAT g) (fset 0 fCHN_GRP_STAT_TELLTALE 1)) s

/-- RTC_TIME_STAGE (R385). -/
def execRtcTimeStage (t : Nat) (ctx : Fin 4) (v : Word) (s : State) : Host.Outcome State Fault Refusal :=
  runEvent t (hubWrite ctx rRTC_TIME_LO v) s

/-- RTC_TIME_LOAD (R385). -/
def execRtcTimeLoad (t : Nat) (ctx : Fin 4) (v : Word) (s : State) : Host.Outcome State Fault Refusal :=
  runEvent t (hubWrite ctx rRTC_TIME_HI v) s

/-- NVM_LOG_SEL_WRITE (R411). -/
def execNvmLogSelWrite (t : Nat) (ctx : Fin 4) (v : Word) (s : State) : Host.Outcome State Fault Refusal :=
  runEvent t (hubWrite ctx rNVM_LOG_SEL v) s

/-- A read of a register by itself, while registers can be read. -/
def hubRead (a : Nat) (m : Mach) : Mach := when (hubRuns m) (readRow a) m

/-- RTC_TIME_LO_READ (R450). -/
def execRtcTimeLoRead (t : Nat) (s : State) : Host.Outcome State Fault Refusal := runEvent t (hubRead rRTC_TIME_LO) s

/-- RTC_AON_CNT_LO_READ (R450). -/
def execRtcAonCntLoRead (t : Nat) (s : State) : Host.Outcome State Fault Refusal := runEvent t (hubRead rRTC_AON_CNT_LO) s

/-- HUB_LOAD_READ (R450). -/
def execHubLoadRead (t : Nat) (s : State) : Host.Outcome State Fault Refusal := runEvent t (hubRead rHUB_LOAD) s

/-- GAR_LOAD_READ (R450). -/
def execGarLoadRead (t : Nat) (eng : Fin 2) (s : State) : Host.Outcome State Fault Refusal :=
  runEvent t (hubRead (rGAR_LOAD eng)) s

end Sys2Proof.Machine
end

