-- ==== Sys2Proof/Machine/Legacy.lean ====
section
/-!
DEFINITION. Bamut compatibility (R9, R88 to R91): BAMUT_ENABLE and the legacy opcodes.
-/

namespace Sys2Proof.Machine

def bamutOf (m : Mach) (c : Nat) : BamutRec := tget {} m.pix.bamut c
def setBamut (c : Nat) (r : BamutRec) (m : Mach) : Mach := setPix (fun s => { s with bamut := tput {} s.bamut c r }) m

/-! ### BAMUT_ENABLE (R88, R89) -/

/-- The map of words 1 to 3: legacy tile and tile, 0xFF left out. -/
def legacyMap (p : Packet) : List (Nat × Nat) :=
  ((List.range 12).map (fun k => (k, fget (par p (1 + k / 4)) ⟨8 * (k % 4), 8⟩))).filter (fun e => e.2 != 0xFF)

/-- The descriptor of the legacy layer of tile `t`: Y10 at the tile's geometry, enabled (R89, R108). -/
def legacyDesc (t w h : Nat) : List Word :=
  let (lines, wm) := Config.legacyLines t
  [w32 (2 ^ 31 + t <<< 22 + 2 <<< 14 + lines <<< 7 + wm <<< 1), 0, w32 (h <<< 16 + w), 0, 0]

/-- One buffer of format `f` and `w` × `h` for context `c`; none where BUF_ALLOC would answer NO_RESOURCE (R100). -/
def legacyBuf (c f w h : Nat) (mem : Tab Byte) (m : Mach) : Option (Nat × Tab Byte × Mach) :=
  match fmtOf f with
  | none => none
  | some fi =>
    let size := (layoutOf fi w h).size
    let pages := size / 4096
    let used := usedBufs m
    match pickFree 4096 used (draw m).1 with
    | none => none
    | some i =>
      if 1024 ≤ (used.filter (fun i => (bufOf m i).ctx == c)).length ∨ getF m rPLC_POOL_STAT fPLC_POOL_STAT_FREE < pages ∨
          getF m (rPLC_QUOTA c) fPLC_QUOTA_PAGES < ctxPages m c + pages then none
      else
        let gen := nextGen (bufOf m i).gen ((draw m).1 >>> 16)
        some (mkHandle c 1 gen i, poolClear i mem,
          (draw m).2 |> dropNotes i |> setBuf i { used := true, gen := some gen, ctx := c, fmt := f, w := w, h := h, size := size } |>
            takePages pages)

/-- The legacy layer of tile `t` for context `c`, committed; none where LAYER_CREATE would answer NO_RESOURCE (R112, R116). -/
def legacyLay (c t w h : Nat) (m : Mach) : Option (Nat × Mach) :=
  let d := legacyDesc t w h
  let blocks := descBlocks m d
  let used := usedLays m
  let (x, m1) := draw m
  match pickFree 256 used x with
  | none => none
  | some i =>
    if 128 ≤ (used.filter (fun n => (layOf m n).ctx == c)).length ∨ 512 < blocksUsed m none + blocks then none
    else
      let gen := nextGen (layOf m i).gen (x >>> 16)
      let m' := setLay i { used := true, gen := some gen, ctx := c, blocks := blocks, com := some d } m1
      if dramFits m' then some (mkHandle c 2 gen i, m') else none

/-- The layer and the two Y10 buffers of one legacy tile. -/
def legacyTile (c t w h : Nat) (mem : Tab Byte) (m : Mach) : Option (BamutTile × Tab Byte × Mach) :=
  (legacyBuf c 2 w h mem m).bind fun a => (legacyBuf c 2 w h a.2.1 a.2.2).bind fun b =>
    (legacyLay c t w h b.2.2).map fun l => ({ tile := t, layer := l.1, front := a.1, back := b.1 }, b.2.1, l.2)

/-- What has been set up of a legacy map: its tiles, the pool, the block. -/
structure LegacyRes where
  tab : Tab (Option BamutTile)
  mem : Tab Byte
  blk : Mach
  deriving DecidableEq, Repr

/-- One more legacy tile of the map. -/
def legacyNext (c : Nat) (e : Nat × Nat) (r : LegacyRes) : Option LegacyRes :=
  match tileGeom r.blk e.2 with
  | none => none
  | some (_, w, h) =>
    match legacyTile c e.2 w h r.mem r.blk with
    | none => none
    | some (b, mem, m) => some ⟨tput none r.tab e.1 (some b), mem, m⟩

/-- The legacy tiles of the map, with their layers and buffers. DESIGN CHOICE: a tile that the map names for two legacy tiles gets a layer
and two buffers for each; the spec does not say whether a tile may be mapped twice. -/
def legacyTiles (c : Nat) : List (Nat × Nat) → LegacyRes → Option LegacyRes
  | [], r => some r
  | e :: es, r => (legacyNext c e r).bind (legacyTiles c es)

/-- The entry of a legacy layer: replace mode (R128, R129). -/
def legacyEntry (b : BamutTile) : Word := stackWord (w32 b.layer, 0x00008000)

/-- The entries `es` at the bottom of the stack of group `g`: of what the next latch takes, and of every stack that waits. -/
def stackBelow (g : Nat) (es : List Word) (m : Mach) : Mach :=
  let r := grpOf m g
  let below (o : Option (List Word)) : Option (List Word) := o.map (es ++ ·)
  let m := setGrp g { r with
    com := { r.com with stack := some (es ++ r.com.stack.getD (stackOf m g)) }
    late := { r.late with stack := below r.late.stack } } m
  forEach (List.range 4) (fun c m => setGpend c g { gpendOf m c g with stack := below (gpendOf m c g).stack } m) m

/-- Does every stack of group `g` have room for `n` more entries (R129)? -/
def stackRoom (m : Mach) (g n : Nat) : Bool :=
  let fits (o : Option (List Word)) : Bool := (o.map (fun s => decide (s.length + n ≤ 32))).getD true
  fits (some ((grpOf m g).com.stack.getD (stackOf m g))) && fits (grpOf m g).late.stack &&
    (List.range 4).all (fun c => fits (gpendOf m c g).stack)

/-- The pixels of the mapped tiles (R89). -/
def legacyPixels (m : Mach) (es : List (Nat × Nat)) : Nat :=
  (es.map (fun e => match tileGeom m e.2 with
    | some (_, w, h) => w * h
    | none => 0)).sum

def bamutEnableBody (p : Packet) (mem : Tab Byte) (m : Mach) : MemRep :=
  let stop (st : Nat) : MemRep := ⟨mem, m, err st⟩
  let w := par p 0
  let c := bits w 1 0
  let g := bits w 12 8
  let es := legacyMap p
  if p.params.length ≠ 4 then stop stBAD_LENGTH
  else if !clean w [(16, 16), (12, 8), (1, 0)] || !decide (g < 8) then stop stBAD_PARAM
  else if !takesPart m c g || !es.all (fun e => decide (e.2 < 24) && groupOf m e.2 == some g && (tileGeom m e.2).isSome) then
    stop stBAD_PARAM
  else if !bit w 16 then ⟨mem, setB (rHUB_CTX_CFG c) fHUB_CTX_CFG_BAMUT_CMD false m, ok []⟩
  else if 6291456 < legacyPixels m es ∨ !stackRoom m g es.length then stop stNO_RESOURCE
  else match legacyTiles c es ⟨[], mem, m⟩ with
    | none => stop stNO_RESOURCE
    | some r =>
      let ents := r.tab.filterMap (fun e => e.2.map legacyEntry)
      ⟨r.mem, r.blk |> stackBelow g ents |> setBamut c { on := true, grp := g, tiles := r.tab } |>
        setB (rHUB_CTX_CFG c) fHUB_CTX_CFG_BAMUT_CMD true |> showPend g, ok []⟩

/-- BAMUT_ENABLE (R88, R89). -/
def execBamutEnable (p : Packet) (s : State) : Host.Outcome State Fault Refusal :=
  runDratusMem (.bamutEnable p) (native 0x7B 1 .topaz .h0p false false) noReply bamutEnableBody p s

/-! ### The legacy opcodes (R90) -/

/-- NOP. -/
def execLegacyNop (p : Packet) (s : State) : Host.Outcome State Fault Refusal :=
  runDratus (.legacyNop p) (legacy 0x00 0 .hw .any 0 true true) (fun p _ => p.params.length)
    (withLen (fun n => decide (n ≤ 8)) (fun p m => (m, ok p.params))) p s

/-- GET_ID, as IDENTIFY. -/
def execGetId (p : Packet) (s : State) : Host.Outcome State Fault Refusal :=
  runDratus (.getId p) (legacy 0x01 0 .topaz .any 0 true true) (replyLen 6) (withLen (· == 0) identifyBody) p s

/-- GET_STATUS. -/
def execLegacyGetStatus (p : Packet) (s : State) : Host.Outcome State Fault Refusal :=
  runDratus (.legacyGetStatus p) (legacy 0x02 0 .topaz .any 0 true true) (replyLen 2) (withLen (· == 0) getStatusBody) p s

/-- SET_GAIN, as GAIN_GLOBAL_SET (R171) on the legacy timing group. -/
def setGainBody (p : Packet) (m : Mach) : Mach × Rep :=
  let r := bamutOf m (ctxN p)
  require (clean (par p 0) [(15, 0)] && r.on) (setScale (ctxN p) r.grp (bits (par p 0) 15 0)) m

/-- SET_GAIN. -/
def execSetGain (p : Packet) (s : State) : Host.Outcome State Fault Refusal :=
  runDratus (.setGain p) (legacy 0x03 1 .topaz .any 3 false false) noReply (withLen (· == 1) setGainBody) p s

/-- FRAME_WRITE, as BUF_WRITE (R83) to the back buffer of the legacy tile that word 0 [31:24] names. -/
def frameWriteBody (p : Packet) (mem : Tab Byte) (m : Mach) : MemRep :=
  if p.params.length < 2 then ⟨mem, m, err stBAD_LENGTH⟩ else
  match tget none (bamutOf m (ctxN p)).tiles (bits (par p 0) 31 24) with
  | none => ⟨mem, m, err stBAD_PARAM⟩
  | some b =>
    match bufRefused m (ctxN p) b.back with
    | some st => ⟨mem, m, err st⟩
    | none => writeInto (hIdx b.back) (bits (par p 0) 23 0) (p.params.drop 1) mem m

/-- FRAME_WRITE. -/
def execFrameWrite (p : Packet) (s : State) : Host.Outcome State Fault Refusal :=
  runDratusMem (.frameWrite p) (legacy 0x04 0 .hw .any 2 false false) noReply frameWriteBody p s

/-- The back buffer of a legacy tile is attached to its layer, as LAYER_ATTACH does (R110). -/
def showBack (c : Nat) (b : BamutTile) (m : Mach) : Mach :=
  let n := hIdx b.layer
  when ((layRefused m (2 ^ c) b.layer).isNone && (bufRefused m c b.back).isNone && bufSuits m b.back (lastDesc m n))
    (setLay n { layOf m n with pendBuf := some b.back }) m

/-- Front and back change places. -/
def swapBufs (c : Nat) (m : Mach) : Mach :=
  let r := bamutOf m c
  setBamut c { r with tiles := r.tiles.map (fun e => (e.1, e.2.map (fun b => { b with front := b.back, back := b.front }))) } m

/-- FRAME_SHOW: COMMIT of the legacy group, refused where COMMIT is (R90, R370). -/
def frameShowBody (late : Bool) (p : Packet) (m : Mach) : Mach × Rep :=
  let c := ctxN p
  let r := bamutOf m c
  require r.on (fun m =>
    if !takesPart m c r.grp then (m, err stNOT_OWNER)
    else if !grpRuns m r.grp || m.pwr.st == 1 then stateReject m (rSCN_GRP_STAT r.grp)
    else m |> forEach (r.tiles.filterMap Prod.snd) (showBack c) |> swapBufs c |> commitGroup c r.grp late) m

/-- FRAME_SHOW; its reply has the words of COMMIT's. -/
def execFrameShow (p : Packet) (late : Bool) (s : State) : Host.Outcome State Fault Refusal :=
  runDratus (.frameShow p late) (legacy 0x05 0 .hw .any 2 false true) (replyLen 2) (withLen (· == 0) (frameShowBody late)) p s

/-- SLEEP, as SET_POWER with STATE 2; PWR_CFG.BAMUT_ENTRY decides how the entry meets wake events (R373). -/
def execSleep (p : Packet) (s : State) : Host.Outcome State Fault Refusal :=
  runDratus (.sleep p) (legacy 0x06 0 .topaz .h0 0 false false) noReply (withLen (· == 0) (fun _ => setPowerTo 2)) p s

end Sys2Proof.Machine
end

