-- ==== Sys2Proof/Machine/Carriers.lean ====
section
/-!
DEFINITION. The carriers of Dratus packets (R44 to R52, R211): CPT transactions, COMMAND blocks, and the packets and frames that are
discarded. A carrier that delivers a packet runs the meaning of the packet's own row.
-/

namespace Sys2Proof.Machine

/-! ### From bytes to a packet (R39, R40) -/

/-- Byte `k`, and the 16-bit field at byte `k`. -/
def byteAt (bs : List Nat) (k : Nat) : Nat := bs.getD k 0
def halfAt (bs : List Nat) (k : Nat) : Nat := byteAt bs k + 256 * byteAt bs (k + 1)

/-- Check 1 of R56 on the bytes from here on. -/
def headerHere (bs : List Nat) : Bool :=
  decide (16 ≤ bs.length) && byteAt bs 0 == 0xD7 && halfAt bs 14 == crc crc16 (bs.take 14)

/-- The bytes of the packet whose header stands here. -/
def packetSize (bs : List Nat) : Nat := 20 + 4 * halfAt bs 8

/-- The packet that stands here, complete. -/
def packetOf (t : Nat) (path : Fin 29) (bs : List Nat) : Packet :=
  { t := t, path := path, flags := BitVec.ofNat 8 (byteAt bs 3), host := BitVec.ofNat 8 (byteAt bs 4),
    queue := BitVec.ofNat 8 (byteAt bs 5), seq := BitVec.ofNat 16 (halfAt bs 6), plen := BitVec.ofNat 16 (halfAt bs 8),
    status := BitVec.ofNat 16 (halfAt bs 10), resv := BitVec.ofNat 16 (halfAt bs 12),
    params := (List.range (halfAt bs 8)).map (fun k => w32 (leNat ((bs.drop (16 + 4 * k)).take 4))),
    hchk := BitVec.ofNat 16 (halfAt bs 14), trailer := w32 (leNat ((bs.drop (packetSize bs - 4)).take 4)), short := false }

/-- What a search for the next header finds (R56, check 1): the discards on the way, whether it is still searching, and the
bytes from the header on, or those that may become one. -/
structure Found where
  discards : Nat
  lost : Bool
  rest : List Nat
  deriving DecidableEq, Repr

def findHeader : List Nat → Bool → Nat → Found
  | [], lost, n => ⟨n, lost, []⟩
  | b :: bs, lost, n =>
    if headerHere (b :: bs) then ⟨n, false, b :: bs⟩
    else if b = 0xD7 ∧ bs.length < 15 then ⟨n, lost, b :: bs⟩
    else findHeader bs true (if lost then n else n + 1)

/-- A discard at check 1, on a path that is enabled or not (R54, R56). -/
def discardOn (path : Nat) (m : Mach) : Mach := if pathEnabled m path then countHdrErr path m else countDisc path m

/-! ### The row of a packet (R79, R90) -/

/-- The row of opcodes 0x00 to 0x15. -/
def runSystem (op : Nat) (e : PktEnv) (p : Packet) (s : State) : Host.Outcome State Fault Refusal :=
  match op with
  | 0x00 => execNop p s
  | 0x01 => execIdentify p s
  | 0x02 => execContextOpen p s
  | 0x03 => execContextClose p s
  | 0x04 =>
    match bits (par p 0) 2 0 with
    | 0 => execSetPowerRun p s
    | 1 => execSetPowerIdle p s
    | 2 => execSetPowerSleep p s
    | 3 => execSetPowerDeep p s
    | _ => execSetPowerOff p s
  | 0x05 => execGetStatus p s
  | 0x06 => execLoadQuery p s
  | 0x07 => execProvisionLock p e.writeOk s
  | 0x08 => execSetPermissions p s
  | 0x09 => execEventSubscribe p s
  | 0x0A => execPathBind p s
  | 0x0B => execGroupAssign p s
  | 0x0C => execTimeGet p s
  | 0x0D => if bits (par p 0) 1 0 = 1 then execUnprovision p s else execRestart p s
  | 0x10 => execRegRead p s
  | 0x11 => execRegWrite p s
  | 0x12 => execRegModify p s
  | 0x13 => execRegReadList p s
  | 0x14 => execRegWriteList p s
  | 0x15 => execRegPoll p s
  | n => execBadOpcode p 1 n s

/-- The row of opcodes 0x20 to 0x37. -/
def runPixel (op : Nat) (e : PktEnv) (p : Packet) (s : State) : Host.Outcome State Fault Refusal :=
  match op with
  | 0x20 => execBufAlloc p s
  | 0x21 => execBufFree p s
  | 0x22 => execBufWrite p s
  | 0x23 => execBufRead p s
  | 0x24 => execBufInfo p s
  | 0x25 => if bit (par p 0) 31 then execStreamBind p s else execStreamUnbind p s
  | 0x28 => execLayerCreate p s
  | 0x29 => execLayerDestroy p s
  | 0x2A => execLayerSet p s
  | 0x2B => execLayerAttach p s
  | 0x2C => execStackSet p s
  | 0x2D => execColourMatrixSet p s
  | 0x30 => execCommit p e.late s
  | 0x31 => execCommitStatus p s
  | 0x32 => execTimingSet p s
  | 0x33 => execRacingSet p s
  | 0x34 => execWarpMeshLoad p s
  | 0x35 => execPoseMsg p s
  | 0x36 =>
    if bits (par p 0) 1 0 = 1 then execPoseConfigGroup p s else if bits (par p 0) 1 0 = 2 then execPoseConfigTile p s
    else execPoseConfig p s
  | 0x37 => execPlacementMap p s
  | n => execBadOpcode p 1 n s

/-- The row of opcodes 0x40 to 0x58. -/
def runPorts (op : Nat) (p : Packet) (s : State) : Host.Outcome State Fault Refusal :=
  match op with
  | 0x40 => execGainGlobalSet p s
  | 0x41 => execUniformityLoad p s
  | 0x42 => execWearTableLoad p s
  | 0x43 => execTransferCurveLoad p s
  | 0x44 => execWearSnapshot p s
  | 0x45 => execRepairConfig p s
  | 0x46 => execDerateConfig p s
  | 0x47 => execComplianceRead p s
  | 0x50 => execPortConfig p s
  | 0x51 => execPortStatus p s
  | 0x52 => loopbackRow p s
  | 0x53 => execEyeScan p s
  | 0x54 => execTileEnumerate p s
  | 0x55 => execTileInfo p s
  | 0x56 =>
    if bits (par p 0) 1 0 = 0 then execTileAuthPolicy p s else if bits (par p 0) 1 0 = 1 then execPolicyTimeouts p s
    else if bits (par p 0) 1 0 = 2 then execPolicyAnchor p s else execPolicyTile p s
  | 0x57 => if bit (par p 0) 31 then execTwinSet p s else execTwinRemove p s
  | 0x58 => execSpareSet p s
  | n => execBadOpcode p 1 n s
where
  loopbackRow (p : Packet) (s : State) : Host.Outcome State Fault Refusal :=
    match bits (par p 0) 10 8 with
    | 1 => execNearEndSerial p s
    | 2 => execNearEndParallel p s
    | 3 => execFarEndRequest p s
    | 4 => execFarEndAccept p s
    | _ => execLoopbackOff p s

/-- The row of opcodes 0x60 to 0x6F. -/
def runControl (op : Nat) (p : Packet) (s : State) : Host.Outcome State Fault Refusal :=
  match op with
  | 0x60 => execChainConfig p s
  | 0x61 => execChainWrite p s
  | 0x62 => execChainReadback p s
  | 0x63 => execGroupConfig p s
  | 0x64 => if bits (par p 0) 3 0 = 8 then execGammaLoad p s else execAuroraLoad p s
  | 0x65 => if bit (par p 0) 31 then execAuroraStart p s else execAuroraStop p s
  | 0x66 => execProbeConfig p s
  | 0x67 => execColourLoopSet p s
  | 0x68 => execLoopConfig p s
  | 0x69 => execCoefLoad p s
  | 0x6A => execBankSwap p s
  | 0x6B => motorRow p s
  | 0x6C => execTuneInject p s
  | 0x6D => execCaptureRead p s
  | 0x6E => execAdcConfig p s
  | 0x6F => execLevelSet p s
  | n => execBadOpcode p 1 n s
where
  motorRow (p : Packet) (s : State) : Host.Outcome State Fault Refusal :=
    match bits (par p 0) 10 8 with
    | 1 => execMotorSpeed p s
    | 2 => execMotorPark p s
    | 3 => execMotorRelease p s
    | _ => execMotorPosition p s

/-- The row of opcodes 0x70 to 0x7B. -/
def runService (op : Nat) (e : PktEnv) (p : Packet) (s : State) : Host.Outcome State Fault Refusal :=
  match op with
  | 0x70 => if p.params = [] then execUpdCancel p s else execUpdBegin p s
  | 0x71 => execUpdData p s
  | 0x72 => execUpdVerify p s
  | 0x73 => execActivate p s
  | 0x74 => execConfirm p s
  | 0x75 => execSettingsSave p e.writeOk s
  | 0x76 => if bit (par p 0) 31 then execCalRunFactory p s else execCalRun p s
  | 0x77 => execCvJob p s
  | 0x78 => safeRow (.dratus p e.waitMs) p s
  | 0x79 => execSafeRead p s
  | 0x7A => execSafeStatus p s
  | 0x7B => execBamutEnable p s
  | n => execBadOpcode p 1 n s
where
  safeRow (src : EnvSrc) (p : Packet) (s : State) : Host.Outcome State Fault Refusal :=
    let obj := match parseEnv true p.params with
      | .inl _ => 0
      | .inr e => e.obj
    match obj with
    | 2 => execBeamMode src s
    | 3 => execMaskEnable src s
    | 4 => execComplianceMap src s
    | 5 => execOutput src s
    | 6 => execSafeConfig src s
    | _ => execHeartbeat src s

/-- The row of a legacy opcode (R90). -/
def runLegacy (op : Nat) (e : PktEnv) (p : Packet) (s : State) : Host.Outcome State Fault Refusal :=
  match op with
  | 0 => execLegacyNop p s
  | 1 => execGetId p s
  | 2 => execLegacyGetStatus p s
  | 3 => execSetGain p s
  | 4 => execFrameWrite p s
  | 5 => execFrameShow p e.late s
  | 6 => execSleep p s
  | n => execBadOpcode p 0 n s

/-- The row of a packet with VERSION `ver` and OPCODE `op`. -/
def runRow (ver op : Nat) (e : PktEnv) (p : Packet) (s : State) : Host.Outcome State Fault Refusal :=
  if ver = 0 then runLegacy op e p s
  else if ver ≠ 1 then execBadOpcode p ver op s
  else if op < 0x20 then runSystem op e p s
  else if op < 0x40 then runPixel op e p s
  else if op < 0x60 then runPorts op p s
  else if op < 0x70 then runControl op p s
  else runService op e p s

/-- A complete packet at the head of `bs`, received on `path` at `t`. -/
def deliver (t : Nat) (path : Fin 29) (e : PktEnv) (bs : List Nat) (s : State) : Host.Outcome State Fault Refusal :=
  runRow (byteAt bs 1) (byteAt bs 2) e (packetOf t path bs) s

/-! ### Packets and frames that are discarded -/

/-- PACKET_DISCARD (R54, R56, R455): check 1 fails. -/
def execPacketDiscard (t : Nat) (path : Fin 29) (s : State) : Host.Outcome State Fault Refusal :=
  runEvent t (fun m => when (hubRuns m && !outOfReach m path) (discardOn path) m) s

/-- A classical frame on the request identifier of an enabled controller (R51, R52). -/
def classicalFrame (n : Nat) (xtd : Bool) (id : Nat) (m : Mach) : Mach :=
  let r := rCAN_DRATUS_ID n
  let req := getF m r fCAN_DRATUS_ID_REQ_ID
  when (hubRuns m && flag m r fCAN_DRATUS_ID_EN && flag m r fCAN_DRATUS_ID_XTD == xtd && sameId xtd req id) (countDisc (26 + n)) m

/-- CLASSICAL_CAN_FRAME (R51). -/
def execClassicalCanFrame (t : Nat) (can : Fin 2) (xtd : Bool) (id : Nat) (s : State) : Host.Outcome State Fault Refusal :=
  runEvent t (classicalFrame can xtd id) s

/-! ### CPT transactions (R47 to R49) -/

/-- The transactions of a CPT target (R47), by the command byte that starts them; any other byte starts none. -/
inductive CptKind where
  | writePkt | readPkt | readStat
  deriving DecidableEq, Repr

def cptKind (command : Nat) : Option CptKind :=
  if command = 0x02 then some .writePkt else if command = 0x03 then some .readPkt else if command = 0x05 then some .readStat else none

/-- Bytes of whole packets that wait in the receive buffer of target `n`. -/
def cptWaiting (m : Mach) (n : Nat) : Nat := ((m.held.filter (fun h => !h.accepted && h.path == 24 + n)).map Held.bytes).sum

/-- Are the receivers of the CPT targets clocked (R368)? -/
def cptLive (m : Mach) : Bool := hubRuns m || m.pwr.st == 2

def cptErr (n : Nat) (m : Mach) : Mach := setCpt n { cptOf m n with err := true } m

/-- The path of target `n`. -/
def cptPath (n : Fin 2) : Fin 29 := if n = 0 then 24 else 25

/-- WRITE_PKT (R47, R49): exactly one packet; a transaction that is cut short or overruns the buffer is discarded, and bytes
beyond the packet set RX_ERR (R48). In SLEEP it wakes the device (R375). -/
def execWritePkt (t : Nat) (cpt : Fin 2) (bytes : List Byte) (env : PktEnv) (s : State) : Host.Outcome State Fault Refusal :=
  let m := atTime t s.blk
  if !cptLive m then done s m else
  let m := when (m.pwr.st == 2) (wakeEvent 4) m
  let f := findHeader (bytes.map BitVec.toNat) false 0
  let m := forEach (List.range f.discards) (fun _ => discardOn (cptPath cpt)) m
  if f.rest = [] then done s m
  else if !headerHere f.rest || decide (f.rest.length < packetSize f.rest) then done s (cptErr cpt m)
  else if 4096 < cptWaiting m cpt + packetSize f.rest then done s (lost (cptPath cpt) m)
  else
    let m := when (decide (packetSize f.rest < f.rest.length)) (cptErr cpt) m
    deliver t (cptPath cpt) env f.rest { s with blk := m }

/-- Is the waiting item for target `n`? -/
def itemFor (n : Nat) : OutItem → Bool
  | .reply r => r.path == 24 + n
  | .event _ path _ _ => path == 24 + n

/-- The packet of a waiting item. -/
def itemPkt (m : Mach) : OutItem → OutPkt
  | .reply r => r
  | .event c path code data => eventPkt c path code data m

/-- The waiting items of target `n`, oldest first, that its transmit buffer of 4 KiB holds (R49); `room` is the room left. The others
wait behind it. -/
def cptBuffered (m : Mach) (n room : Nat) : List OutItem → List OutItem
  | [] => []
  | it :: rest =>
    if !itemFor n it then cptBuffered m n room rest else
    let size := (outBytes (itemPkt m it)).length
    if room < size then [] else it :: cptBuffered m n (room - size) rest

/-- The data phase of READ_PKT (R47): a 16-bit byte count, least significant byte first, and the packet; a count of 0 when nothing
waits. The host gets these bytes. -/
def readPkt (n : Nat) (m : Mach) : Mach :=
  if !hubRuns m then m else
  match (cptBuffered m n 4096 m.wait).head? with
  | none => { m with spiOut := [0, 0] }
  | some it =>
    let o := itemPkt m it
    let bytes := outBytes o
    let m := { m with wait := dropFirst (itemFor n) m.wait, sent := m.sent ++ [o], spiOut := halfBytes bytes.length ++ bytes }
    match it with
    | .reply _ => m
    | .event c _ _ _ => eventSent c m

/-- READ_PKT (R47). -/
def execReadPkt (t : Nat) (cpt : Fin 2) (s : State) : Host.Outcome State Fault Refusal := runEvent t (readPkt cpt) s

/-- The status byte of target `n` (R48). -/
def cptStatus (m : Mach) (n : Nat) : Nat :=
  128 * b2n (cptWaiting m n == 0) + 64 * b2n (!(cptBuffered m n 4096 m.wait).isEmpty) + 32 * b2n (cptOf m n).ovf + 16 * b2n (cptOf m n).err

/-- The level of the pin CPTn_INT_N (R48): low while TX_AVAIL is 1. -/
def cptIntN (m : Mach) (n : Nat) : Bool := (cptBuffered m n 4096 m.wait).isEmpty

/-- READ_STAT (R48): the status byte goes to the host, and RX_OVF and RX_ERR are cleared. -/
def readStat (n : Nat) (m : Mach) : Mach :=
  if !cptLive m then m else { m with rdata := w32 (cptStatus m n) } |> setCpt n {}

/-- READ_STAT (R48). -/
def execReadStat (t : Nat) (cpt : Fin 2) (s : State) : Host.Outcome State Fault Refusal := runEvent t (readStat cpt) s

/-! ### COMMAND blocks (R44, R211) -/

def rxOf (m : Mach) (p : Nat) : RxRec := tget {} m.rx p
def setRx (p : Nat) (r : RxRec) (m : Mach) : Mach := { m with rx := tput {} m.rx p r }

/-- The Dratus bytes of a COMMAND block: COUNT bytes from word 1 on. -/
def commandBytes (b : Blk) : List Nat := (wordsBytes (pad64 b.words).tail).take (bits (blkWord b 0) 8 0)

/-- The complete packets of the stream of port `p` are taken, at most `n` of them. -/
def takePackets (t : Nat) (p : Fin 24) (e : PktEnv) : Nat → State → Host.Outcome State Fault Refusal
  | 0, s => .next s
  | n + 1, s =>
    let path : Fin 29 := ⟨p.val, by omega⟩
    let r := rxOf s.blk p
    let f := findHeader r.buf r.lost 0
    let m := forEach (List.range f.discards) (fun _ => discardOn p) s.blk
    if !headerHere f.rest || decide (f.rest.length < packetSize f.rest) then .next { s with blk := setRx p ⟨f.rest, f.lost⟩ m }
    else
      match deliver t path e f.rest { s with blk := setRx p ⟨f.rest.drop (packetSize f.rest), false⟩ m } with
      | .next s => takePackets t p e n s
      | o => o

/-- COMMAND (R211): the block's bytes join the stream of its port. -/
def execCommand (b : Blk) (env : PktEnv) (s : State) : Host.Outcome State Fault Refusal :=
  let p := b.port
  let m := atTime b.t s.blk
  let m := takeBlk 4 (hostRole m p) b (fun m => setRx p { rxOf m p with buf := (rxOf m p).buf ++ commandBytes b } m) m
  match done s m with
  | .next s => takePackets b.t p env ((rxOf s.blk p).buf.length / 20 + 1) s
  | o => o

end Sys2Proof.Machine
end

