-- ==== Sys2Proof/Machine/Dispatch.lean ====
section
/-!
DEFINITION. One arm per command.
-/

namespace Sys2Proof.Machine

/-- The effect of a command on everything but the queue of waiting commands. -/
def exec (i : Instr) (s : State) : Host.Outcome State Fault Refusal :=
  match i with
  | .nop p => Sys2Proof.Machine.execNop p s
  | .identify p => Sys2Proof.Machine.execIdentify p s
  | .contextOpen p => Sys2Proof.Machine.execContextOpen p s
  | .contextClose p => Sys2Proof.Machine.execContextClose p s
  | .setPowerRun p => Sys2Proof.Machine.execSetPowerRun p s
  | .setPowerIdle p => Sys2Proof.Machine.execSetPowerIdle p s
  | .setPowerSleep p => Sys2Proof.Machine.execSetPowerSleep p s
  | .setPowerDeep p => Sys2Proof.Machine.execSetPowerDeep p s
  | .setPowerOff p => Sys2Proof.Machine.execSetPowerOff p s
  | .getStatus p => Sys2Proof.Machine.execGetStatus p s
  | .loadQuery p => Sys2Proof.Machine.execLoadQuery p s
  | .provisionLock p writeOk => Sys2Proof.Machine.execProvisionLock p writeOk s
  | .setPermissions p => Sys2Proof.Machine.execSetPermissions p s
  | .eventSubscribe p => Sys2Proof.Machine.execEventSubscribe p s
  | .pathBind p => Sys2Proof.Machine.execPathBind p s
  | .groupAssign p => Sys2Proof.Machine.execGroupAssign p s
  | .timeGet p => Sys2Proof.Machine.execTimeGet p s
  | .restart p => Sys2Proof.Machine.execRestart p s
  | .unprovision p => Sys2Proof.Machine.execUnprovision p s
  | .regRead p => Sys2Proof.Machine.execRegRead p s
  | .regWrite p => Sys2Proof.Machine.execRegWrite p s
  | .regModify p => Sys2Proof.Machine.execRegModify p s
  | .regReadList p => Sys2Proof.Machine.execRegReadList p s
  | .regWriteList p => Sys2Proof.Machine.execRegWriteList p s
  | .regPoll p => Sys2Proof.Machine.execRegPoll p s
  | .bufAlloc p => Sys2Proof.Machine.execBufAlloc p s
  | .bufFree p => Sys2Proof.Machine.execBufFree p s
  | .bufWrite p => Sys2Proof.Machine.execBufWrite p s
  | .bufRead p => Sys2Proof.Machine.execBufRead p s
  | .bufInfo p => Sys2Proof.Machine.execBufInfo p s
  | .streamBind p => Sys2Proof.Machine.execStreamBind p s
  | .streamUnbind p => Sys2Proof.Machine.execStreamUnbind p s
  | .layerCreate p => Sys2Proof.Machine.execLayerCreate p s
  | .layerDestroy p => Sys2Proof.Machine.execLayerDestroy p s
  | .layerSet p => Sys2Proof.Machine.execLayerSet p s
  | .layerAttach p => Sys2Proof.Machine.execLayerAttach p s
  | .stackSet p => Sys2Proof.Machine.execStackSet p s
  | .colourMatrixSet p => Sys2Proof.Machine.execColourMatrixSet p s
  | .commit p late => Sys2Proof.Machine.execCommit p late s
  | .commitStatus p => Sys2Proof.Machine.execCommitStatus p s
  | .timingSet p => Sys2Proof.Machine.execTimingSet p s
  | .racingSet p => Sys2Proof.Machine.execRacingSet p s
  | .warpMeshLoad p => Sys2Proof.Machine.execWarpMeshLoad p s
  | .poseMsg p => Sys2Proof.Machine.execPoseMsg p s
  | .poseConfig p => Sys2Proof.Machine.execPoseConfig p s
  | .poseConfigGroup p => Sys2Proof.Machine.execPoseConfigGroup p s
  | .poseConfigTile p => Sys2Proof.Machine.execPoseConfigTile p s
  | .placementMap p => Sys2Proof.Machine.execPlacementMap p s
  | .gainGlobalSet p => Sys2Proof.Machine.execGainGlobalSet p s
  | .uniformityLoad p => Sys2Proof.Machine.execUniformityLoad p s
  | .wearTableLoad p => Sys2Proof.Machine.execWearTableLoad p s
  | .transferCurveLoad p => Sys2Proof.Machine.execTransferCurveLoad p s
  | .wearSnapshot p => Sys2Proof.Machine.execWearSnapshot p s
  | .repairConfig p => Sys2Proof.Machine.execRepairConfig p s
  | .derateConfig p => Sys2Proof.Machine.execDerateConfig p s
  | .complianceRead p => Sys2Proof.Machine.execComplianceRead p s
  | .portConfig p => Sys2Proof.Machine.execPortConfig p s
  | .portStatus p => Sys2Proof.Machine.execPortStatus p s
  | .loopbackOff p => Sys2Proof.Machine.execLoopbackOff p s
  | .nearEndSerial p => Sys2Proof.Machine.execNearEndSerial p s
  | .nearEndParallel p => Sys2Proof.Machine.execNearEndParallel p s
  | .farEndRequest p => Sys2Proof.Machine.execFarEndRequest p s
  | .farEndAccept p => Sys2Proof.Machine.execFarEndAccept p s
  | .eyeScan p => Sys2Proof.Machine.execEyeScan p s
  | .tileEnumerate p => Sys2Proof.Machine.execTileEnumerate p s
  | .tileInfo p => Sys2Proof.Machine.execTileInfo p s
  | .tileAuthPolicy p => Sys2Proof.Machine.execTileAuthPolicy p s
  | .policyTimeouts p => Sys2Proof.Machine.execPolicyTimeouts p s
  | .policyAnchor p => Sys2Proof.Machine.execPolicyAnchor p s
  | .policyTile p => Sys2Proof.Machine.execPolicyTile p s
  | .twinSet p => Sys2Proof.Machine.execTwinSet p s
  | .twinRemove p => Sys2Proof.Machine.execTwinRemove p s
  | .spareSet p => Sys2Proof.Machine.execSpareSet p s
  | .chainConfig p => Sys2Proof.Machine.execChainConfig p s
  | .chainWrite p => Sys2Proof.Machine.execChainWrite p s
  | .chainReadback p => Sys2Proof.Machine.execChainReadback p s
  | .groupConfig p => Sys2Proof.Machine.execGroupConfig p s
  | .auroraLoad p => Sys2Proof.Machine.execAuroraLoad p s
  | .gammaLoad p => Sys2Proof.Machine.execGammaLoad p s
  | .auroraStart p => Sys2Proof.Machine.execAuroraStart p s
  | .auroraStop p => Sys2Proof.Machine.execAuroraStop p s
  | .probeConfig p => Sys2Proof.Machine.execProbeConfig p s
  | .colourLoopSet p => Sys2Proof.Machine.execColourLoopSet p s
  | .loopConfig p => Sys2Proof.Machine.execLoopConfig p s
  | .coefLoad p => Sys2Proof.Machine.execCoefLoad p s
  | .bankSwap p => Sys2Proof.Machine.execBankSwap p s
  | .motorPosition p => Sys2Proof.Machine.execMotorPosition p s
  | .motorSpeed p => Sys2Proof.Machine.execMotorSpeed p s
  | .motorPark p => Sys2Proof.Machine.execMotorPark p s
  | .motorRelease p => Sys2Proof.Machine.execMotorRelease p s
  | .tuneInject p => Sys2Proof.Machine.execTuneInject p s
  | .captureRead p => Sys2Proof.Machine.execCaptureRead p s
  | .adcConfig p => Sys2Proof.Machine.execAdcConfig p s
  | .levelSet p => Sys2Proof.Machine.execLevelSet p s
  | .updBegin p => Sys2Proof.Machine.execUpdBegin p s
  | .updCancel p => Sys2Proof.Machine.execUpdCancel p s
  | .updData p => Sys2Proof.Machine.execUpdData p s
  | .updVerify p => Sys2Proof.Machine.execUpdVerify p s
  | .activate p => Sys2Proof.Machine.execActivate p s
  | .confirm p => Sys2Proof.Machine.execConfirm p s
  | .settingsSave p writeOk => Sys2Proof.Machine.execSettingsSave p writeOk s
  | .calRun p => Sys2Proof.Machine.execCalRun p s
  | .calRunFactory p => Sys2Proof.Machine.execCalRunFactory p s
  | .cvJob p => Sys2Proof.Machine.execCvJob p s
  | .heartbeat src => Sys2Proof.Machine.execHeartbeat src s
  | .beamMode src => Sys2Proof.Machine.execBeamMode src s
  | .maskEnable src => Sys2Proof.Machine.execMaskEnable src s
  | .complianceMap src => Sys2Proof.Machine.execComplianceMap src s
  | .output src => Sys2Proof.Machine.execOutput src s
  | .safeConfig src => Sys2Proof.Machine.execSafeConfig src s
  | .safeRead p => Sys2Proof.Machine.execSafeRead p s
  | .safeStatus p => Sys2Proof.Machine.execSafeStatus p s
  | .bamutEnable p => Sys2Proof.Machine.execBamutEnable p s
  | .legacyNop p => Sys2Proof.Machine.execLegacyNop p s
  | .getId p => Sys2Proof.Machine.execGetId p s
  | .legacyGetStatus p => Sys2Proof.Machine.execLegacyGetStatus p s
  | .setGain p => Sys2Proof.Machine.execSetGain p s
  | .frameWrite p => Sys2Proof.Machine.execFrameWrite p s
  | .frameShow p late => Sys2Proof.Machine.execFrameShow p late s
  | .sleep p => Sys2Proof.Machine.execSleep p s
  | .badOpcode p ver op => Sys2Proof.Machine.execBadOpcode p ver op s
  | .pollRead t ctx q => Sys2Proof.Machine.execPollRead t ctx q s
  | .regPollTimeout t ctx q => Sys2Proof.Machine.execRegPollTimeout t ctx q s
  | .eyeScanDone t port width height => Sys2Proof.Machine.execEyeScanDone t port width height s
  | .injectionEnd t => Sys2Proof.Machine.execInjectionEnd t s
  | .verifyDone t writeOk => Sys2Proof.Machine.execVerifyDone t writeOk s
  | .activationTopazReset t failed => Sys2Proof.Machine.execActivationTopazReset t failed s
  | .activationOverrun t => Sys2Proof.Machine.execActivationOverrun t s
  | .trialMsSave t => Sys2Proof.Machine.execTrialMsSave t s
  | .trialTimeout t => Sys2Proof.Machine.execTrialTimeout t s
  | .calibrationDone t out => Sys2Proof.Machine.execCalibrationDone t out s
  | .cvJobDone t unit => Sys2Proof.Machine.execCvJobDone t unit s
  | .mapCopyDone t tile => Sys2Proof.Machine.execMapCopyDone t tile s
  | .mapPersist t tile writeOk => Sys2Proof.Machine.execMapPersist t tile writeOk s
  | .packetDiscard t path => Sys2Proof.Machine.execPacketDiscard t path s
  | .classicalCanFrame t can xtd id => Sys2Proof.Machine.execClassicalCanFrame t can xtd id s
  | .writePkt t cpt bytes env => Sys2Proof.Machine.execWritePkt t cpt bytes env s
  | .readPkt t cpt => Sys2Proof.Machine.execReadPkt t cpt s
  | .readStat t cpt => Sys2Proof.Machine.execReadStat t cpt s
  | .scnRateWrite t ctx g v => Sys2Proof.Machine.execScnRateWrite t ctx g v s
  | .close t ctx => Sys2Proof.Machine.execClose t ctx s
  | .release t ctx => Sys2Proof.Machine.execRelease t ctx s
  | .fltPfenceClrGo t ctx => Sys2Proof.Machine.execFltPfenceClrGo t ctx s
  | .telltaleClear t ctx g => Sys2Proof.Machine.execTelltaleClear t ctx g s
  | .rtcTimeStage t ctx v => Sys2Proof.Machine.execRtcTimeStage t ctx v s
  | .rtcTimeLoad t ctx v => Sys2Proof.Machine.execRtcTimeLoad t ctx v s
  | .rtcTimeLoRead t => Sys2Proof.Machine.execRtcTimeLoRead t s
  | .rtcAonCntLoRead t => Sys2Proof.Machine.execRtcAonCntLoRead t s
  | .hubLoadRead t => Sys2Proof.Machine.execHubLoadRead t s
  | .garLoadRead t eng => Sys2Proof.Machine.execGarLoadRead t eng s
  | .nvmLogSelWrite t ctx v => Sys2Proof.Machine.execNvmLogSelWrite t ctx v s
  | .topazHeartbeat t count => Sys2Proof.Machine.execTopazHeartbeat t count s
  | .registerWrite t ctx addr v => Sys2Proof.Machine.execRegisterWrite t ctx addr v s
  | .powerUp t => Sys2Proof.Machine.execPowerUp t s
  | .resetN t lowNs => Sys2Proof.Machine.execResetN t lowNs s
  | .boot t replayed bad => Sys2Proof.Machine.execBoot t replayed bad s
  | .selfTestEnd t pass safOk => Sys2Proof.Machine.execSelfTestEnd t pass safOk s
  | .flashLoadEnd t flash => Sys2Proof.Machine.execFlashLoadEnd t flash s
  | .groupStart t => Sys2Proof.Machine.execGroupStart t s
  | .supplyBrownOut t => Sys2Proof.Machine.execSupplyBrownOut t s
  | .vddSafExcursion t => Sys2Proof.Machine.execVddSafExcursion t s
  | .safPowerOnReset t => Sys2Proof.Machine.execSafPowerOnReset t s
  | .vaonLoss t => Sys2Proof.Machine.execVaonLoss t s
  | .bkupLost t => Sys2Proof.Machine.execBkupLost t s
  | .hwsafe t => Sys2Proof.Machine.execHwsafe t s
  | .clockMonitor t clk => Sys2Proof.Machine.execClockMonitor t clk s
  | .crystalStop t => Sys2Proof.Machine.execCrystalStop t s
  | .crystalReturn t => Sys2Proof.Machine.execCrystalReturn t s
  | .qualifiedSafAckEdge t edge => Sys2Proof.Machine.execQualifiedSafAckEdge t edge s
  | .unprovisionTimeout t => Sys2Proof.Machine.execUnprovisionTimeout t s
  | .ackStuck ack => Sys2Proof.Machine.execAckStuck ack s
  | .safetyInputChange t n a b => Sys2Proof.Machine.execSafetyInputChange t n a b s
  | .inputDiscrepancy t n => Sys2Proof.Machine.execInputDiscrepancy t n s
  | .inputRateWindow t n changes => Sys2Proof.Machine.execInputRateWindow t n changes s
  | .testPulse t k levels => Sys2Proof.Machine.execTestPulse t k levels s
  | .outputFeedbackMismatch t j fb pin => Sys2Proof.Machine.execOutputFeedbackMismatch t j fb pin s
  | .limpReadback t => Sys2Proof.Machine.execLimpReadback t s
  | .producerExpiry t k => Sys2Proof.Machine.execProducerExpiry t k s
  | .topazWatchdog t => Sys2Proof.Machine.execTopazWatchdog t s
  | .topazRestarted t => Sys2Proof.Machine.execTopazRestarted t s
  | .mapCrcScan t bad => Sys2Proof.Machine.execMapCrcScan t bad s
  | .curveCheck t bad => Sys2Proof.Machine.execCurveCheck t bad s
  | .safTick r => Sys2Proof.Machine.execSafTick r s
  | .latch t g => Sys2Proof.Machine.execLatch t g s
  | .stopInstant t g => Sys2Proof.Machine.execStopInstant t g s
  | .lineStart t g notReady => Sys2Proof.Machine.execLineStart t g notReady s
  | .bandLatch t g env => Sys2Proof.Machine.execBandLatch t g env s
  | .bandLate t g tile band => Sys2Proof.Machine.execBandLate t g tile band s
  | .fill b => Sys2Proof.Machine.execFill b s
  | .pixel b => Sys2Proof.Machine.execPixel b s
  | .rowStart b => Sys2Proof.Machine.execRowStart b s
  | .frameStart b => Sys2Proof.Machine.execFrameStart b s
  | .command b env => Sys2Proof.Machine.execCommand b env s
  | .train b => Sys2Proof.Machine.execTrain b s
  | .trainSeq b => Sys2Proof.Machine.execTrainSeq b s
  | .idleReq b => Sys2Proof.Machine.execIdleReq b s
  | .idleReqTimeout t port => Sys2Proof.Machine.execIdleReqTimeout t port s
  | .retrainReq b => Sys2Proof.Machine.execRetrainReq b s
  | .loopReq b => Sys2Proof.Machine.execLoopReq b s
  | .test b => Sys2Proof.Machine.execTest b s
  | .health b => Sys2Proof.Machine.execHealth b s
  | .signature b => Sys2Proof.Machine.execSignature b s
  | .deadList b => Sys2Proof.Machine.execDeadList b s
  | .deadListTimeout t tile => Sys2Proof.Machine.execDeadListTimeout t tile s
  | .ident b => Sys2Proof.Machine.execIdent b s
  | .authResp b => Sys2Proof.Machine.execAuthResp b s
  | .authenticationEnd t tile => Sys2Proof.Machine.execAuthenticationEnd t tile s
  | .identTimeout t tile => Sys2Proof.Machine.execIdentTimeout t tile s
  | .authTimeout t tile => Sys2Proof.Machine.execAuthTimeout t tile s
  | .noIdRetry t tile => Sys2Proof.Machine.execNoIdRetry t tile s
  | .silentTimeout t tile => Sys2Proof.Machine.execSilentTimeout t tile s
  | .tileAbsent t tile => Sys2Proof.Machine.execTileAbsent t tile s
  | .reportFlood t tile => Sys2Proof.Machine.execReportFlood t tile s
  | .los t port => Sys2Proof.Machine.execLos t port s
  | .losHoldExpiry t port => Sys2Proof.Machine.execLosHoldExpiry t port s
  | .lol t port => Sys2Proof.Machine.execLol t port s
  | .loa t port => Sys2Proof.Machine.execLoa t port s
  | .errorRateExceeded t port => Sys2Proof.Machine.execErrorRateExceeded t port s
  | .squelchExit t port => Sys2Proof.Machine.execSquelchExit t port s
  | .exitTimer t port => Sys2Proof.Machine.execExitTimer t port s
  | .detectComplete t port => Sys2Proof.Machine.execDetectComplete t port s
  | .trainingFailure t port => Sys2Proof.Machine.execTrainingFailure t port s
  | .failedTimeout t port => Sys2Proof.Machine.execFailedTimeout t port s
  | .resyncTimeout t port => Sys2Proof.Machine.execResyncTimeout t port s
  | .txIdleEntry t port => Sys2Proof.Machine.execTxIdleEntry t port s
  | .txIdleExit t port => Sys2Proof.Machine.execTxIdleExit t port s
  | .portReferenceLoss t => Sys2Proof.Machine.execPortReferenceLoss t s
  | .portReferenceRestored t => Sys2Proof.Machine.execPortReferenceRestored t s
  | .spareBringIn t tile => Sys2Proof.Machine.execSpareBringIn t tile s
  | .twinRejoin t tile => Sys2Proof.Machine.execTwinRejoin t tile s
  | .spareReturn t tile => Sys2Proof.Machine.execSpareReturn t tile s
  | .tick t env => Sys2Proof.Machine.execTick t env s
  | .currentSample t chan adcU adcV pins => Sys2Proof.Machine.execCurrentSample t chan adcU adcV pins s
  | .loopOverrun t l => Sys2Proof.Machine.execLoopOverrun t l s
  | .bankSwitch t => Sys2Proof.Machine.execBankSwitch t s
  | .coefCheck t bad => Sys2Proof.Machine.execCoefCheck t bad s
  | .frozenFeedback t chan => Sys2Proof.Machine.execFrozenFeedback t chan s
  | .encoderErrors t chan => Sys2Proof.Machine.execEncoderErrors t chan s
  | .homingComplete t chan => Sys2Proof.Machine.execHomingComplete t chan s
  | .homingTimeout t chan => Sys2Proof.Machine.execHomingTimeout t chan s
  | .motorDriverFault t chan => Sys2Proof.Machine.execMotorDriverFault t chan s
  | .adcConversion t k raw => Sys2Proof.Machine.execAdcConversion t k raw s
  | .imuSample t bytes => Sys2Proof.Machine.execImuSample t bytes s
  | .hostPoseTimeout t => Sys2Proof.Machine.execHostPoseTimeout t s
  | .imuOnlyTimeout t => Sys2Proof.Machine.execImuOnlyTimeout t s
  | .thermalSample t reads pw => Sys2Proof.Machine.execThermalSample t reads pw s
  | .modelBaseUpdate t => Sys2Proof.Machine.execModelBaseUpdate t s
  | .shutdownStop t => Sys2Proof.Machine.execShutdownStop t s
  | .holdSensorSample t reads => Sys2Proof.Machine.execHoldSensorSample t reads s
  | .thermalHoldEnd t => Sys2Proof.Machine.execThermalHoldEnd t s
  | .sleepSensorSample t reads => Sys2Proof.Machine.execSleepSensorSample t reads s
  | .waitForState t => Sys2Proof.Machine.execWaitForState t s
  | .entryDrain t => Sys2Proof.Machine.execEntryDrain t s
  | .stateReached t => Sys2Proof.Machine.execStateReached t s
  | .wakePin w => Sys2Proof.Machine.execWakePin w s
  | .calendarAlarm t => Sys2Proof.Machine.execCalendarAlarm t s
  | .wakeTimer t => Sys2Proof.Machine.execWakeTimer t s
  | .exitComplete t failed => Sys2Proof.Machine.execExitComplete t failed s
  | .loadWindow t load gar0 gar1 => Sys2Proof.Machine.execLoadWindow t load gar0 gar1 s
  | .placementPlan t plan => Sys2Proof.Machine.execPlacementPlan t plan s
  | .migrationCopyDone t g => Sys2Proof.Machine.execMigrationCopyDone t g s
  | .pageReturn t handle => Sys2Proof.Machine.execPageReturn t handle s
  | .wearSliceWrite t => Sys2Proof.Machine.execWearSliceWrite t s
  | .faultArrival t hits => Sys2Proof.Machine.execFaultArrival t hits s
  | .retryEnd t src passed => Sys2Proof.Machine.execRetryEnd t src passed s
  | .recHoldExpiry t => Sys2Proof.Machine.execRecHoldExpiry t s
  | .parityScan t bad => Sys2Proof.Machine.execParityScan t bad s
  | .firstRegisterScan t => Sys2Proof.Machine.execFirstRegisterScan t s
  | .logWrite t writeOk => Sys2Proof.Machine.execLogWrite t writeOk s
  | .calibrationCheck t agree => Sys2Proof.Machine.execCalibrationCheck t agree s
  | .transmitPllLossOfLock t port => Sys2Proof.Machine.execTransmitPllLossOfLock t port s
  | .headerCheckFailure t port => Sys2Proof.Machine.execHeaderCheckFailure t port s
  | .codeViolation t port => Sys2Proof.Machine.execCodeViolation t port s
  | .reservedBlockType b type => Sys2Proof.Machine.execReservedBlockType b type s

end Sys2Proof.Machine
end

