-- ==== Sys2Proof/Machine/Waiting.lean ====
section
/-!
DEFINITION. Which waiting packet runs next (R41, R60, R77, R84): a packet in a CPT or CAN buffer once the device takes
packets again, or an accepted packet once nothing is ahead of it.
-/

namespace Sys2Proof.Machine

/-- The next packet: packets that do not need Topaz in the order of arrival, then Topaz packets, those
of an activation pause in the order of arrival (R406), the others by class and round robin (R77). -/
def nextHeld (m : Mach) : Option (Nat × Held) :=
  let cs := candidates m 0 [] m.held
  match cs.find? (fun c => !(c.2.accepted && c.2.topaz)) with
  | some c => some c
  | none =>
    cs.foldl (fun best c =>
      match best with
      | none => some c
      | some b =>
        if heldRank m c.2 < heldRank m b.2 then some c else some b) none

/-- Take the held packet at place `k` out; it resumes where it had got to. -/
def takeHeld (k : Nat) (h : Held) (m : Mach) : Mach :=
  when (h.accepted && h.topaz) (serve h.cls h.ctx) { m with held := m.held.eraseIdx k, resuming := h.accepted }

end Sys2Proof.Machine
end

