-- ==== Sys2Proof/Machine/Step.lean ====
section
/-!
DEFINITION. One step: the command at the front of the queue, or, on an empty queue, a packet that waits in the block.
-/

namespace Sys2Proof.Machine

/-- The command at the front of the queue has its effect. On an empty queue the first packet that may go on does; with none
the block idles. -/
def step (s : State) : Host.Outcome State Fault Refusal :=
  match s.pending with
  | c :: rest => exec c { s with pending := rest }
  | [] =>
    match nextHeld s.blk with
    | some (k, h) => exec h.instr { s with blk := takeHeld k h s.blk }
    | none => .next s

/-- The state with the command that a table word spells in front: no word spells one. -/
def State.withFetchWord (s : State) (nbits w : Nat) : State :=
  match Sys2Proof.decodeTableWord nbits w with
  | some c => { s with pending := c :: s.pending }
  | none => s

end Sys2Proof.Machine
end

