-- ==== Sys2Proof/Machine/Queue.lean ====
section
/-!
DEFINITION. How commands enter the queue: in the order of arrival, and those that fall in one cycle in the order that the rules give them
(R54, R232, R251, R260, R317, R318, R342, R374, R454).
-/

namespace Sys2Proof.Machine

/-! ### What a command is -/

/-- The packet that a command carries, with the row of the opcode table that it spells (R79, R90); none for the rows that are no
packets, and for a packet whose opcode no table defines. -/
def rowOp : Instr → Option (Packet × OpInfo)
  | .nop p => some (p, native 0x00 0 .hw .any true true)
  | .identify p => some (p, native 0x01 0 .topaz .any true true)
  | .contextOpen p => some (p, native 0x02 0 .topaz .any false true)
  | .contextClose p => some (p, native 0x03 0 .topaz .any false false)
  | .setPowerRun p => some (p, native 0x04 0 .topaz .any false false)
  | .setPowerIdle p => some (p, native 0x04 0 .topaz .any false false)
  | .setPowerSleep p => some (p, native 0x04 0 .topaz .h0 false false)
  | .setPowerDeep p => some (p, native 0x04 0 .topaz .h0 false false)
  | .setPowerOff p => some (p, native 0x04 0 .topaz .h0 false false)
  | .getStatus p => some (p, native 0x05 0 .topaz .any true true)
  | .loadQuery p => some (p, native 0x06 0 .hw .any false true)
  | .provisionLock p _ => some (p, native 0x07 0 .topaz .h0p false false)
  | .setPermissions p => some (p, native 0x08 1 .topaz .h0p false false)
  | .eventSubscribe p => some (p, native 0x09 1 .hw .any false false)
  | .pathBind p => some (p, native 0x0A 1 .topaz .h0p false false)
  | .groupAssign p => some (p, native 0x0B 1 .topaz .h0p false false)
  | .timeGet p => some (p, native 0x0C 0 .topaz .any true true)
  | .restart p => some (p, native 0x0D 0 .topaz .h0 false false)
  | .unprovision p => some (p, native 0x0D 0 .topaz .h0 false false)
  | .regRead p => some (p, native 0x10 0 .hw .any (onlyReads (span (par p 0).toNat (bits (par p 1) 8 0))) true)
  | .regWrite p => some (p, native 0x11 0 .hw .any false true)
  | .regModify p => some (p, native 0x12 0 .hw .any false true)
  | .regReadList p => some (p, native 0x13 0 .hw .any (onlyReads (addrs p)) true)
  | .regWriteList p => some (p, native 0x14 0 .hw .any false true)
  | .regPoll p => some (p, opRegPoll p)
  | .bufAlloc p => some (p, native 0x20 1 .topaz .any false true)
  | .bufFree p => some (p, native 0x21 0 .topaz .any false false)
  | .bufWrite p => some (p, native 0x22 0 .hw .any false false)
  | .bufRead p => some (p, native 0x23 2 .topaz .any true true)
  | .bufInfo p => some (p, native 0x24 1 .topaz .any true true)
  | .streamBind p => some (p, native 0x25 1 .topaz .any false false)
  | .streamUnbind p => some (p, native 0x25 1 .topaz .any false false)
  | .layerCreate p => some (p, native 0x28 1 .topaz .any false true)
  | .layerDestroy p => some (p, native 0x29 1 .topaz .any false false)
  | .layerSet p => some (p, native 0x2A 1 .topaz .any false false)
  | .layerAttach p => some (p, native 0x2B 0 .hw .any false false)
  | .stackSet p => some (p, native 0x2C 1 .topaz .any false false)
  | .colourMatrixSet p => some (p, native 0x2D 1 .topaz .any false false)
  | .commit p _ => some (p, native 0x30 0 .hw .any false true)
  | .commitStatus p => some (p, native 0x31 0 .hw .any true true)
  | .timingSet p => some (p, native 0x32 1 .topaz .h0p false false)
  | .racingSet p => some (p, native 0x33 1 .topaz .any false false)
  | .warpMeshLoad p => some (p, native 0x34 1 .topaz .any false true)
  | .poseMsg p => some (p, native 0x35 0 .hw .any false false)
  | .poseConfig p => some (p, native 0x36 1 .topaz .h0p false false)
  | .poseConfigGroup p => some (p, native 0x36 1 .topaz .h0p false false)
  | .poseConfigTile p => some (p, native 0x36 1 .topaz .h0p false false)
  | .placementMap p => some (p, native 0x37 2 .topaz .any true true)
  | .gainGlobalSet p => some (p, native 0x40 1 .topaz .any false false)
  | .uniformityLoad p => some (p, native 0x41 2 .topaz .h0p false false)
  | .wearTableLoad p => some (p, native 0x42 1 .topaz .h0p false false)
  | .transferCurveLoad p => some (p, native 0x43 1 .topaz .h0p false false)
  | .wearSnapshot p => some (p, native 0x44 2 .topaz .h0 false false)
  | .repairConfig p => some (p, native 0x45 1 .topaz .h0p false false)
  | .derateConfig p => some (p, native 0x46 1 .topaz .h0p false false)
  | .complianceRead p => some (p, native 0x47 2 .topaz .any true true)
  | .portConfig p => some (p, native 0x50 1 .topaz .h0p false false)
  | .portStatus p => some (p, native 0x51 1 .topaz .any true true)
  | .loopbackOff p => some (p, native 0x52 1 .topaz .h0p false false)
  | .nearEndSerial p => some (p, native 0x52 1 .topaz .h0p false false)
  | .nearEndParallel p => some (p, native 0x52 1 .topaz .h0p false false)
  | .farEndRequest p => some (p, native 0x52 1 .topaz .h0p false false)
  | .farEndAccept p => some (p, native 0x52 1 .topaz .h0p false false)
  | .eyeScan p => some (p, native 0x53 2 .topaz .h0 false true)
  | .tileEnumerate p => some (p, native 0x54 1 .topaz .any true true)
  | .tileInfo p => some (p, native 0x55 1 .topaz .any true true)
  | .tileAuthPolicy p => some (p, policyOp)
  | .policyTimeouts p => some (p, policyOp)
  | .policyAnchor p => some (p, policyOp)
  | .policyTile p => some (p, policyOp)
  | .twinSet p => some (p, native 0x57 1 .topaz .h0p false false)
  | .twinRemove p => some (p, native 0x57 1 .topaz .h0p false false)
  | .spareSet p => some (p, native 0x58 1 .topaz .h0p false false)
  | .chainConfig p => some (p, native 0x60 1 .topaz .h0p false false)
  | .chainWrite p => some (p, native 0x61 0 .topaz .any false false)
  | .chainReadback p => some (p, native 0x62 1 .topaz .any true true)
  | .groupConfig p => some (p, native 0x63 1 .topaz .h0p false false)
  | .auroraLoad p => some (p, native 0x64 1 .topaz .any false false)
  | .gammaLoad p => some (p, native 0x64 1 .topaz .any false false)
  | .auroraStart p => some (p, native 0x65 0 .topaz .any false false)
  | .auroraStop p => some (p, native 0x65 0 .topaz .any false false)
  | .probeConfig p => some (p, native 0x66 1 .topaz .h0p false false)
  | .colourLoopSet p => some (p, native 0x67 1 .topaz .h0p false false)
  | .loopConfig p => some (p, native 0x68 1 .topaz .h0p false false)
  | .coefLoad p => some (p, native 0x69 1 .topaz .h0 false true)
  | .bankSwap p => some (p, native 0x6A 0 .topaz .h0 false true)
  | .motorPosition p => some (p, native 0x6B 0 .topaz .any false false)
  | .motorSpeed p => some (p, native 0x6B 0 .topaz .any false false)
  | .motorPark p => some (p, native 0x6B 0 .topaz .any false false)
  | .motorRelease p => some (p, native 0x6B 0 .topaz .any false false)
  | .tuneInject p => some (p, native 0x6C 2 .topaz .h0 false false)
  | .captureRead p => some (p, native 0x6D 2 .topaz .any true true)
  | .adcConfig p => some (p, native 0x6E 1 .topaz .h0p false false)
  | .levelSet p => some (p, native 0x6F 1 .topaz .any false false)
  | .updBegin p => some (p, opUpdBegin)
  | .updCancel p => some (p, opUpdBegin)
  | .updData p => some (p, native 0x71 2 .topaz .h0 false false)
  | .updVerify p => some (p, opUpdVerify)
  | .activate p => some (p, native 0x73 0 .topaz .h0 false true)
  | .confirm p => some (p, native 0x74 0 .topaz .h0 false false)
  | .settingsSave p _ => some (p, native 0x75 1 .topaz .h0 false false)
  | .calRun p => some (p, opCalRun)
  | .calRunFactory p => some (p, opCalRun)
  | .cvJob p => some (p, opCvJob)
  | .heartbeat (.dratus p _) => some (p, opSafeWrite)
  | .beamMode (.dratus p _) => some (p, opSafeWrite)
  | .maskEnable (.dratus p _) => some (p, opSafeWrite)
  | .complianceMap (.dratus p _) => some (p, opSafeWrite)
  | .output (.dratus p _) => some (p, opSafeWrite)
  | .safeConfig (.dratus p _) => some (p, opSafeWrite)
  | .safeRead p => some (p, native 0x79 0 .onyx .any false true)
  | .safeStatus p => some (p, native 0x7A 0 .onyx .any false true)
  | .bamutEnable p => some (p, native 0x7B 1 .topaz .h0p false false)
  | .legacyNop p => some (p, legacy 0x00 0 .hw .any 0 true true)
  | .getId p => some (p, legacy 0x01 0 .topaz .any 0 true true)
  | .legacyGetStatus p => some (p, legacy 0x02 0 .topaz .any 0 true true)
  | .setGain p => some (p, legacy 0x03 1 .topaz .any 3 false false)
  | .frameWrite p => some (p, legacy 0x04 0 .hw .any 2 false false)
  | .frameShow p _ => some (p, legacy 0x05 0 .hw .any 2 false true)
  | .sleep p => some (p, legacy 0x06 0 .topaz .h0 0 false false)
  | _ => none

/-- The instant of an envelope's carrier. -/
def envTime : EnvSrc → Nat
  | .dratus p _ => p.t
  | .native f _ => f.t

/-- The instant of a command. -/
def instant : Instr → Nat
  | .nop p | .identify p | .contextOpen p | .contextClose p | .setPowerRun p | .setPowerIdle p | .setPowerSleep p | .setPowerDeep p
  | .setPowerOff p | .getStatus p | .loadQuery p | .provisionLock p _ | .setPermissions p | .eventSubscribe p | .pathBind p
  | .groupAssign p | .timeGet p | .restart p | .unprovision p | .regRead p | .regWrite p | .regModify p | .regReadList p
  | .regWriteList p | .regPoll p | .bufAlloc p | .bufFree p | .bufWrite p | .bufRead p | .bufInfo p | .streamBind p
  | .streamUnbind p | .layerCreate p | .layerDestroy p | .layerSet p | .layerAttach p | .stackSet p | .colourMatrixSet p
  | .commit p _ | .commitStatus p | .timingSet p | .racingSet p | .warpMeshLoad p | .poseMsg p | .poseConfig p | .poseConfigGroup p
  | .poseConfigTile p | .placementMap p | .gainGlobalSet p | .uniformityLoad p | .wearTableLoad p | .transferCurveLoad p
  | .wearSnapshot p | .repairConfig p | .derateConfig p | .complianceRead p | .portConfig p | .portStatus p | .loopbackOff p
  | .nearEndSerial p | .nearEndParallel p | .farEndRequest p | .farEndAccept p | .eyeScan p | .tileEnumerate p | .tileInfo p
  | .tileAuthPolicy p | .policyTimeouts p | .policyAnchor p | .policyTile p | .twinSet p | .twinRemove p | .spareSet p
  | .chainConfig p | .chainWrite p | .chainReadback p | .groupConfig p | .auroraLoad p | .gammaLoad p | .auroraStart p
  | .auroraStop p | .probeConfig p | .colourLoopSet p | .loopConfig p | .coefLoad p | .bankSwap p | .motorPosition p | .motorSpeed p
  | .motorPark p | .motorRelease p | .tuneInject p | .captureRead p | .adcConfig p | .levelSet p | .updBegin p | .updCancel p
  | .updData p | .updVerify p | .activate p | .confirm p | .settingsSave p _ | .calRun p | .calRunFactory p | .cvJob p | .safeRead p
  | .safeStatus p | .bamutEnable p | .legacyNop p | .getId p | .legacyGetStatus p | .setGain p | .frameWrite p | .frameShow p _
  | .sleep p | .badOpcode p _ _ => p.t
  | .heartbeat e | .beamMode e | .maskEnable e | .complianceMap e | .output e | .safeConfig e => envTime e
  | .ackStuck ack => ack.t
  | .safTick r => r.t
  | .wakePin w => w.t
  | .fill b | .pixel b | .rowStart b | .frameStart b | .command b _ | .train b | .trainSeq b | .idleReq b | .retrainReq b
  | .loopReq b | .test b | .health b | .signature b | .deadList b | .ident b | .authResp b | .reservedBlockType b _ => b.t
  | .pollRead t _ _ | .regPollTimeout t _ _ | .eyeScanDone t _ _ _ | .injectionEnd t | .verifyDone t _ | .activationTopazReset t _
  | .activationOverrun t | .trialMsSave t | .trialTimeout t | .calibrationDone t _ | .cvJobDone t _ | .mapCopyDone t _
  | .mapPersist t _ _ | .packetDiscard t _ | .classicalCanFrame t _ _ _ | .writePkt t _ _ _ | .readPkt t _ | .readStat t _
  | .scnRateWrite t _ _ _ | .close t _ | .release t _ | .fltPfenceClrGo t _ | .telltaleClear t _ _ | .rtcTimeStage t _ _
  | .rtcTimeLoad t _ _ | .rtcTimeLoRead t | .rtcAonCntLoRead t | .hubLoadRead t | .garLoadRead t _ | .nvmLogSelWrite t _ _
  | .topazHeartbeat t _ | .registerWrite t _ _ _ | .powerUp t | .resetN t _ | .boot t _ _ | .selfTestEnd t _ _ | .flashLoadEnd t _
  | .groupStart t | .supplyBrownOut t | .vddSafExcursion t | .safPowerOnReset t | .vaonLoss t | .bkupLost t | .hwsafe t
  | .clockMonitor t _ | .crystalStop t | .crystalReturn t | .qualifiedSafAckEdge t _ | .unprovisionTimeout t
  | .safetyInputChange t _ _ _ | .inputDiscrepancy t _ | .inputRateWindow t _ _ | .testPulse t _ _
  | .outputFeedbackMismatch t _ _ _ | .limpReadback t | .producerExpiry t _ | .topazWatchdog t | .topazRestarted t | .mapCrcScan t _
  | .curveCheck t _ | .latch t _ | .stopInstant t _ | .lineStart t _ _ | .bandLatch t _ _ | .bandLate t _ _ _
  | .idleReqTimeout t _ | .deadListTimeout t _ | .authenticationEnd t _ | .identTimeout t _ | .authTimeout t _ | .noIdRetry t _
  | .silentTimeout t _ | .tileAbsent t _ | .reportFlood t _ | .los t _ | .losHoldExpiry t _ | .lol t _ | .loa t _
  | .errorRateExceeded t _ | .squelchExit t _ | .exitTimer t _ | .detectComplete t _ | .trainingFailure t _ | .failedTimeout t _
  | .resyncTimeout t _ | .txIdleEntry t _ | .txIdleExit t _ | .portReferenceLoss t | .portReferenceRestored t | .spareBringIn t _
  | .twinRejoin t _ | .spareReturn t _ | .tick t _ | .currentSample t _ _ _ _ | .loopOverrun t _ | .bankSwitch t | .coefCheck t _
  | .frozenFeedback t _ | .encoderErrors t _ | .homingComplete t _ | .homingTimeout t _ | .motorDriverFault t _
  | .adcConversion t _ _ | .imuSample t _ | .hostPoseTimeout t | .imuOnlyTimeout t | .thermalSample t _ _ | .modelBaseUpdate t
  | .shutdownStop t | .holdSensorSample t _ | .thermalHoldEnd t | .sleepSensorSample t _ | .waitForState t | .entryDrain t
  | .stateReached t | .calendarAlarm t | .wakeTimer t | .exitComplete t _ | .loadWindow t _ _ _
  | .placementPlan t _ | .migrationCopyDone t _ | .pageReturn t _ | .wearSliceWrite t | .faultArrival t _ | .retryEnd t _ _
  | .recHoldExpiry t | .parityScan t _ | .firstRegisterScan t | .logWrite t _ | .calibrationCheck t _ | .transmitPllLossOfLock t _
  | .headerCheckFailure t _ | .codeViolation t _ => t

/-- The packet that completes reception with a command, with VERSION and OPCODE: that of a packet row, or the one in the bytes that a
WRITE_PKT or a COMMAND block brings. -/
def received (m : Mach) (i : Instr) : Option (Nat × Nat × Packet) :=
  let stands (t : Nat) (path : Fin 29) (f : Found) : Option (Nat × Nat × Packet) :=
    if headerHere f.rest && decide (packetSize f.rest ≤ f.rest.length) then
      some (byteAt f.rest 1, byteAt f.rest 2, packetOf t path f.rest)
    else none
  match i with
  | .writePkt t cpt bytes _ => stands t (cptPath cpt) (findHeader (bytes.map BitVec.toNat) false 0)
  | .command b _ => stands b.t ⟨b.port.val, by omega⟩ (findHeader ((rxOf m b.port).buf ++ commandBytes b) (rxOf m b.port).lost 0)
  | .badOpcode p ver op => some (ver, op, p)
  | i => (rowOp i).map (fun r => (r.2.ver, r.2.op, r.1))

/-! ### Commands that fall in one cycle -/

/-- What decides between commands in one cycle: a packet on a path, an envelope, a report or the loss of UP on a port, an event of R231 at
its place in the list of R232, a timer of a tile, and the single events that R260, R318, R342, R374 and R454 put in order; `other` stands
for every command but a CLOSE and the expiry of REC_HOLD. -/
inductive Tie where
  | packet (path : Nat)
  | envelope (native : Bool)
  | report (port : Nat)
  | leavesUp (port : Nat)
  | portEvent (port rank : Nat)
  | tileTimer
  | timingLatch
  | authEnd
  | fault
  | closes
  | recHold
  | other
  | expiry
  | ackEdge
  | armedEnd
  | wake
  | abortPoint
  deriving DecidableEq, Repr

/-- Does the packet write FLT_FIRST_CTL, in which CLOSE lies? -/
def writesFirst (op : Nat) (p : Packet) : Bool :=
  if op = 0x11 ∨ op = 0x12 then
    decide ((par p 0).toNat ≤ rFLT_FIRST_CTL) && decide (rFLT_FIRST_CTL < (par p 0).toNat + 4 * (p.params.length - 1))
  else op == 0x14 && p.params.contains (w32 rFLT_FIRST_CTL)

/-- The ties of a packet: its path, the envelope in a SAFE_WRITE or SAFE_READ, the wake that it is during an entry, a CLOSE by a register
write, and a ROLE or PORT_CONFIG for a port. -/
def packetTies (ver op : Nat) (p : Packet) : List Tie :=
  let port (f : Nat → List Tie) : List Tie := if bits (par p 0) 4 0 < 24 then f (bits (par p 0) 4 0) else []
  [.packet p.path, .wake] ++ (if ver = 1 then
    (if op = 0x78 ∨ op = 0x79 then [.envelope false] else []) ++ (if writesFirst op p then [.closes] else []) ++
      (if op = 0x50 then port (fun k => [.portEvent k (if fget (par p 1) fCPL_CFG_ROLE = 0 then 1 else 3)]) else [])
  else [])

/-- A port leaves UP, or may (R231), at a place of the list of R232. -/
def downTies (port rank : Nat) : List Tie := [.leavesUp port, .portEvent port rank, .other]

/-- The ties of the rows that are no packets. -/
def eventTies : Instr → List Tie
  | .heartbeat (.native _ _) | .beamMode (.native _ _) | .maskEnable (.native _ _) | .complianceMap (.native _ _) | .output (.native _ _)
  | .safeConfig (.native _ _) => [.envelope true, .other]
  | .health b | .signature b | .deadList b | .ident b | .authResp b => [.report b.port, .other]
  | .retrainReq b => downTies b.port 6
  | .los _ p | .losHoldExpiry _ p | .lol _ p | .loa _ p | .transmitPllLossOfLock _ p => downTies p 4
  | .errorRateExceeded _ p => downTies p 5
  | .portReferenceLoss _ => (List.range 24).flatMap (fun p => downTies p 2)
  | .loopReq b | .trainSeq b | .train b => [.portEvent b.port 7, .other]
  | .squelchExit _ p | .exitTimer _ p | .detectComplete _ p | .trainingFailure _ p | .failedTimeout _ p | .resyncTimeout _ p =>
    [.portEvent p 7, .other]
  | .deadListTimeout _ _ | .identTimeout _ _ | .authTimeout _ _ | .noIdRetry _ _ | .silentTimeout _ _ | .tileAbsent _ _ => [.tileTimer, .other]
  | .authenticationEnd _ _ => [.tileTimer, .authEnd, .other]
  | .latch _ _ => [.timingLatch, .other]
  | .faultArrival _ _ => [.fault, .other]
  | .close _ _ => [.closes]
  | .registerWrite _ _ a _ => if a = rFLT_FIRST_CTL then [.closes] else [.other]
  | .recHoldExpiry _ => [.recHold]
  | .producerExpiry _ _ => [.expiry, .other]
  | .qualifiedSafAckEdge _ _ => [.ackEdge, .other]
  | .unprovisionTimeout _ => [.armedEnd, .other]
  | .wakePin _ | .calendarAlarm _ | .wakeTimer _ => [.wake, .other]
  | .wearSliceWrite _ | .waitForState _ | .entryDrain _ | .stateReached _ => [.abortPoint, .other]
  | _ => [.other]

/-- The ties of a command. -/
def ties (m : Mach) (i : Instr) : List Tie :=
  match received m i with
  | some (ver, op, p) => packetTies ver op p
  | none => eventTies i

/-- Two instants in one cycle of the HUB clock (400 MHz), of the SAF clock (100 MHz), of the AON clock (32,768 Hz). -/
def sameHub (t u : Nat) : Bool := t * 2 / 3 == u * 2 / 3
def sameSaf (t u : Nat) : Bool := t / 6 == u / 6
def sameAon (t u : Nat) : Bool := t * 32768 / 600000000 == u * 32768 / 600000000

/-- Of two commands at `t` and `u` in one cycle, the one with the first tie is taken before the one with the second. -/
def Tie.before (m : Mach) (t u : Nat) : Tie → Tie → Bool
  | .packet p, .packet q => sameHub t u && decide (p < q)
  | .report p, .report q => sameHub t u && decide (p < q)
  | .leavesUp p, .report q => sameHub t u && p == q
  | .leavesUp _, .tileTimer => sameHub t u
  | .portEvent p a, .portEvent q b => p == q && lrxAt m p t == lrxAt m p u && decide (a < b)
  | .fault, .report _ | .fault, .leavesUp _ | .fault, .tileTimer | .fault, .timingLatch => sameHub t u
  | .timingLatch, .authEnd => sameHub t u
  | .closes, .other | .closes, .recHold | .other, .recHold => sameHub t u
  | .envelope false, .envelope true => sameSaf t u
  | .envelope _, .expiry => sameSaf t u
  | .ackEdge, .armedEnd => sameSaf t u
  | .wake, .abortPoint => sameAon t u
  | _, _ => false

/-- Of two commands in one cycle, `c` is taken before `d`. -/
def precedes (m : Mach) (c d : Instr) : Bool :=
  (ties m c).any (fun x => (ties m d).any (fun y => x.before m (instant c) (instant d) y))

/-- A command comes to the queue: last, but before the first command that it precedes; those behind that precede it go before it. -/
def arrange (m : Mach) (c : Instr) (q : List Instr) : List Instr :=
  let a := q.takeWhile (fun d => !precedes m c d)
  let b := q.dropWhile (fun d => !precedes m c d)
  a ++ b.filter (fun d => precedes m d c) ++ c :: b.filter (fun d => !precedes m d c)

/-- A command is sent to the block. -/
def State.offer (c : Instr) (s : State) : State := { s with pending := arrange s.blk c s.pending }

/-- Commands are sent to the block one after the other. -/
def State.offerAll (cs : List Instr) (s : State) : State := cs.foldl (fun s c => s.offer c) s

/-- A queue in which commands of one cycle stand in the order in which the device takes them. -/
def ordered (m : Mach) : List Instr → Bool
  | [] => true
  | c :: q => q.all (fun d => !precedes m d c) && ordered m q

end Sys2Proof.Machine
end

