-- ==== Sys2Proof/Safety.lean ====
section
/-!
DEFINITION. The terms in which the claims are made: a packet that starts, what a command leaves behind, a quiet block, the canonical
form of the layer pool.
-/

namespace Sys2Proof.Machine

/-! ### Packets that start -/

/-- The packet that row `i` carries passes checks 1 to 11 of R56 and starts at once, in state `m`; the image in force executes its
opcode (R395), and the reply that it would receive with OK fits its path (R45). -/
abbrev Starts (i : Instr) (o : OpInfo) (rlen : Packet → Mach → Nat) (p : Packet) (s : State) (m : Mach) : Prop :=
  arrive i o true p s.blk = .go m ∧ (flag m rUPD_STAT fUPD_STAT_GOLDEN && !goldenOp o) = false ∧ rlen p m ≤ pathMax p.path

/-- The state in which an arriving packet ends or starts. -/
def Gate.mach : Gate → Mach
  | .stop m => m
  | .go m => m

/-- The packet goes on. -/
def Gate.goes : Gate → Bool
  | .stop _ => false
  | .go _ => true

/-! ### Packets that arrive -/

/-- The hub runs and takes packets: no entry to a power state is under way, and the packet is not one that resumes. -/
abbrev Takes (m : Mach) : Prop := m.resuming = false ∧ hubRuns m = true ∧ m.pwr.st ≠ 2 ∧ m.pwr.entry = none

/-- Check 2 of R56. -/
def versionOk (o : OpInfo) (p : Packet) (m : Mach) : Bool :=
  o.ver == 1 || (o.ver == 0 && flag m (rHUB_CTX_CFG (ctxN p)) fHUB_CTX_CFG_BAMUT_CMD)

/-- Check 5 of R56. -/
def lengthOk (p : Packet) : Bool := decide (p.plen.toNat ≤ pathMax p.path) && !p.short && p.plen.toNat == p.params.length

/-- Check 8 of R56. -/
def contextOk (o : OpInfo) (p : Packet) (m : Mach) : Bool :=
  ctxOpen m (ctxN p) || o.op == 0x00 || (o.ver == 1 && (o.op == 0x01 || o.op == 0x02)) || (o.ver == 0 && o.op == 0x01)

/-- The packet arrives (R455) and passes checks 1 to 8 of R56. -/
abbrev Checked (o : OpInfo) (p : Packet) (m : Mach) : Prop :=
  outOfReach m p.path = false ∧
  pathEnabled m p.path = true ∧ p.hchk.toNat = packetHchk o.ver o.op p ∧ versionOk o p m = true ∧ hostMatches m p = true ∧
    fieldsOk p = true ∧ lengthOk p = true ∧ p.trailer.toNat = packetTrailer o.ver o.op p ∧ contextOk o p m = true

/-- The queue after a packet of it has been accepted (R57). -/
def advanced (o : OpInfo) (p : Packet) (m : Mach) : Mach :=
  let q := queueOf m (ctxN p) (queueN p)
  setQueue (ctxN p) (queueN p)
    { expected := (q.expected + 1) % 65536, any := true, stored := none, reads := o.reads, pend := false } m

/-- Nothing ahead of the packet keeps it waiting (R41, R60, R77, R406). -/
def mayStart (o : OpInfo) (p : Packet) (m : Mach) : Bool :=
  !(queueBusy m (ctxN p) (queueN p) || (barrier p && ctxBusy m (ctxN p)) ||
    (o.exe == .topaz && (topazWaits m o.ver o.op || topazAhead m o.cls (ctxN p))))

/-- The packet starts: a Topaz packet moves the round robin on (R77). -/
def started (o : OpInfo) (p : Packet) (m : Mach) : Mach := if o.exe == .topaz then serve o.cls (ctxN p) m else m

/-! ### What a command leaves -/

/-- The state after a command whose effect on the block was `m`. -/
def after (m : Mach) (s : State) : State := { s with blk := settle m }

/-- The state after a packet that was executed in state `before`, and whose body left `m` and answered `r`: the reply goes at once, or after the
writes of the packet that are held on their way to the AON domain (R31, R61). -/
def afterReply (o : OpInfo) (p : Packet) (r : Rep) (before m : Mach) (s : State) : State := after (respond (replyTo o p) r before m) s

/-- Nothing falls due when the command ends: no fence, no block reset, no chip reset. -/
abbrev Quiet (m : Mach) : Prop := m.flt.due = [] ∧ m.flt.dueReset = none

/-! ### Where a row completes -/

/-- A packet of the row that starts, with `guard` true of it and of the state, executes with status and parameters `rep`: the step
answers a next state, in which the block is as `eff` says, but for the reply sent and what falls due at the end. -/
def Answers (row : Packet → Instr) (o : OpInfo) (rlen : Packet → Mach → Nat) (guard : Packet → Mach → Prop)
    (rep : Packet → Mach → Rep) (eff : Packet → Mach → Mach) : Prop :=
  ∀ (p : Packet) (s : State) (m : Mach), Starts (row p) o rlen p s m → guard p m →
    exec (row p) s = .next (afterReply o p (rep p m) m (eff p m) s)

/-- The same for a row that also reads or writes the layer pool. -/
def AnswersMem (row : Packet → Instr) (o : OpInfo) (rlen : Packet → Mach → Nat) (guard : Packet → Tab Byte → Mach → Prop)
    (rep : Packet → Tab Byte → Mach → Rep) (pool : Packet → Tab Byte → Mach → Tab Byte)
    (eff : Packet → Tab Byte → Mach → Mach) : Prop :=
  ∀ (p : Packet) (s : State) (m : Mach), Starts (row p) o rlen p s m → guard p s.mem m →
    exec (row p) s = .next (after (answer (replyTo o p) (rep p s.mem m) (eff p s.mem m)) { s with mem := pool p s.mem m })

/-- A row of its own that is due, as `guard` says of the block at the row's instant, takes effect: the step answers a next state,
in which the block is as `eff` says, but for what falls due at the end. -/
def Happens (row : Nat → Instr) (guard : Mach → Prop) (eff : Mach → Mach) : Prop :=
  ∀ (t : Nat) (s : State), guard (atTime t s.blk) → exec (row t) s = .next (after (eff (atTime t s.blk)) s)

/-! ### Blocks and reports of tiles -/

/-- A Cirrus block other than FILL and TRAIN is heard on its port: whether the elastic buffer takes it, and the block after that
(R220, R222, R226). -/
def blkHeard (b : Blk) (m : Mach) : Bool × Mach := m |> heard b.port |> adaptEq b.port |> ebTake b.port

/-- Such a block arrives on a port that receives, and its elastic buffer takes it. -/
abbrev BlkTaken (b : Blk) (m : Mach) : Prop := receives m b.port = true ∧ (blkHeard b m).1 = true

/-- The block after the SEQ of such a Cirrus block has been checked (R212). -/
def seqTaken (b : Blk) (m : Mach) : Mach := checkSeqIn b.port b.seq (b.seq + 1) (blkHeard b m).2

/-- A report of KIND `kind` arrives from tile `t` on a port in UP, passes the checks of R249, has not been taken before (R251) and
is among the first 64 of its window (R252). -/
def ReportComes (kind : Nat) (b : Blk) (t : Nat) (m : Mach) : Prop :=
  let n := seqTaken b m
  let ix := (n.now - n.pwr.hubAt) / ms 1
  BlkTaken b m ∧ tileRole m b.port = true ∧ (tileOfPort m b.port).isSome = true ∧ portState n b.port = 4 ∧
    tileOfPort n b.port = some t ∧ reportOk kind b = true ∧
    (tileOf n t).recent.contains (repKind b, repSeq b, repPart b) = false ∧
    (if (tileOf n t).win.1 = ix then (tileOf n t).win.2 else 0) < 64

/-- The block after such a report has been recorded: the window counts it, and TIL_STAT.PORT names its port. -/
def reportNoted (b : Blk) (t : Nat) (m : Mach) : Mach :=
  let n := seqTaken b m
  let r := tileOf n t
  let ix := (n.now - n.pwr.hubAt) / ms 1
  n |> setTile t { r with
      win := (ix, (if r.win.1 = ix then r.win.2 else 0) + 1)
      recent := ((repKind b, repSeq b, repPart b) :: r.recent).take 16 } |>
    setF (rTIL_STAT t) fTIL_STAT_PORT b.port

/-! ### Safety envelopes -/

/-- The envelope `e` of producer `who` passes checks 3 to 11 of R317, `wait` PIX cycles after its reception; `good` stands for the
object's own checks 9 and 11. -/
def EnvTaken (write : Bool) (wait : Nat) (who : Option Nat) (e : Env) (good : Prop) (m : Mach) : Prop :=
  hwSafe m = false ∧ producerOf m e.prod = some who ∧ e.seq ≠ lastSeq m who ∧
    (inSync m who = false → (e.seq + 65536 - lastSeq m who) % 65536 ≤ seqWin m who) ∧ (inSync m who = true → e.obj = 1) ∧
    wait ≤ ms e.deadline ∧ objAllowed m who write e.obj = true ∧ (write = true → e.obj = 6 → locked m = false) ∧ good

/-- An accepted SAFE_WRITE of object `obj`, in a Dratus packet or in a frame on the native path, has its effect: it accounts for
the producer and does what `eff` says to the object. -/
def WritesObject (row : EnvSrc → Instr) (obj : Nat) (good : List Word → Mach → Prop) (eff : List Word → Mach → Mach) : Prop :=
  ∀ (e : Env) (who : Option Nat) (waitMs : Nat),
  Answers (fun p => row (.dratus p waitMs)) (native 0x78 0 .onyx .any false false) noReply
    (fun p m => parseEnv true p.params = .inr e ∧ e.obj = obj ∧
      EnvTaken true (m.now - p.t + ms waitMs) who e (good e.data m) m)
    (fun _ _ => ok []) (fun _ m => eff e.data (accountEnv who e true 0 m)) ∧
  ∀ f : CanFrame, Happens (fun t => row (.native { f with t := t } waitMs))
    (fun m => nativeTaken m f = true ∧ parseEnv false f.words = .inr e ∧ e.obj = obj ∧
      EnvTaken true (ms waitMs) who e (good e.data m) m)
    (fun m =>
      let n := eff e.data (accountEnv who e true 0 m)
      when (n.pwr.st == 2) (wakeEvent 8) n)

/-! ### Safe states and runs -/

/-- The layer pool is in its canonical form. -/
abbrev Memory.wf (mem : Tab Byte) : Prop := twf 0 mem = true

/-- What every step keeps. -/
abbrev State.Safe (s : State) : Prop := Memory.wf s.mem

/-- An outcome that is a next state. -/
def Completes (r : Host.Outcome State Fault Refusal) : Prop := ∃ t, r = .next t

end Sys2Proof.Machine
end

