-- ==== Sys2Proof/Certificates/Slice0/Obligations.lean ====
section
/-!
DEFINITION. The statements for the provers. `Answers`, `AnswersMem` and `Happens` (Safety.lean) say of a row that its step answers a
next state, and which. The titles are in OBLIGATIONS.json.
-/

open Sys2Proof Sys2Proof.Machine

/-! ### System opcodes (chapter 2) -/

/-- R79, R80: the rows that only report answer what the registers show. LOAD_QUERY clears PEAK. -/
def Obligations.SystemReportsAnswer : Prop :=
  Answers .nop (native 0x00 0 .hw .any true true) (fun p _ => p.params.length) (fun p _ => p.params.length ≤ 8)
    (fun p _ => ok p.params) (fun _ m => m) ∧
  Answers .identify (native 0x01 0 .topaz .any true true) (replyLen 6) (fun p _ => p.params.length = 0)
    (fun _ m => ok [viewReg m rHUB_DEV_ID, viewReg m rHUB_REV, viewReg m rHUB_UID_LO, viewReg m rHUB_UID_HI,
      viewReg m rHUB_FEAT, viewReg m rUPD_RUN_VER]) (fun _ m => m) ∧
  Answers .getStatus (native 0x05 0 .topaz .any true true) (replyLen 2) (fun p _ => p.params.length = 0)
    (fun _ m => ok [viewReg m rHUB_DEV_STAT, viewReg m rFLT_SUMMARY]) (fun _ m => m) ∧
  Answers .loadQuery (native 0x06 0 .hw .any false true) (replyLen 1) (fun p _ => p.params.length = 0)
    (fun _ m => ok [viewReg m rHUB_LOAD]) (fun _ m => setF rHUB_LOAD fHUB_LOAD_PEAK 0 m) ∧
  Answers .timeGet (native 0x0C 0 .topaz .any true true) (replyLen 2) (fun p _ => p.params.length = 0)
    (fun _ m => ok [w32 (calMs m), w32 (b2n (uncertain m) <<< 31 + calMs m >>> 32)]) (fun _ m => m)

/-- R72, R80, R86: the rows that set up contexts, paths, permissions and groups. -/
def Obligations.ContextRowsComplete : Prop :=
  Answers .contextOpen (native 0x02 0 .topaz .any false true) (replyLen 2)
    (fun p _ => p.params.length = 1 ∧ clean (par p 0) [(0, 0)] = true)
    (fun p m => openReply (openContext (ctxN p) (bit (par p 0) 0) m) (ctxN p))
    (fun p m => openContext (ctxN p) (bit (par p 0) 0) m) ∧
  Answers .contextClose (native 0x03 0 .topaz .any false false) noReply (fun p _ => p.params.length = 0) (fun _ _ => ok [])
    (fun p m => m |> openContext (ctxN p) false |> setB (rHUB_CTX_CFG (ctxN p)) fHUB_CTX_CFG_OPEN false) ∧
  Answers .setPermissions (native 0x08 1 .topaz .h0p false false) noReply
    (fun p _ => p.params.length = 3 ∧ clean (par p 0) [(1, 0)] = true ∧ bits (par p 0) 1 0 ≠ 0) (fun _ _ => ok [])
    (fun p m => m |> setReg (rHUB_CTX_WPERM (bits (par p 0) 1 0)) (par p 1 &&& 0x03FFBFFF) |>
      setReg (rHUB_CTX_OPPERM (bits (par p 0) 1 0)) (par p 2 &&& 0x1FF ||| 1)) ∧
  Answers .eventSubscribe (native 0x09 1 .hw .any false false) noReply
    (fun p _ => p.params.length = 1 ∧ clean (par p 0) [(15, 0)] = true) (fun _ _ => ok [])
    (fun p m => m |> setF (rHUB_CTX_CFG (ctxN p)) fHUB_CTX_CFG_EVT_MASK (par p 0).toNat |>
      setF (rHUB_EVT_PATH (ctxN p)) fHUB_EVT_PATH_PATH p.path) ∧
  Answers .pathBind (native 0x0A 1 .topaz .h0p false false) noReply
    (fun p _ => p.params.length = 1 ∧ clean (par p 0) [(31, 31), (9, 8), (4, 0)] = true ∧ bits (par p 0) 4 0 ≤ 28)
    (fun _ _ => ok [])
    (fun p m => m |> setF (rHUB_PATH_BIND (bits (par p 0) 4 0)) fHUB_PATH_BIND_EN (bits (par p 0) 31 31) |>
      setF (rHUB_PATH_BIND (bits (par p 0) 4 0)) fHUB_PATH_BIND_CTX (bits (par p 0) 9 8)) ∧
  Answers .groupAssign (native 0x0B 1 .topaz .h0p false false) noReply
    (fun p _ => p.params.length = 1 ∧ clean (par p 0) [(15, 12), (9, 8), (4, 0)] = true ∧ bits (par p 0) 4 0 < 8)
    (fun _ _ => ok [])
    (fun p m =>
      let owner := bits (par p 0) 9 8
      { m with owners := tput (0, 1) m.owners (bits (par p 0) 4 0) (owner, setBit (bits (par p 0) 15 12) owner) })

/-- R453, R454: the lock saves the settings and writes the lock line; RESTART makes a chip reset with cause 7 due at the end of the
command; UNPROVISION arms for 10 s. -/
def Obligations.ProvisioningRowsComplete : Prop :=
  Answers (fun p => .provisionLock p true) (native 0x07 0 .topaz .h0p false false) noReply
    (fun p m => p.params.length = 0 ∧ golden m = false ∧ locked m = false ∧ updState m = 0 ∧ pending m .cal = false ∧
      layoutFits m = true ∧ berylWrites m = true) (fun _ _ => ok [])
    (fun _ m => m |> setB rHUB_LOCK fHUB_LOCK_LOCKED true |> saveSettings |>
      lockLine true (lockCount m) |> setF rHUB_LOCK fHUB_LOCK_LOCK_CNT (lockCount m)) ∧
  Answers .restart (native 0x0D 0 .topaz .h0 false false) noReply
    (fun p m => p.params.length = 1 ∧ par p 0 = 0 ∧ m.pwr.entry = none ∧ m.upd.pause = none) (fun _ _ => ok [])
    (fun _ m => { m with flt := { m.flt with dueReset := some 7 } }) ∧
  Answers .unprovision (native 0x0D 0 .topaz .h0 false false) noReply
    (fun p m => p.params.length = 1 ∧ par p 0 = 1 ∧ m.pwr.entry = none ∧ m.upd.pause = none ∧ locked m = true ∧
      anyGrpRuns m = false ∧ outsOff m = true ∧ updState m = 0) (fun _ _ => ok [])
    (fun _ m => { m with saf := { m.saf with unprov := some (m.now + sec 10) } } |> setB rHUB_LOCK fHUB_LOCK_ARMED true) ∧
  Happens .unprovisionTimeout (fun m => ∃ d, m.saf.unprov = some d ∧ d ≤ m.now)
    (fun m => { m with saf := { m.saf with unprov := none } } |> setB rHUB_LOCK fHUB_LOCK_ARMED false)

/-! ### Power states (chapter 14) -/

/-- R369, R370, R371: SET_POWER with each STATE, from a state that permits it. RUN is entered from IDLE at once; an entry to any other
state begins at step E1. SLEEP of the legacy opcodes acts as SET_POWER with STATE 2. -/
def Obligations.SetPowerRowsComplete : Prop :=
  Answers .setPowerRun (native 0x04 0 .topaz .any false false) noReply
    (fun p m => p.params.length = 1 ∧ par p 0 = 0 ∧ m.pwr.entry = none ∧ m.pwr.st = 1 ∧
      powerRefused (setF rPWR_STAT fPWR_STAT_LAST_REQ 0 m) 0 = false) (fun _ _ => ok [])
    (fun _ m => m |> setF rPWR_STAT fPWR_STAT_LAST_REQ 0 |> setReg rPWR_TARGET 0 |> setPower 0) ∧
  Answers .setPowerIdle (native 0x04 0 .topaz .any false false) noReply
    (fun p m => p.params.length = 1 ∧ par p 0 = 1 ∧ m.pwr.entry = none ∧ m.pwr.st ≠ 1 ∧
      powerRefused (setF rPWR_STAT fPWR_STAT_LAST_REQ 1 m) 1 = false) (fun _ _ => ok [])
    (fun _ m => m |> setF rPWR_STAT fPWR_STAT_LAST_REQ 1 |> startEntry 1) ∧
  Answers .setPowerSleep (native 0x04 0 .topaz .h0 false false) noReply
    (fun p m => p.params.length = 1 ∧ par p 0 = 2 ∧ m.pwr.entry = none ∧ m.pwr.st ≠ 2 ∧
      powerRefused (setF rPWR_STAT fPWR_STAT_LAST_REQ 2 m) 2 = false) (fun _ _ => ok [])
    (fun _ m => m |> setF rPWR_STAT fPWR_STAT_LAST_REQ 2 |> startEntry 2) ∧
  Answers .setPowerDeep (native 0x04 0 .topaz .h0 false false) noReply
    (fun p m => p.params.length = 1 ∧ par p 0 = 3 ∧ m.pwr.entry = none ∧ m.pwr.st ≠ 3 ∧
      powerRefused (setF rPWR_STAT fPWR_STAT_LAST_REQ 3 m) 3 = false ∧
      homeBank (setF rPWR_STAT fPWR_STAT_LAST_REQ 3 m) 0 ≠ none ∧
      homeBank (setF rPWR_STAT fPWR_STAT_LAST_REQ 3 m) 1 ≠ none) (fun _ _ => ok [])
    (fun _ m => m |> setF rPWR_STAT fPWR_STAT_LAST_REQ 3 |> startEntry 3) ∧
  Answers .setPowerOff (native 0x04 0 .topaz .h0 false false) noReply
    (fun p m => p.params.length = 1 ∧ par p 0 = 4 ∧ m.pwr.entry = none ∧ m.pwr.st ≠ 4 ∧
      powerRefused (setF rPWR_STAT fPWR_STAT_LAST_REQ 4 m) 4 = false) (fun _ _ => ok [])
    (fun _ m => m |> setF rPWR_STAT fPWR_STAT_LAST_REQ 4 |> startEntry 4) ∧
  Answers .sleep (legacy 0x06 0 .topaz .h0 0 false false) noReply
    (fun p m => p.params.length = 0 ∧ m.pwr.entry = none ∧ m.pwr.st ≠ 2 ∧
      powerRefused (setF rPWR_STAT fPWR_STAT_LAST_REQ 2 m) 2 = false) (fun _ _ => ok [])
    (fun _ m => m |> setF rPWR_STAT fPWR_STAT_LAST_REQ 2 |> startEntry 2)

/-- R371 to R373: the steps of an entry. E2 writes the slices of the wear map and goes to E3 once the pass is complete; E3 writes the
target and goes to E4 with the ports idle, or to IDLE at once; E4, with everything drained, goes to E5 with the cause START recorded; the
final step reaches SLEEP, DEEP or OFF, and a wake seen before starts the exit. At AP1, AP2 and AP3 a wake aborts the entry, but for
Bamut-compatible entry. Outside an entry a slice is written and nothing else happens. -/
def Obligations.PowerEntryStepsComplete : Prop :=
  Happens .wearSliceWrite
    (fun m => hubRuns m = true ∧ topazStopped m = false ∧ golden m = false ∧ (writeSlice m).pwr.entry = none) writeSlice ∧
  (∀ e : EntryRec, let entry := fun (k : Nat) (m : Mach) => m.pwr.entry = some e ∧ e.step = k
  let wakes := fun (m : Mach) => if flag m rPWR_CFG fPWR_CFG_BAMUT_ENTRY then none else e.wake
  let saved := fun (m : Mach) =>
    let n := m |> setF rPWR_TARGET fPWR_TARGET_MODE e.target |> saveTrialMs
    { n with pwr := { n.pwr with berylMs := calMs n } }
  let reached := fun (m : Mach) => m |> recordTime |> endEntry
  Happens .wearSliceWrite
    (fun m => hubRuns m = true ∧ topazStopped m = false ∧ golden m = false ∧ entry 2 (writeSlice m) ∧ wakes (writeSlice m) = none)
    (fun m => when (decide ((writeSlice m).nvm.wearPass ≠ m.nvm.wearPass)) (toStep 3) (writeSlice m)) ∧
  (∀ src, Happens .wearSliceWrite
    (fun m => hubRuns m = true ∧ topazStopped m = false ∧ golden m = false ∧ entry 2 (writeSlice m) ∧ wakes (writeSlice m) = some src)
    (fun m => abortEntry 1 e src (writeSlice m))) ∧
  Happens .waitForState
    (fun m => entry 3 m ∧ topazStopped m = false ∧ wakes (saved m) = none ∧ e.target = 1)
    (fun m => m |> saved |> endEntry |> setPower 1) ∧
  Happens .waitForState
    (fun m => entry 3 m ∧ topazStopped m = false ∧ wakes (saved m) = none ∧ e.target ≠ 1)
    (fun m => m |> saved |> toStep 4 |> forEach (List.range 24) idlePort) ∧
  (∀ src, Happens .waitForState (fun m => entry 3 m ∧ topazStopped m = false ∧ wakes (saved m) = some src)
    (fun m => m |> saved |> abortEntry 2 e src)) ∧
  Happens .entryDrain (fun m => entry 4 m ∧ drained m = true ∧ wakes m = none) (fun m => m |> toStep 5 |> causeOn 0) ∧
  (∀ src, Happens .entryDrain (fun m => entry 4 m ∧ drained m = true ∧ wakes m = some src)
    (fun m => m |> forEach (idledPorts m) txExit |> abortEntry 3 e src)) ∧
  Happens .stateReached (fun m => entry 6 m ∧ e.target = 2)
    (fun m => m |> reached |> forEach (List.range 24) (fun p m => m |> endScan p |> stopPort p) |> setPower 2 |> latchWake e.wake) ∧
  Happens .stateReached (fun m => entry 6 m ∧ e.target = 3) (fun m => m |> reached |> setPower 3 |> latchWake e.wake) ∧
  Happens .stateReached (fun m => entry 6 m ∧ e.target = 4) (fun m => m |> reached |> chipReset 0 4 |> latchWake e.wake))

/-- R372, R375, R378: the pin, at its active level for long enough, wakes the device in SLEEP, DEEP or OFF or during an entry, so does the
calendar at the alarm, and the timer in a reached state once its ticks have passed. A wake source sets its bit in PWR_WAKE_SRC; an enabled
one starts the exit from SLEEP, DEEP or OFF, and during an entry is noted for the next abort point. The exit ends in RUN: after SLEEP with
what its live memories kept, after DEEP with what its banks kept (without Onyx's after a chip reset with cause 6), after OFF after a chip
reset, which holds while RESET_N is low. -/
def Obligations.WakeRowsComplete : Prop :=
  (∀ (high : Bool) (cycles : Nat), Happens (fun t => .wakePin ⟨t, high, cycles⟩)
    (fun m => wakeActs m = true ∧ high = flag m rPWR_CFG fPWR_CFG_WAKE_POL ∧ getF m rPWR_CFG fPWR_CFG_WAKE_FILT ≤ cycles)
    (wakeEvent 0)) ∧
  Happens .calendarAlarm
    (fun m => wakeActs m = true ∧ flag m rRTC_ALARM_HI fRTC_ALARM_HI_EN = true ∧ alarmMs m ≤ calMs m) (wakeEvent 1) ∧
  Happens .wakeTimer
    (fun m => (m.pwr.st = 2 ∨ m.pwr.st = 3 ∨ m.pwr.st = 4) ∧ (reg m rPWR_WAKE_TMR).toNat ≠ 0 ∧
      (reg m rPWR_WAKE_TMR).toNat ≤ ticksSince m) (wakeEvent 2) ∧
  (∀ failed, Happens (fun t => .exitComplete t failed) (fun m => m.pwr.exiting = true ∧ m.pwr.st = 2)
    (fun m => m |> wakeTime |> clocksStart |> wakeSleep failed)) ∧
  (∀ failed, Happens (fun t => .exitComplete t failed)
    (fun m => m.pwr.exiting = true ∧ m.pwr.st = 3 ∧ roleLost (clocksStart (wakeTime m)) failed 0 = false ∧
      roleLost (clocksStart (wakeTime m)) failed 1 = false)
    (fun m => showWake (clocksStart (wakeTime m)) (m |> wakeTime |> clocksStart |> restoreDeep failed))) ∧
  (∀ failed, Happens (fun t => .exitComplete t failed)
    (fun m => m.pwr.exiting = true ∧ m.pwr.st = 3 ∧ (roleLost (clocksStart (wakeTime m)) failed 0 = true ∨
      roleLost (clocksStart (wakeTime m)) failed 1 = true))
    (fun m =>
      let old := m |> wakeTime |> clocksStart
      old |> chipReset 6 0 |> deepBanks old failed |> showWake old)) ∧
  (∀ failed, Happens (fun t => .exitComplete t failed) (fun m => m.pwr.exiting = true ∧ m.pwr.st = 4)
    (fun m => m |> wakeTime |> clocksStart |> startUp 4 |> showWake (wakeTime m) |> showSource)) ∧
  (∀ k m, let noted := latchBits rPWR_WAKE_SRC fPWR_WAKE_SRC_SRC (2 ^ k) m
    let enabled := k = 6 ∨ hasBit (getF noted rPWR_WAKE_EN fPWR_WAKE_EN_EN) k = true
    (¬ enabled → wakeEvent k m = noted) ∧
    (enabled → m.pwr.entry = none → (m.pwr.st = 2 ∨ m.pwr.st = 3 ∨ m.pwr.st = 4) →
      wakeEvent k m = { setF rPWR_STAT fPWR_STAT_WAKE k noted with pwr := { m.pwr with exiting := true } }) ∧
    (∀ e : EntryRec, enabled → m.pwr.entry = some e → e.wake = none →
      wakeEvent k m = { noted with pwr := { m.pwr with entry := some { e with wake := some k } } }))

/-! ### Register access (chapters 2 and 18) -/

/-- R80, R450: the rows that read registers answer the values in order, with the effect of each read; a poll answers at its first
match, or TIMEOUT with the last value read once its time has passed. -/
def Obligations.RegisterReadRowsComplete : Prop :=
  (∀ (p : Packet) (s : State) (m : Mach),
    let l := span (par p 0).toNat (bits (par p 1) 8 0)
    let o := native 0x10 0 .hw .any (onlyReads l) true
    Starts (.regRead p) o (fun _ _ => bits (par p 1) 8 0) p s m → p.params.length = 2 → countOk (par p 1) = true →
    spanOk (par p 0).toNat (bits (par p 1) 8 0) = true →
    exec (.regRead p) s = .next (afterReply o p (ok (readRegs l m).1) m (readRegs l m).2 s)) ∧
  (∀ (p : Packet) (s : State) (m : Mach),
    let o := native 0x13 0 .hw .any (onlyReads (addrs p)) true
    Starts (.regReadList p) o (fun p _ => p.params.length) p s m → 1 ≤ p.params.length → p.params.length ≤ 256 →
    (addrs p).all addrOk = true →
    exec (.regReadList p) s = .next (afterReply o p (ok (readRegs (addrs p) m).1) m (readRegs (addrs p) m).2 s)) ∧
  (∀ (p : Packet) (s : State) (m : Mach), Starts (.regPoll p) (opRegPoll p) (replyLen 1) p s m → p.params.length = 4 →
    clean (par p 3) [(19, 0)] = true → 1 ≤ bits (par p 3) 19 0 → bits (par p 3) 19 0 ≤ 1000000 →
    addrOk (par p 0).toNat = true → viewReg m (par p 0).toNat &&& par p 1 = par p 2 →
    exec (.regPoll p) s =
      .next (afterReply (opRegPoll p) p (ok [viewReg m (par p 0).toNat]) m (readEffect (par p 0).toNat m) s)) ∧
  (∀ (ctx : Fin 4) (q : Fin 8) (r : PollRec), Happens (fun t => .pollRead t ctx q)
    (fun m => hubRuns m = true ∧ m.polls.find? (pollOf ctx q) = some r ∧ viewReg m r.addr &&& r.mask = r.expect)
    (fun m => answer r.dest (ok [viewReg m r.addr])
      { readEffect r.addr m with polls := dropFirst (pollOf ctx q) (readEffect r.addr m).polls })) ∧
  (∀ (ctx : Fin 4) (q : Fin 8) (r : PollRec), Happens (fun t => .regPollTimeout t ctx q)
    (fun m => m.polls.find? (pollOf ctx q) = some r ∧ r.endsAt ≤ m.now)
    (fun m => answer r.dest (errW stTIMEOUT r.last) { m with polls := dropFirst (pollOf ctx q) m.polls }))

/-- R81, R82, R451: the rows that write registers, for a context with write permission for the block. Each register takes the write
under the rules of `writeReg`; the reply counts the registers written in full, and is LOCKED where a field was refused (R15). Where a write
waits for another of the AON domain, the reply waits with it (R31, R61). -/
def Obligations.RegisterWriteRowsComplete : Prop :=
  Answers .regWrite (native 0x11 0 .hw .any false true) (replyLen 1)
    (fun p m => countOk (par p 1) = true ∧ p.params.length = 2 + bits (par p 1) 8 0 ∧
      spanOk (par p 0).toNat (bits (par p 1) 8 0) = true ∧ mayWrite m (ctxN p) (par p 0).toNat = true)
    (fun p m => (writeReply (writeRegs (ctxN p) ((span (par p 0).toNat (bits (par p 1) 8 0)).zip (p.params.drop 2)) m)).2)
    (fun p m => (writeRegs (ctxN p) ((span (par p 0).toNat (bits (par p 1) 8 0)).zip (p.params.drop 2)) m).1) ∧
  Answers .regWriteList (native 0x14 0 .hw .any false true) (replyLen 1)
    (fun p m => p.params.length % 2 = 0 ∧ 2 ≤ p.params.length ∧ p.params.length ≤ 256 ∧
      ((writePairs p.params).all fun e => addrOk e.1) = true ∧
      ((writePairs p.params).all fun e => mayWrite m (ctxN p) e.1) = true)
    (fun p m => (writeReply (writeRegs (ctxN p) (writePairs p.params) m)).2)
    (fun p m => (writeRegs (ctxN p) (writePairs p.params) m).1) ∧
  Answers .regModify (native 0x12 0 .hw .any false true) (replyLen 2)
    (fun p m => p.params.length = 3 ∧ addrOk (par p 0).toNat = true ∧ specialReg (par p 0).toNat = false ∧
      mayWrite m (ctxN p) (par p 0).toNat = true)
    (fun p m =>
      let a := (par p 0).toNat
      let r := writeReg (ctxN p) a ((viewReg m a &&& ~~~ par p 1) ||| (par p 2 &&& par p 1)) (readEffect a m)
      { status := if r.refused then stLOCKED else stOK, params := [viewReg m a, viewReg r.blk a] })
    (fun p m =>
      let a := (par p 0).toNat
      (writeReg (ctxN p) a ((viewReg m a &&& ~~~ par p 1) ||| (par p 2 &&& par p 1)) (readEffect a m)).blk) ∧
  (∀ (ctx : Fin 4) (addr : Nat) (v : Word), Happens (fun t => .registerWrite t ctx addr v)
    (fun m => hubRuns m = true ∧ ctxOpen m ctx = true ∧ addrOk addr = true ∧ mayWrite m ctx addr = true)
    (fun m => (writeReg ctx addr v m).blk))

/-- The registers whose write or read has a row of its own: R342 (CLOSE), R344 (RELEASE), R347 (GO), R276 (TELLTALE, which a new failure in
the same HUB cycle keeps, R14), R385 (the calendar; a write waits while another of the AON domain crosses, R31), R411 (the log entry), R203
(SCN_RATE), R450 (reads with an effect; the value read is left in `rdata`; a read of the AON domain waits for the writes that cross, R30).
-/
def Obligations.RegisterEffectRowsComplete : Prop :=
  (∀ ctx : Fin 4,
    let open' (a : Nat) (m : Mach) : Prop := hubRuns m = true ∧ ctxOpen m ctx = true ∧ mayWrite m ctx a = true
    Happens (fun t => .close t ctx) (open' rFLT_FIRST_CTL)
      (fun m => m |> setReg rFLT_FIRST_CTL (reg m rFLT_FIRST_CTL) |> closeRecord) ∧
    Happens (fun t => .release t ctx) (open' rFLT_ERRN) (fun m => m |> setReg rFLT_ERRN (reg m rFLT_ERRN) |> releaseErr) ∧
    Happens (fun t => .fltPfenceClrGo t ctx) (fun m => open' rFLT_PFENCE_CLR m ∧ mayConfig m ctx = true)
      (fun m => m |> setReg rFLT_PFENCE_CLR (reg m rFLT_PFENCE_CLR) |> clearFences) ∧
    (∀ v, let crosses (m : Mach) : Mach := { m with pwr := { m.pwr with aonBusyTo := m.now + aonCross } }
      let waits (a : Nat) (m : Mach) : Mach := { m with pwr := { m.pwr with aonQ := m.pwr.aonQ ++ [.write ⟨mayConfig m ctx, a, v⟩] } }
      Happens (fun t => .rtcTimeStage t ctx v) (fun m => open' rRTC_TIME_LO m ∧ m.pwr.aonBusyTo ≤ m.now)
        (fun m => stageTime v (crosses m)) ∧
      Happens (fun t => .rtcTimeStage t ctx v) (fun m => open' rRTC_TIME_LO m ∧ m.now < m.pwr.aonBusyTo) (waits rRTC_TIME_LO) ∧
      Happens (fun t => .rtcTimeLoad t ctx v) (fun m => open' rRTC_TIME_HI m ∧ m.pwr.aonBusyTo ≤ m.now)
        (fun m => loadTime m.now v (crosses m)) ∧
      Happens (fun t => .rtcTimeLoad t ctx v) (fun m => open' rRTC_TIME_HI m ∧ m.now < m.pwr.aonBusyTo) (waits rRTC_TIME_HI)) ∧
    (∀ v, Happens (fun t => .nvmLogSelWrite t ctx v) (open' rNVM_LOG_SEL)
      (fun m => m |> setReg rNVM_LOG_SEL (fset (reg m rNVM_LOG_SEL) fNVM_LOG_SEL_ENTRY (fget v fNVM_LOG_SEL_ENTRY)) |>
        loadEntry (fget v fNVM_LOG_SEL_ENTRY)))) ∧
  (∀ (ctx : Fin 4) (g : Fin 8) (v : Word), Happens (fun t => .scnRateWrite t ctx g v)
    (fun m => hubRuns m = true ∧ ctxOpen m ctx = true ∧ mayWrite m ctx (rSCN_RATE g) = true ∧ mayConfig m ctx = true)
    (fun m => (writeReg ctx (rSCN_RATE g) v m).blk)) ∧
  (∀ (ctx : Fin 4) (g : Fin 64), Happens (fun t => .telltaleClear t ctx g)
    (fun m => hubRuns m = true ∧ ctxOpen m ctx = true ∧ mayWrite m ctx (rCHN_GRP_STAT g) = true)
    (fun m =>
      let a := rCHN_GRP_STAT g
      let r := when (!bit (fresh m a) fCHN_GRP_STAT_TELLTALE.lo) (relight g) m
      setReg a (reg r a &&& ~~~ (w32 (2 ^ fCHN_GRP_STAT_TELLTALE.lo) &&& ~~~ fresh r a)) r)) ∧
  Happens .rtcTimeLoRead (fun m => hubRuns m = true)
    (fun m => { m with rdata := viewReg m rRTC_TIME_LO, pwr := { m.pwr with rtcHi := some (calMs (aonSettled m) >>> 32) } }) ∧
  Happens .rtcAonCntLoRead (fun m => hubRuns m = true)
    (fun m => { m with rdata := viewReg m rRTC_AON_CNT_LO, pwr := { m.pwr with aonHi := some (aonCount (aonSettled m) >>> 32) } }) ∧
  Happens .hubLoadRead (fun m => hubRuns m = true)
    (fun m => { setF rHUB_LOAD fHUB_LOAD_PEAK 0 m with rdata := viewReg m rHUB_LOAD }) ∧
  (∀ e : Fin 2, Happens (fun t => .garLoadRead t e) (fun m => hubRuns m = true)
    (fun m => { setF (rGAR_LOAD e) fGAR_LOAD_PEAK 0 m with rdata := viewReg m (rGAR_LOAD e) }))

/-! ### Buffers, streams and layers (chapter 3) -/

/-- R83, R99, R101, R103, R104: the rows on a buffer's handle that the context holds. R92, R94, R98, R100: BUF_ALLOC takes a free INDEX,
with the next generation of it (a free value where it has had none), clears its bytes (and what is noted of them for the deadlines of R18),
takes its pages and answers handle, size and layout. Which free INDEX is open; the statement holds for every choice. -/
def Obligations.BufferRowsComplete : Prop :=
  Answers .bufFree (native 0x21 0 .topaz .any false false) noReply
    (fun p m => p.params.length = 1 ∧ bufRefused m (ctxN p) (par p 0).toNat = none) (fun _ _ => ok [])
    (fun p m => freeBuf (hIdx (par p 0).toNat) m) ∧
  Answers .bufInfo (native 0x24 1 .topaz .any true true) (replyLen 3)
    (fun p m => p.params.length = 1 ∧
      (bufRefused m (ctxN p) (par p 0).toNat = none ∨ bufRefused m (ctxN p) (par p 0).toNat = some stHANDLE_RETIRING))
    (fun p m =>
      let i := hIdx (par p 0).toNat
      let r := bufOf m i
      ok [w32 (b2n r.damaged <<< 24 + r.fmt <<< 16 + bufState m i), w32 r.size, w32 (r.h <<< 16 + r.w)]) (fun _ m => m) ∧
  AnswersMem .bufWrite (native 0x22 0 .hw .any false false) noReply
    (fun p _ m => 3 ≤ p.params.length ∧ bufRefused m (ctxN p) (par p 0).toNat = none ∧ (par p 1).toNat % 4 = 0 ∧
      (par p 1).toNat + 4 * (p.params.length - 2) ≤ (bufOf m (hIdx (par p 0).toNat)).size)
    (fun _ _ _ => ok [])
    (fun p mem _ => poolWrite (hIdx (par p 0).toNat) (par p 1).toNat (wordsBytes (p.params.drop 2)) mem)
    (fun p mem m =>
      let n := 4 * (p.params.length - 2)
      m |> noteBytes (poolKeys (hIdx (par p 0).toNat) (par p 1).toNat n) mem |> stampBytes (hIdx (par p 0).toNat) (par p 1).toNat n) ∧
  AnswersMem .bufRead (native 0x23 2 .topaz .any true true)
    (fun p _ => if p.params.length = 3 then (par p 2).toNat else 0)
    (fun p _ m => p.params.length = 3 ∧ par p 1 % 4 = 0 ∧ par p 2 ≠ 0 ∧ bufRefused m (ctxN p) (par p 0).toNat = none ∧
      (par p 1).toNat + 4 * (par p 2).toNat ≤ (bufOf m (hIdx (par p 0).toNat)).size)
    (fun p mem _ => ok ((List.range (par p 2).toNat).map
      (fun k => poolWord mem (hIdx (par p 0).toNat) ((par p 1).toNat + 4 * k))))
    (fun _ mem _ => mem) (fun _ _ m => m) ∧
  (∀ h : Nat, Happens (fun t => .pageReturn t h) (fun m => bufNamed m h = true ∧ (bufOf m (hIdx h)).due = true)
    (fun m => m |> dropBuf (hIdx h) |> eventTo 4 [w32 h] (2 ^ (bufOf m (hIdx h)).ctx))) ∧
  (∀ h : Nat, Happens (fun t => .pageReturn t h) (fun m => layNamed m h = true ∧ (layOf m (hIdx h)).due = true ∧ bufNamed m h = false)
    (fun m => m |> dropLay (hIdx h) |> eventTo 4 [w32 h] (2 ^ (layOf m (hIdx h)).ctx))) ∧
  (∀ (p : Packet) (s : State) (m : Mach) (size : Nat) (l : Layout),
    let o := native 0x20 1 .topaz .any false true
    let c := ctxN p
    Starts (.bufAlloc p) o (replyLen 6) p s m → p.params.length = 2 → allocShape (par p 0) (par p 1) = some (size, l) →
    (∃ k, k < 4096 ∧ k ∉ usedBufs m) → ((usedBufs m).filter (fun i => (bufOf m i).ctx == c)).length < 1024 →
    size / 4096 ≤ getF m rPLC_POOL_STAT fPLC_POOL_STAT_FREE →
    ctxPages m c + size / 4096 ≤ getF m (rPLC_QUOTA c) fPLC_QUOTA_PAGES →
    ∃ i gen : Nat, i < 4096 ∧ i ∉ usedBufs m ∧ (∀ n, (bufOf m i).gen = some n → gen = (n + 1) % 4096) ∧ gen < 4096 ∧
      (let r : BufRec :=
        { used := true, gen := some gen, ctx := c, fmt := (par p 0).toNat, size := size
          w := if par p 0 ≠ 0 then bits (par p 1) 12 0 else 0
          h := if par p 0 ≠ 0 then bits (par p 1) 28 16 else 0 }
      exec (.bufAlloc p) s = .next (after (answer (replyTo o p)
        (ok [w32 (mkHandle c 1 gen i), w32 size, w32 l.pitch, w32 l.plane1, w32 l.plane2, w32 l.cpitch])
        ({ m with free := m.free + 1 } |> dropNotes i |> setBuf i r |> takePages (size / 4096))) { s with mem := poolClear i s.mem })))

/-- R106: a stream is bound to a layer and to one or two buffers of its format, on a port in host role; EN = 0 ends the binding. -/
def Obligations.StreamBindRowsComplete : Prop :=
  Answers .streamBind (native 0x25 1 .topaz .any false false) noReply
    (fun p m =>
      let c := ctxN p
      let port := bits (par p 0) 4 0
      let fmt := descFmt (lastDesc m (hIdx (par p 1).toNat))
      p.params.length = 4 ∧ streamWordOk p = true ∧ (bit (par p 0) 8 = false → par p 3 = 0) ∧
      layRefused m (2 ^ c) (par p 1).toNat = none ∧ bufRefused m c (par p 2).toNat = none ∧
      (bit (par p 0) 8 = true → bufRefused m c (par p 3).toNat = none ∧ (bufOf m (hIdx (par p 3).toNat)).fmt = fmt) ∧
      (bufOf m (hIdx (par p 2).toNat)).fmt = fmt ∧ ((streamOf m port).on = true → (streamOf m port).ctx = c) ∧
      getF m (rCPL_CFG port) fCPL_CFG_ROLE = 2)
    (fun _ _ => ok [])
    (fun p m =>
      let r : StreamRec :=
        { on := true, ctx := ctxN p, layer := (par p 1).toNat, bufA := (par p 2).toNat, bufB := (par p 3).toNat
          pingpong := bit (par p 0) 8 }
      setStream (bits (par p 0) 4 0) r m) ∧
  Answers .streamUnbind (native 0x25 1 .topaz .any false false) noReply
    (fun p m =>
      let port := bits (par p 0) 4 0
      p.params.length = 4 ∧ streamWordOk p = true ∧ ((streamOf m port).on = true → (streamOf m port).ctx = ctxN p) ∧
      getF m (rCPL_CFG port) fCPL_CFG_ROLE = 2)
    (fun _ _ => ok []) (fun p m => setStream (bits (par p 0) 4 0) {} m)

/-- R108 to R112: LAYER_CREATE takes a free INDEX below 256 and line-buffer blocks, LAYER_SET and LAYER_ATTACH record what is pending
(LAYER_SET reserves blocks anew only where WIDTH, FORMAT, LB_LINES or TILE changes), LAYER_DESTROY retires the handle. The bandwidth that
LAYER_CREATE and LAYER_SET must leave (R116, `dramFits`) is the model's reading (log entry 90). -/
def Obligations.LayerRowsComplete : Prop :=
  (∀ (p : Packet) (s : State) (m : Mach),
    let o := native 0x28 1 .topaz .any false true
    Starts (.layerCreate p) o (replyLen 1) p s m → p.params.length = 5 → descOk p.params = true →
    (∃ k, k < 256 ∧ k ∉ usedLays m) → ((usedLays m).filter (fun n => (layOf m n).ctx == ctxN p)).length < 128 →
    blocksUsed m none + descBlocks m p.params ≤ 512 →
    (∀ n gen, dramFits (setLay n { used := true, gen := some gen, ctx := ctxN p, blocks := descBlocks m p.params, pend := some p.params }
      { m with free := m.free + 1 }) = true) →
    ∃ i gen : Nat, i < 256 ∧ i ∉ usedLays m ∧ (∀ n, (layOf m i).gen = some n → gen = (n + 1) % 4096) ∧ gen < 4096 ∧
      exec (.layerCreate p) s = .next (afterReply o p (ok [w32 (mkHandle (ctxN p) 2 gen i)]) m
        (setLay i { used := true, gen := some gen, ctx := ctxN p, blocks := descBlocks m p.params, pend := some p.params }
          { m with free := m.free + 1 }) s)) ∧
  Answers .layerDestroy (native 0x29 1 .topaz .any false false) noReply
    (fun p m => p.params.length = 1 ∧ layRefused m (2 ^ ctxN p) (par p 0).toNat = none) (fun _ _ => ok [])
    (fun p m => retireLay (hIdx (par p 0).toNat) m) ∧
  Answers .layerSet (native 0x2A 1 .topaz .any false false) noReply
    (fun p m =>
      let i := hIdx (par p 0).toNat
      let d := p.params.drop 1
      p.params.length = 6 ∧ descOk d = true ∧ layRefused m (2 ^ ctxN p) (par p 0).toNat = none ∧
      (∀ g, g < 8 → inStacks m g i = true → groupOf m (descTile d) = some g) ∧ bufSuits m (lastBuf m i) d = true ∧
      needsBlocks (lastDesc m i) d = true ∧ blocksUsed m (some i) + descBlocks m d ≤ 512 ∧
      dramFits (setLay i { layOf m i with pend := some d, blocks := descBlocks m d } m) = true)
    (fun _ _ => ok [])
    (fun p m =>
      let i := hIdx (par p 0).toNat
      setLay i { layOf m i with pend := some (p.params.drop 1), blocks := descBlocks m (p.params.drop 1) } m) ∧
  Answers .layerSet (native 0x2A 1 .topaz .any false false) noReply
    (fun p m =>
      let i := hIdx (par p 0).toNat
      let d := p.params.drop 1
      p.params.length = 6 ∧ descOk d = true ∧ layRefused m (2 ^ ctxN p) (par p 0).toNat = none ∧
      (∀ g, g < 8 → inStacks m g i = true → groupOf m (descTile d) = some g) ∧ bufSuits m (lastBuf m i) d = true ∧
      needsBlocks (lastDesc m i) d = false ∧ dramFits (setLay i { layOf m i with pend := some d } m) = true)
    (fun _ _ => ok [])
    (fun p m => setLay (hIdx (par p 0).toNat) { layOf m (hIdx (par p 0).toNat) with pend := some (p.params.drop 1) } m) ∧
  Answers .layerAttach (native 0x2B 0 .hw .any false false) noReply
    (fun p m => p.params.length = 2 ∧ layRefused m (2 ^ ctxN p) (par p 0).toNat = none ∧
      (par p 1 ≠ 0 → bufRefused m (ctxN p) (par p 1).toNat = none ∧
        bufSuits m (par p 1).toNat (lastDesc m (hIdx (par p 0).toNat)) = true))
    (fun _ _ => ok [])
    (fun p m => setLay (hIdx (par p 0).toNat)
      { layOf m (hIdx (par p 0).toNat) with pendBuf := some (par p 1).toNat } m)

/-! ### Groups: commit, timing, stack, matrix, mesh (chapters 4 and 6) -/

/-- R192, R196, R197, R370: COMMIT to a running group outside IDLE by a context that takes part moves its pending changes. The first frame
to show them is the present one + 2 (REL 1), or + 3 (REL 2) where the commit is late in the last line, or in any line of a group that is to
lock to its master again (log entry 47); SCN_COMMIT_STATUS shows both. FRAME_SHOW shows the back buffers of the legacy tiles, swaps them and
commits the legacy group (R90). R202, R203: TIMING_SET whose words pass the checks takes effect at once in a group that does not run, which
starts if it is enabled and step B7 has passed; a running group takes the words at its next latch, and the reply follows then. -/
def Obligations.CommitAndTimingRowsComplete : Prop :=
  (∀ late : Bool, Answers (fun p => .commit p late) (native 0x30 0 .hw .any false true) (replyLen 2)
    (fun p m => p.params.length = 1 ∧ clean (par p 0) [(4, 0)] = true ∧ bits (par p 0) 4 0 < 8 ∧
      takesPart m (ctxN p) (bits (par p 0) 4 0) = true ∧ grpRuns m (bits (par p 0) 4 0) = true ∧ m.pwr.st ≠ 1)
    (fun p m =>
      let g := bits (par p 0) 4 0
      let rel := if late ∧ (lineOf m g + 1 = vtotal m g ∨ relocks m g) then 2 else 1
      ok [w32 ((frameOf m g + rel + 1) % 2 ^ 32), w32 rel])
    (fun p m =>
      let g := bits (par p 0) 4 0
      let slow : Bool := decide (late ∧ (lineOf m g + 1 = vtotal m g ∨ relocks m g))
      let rel := if slow then 2 else 1
      m |> moveChanges (ctxN p) g slow |> setF (rSCN_COMMIT_STATUS g) fSCN_COMMIT_STATUS_REL rel |>
        setF (rSCN_COMMIT_STATUS g) fSCN_COMMIT_STATUS_CTX (ctxN p) |>
        setF (rSCN_COMMIT_STATUS g) fSCN_COMMIT_STATUS_FIRST ((frameOf m g + rel + 1) % 2 ^ 32) |> showPend g)) ∧
  Answers .commitStatus (native 0x31 0 .hw .any true true) (replyLen 1)
    (fun p _ => p.params.length = 1 ∧ clean (par p 0) [(4, 0)] = true ∧ bits (par p 0) 4 0 < 8)
    (fun p m => ok [viewReg m (rSCN_COMMIT_STATUS (bits (par p 0) 4 0))]) (fun _ m => m) ∧
  (∀ late : Bool, Answers (fun p => .frameShow p late) (legacy 0x05 0 .hw .any 2 false true) (replyLen 2)
    (fun p m =>
      let r := bamutOf m (ctxN p)
      p.params.length = 0 ∧ r.on = true ∧ takesPart m (ctxN p) r.grp = true ∧ grpRuns m r.grp = true ∧ m.pwr.st ≠ 1)
    (fun p m =>
      let r := bamutOf m (ctxN p)
      (commitGroup (ctxN p) r.grp late (m |> forEach (r.tiles.filterMap Prod.snd) (showBack (ctxN p)) |> swapBufs (ctxN p))).2)
    (fun p m =>
      let r := bamutOf m (ctxN p)
      (commitGroup (ctxN p) r.grp late (m |> forEach (r.tiles.filterMap Prod.snd) (showBack (ctxN p)) |> swapBufs (ctxN p))).1)) ∧
  Answers .timingSet (native 0x32 1 .topaz .h0p false false) noReply
    (fun p m =>
      let g := bits (par p 0) 4 0
      p.params.length = 7 ∧ clean (par p 0) [(4, 0)] = true ∧ g < 8 ∧ timingRefused m g (p.params.drop 1) = none ∧
      (fget ((p.params.drop 1).getD 3 0) fSCN_RATE_EN ≠ 0 → m.pwr.st ≠ 1 ∧ pending m .cal = false) ∧ grpRuns m g = false)
    (fun _ _ => ok [])
    (fun p m =>
      let g := bits (par p 0) 4 0
      let n := applyTiming g (p.params.drop 1) m
      setGrp g { grpOf n g with starting := enabledGrp n g && n.saf.started, startAt := n.now } n) ∧
  (∀ (p : Packet) (s : State) (m : Mach),
    let o := native 0x32 1 .topaz .h0p false false
    let g := bits (par p 0) 4 0
    Starts (.timingSet p) o noReply p s m → p.params.length = 7 → clean (par p 0) [(4, 0)] = true → g < 8 →
    timingRefused m g (p.params.drop 1) = none →
    (fget ((p.params.drop 1).getD 3 0) fSCN_RATE_EN ≠ 0 → m.pwr.st ≠ 1 ∧ pending m .cal = false) → grpRuns m g = true →
    (let n := setGrp g { grpOf m g with tset := some (p.params.drop 1) } m
    exec (.timingSet p) s = .next (after { n with pends := n.pends ++ [⟨.timing, g, some (replyTo o p)⟩] } s)))

/-- R129, R134, R151, R171: the owner of a group records a stack, a colour matrix, a racing word or a new SCALE as pending. -/
def Obligations.GroupSettingRowsComplete : Prop :=
  (∀ ws : List Word, Answers .stackSet (native 0x2C 1 .topaz .any false false) noReply
    (fun p m =>
      let n := bits (par p 0) 13 8
      let g := bits (par p 0) 4 0
      p.params.length = 1 + 2 * n ∧ clean (par p 0) [(13, 8), (4, 0)] = true ∧ 1 ≤ n ∧ n ≤ 32 ∧ g < 8 ∧
      ownsGroup m (ctxN p) g = true ∧ stackChecked m (ctxN p) g (stackEntries (p.params.drop 1)) = .ok ws)
    (fun _ _ => ok [])
    (fun p m =>
      let g := bits (par p 0) 4 0
      setGpend (ctxN p) g { gpendOf m (ctxN p) g with stack := some ws } m)) ∧
  Answers .colourMatrixSet (native 0x2D 1 .topaz .any false false) noReply
    (fun p m => p.params.length = 7 ∧ clean (par p 0) [(4, 0)] = true ∧ bits (par p 0) 4 0 < 8 ∧
      ownsGroup m (ctxN p) (bits (par p 0) 4 0) = true) (fun _ _ => ok [])
    (fun p m =>
      let g := bits (par p 0) 4 0
      setGpend (ctxN p) g { gpendOf m (ctxN p) g with matrix := some (p.params.drop 1) } m) ∧
  Answers .racingSet (native 0x33 1 .topaz .any false false) noReply
    (fun p m =>
      let w := par p 0
      let g := bits w 4 0
      let lead := fget w fCMP_GRP_CFG_LEAD
      p.params.length = 1 ∧ clean w [(31, 31), (25, 16), (11, 8), (4, 0)] = true ∧ g < 8 ∧ ownsGroup m (ctxN p) g = true ∧
      (bit w 31 = true → lead ≠ 0 ∧ ∀ k ∈ admitted m, vtotal k g ≠ 0 → lead + 8 ≤ vtotal k g))
    (fun _ _ => ok [])
    (fun p m =>
      let g := bits (par p 0) 4 0
      setGpend (ctxN p) g { gpendOf m (ctxN p) g with racing := some (par p 0 &&& 0x83FF0F00) } m) ∧
  Answers .gainGlobalSet (native 0x40 1 .topaz .any false false) noReply
    (fun p m => p.params.length = 2 ∧ clean (par p 0) [(4, 0)] = true ∧ clean (par p 1) [(15, 0)] = true ∧
      bits (par p 0) 4 0 < 8 ∧ ownsGroup m (ctxN p) (bits (par p 0) 4 0) = true) (fun _ _ => ok [])
    (fun p m =>
      let g := bits (par p 0) 4 0
      setGrp g { grpOf m g with gain := some (bits (par p 1) 15 0) } m) ∧
  Answers .setGain (legacy 0x03 1 .topaz .any 3 false false) noReply
    (fun p m => p.params.length = 1 ∧ clean (par p 0) [(15, 0)] = true ∧ (bamutOf m (ctxN p)).on = true ∧
      ownsGroup m (ctxN p) (bamutOf m (ctxN p)).grp = true) (fun _ _ => ok [])
    (fun p m =>
      let g := (bamutOf m (ctxN p)).grp
      setGrp g { grpOf m g with gain := some (bits (par p 0) 15 0) } m)

/-- R117 to R122, R136: a mesh that a RAW buffer holds is checked and kept as pending, and its span answered; the placement map is one
snapshot of the placement registers; a plan, its moves that free a resource put first, that placement can decide on reserves its
destinations (use code 6), fills lost pages with zeros, marks their buffers DAMAGED and is under way, and one that it cannot changes nothing
(log entry 92); a copy that ends lets its move go on: buffer pages switch at once, other moves at their boundary or in a stopped group at
once. -/
def Obligations.MeshAndPlacementRowsComplete : Prop :=
  (∀ (mesh : List MeshPt) (g w h : Nat), AnswersMem .warpMeshLoad (native 0x34 1 .topaz .any false true) (replyLen 1)
    (fun p mem m =>
      let t := bits (par p 0) 4 0
      let i := hIdx (par p 1).toNat
      p.params.length = 2 ∧ clean (par p 0) [(4, 0)] = true ∧ t < 24 ∧ bufRefused m (ctxN p) (par p 1).toNat = none ∧
      rawBuf m i 17160 = true ∧ meshOf mem i = some mesh ∧ tileGeom m t = some (g, w, h) ∧ ownsGroup m (ctxN p) g = true ∧
      meshSpan mesh w h ≤ 24)
    (fun _ _ _ => ok [w32 (meshSpan mesh w h)])
    (fun _ mem _ => mem)
    (fun p _ m => setPix (fun s => { s with meshPend := tput [] s.meshPend (32 * ctxN p + bits (par p 0) 4 0) mesh }) m)) ∧
  Answers .placementMap (native 0x37 2 .topaz .any true true) (replyLen 35) (fun p _ => p.params.length = 0)
    (fun _ m => ok ((([rPLC_GEN, rPLC_POOL_STAT, rPLC_ENG_MAP] ++ (List.range 24).map rPLC_TILE_MAP ++
      (List.range 8).map rPLC_REGION_MAP)).map (viewReg m))) (fun _ m => m) ∧
  (∀ (t : Nat) (plan : PlanEnv) (s : State),
    let m := atTime t s.blk
    let named := plan.moves.map (moveRec m (m.pix.planId + 1))
    let moves := named.filter (moveFrees m) ++ named.filter (fun v => !moveFrees m v)
    let lost := plan.lost.filter (fun l => (bufOf m l.1).used && decide (l.2 < bufPages (bufOf m l.1)))
    (planFits moves m = false → exec (.placementPlan t plan) s = .next (after m s)) ∧
    (planFits moves m = true →
      (let n := m |> forEach (moves.filterMap MoveRec.dst) (fun d => setRegionUse d 6) |>
        forEach lost (fun l m => setBuf l.1 { bufOf m l.1 with damaged := true } m) |>
        setPix (fun s => { s with plan := s.plan ++ moves, planId := m.pix.planId + 1, planNew := if moves = [] then s.planNew else s.planNew ++ [m.pix.planId + 1] })
      exec (.placementPlan t plan) s = .next (after (forEach (List.range 8) movesIfStopped n)
        { s with mem := lost.foldl (fun mem l => poolZeroPage l.1 l.2 mem) s.mem })))) ∧
  (∀ g : Fin 8, Happens (fun t => .migrationCopyDone t g) (fun _ => True)
    (fun m => m |> setPix (fun s => { s with plan := copyFirst g s.plan }) |>
      movesAct g (fun v => v.group == g.val && v.kind == 1 && v.copied && v.freeAt.isNone) |> movesIfStopped g))

/-! ### The pose predictor (chapter 4) -/

/-- R141 to R145: POSE_CONFIG in its three forms writes the registers it names; POSE_MSG is answered OK, and taken where host messages are
enabled; an IMU transaction that can end feeds the predictor with a valid sample, an invalid one is a missed period, and so is a period that
passes without a transaction; the two timeouts mark host messages lost, or IMU-only mode overlong. What the predictor does where R141 to
R144 are silent is the model's (log entries 37, 111). -/
def Obligations.PoseRowsComplete : Prop :=
  Answers .poseConfig (native 0x36 1 .topaz .h0p false false) (fun _ _ => 0)
    (fun p _ => p.params.length = 6 ∧ par p 0 = 0 ∧ poseCfgOk (par p 1) = true ∧ poseFbOk (par p 2) = true ∧
      imuCfgOk (par p 3) = true ∧ imuXferOk (par p 4) = true) (fun _ _ => ok [])
    (fun p m => m |> setReg rWRP_POSE_CFG (par p 1) |> setReg rWRP_POSE_FB (par p 2) |> setReg rWRP_IMU_CFG (par p 3) |>
      setReg rWRP_IMU_XFER (par p 4) |> setReg rWRP_IMU_SCALE (par p 5) |> updateMode) ∧
  Answers .poseConfigGroup (native 0x36 1 .topaz .h0p false false) (fun _ _ => 0)
    (fun p _ => p.params.length = 2 ∧ clean (par p 0) [(12, 8), (1, 0)] = true ∧ bits (par p 0) 12 8 < 8 ∧
      clean (par p 1) [(31, 30), (15, 0)] = true) (fun _ _ => ok [])
    (fun p m => setReg (rWRP_GRP_POSE (bits (par p 0) 12 8)) (par p 1) m) ∧
  Answers .poseConfigTile (native 0x36 1 .topaz .h0p false false) (fun _ _ => 0)
    (fun p _ => p.params.length = 2 ∧ clean (par p 0) [(12, 8), (1, 0)] = true ∧ bits (par p 0) 12 8 < 24)
    (fun _ _ => ok []) (fun p m => setReg (rWRP_TILE_K (bits (par p 0) 12 8)) (par p 1) m) ∧
  Answers .poseMsg (native 0x35 0 .hw .any false false) (fun _ _ => 0)
    (fun p _ => p.params.length = 3 ∧ clean (par p 0) [(31, 16), (1, 0)] = true) (fun _ _ => ok [])
    (fun p m => when (hostEn m) (takeMsg p.t (bits (par p 0) 31 16) (bit (par p 0) 0) (bit (par p 0) 1) (angle (par p 1).toNat)
      (angle (par p 2).toNat)) m) ∧
  (let missed := fun (m : Mach) => updateMode (setPose (fun s =>
      { s with miss := s.miss + 1, good := 0, imuOk := s.imuOk && decide (s.miss + 1 < 8) }) m)
  let ended := fun (m : Mach) => setPose (fun s => { s with
      xfer := some (m.now - imuLength m, m.now), cmdSent := getF m rWRP_IMU_XFER fWRP_IMU_XFER_CMD }) m
  Happens (fun t => .imuSample t []) (fun m => imuEn m = true ∧ imuMisses m = true)
    (fun m => missed (setPose (fun s => { s with missAt := m.now }) m)) ∧
  (∀ bytes, bytes ≠ [] → Happens (fun t => .imuSample t bytes)
    (fun m => imuEn m = true ∧ imuEnds m = true ∧ imuValid m bytes = true) (fun m => takeImu bytes (ended m))) ∧
  (∀ bytes, bytes ≠ [] → Happens (fun t => .imuSample t bytes)
    (fun m => imuEn m = true ∧ imuEnds m = true ∧ imuValid m bytes = false) (fun m => missed (ended m)))) ∧
  Happens .hostPoseTimeout
    (fun m => hostEn m = true ∧ m.pix.pose.hostOk = true ∧
      m.pix.pose.msgAt.getD m.bornAt + ms (getF m rWRP_POSE_CFG fWRP_POSE_CFG_TMO) ≤ m.now)
    (fun m => updateMode (setPose (fun s => { s with hostOk := false }) m)) ∧
  Happens .imuOnlyTimeout (fun m => poseMode m = 3 ∧ m.pix.pose.imuOnlyAt + sec 2 < m.now)
    (fun m => updateMode (setPose (fun s => { s with overlong := true }) m))

/-! ### Photometry (chapter 5) -/

/-- R157, R160, R180, R363: a uniformity map, a wear table and a transfer curve are read from a RAW buffer of the right size, taken where
they pass their checks, and kept in flash or in the settings; once Beryl takes no more writes they are answered INTERNAL. That a byte of
padding after a curve must be 0, and what answers INTERNAL, are the model's (log entries 113, 119). -/
def Obligations.PhotometricLoadsComplete : Prop :=
  (∀ g w h : Nat, AnswersMem .uniformityLoad (native 0x41 2 .topaz .h0p false false) noReply
    (fun p _ m =>
      let t := bits (par p 0) 4 0
      p.params.length = 2 ∧ clean (par p 0) [(4, 0)] = true ∧ t < 24 ∧ tileGeom m t = some (g, w, h) ∧
      bufRefused m (ctxN p) (par p 1).toNat = none ∧
      rawBuf m (hIdx (par p 1).toNat) (w * h * (if tileRgb m t then 3 else 1)) = true)
    (fun _ _ m => if flashThere m && !berylWrites m then errW stINTERNAL (w32 316) else ok []) (fun _ mem _ => mem)
    (fun p mem m =>
      let t := bits (par p 0) 4 0
      let codes := poolBytes mem (hIdx (par p 1).toNat) 0 (w * h * (if tileRgb m t then 3 else 1))
      if flashThere m && !berylWrites m then raise 316 noInst m
      else m |> setTilePix t { pixOf m t with unifNew := some codes } |>
        setFlash (fun s => { s with unif := tput [] s.unif t codes }))) ∧
  AnswersMem .wearTableLoad (native 0x42 1 .topaz .h0p false false) noReply
    (fun p mem m => p.params.length = 1 ∧ bufRefused m (ctxN p) (par p 0).toNat = none ∧
      rawBuf m (hIdx (par p 0).toNat) 2288 = true ∧ wearTabOk (poolBytes mem (hIdx (par p 0).toNat) 0 2288) = true)
    (fun _ _ m => if flashThere m && !berylWrites m then errW stINTERNAL (w32 316) else ok []) (fun _ mem _ => mem)
    (fun p mem m =>
      let tab := poolBytes mem (hIdx (par p 0).toNat) 0 2288
      if flashThere m && !berylWrites m then raise 316 noInst m
      else m |> setPix (fun s => { s with wearTab := tab }) |> setFlash (fun s => { s with wearTab := tab })) ∧
  AnswersMem .transferCurveLoad (native 0x43 1 .topaz .h0p false false) noReply
    (fun p mem m =>
      let t := bits (par p 0) 4 0
      let i := hIdx (par p 1).toNat
      p.params.length = 2 ∧ clean (par p 0) [(4, 0)] = true ∧ t < 24 ∧ bufRefused m (ctxN p) (par p 1).toNat = none ∧
      rawBuf m i 8192 = true ∧
      curveRises ((List.range 4096).map (fun k => leNat (poolBytes mem i (2 * k) 2))) (tileRgb m t) = true)
    (fun _ _ m => if berylWrites m then ok [] else errW stINTERNAL (w32 314)) (fun _ mem _ => mem)
    (fun p mem m =>
      let t := bits (par p 0) 4 0
      let curve := (List.range 4096).map (fun k => leNat (poolBytes mem (hIdx (par p 1).toNat) (2 * k) 2))
      if !berylWrites m then raise 314 noInst m else m |> setTilePix t { pixOf m t with curve := curve } |>
        storeInSettings (fun s => { s with curves := tput [] s.curves t curve }))

/-- R162, R168, R170, R178: a snapshot is begun and answers PENDING; repair and derating take their words; COMPLIANCE_READ answers MAP_CRC
and the zone words of a valid set. R66, R175, R177, R180, R309: a set in use is written to flash by Topaz once it runs; sets and curves that
no longer agree with their check values are marked while Onyx acts, and the cause is recorded while one is. An enabled pair that names one
tile twice is refused (the model's choice, log entry 113). -/
def Obligations.PhotometricSettingsAndChecksComplete : Prop :=
  Answers .wearSnapshot (native 0x44 2 .topaz .h0 false false) noReply
    (fun p m => p.params.length = 0 ∧ pending m .wear = false) (fun _ _ => pendingRep)
    (fun p m => { m with pends := m.pends ++ [⟨.wear, 0, some (replyTo (native 0x44 2 .topaz .h0 false false) p)⟩] }) ∧
  Answers .repairConfig (native 0x45 1 .topaz .h0p false false) noReply
    (fun p m =>
      let n := bits (par p 1) 3 0
      let ws := p.params.drop 2
      2 ≤ p.params.length ∧ p.params.length = 2 + n ∧ clean (par p 1) [(3, 0)] = true ∧ n ≤ 12 ∧
      clean (par p 0) [(31, 8)] = true ∧ fget (par p 0) fPHO_REPAIR_CFG_SPREAD ≤ 0x8000 ∧ ws.all pairOk = true ∧
      pairGroups m ws = true ∧ namedTwice (pairTiles ws) = false)
    (fun _ _ => ok [])
    (fun p m => m |> setReg rPHO_REPAIR_CFG (par p 0) |> forEach (List.range 12) (fun k =>
      setReg (rPHO_OVL_PAIR k) ((p.params.drop 2).getD k (regReset (rPHO_OVL_PAIR k))))) ∧
  Answers .derateConfig (native 0x46 1 .topaz .h0p false false) noReply
    (fun p _ => p.params.length = 3 ∧ clean (par p 0) [(4, 0)] = true ∧ clean (par p 2) [(7, 0)] = true ∧
      fget (par p 1) fPHO_DERATE_A_FLOOR ≤ 0x8000 ∧ bits (par p 0) 4 0 < 24) (fun _ _ => ok [])
    (fun p m => m |> setReg (rPHO_DERATE_A (bits (par p 0) 4 0)) (par p 1) |>
      setReg (rPHO_DERATE_B (bits (par p 0) 4 0)) (par p 2)) ∧
  Answers .complianceRead (native 0x47 2 .topaz .any true true)
    (fun p _ => if p.params.length = 3 then 1 + (par p 2).toNat else 0)
    (fun p m =>
      let t := bits (par p 0) 4 0
      let b := bits (par p 0) 9 8
      let set := tget {} (pixOf m t).sets b
      p.params.length = 3 ∧ clean (par p 0) [(9, 8), (4, 0)] = true ∧ 1 ≤ (par p 2).toNat ∧ t < 24 ∧ mapValid m t b = true ∧
      (par p 1).toNat + (par p 2).toNat ≤ zoneCount set.w set.h)
    (fun p m =>
      let set := tget {} (pixOf m (bits (par p 0) 4 0)).sets (bits (par p 0) 9 8)
      ok (set.crc :: (set.zones.drop (par p 1).toNat).take (par p 2).toNat)) (fun _ m => m) ∧
  (∀ (tile : Fin 24) (b : Nat) (rest : List Nat), Happens (fun t => .mapPersist t tile true)
    (fun m => topazStopped m = false ∧ berylWrites m = true ∧ (pixOf m tile).toFlash = b :: rest)
    (fun m => m |> setTilePix tile { pixOf m tile with toFlash := rest } |>
      setFlash (fun s => { s with maps := tput {} s.maps (4 * tile + b) (tget {} (pixOf m tile).sets b) }))) ∧
  (∀ tile : Fin 24, ∀ b : Fin 4, Happens (fun t => .mapCrcScan t [(tile.val, b.val)]) (fun m => onyxActs m = true)
    (fun m => mapCause (setF (rPHO_MAP_STAT tile) fPHO_MAP_STAT_VALID
      (clrBit (getF m (rPHO_MAP_STAT tile) fPHO_MAP_STAT_VALID) b) m))) ∧
  (∀ bad : Nat, Happens (fun t => .curveCheck t bad)
    (fun m => onyxActs m = true ∧ (members 24 bad).filter (fun t => !(pixOf m t).curve.isEmpty) ≠ [])
    (fun m => forEach ((members 24 bad).filter (fun t => !(pixOf m t).curve.isEmpty)) (fun t => raise 8 (detail t 0))
      (causeOn 17 m))) ∧
  (∀ bad : Nat, Happens (fun t => .curveCheck t bad)
    (fun m => onyxActs m = true ∧ (members 24 bad).filter (fun t => !(pixOf m t).curve.isEmpty) = []) (causeOff 17))

/-! ### Bamut-compatible commands (chapter 2) -/

/-- R88 to R90: the legacy rows answer as their native actions; FRAME_WRITE writes the back buffer of the legacy tile; BAMUT_ENABLE with EN
= 0 withdraws the right to legacy commands; with either EN every mapped tile belongs to the group (R461), in which the context takes part.
What the legacy rows do beyond R88 to R90 is the model's (log entry 26). -/
def Obligations.LegacyRowsComplete : Prop :=
  Answers .legacyNop (legacy 0x00 0 .hw .any 0 true true) (fun p _ => p.params.length) (fun p _ => p.params.length ≤ 8)
    (fun p _ => ok p.params) (fun _ m => m) ∧
  Answers .getId (legacy 0x01 0 .topaz .any 0 true true) (replyLen 6) (fun p _ => p.params.length = 0)
    (fun _ m => ok [viewReg m rHUB_DEV_ID, viewReg m rHUB_REV, viewReg m rHUB_UID_LO, viewReg m rHUB_UID_HI,
      viewReg m rHUB_FEAT, viewReg m rUPD_RUN_VER]) (fun _ m => m) ∧
  Answers .legacyGetStatus (legacy 0x02 0 .topaz .any 0 true true) (replyLen 2) (fun p _ => p.params.length = 0)
    (fun _ m => ok [viewReg m rHUB_DEV_STAT, viewReg m rFLT_SUMMARY]) (fun _ m => m) ∧
  (∀ b : BamutTile, AnswersMem .frameWrite (legacy 0x04 0 .hw .any 2 false false) noReply
    (fun p _ m => 2 ≤ p.params.length ∧ tget none (bamutOf m (ctxN p)).tiles (bits (par p 0) 31 24) = some b ∧
      bufRefused m (ctxN p) b.back = none ∧ bits (par p 0) 23 0 % 4 = 0 ∧
      bits (par p 0) 23 0 + 4 * (p.params.length - 1) ≤ (bufOf m (hIdx b.back)).size)
    (fun _ _ _ => ok [])
    (fun p mem _ => poolWrite (hIdx b.back) (bits (par p 0) 23 0) (wordsBytes (p.params.drop 1)) mem)
    (fun p mem m =>
      let n := 4 * (p.params.length - 1)
      m |> noteBytes (poolKeys (hIdx b.back) (bits (par p 0) 23 0) n) mem |> stampBytes (hIdx b.back) (bits (par p 0) 23 0) n)) ∧
  AnswersMem .bamutEnable (native 0x7B 1 .topaz .h0p false false) noReply
    (fun p _ m =>
      let g := bits (par p 0) 12 8
      p.params.length = 4 ∧ clean (par p 0) [(16, 16), (12, 8), (1, 0)] = true ∧ g < 8 ∧ takesPart m (bits (par p 0) 1 0) g = true ∧
      (∀ e ∈ legacyMap p, e.2 < 24 ∧ groupOf m e.2 = some g ∧ (tileGeom m e.2).isSome = true) ∧ bit (par p 0) 16 = false)
    (fun _ _ _ => ok []) (fun _ mem _ => mem)
    (fun p _ m => setB (rHUB_CTX_CFG (bits (par p 0) 1 0)) fHUB_CTX_CFG_BAMUT_CMD false m) ∧
  (∀ r : LegacyRes,
    AnswersMem .bamutEnable (native 0x7B 1 .topaz .h0p false false) noReply
    (fun p mem m =>
      let c := bits (par p 0) 1 0
      let g := bits (par p 0) 12 8
      p.params.length = 4 ∧ clean (par p 0) [(16, 16), (12, 8), (1, 0)] = true ∧ bit (par p 0) 16 = true ∧ g < 8 ∧
      takesPart m c g = true ∧
      (∀ e ∈ legacyMap p, e.2 < 24 ∧ groupOf m e.2 = some g ∧ (tileGeom m e.2).isSome = true) ∧
      legacyPixels m (legacyMap p) ≤ 6291456 ∧ stackRoom m g (legacyMap p).length = true ∧
      legacyTiles c (legacyMap p) ⟨[], mem, m⟩ = some r)
    (fun _ _ _ => ok []) (fun _ _ _ => r.mem)
    (fun p _ _ => r.blk |> stackBelow (bits (par p 0) 12 8) (r.tab.filterMap (fun e => e.2.map legacyEntry)) |>
      setBamut (bits (par p 0) 1 0) { on := true, grp := bits (par p 0) 12 8, tiles := r.tab } |>
      setB (rHUB_CTX_CFG (bits (par p 0) 1 0)) fHUB_CTX_CFG_BAMUT_CMD true |> showPend (bits (par p 0) 12 8)))

/-! ### Cirrus ports (chapter 7) -/

/-- R244, R245, R232: PORT_CONFIG writes the words of a free port, which then acts on them; PORT_STATUS reads nine words. R234: a
loopback is selected on a free port; mode 0 ends it, and modes 1 to 3 make a port in UP enter LOOP. -/
def Obligations.PortCommandsComplete : Prop :=
  Answers .portConfig (native 0x50 1 .topaz .h0p false false) noReply
    (fun p m =>
      let k := bits (par p 0) 4 0
      p.params.length = 6 ∧ clean (par p 0) [(4, 0)] = true ∧ portCfgOk p = true ∧ k < 24 ∧ portFree m k = true ∧
      pending m .cal = false)
    (fun _ _ => ok [])
    (fun p m =>
      let k := bits (par p 0) 4 0
      m |> txLate k |> setReg (rCPL_CFG k) (par p 1) |> setReg (rCPL_TXEQ k) (par p 2) |> setReg (rCPL_RXEQ_CFG k) (par p 3) |>
        setReg (rCPL_DET_CFG k) (par p 4) |> setReg (rCPL_IDLE_CFG k) (par p 5) |> applyPort k) ∧
  Answers .portStatus (native 0x51 1 .topaz .any true true) (replyLen 9)
    (fun p _ => p.params.length = 1 ∧ clean (par p 0) [(4, 0)] = true ∧ bits (par p 0) 4 0 < 24)
    (fun p m =>
      let k := bits (par p 0) 4 0
      ok [viewReg m (rCPL_STATE k), viewReg m (rCPL_DET_STAT k), viewReg m (rCPL_BLK_ERR k), viewReg m (rCPL_EB k),
        viewReg m (rCPL_RXEQ_STAT k), viewReg m (rCPL_EYE k), viewReg m (rCPL_TEST_ERR k), viewReg m (rCPL_TRAIN_CNT k),
        viewReg m (rCPL_LOOP k)]) (fun _ m => m) ∧
  (∀ row ∈ [(Instr.loopbackOff, 0), (.nearEndSerial, 1), (.nearEndParallel, 2), (.farEndRequest, 3), (.farEndAccept, 4)],
    Answers row.1 (native 0x52 1 .topaz .h0p false false) noReply
      (fun p m =>
        let k := bits (par p 0) 4 0
        p.params.length = 1 ∧ clean (par p 0) [(10, 8), (4, 0)] = true ∧ bits (par p 0) 10 8 = row.2 ∧ k < 24 ∧
        (row.2 ≠ 0 → portFree m k = true) ∧ pending m .cal = false)
      (fun _ _ => ok []) (fun p m => setLoopback (bits (par p 0) 4 0) row.2 m))

/-- R236, R237: EYE_SCAN of a port in UP or LOOP begins and answers PENDING; at its end CPL_EYE holds the size found. R239 to R244:
a twin pair, a pair's removal and the spare entries take effect; a spare in STANDBY is brought in 100 µs after a tile's last port
left UP; a pair rejoins at a latch; the former port of a spare returns as the new spare. -/
def Obligations.EyeTwinAndSpareRowsComplete : Prop :=
  Answers .eyeScan (native 0x53 2 .topaz .h0 false true) (replyLen 1)
    (fun p m =>
      let k := bits (par p 0) 4 0
      p.params.length = 1 ∧ clean (par p 0) [(4, 0)] = true ∧ k < 24 ∧ (portState m k = 4 ∨ portState m k = 8) ∧
      (pendOf m .eye k).isSome = false ∧ pending m .cal = false) (fun _ _ => pendingRep)
    (fun p m => { m with pends := m.pends ++ [⟨.eye, bits (par p 0) 4 0, some (replyTo (native 0x53 2 .topaz .h0 false true) p)⟩] }) ∧
  (∀ (k : Fin 24) (width height : Nat), Happens (fun t => .eyeScanDone t k width height)
    (fun m => (pendOf m .eye k).isNone = false)
    (fun m =>
      let n := setReg (rCPL_EYE k) (w32 (2 ^ 31 + min width 64 <<< 16 + min height 1000)) m
      finish .eye k (ok [viewReg n (rCPL_EYE k)]) n)) ∧
  Answers .twinSet (native 0x57 1 .topaz .h0p false false) noReply
    (fun p m =>
      let w := par p 1
      let a := bits w 4 0
      let b := bits w 12 8
      p.params.length = 2 ∧ clean (par p 0) [(31, 31), (4, 0)] = true ∧ bit (par p 0) 31 = true ∧
      clean w [(12, 8), (4, 0)] = true ∧ bits (par p 0) 4 0 < 24 ∧ a < 24 ∧ b < 24 ∧ a ≠ b ∧
      getF m (rCPL_CFG a) fCPL_CFG_ROLE = 1 ∧ getF m (rCPL_CFG b) fCPL_CFG_ROLE = 1 ∧ sameRates m a b = true ∧
      pairedPort m a = false ∧ pairedPort m b = false) (fun _ _ => ok [])
    (fun p m => setTwin (bits (par p 0) 4 0) (par p 1 ||| 0x80000000) m) ∧
  Answers .twinRemove (native 0x57 1 .topaz .h0p false false) noReply
    (fun p _ => p.params.length = 2 ∧ clean (par p 0) [(31, 31), (4, 0)] = true ∧ bit (par p 0) 31 = false ∧
      clean (par p 1) [(12, 8), (4, 0)] = true ∧ bits (par p 0) 4 0 < 24) (fun _ _ => ok [])
    (fun p m => setTwin (bits (par p 0) 4 0) (par p 1 &&& 0x1F1F) m) ∧
  Answers .spareSet (native 0x58 1 .topaz .h0p false false) noReply
    (fun p m =>
      let n := bits (par p 0) 3 0
      p.params.length = 1 + n ∧ clean (par p 0) [(3, 0)] = true ∧ n ≤ 8 ∧ sparesOk m (p.params.drop 1) = true)
    (fun _ _ => ok []) (fun p m => forEach (List.range 8) (fun k => setSpare k ((p.params.drop 1).getD k 0)) m) ∧
  (∀ (tile : Fin 24) (k : Nat), Happens (fun t => .spareBringIn t tile)
    (fun m => spareOf m tile (fun k => !flag m (rCPL_SPARE k) fCPL_SPARE_IN_USE &&
        portState m (getF m (rCPL_SPARE k) fCPL_SPARE_PORT) == 1) = some k ∧
      servedUp m tile = false ∧ (tileOf m tile).noUpAt + us 100 ≤ m.now)
    (fun m => m |> setB (rCPL_SPARE k) fCPL_SPARE_IN_USE true |>
      portEvent (getF m (rCPL_SPARE k) fCPL_SPARE_PORT) 7 (toDetect (getF m (rCPL_SPARE k) fCPL_SPARE_PORT)))) ∧
  (∀ tile : Fin 24, Happens (fun t => .twinRejoin t tile)
    (fun m => flag m (rCPL_TWIN tile) fCPL_TWIN_EN = true ∧ rejoinStat m tile ≠ getF m (rCPL_TWIN tile) fCPL_TWIN_STAT)
    (fun m => setTilePix tile { pixOf m tile with rejoin := true } m)) ∧
  (∀ (tile : Fin 24) (p k : Nat), Happens (fun t => .spareReturn t tile)
    (fun m => (pixOf m tile).former = some p ∧ up100 m p = true ∧
      spareOf m tile (fun k => flag m (rCPL_SPARE k) fCPL_SPARE_IN_USE) = some k)
    (fun m => m |> setTilePix tile { pixOf m tile with former := none } |> setF (rCPL_CFG p) fCPL_CFG_ROLE 3 |>
      setF (rCPL_SPARE k) fCPL_SPARE_PORT p |> setB (rCPL_SPARE k) fCPL_SPARE_IN_USE false |> toDark p 1))

/-- R106, R107, R211, R212, R219, R220, R226 to R231, R233, R235: the blocks that a port receives. FILL moves the level of the elastic
buffer (a free value, log entry 21), which deletes one at 6 or more and has one inserted at 2 or less, and a loop that returns blocks sends
one; in RESYNC it retrains the port before 10 µs. A host port takes pixels, rows and frames; TRAIN_SEQ, TRAIN, IDLE_REQ, RETRAIN_REQ,
LOOP_REQ and TEST act in the states that the link table gives. A block of reserved type or OP is counted in TYPE, in RESYNC too. A TEST
block counts its bit errors and 2,016 for each block lost before it. How an internal loop starts its SEQ is the model's (log entry 114). -/
def Obligations.ReceivedBlocksComplete : Prop :=
  ∀ b : Blk,
  let p := b.port.val
  let filled := fun (m : Mach) => m |> heard p |> freezeEq p |> checkSeqIn p b.seq b.seq
  Happens (fun t => .fill { b with t := t }) (fun m => receives m p = true ∧ portState (filled m) p ≠ 7 ∧ ebWorks (filled m) p = true)
    (fun m =>
      let n := filled m |> when (returns (filled m) p) (txFill p)
      let n := n |> setPort p { portOf n p with noFill := 0 } |> ebDrift p
      let level := getF n (rCPL_EB p) fCPL_EB_LEVEL
      if 6 ≤ level then n |> bump (rCPL_EB p) fCPL_EB_DEL |> setF (rCPL_EB p) fCPL_EB_LEVEL (level - 1)
      else when (decide (level ≤ 2)) (fun n => n |> bump (rCPL_EB p) fCPL_EB_INS |> setF (rCPL_EB p) fCPL_EB_LEVEL (level + 1)) n) ∧
  Happens (fun t => .fill { b with t := t })
    (fun m => receives m p = true ∧ portState (filled m) p = 7 ∧ (filled m).now < (portOf (filled m) p).resyncAt + us 10)
    (fun m => portEvent p 7 (retrain p) (filled m)) ∧
  (∀ (t : Nat) (s : State), let m := atTime t s.blk
    BlkTaken b m → portState m p = 4 → hostRole m p = true →
    (let r := streamPixels p (wordsBytes (pad64 b.words)) s.mem (seqTaken b m)
    exec (.pixel { b with t := t }) s = .next (after r.2 { s with mem := r.1 }))) ∧
  Happens (fun t => .rowStart { b with t := t })
    (fun m => BlkTaken b m ∧ hostRole m p = true ∧ portState (seqTaken b m) p = 4)
    (fun m => streamRow p (bits (blkWord b 0) 11 0) (seqTaken b m)) ∧
  Happens (fun t => .frameStart { b with t := t })
    (fun m => BlkTaken b m ∧ hostRole m p = true ∧ portState (seqTaken b m) p = 4)
    (fun m => streamFrame p (seqTaken b m)) ∧
  (∀ type : Fin 16, type ≠ 6 → Happens (fun t => .reservedBlockType { b with t := t } type)
    (fun m => BlkTaken b m ∧ portState (seqTaken b m) p ≠ 7 ∧ returns (seqTaken b m) p = false)
    (fun m => bump (rCPL_BLK_ERR p) fCPL_BLK_ERR_TYPE (seqTaken b m))) ∧
  (∀ type : Fin 16, type ≠ 6 → Happens (fun t => .reservedBlockType { b with t := t } type)
    (fun m => BlkTaken b m ∧ portState (seqTaken b m) p = 7)
    (fun m => resyncBreak p (bump (rCPL_BLK_ERR p) fCPL_BLK_ERR_TYPE (seqTaken b m)))) ∧
  Happens (fun t => .reservedBlockType { b with t := t } 6) (fun m => BlkTaken b m ∧ returns (seqTaken b m) p = false)
    (fun m => bump (rCPL_BLK_ERR p) fCPL_BLK_ERR_TYPE (seqTaken b m)) ∧
  Happens (fun t => .trainSeq { b with t := t }) (fun m => BlkTaken b m ∧ returns (seqTaken b m) p = false)
    (fun m =>
      let n := seqTaken b m
      let n := n |> setPort p { portOf n p with partnerMax := bits (blkWord b 1) 31 16 } |>
        setB (rCPL_STATE p) fCPL_STATE_PARTNER_OK (bit (blkWord b 1) 0)
      if training n p then trainStep p (bit (blkWord b 1) 0) n
      else if portState n p = 7 then resyncStep p n else n) ∧
  (let marked := fun (m : Mach) => m |> heard p |> freezeEq p
  let second := fun (m : Mach) => receives m p = true ∧ returns (marked m) p = false ∧ portState (marked m) p = 6 ∧
    (portOf (marked m) p).markers ≠ 0 ∧ (portOf (marked m) p).markers = b.seq
  Happens (fun t => .train { b with t := t })
    (fun m => second m ∧ (marked m).now - (portOf (marked m) p).rxIdleAt ≤ us (idleEff (marked m) p))
    (fun m => portEvent p 7 (fun n => n |> bump (rCPL_TRAIN_CNT p) fCPL_TRAIN_CNT_FAST |> toUp p false) (marked m)) ∧
  Happens (fun t => .train { b with t := t })
    (fun m => second m ∧ us (idleEff (marked m) p) < (marked m).now - (portOf (marked m) p).rxIdleAt)
    (fun m => portEvent p 7 (fun n => n |> setPort p { portOf n p with resyncAt := n.now, seqs := 0 } |> setPortState p 7)
      (marked m))) ∧
  Happens (fun t => .idleReq { b with t := t }) (fun m => BlkTaken b m ∧ portState (seqTaken b m) p = 4)
    (fun m => setPort p { portOf (seqTaken b m) p with idleReqAt := some (seqTaken b m).now } (seqTaken b m)) ∧
  Happens (fun t => .retrainReq { b with t := t }) (fun m => BlkTaken b m ∧ portState (seqTaken b m) p = 4)
    (fun m => portEvent p 6 (linkDown p 5 false) (seqTaken b m)) ∧
  Happens (fun t => .loopReq { b with t := t })
    (fun m => BlkTaken b m ∧ getF (seqTaken b m) (rCPL_LOOP p) fCPL_LOOP_MODE = 4 ∧ bit (blkWord b 1) 0 = true ∧
      portState (seqTaken b m) p = 4)
    (fun m => portEvent p 7 (enterLoop p 4) (seqTaken b m)) ∧
  Happens (fun t => .loopReq { b with t := t })
    (fun m => BlkTaken b m ∧ getF (seqTaken b m) (rCPL_LOOP p) fCPL_LOOP_MODE = 4 ∧ bits (blkWord b 0) 31 24 = 4 ∧
      bit (blkWord b 1) 0 = false ∧ portState (seqTaken b m) p = 8) (fun m => portEvent p 7 (toTrain p) (seqTaken b m)) ∧
  Happens (fun t => .test { b with t := t })
    (fun m => BlkTaken b m ∧ loopActive (seqTaken b m) p = true ∧ (portOf (seqTaken b m) p).loopMode ≠ 4)
    (fun m =>
      let n := txLate p (seqTaken b m)
      let r := portOf n p
      let lost := (b.seq + 256 - (r.seqOut + 255 * r.testOut + r.testN) % 256) % 256
      n |> bumpBy (2016 * lost + testErrors (r.testN + lost) b) (rCPL_TEST_ERR p) fCPL_TEST_ERR_BITS |>
        setPort p { r with testN := r.testN + lost + 1 })

/-- R222 to R224, R227 to R232: what the detectors, the timers and the reference of the ports do, each in the states of the link table in
which it acts; an event that changes the state is one of R232's list. ERR_RATE is set once more than ERR_MAX blocks of the present 1 ms
window are errored. -/
def Obligations.LinkEventsComplete : Prop :=
  (∀ p : Fin 24,
  let latched := fun (live sticky : Fld) (m : Mach) => m |> setB (rCPL_DET_STAT p) live true |> latchBit (rCPL_DET_STAT p) sticky
  Happens (fun t => .los t p) (fun m => portState m p ≠ 0) (losAssert p) ∧
  (∀ a : Nat, Happens (fun t => .losHoldExpiry t p)
    (fun m => (portOf m p).losAt = some a ∧ a + us (getF m (rCPL_DET_CFG p) fCPL_DET_CFG_LOS_HOLD) ≤ m.now ∧ portState m p = 4)
    (portEvent p 4 (linkDown p 1 true))) ∧
  (∀ a : Nat, Happens (fun t => .losHoldExpiry t p)
    (fun m => (portOf m p).losAt = some a ∧ a + us (getF m (rCPL_DET_CFG p) fCPL_DET_CFG_LOS_HOLD) ≤ m.now ∧ portState m p = 3)
    (portEvent p 4 (toDetect p))) ∧
  (let lolAt := fun (m : Mach) =>
    m |> latched fCPL_DET_STAT_LOL fCPL_DET_STAT_LOL_S |> setPort p { portOf m p with lolAt := some m.now }
  Happens (fun t => .lol t p) (fun m => portState m p ≠ 0 ∧ portState (lolAt m) p = 4)
    (fun m => portEvent p 4 (linkDown p 2 true) (lolAt m))) ∧
  Happens (fun t => .loa t p) (fun m => portState m p = 4)
    (fun m => m |> latched fCPL_DET_STAT_LOA fCPL_DET_STAT_LOA_S |> portEvent p 4 (linkDown p 3 true)) ∧
  Happens (fun t => .errorRateExceeded t p)
    (fun m =>
      let r := portOf m p
      portState m p = 4 ∧ r.errIx = (m.now - m.pwr.hubAt) / ms 1 ∧ getF m (rCPL_DET_CFG p) fCPL_DET_CFG_ERR_MAX < r.errN ∧
      r.errHit = false ∧
      portState (m |> setPort p { r with errHit := true } |> latchBit (rCPL_DET_STAT p) fCPL_DET_STAT_ERR_RATE) p = 4)
    (fun m => m |> setPort p { portOf m p with errHit := true } |> latchBit (rCPL_DET_STAT p) fCPL_DET_STAT_ERR_RATE |>
      portEvent p 5 (linkDown p 4 true)) ∧
  Happens (fun t => .transmitPllLossOfLock t p) (fun m => portState m p = 4) (portEvent p 4 (linkDown p 2 true)) ∧
  Happens (fun t => .squelchExit t p) (fun m => portState m p = 5)
    (fun m =>
      let n := heard p m
      n |> setPort p { portOf n p with exitAt := n.now, markers := 0 } |> portEvent p 7 (setPortState p 6)) ∧
  Happens (fun t => .squelchExit t p) (fun m => portState m p = 1) (setB (rCPL_DET_STAT p) fCPL_DET_STAT_SQ true) ∧
  Happens (fun t => .exitTimer t p) (fun m => portState m p = 6 ∧ (portOf m p).exitAt + us 1 ≤ m.now) (portEvent p 7 (retrain p)) ∧
  Happens (fun t => .resyncTimeout t p) (fun m => portState m p = 7 ∧ (portOf m p).resyncAt + us 20 ≤ m.now)
    (portEvent p 7 (retrain p)) ∧
  Happens (fun t => .detectComplete t p)
    (fun m => portState m p = 2 ∧ (portOf m p).detectAt + us 1 ≤ m.now ∧ flag m rCPL_REF_STAT fCPL_REF_STAT_REF_OK = true)
    (fun m => m |> heard p |> portEvent p 7 (toTrain p)) ∧
  Happens (fun t => .trainingFailure t p)
    (fun m => portState m p = 3 ∧ (portOf m p).rxOk = false ∧ (portOf m p).trainAt + us 50 ≤ m.now ∧ (portOf m p).fails < 2)
    (portEvent p 7 (fun m =>
      let n := setPort p { portOf m p with fails := (portOf m p).fails + 1 } m
      if portState n p = 3 then toTrain p n else n |> txLate p |> startTraining p)) ∧
  Happens (fun t => .trainingFailure t p)
    (fun m => portState m p = 3 ∧ (portOf m p).rxOk = true ∧ (portOf m p).rxOkAt + ms 1 ≤ m.now ∧ 2 ≤ (portOf m p).fails)
    (portEvent p 7 (fun m =>
      let n := setPort p { portOf m p with fails := (portOf m p).fails + 1 } m
      n |> setPort p { portOf n p with failedAt := n.now } |> setF (rCPL_STATE p) fCPL_STATE_LAST_CAUSE 8 |> setPortState p 9 |>
        raise (133 + p) noInst)) ∧
  Happens (fun t => .failedTimeout t p)
    (fun m => portState m p = 9 ∧ (portOf m p).failedAt + ms 10 ≤ m.now ∧ getF m (rCPL_CFG p) fCPL_CFG_ROLE ≠ 3)
    (fun m => m |> setPort p { portOf m p with fails := 0 } |> portEvent p 7 (toDetect p)) ∧
  (∀ a : Nat, Happens (fun t => .idleReqTimeout t p) (fun m => (portOf m p).idleReqAt = some a ∧ a + us 1 < m.now)
    (fun m => setPort p { portOf m p with idleReqAt := none } m)) ∧
  Happens (fun t => .txIdleEntry t p) (fun m => idleDue m p = true)
    (fun m =>
      let idle := (withMates m p).filter (idleDue m)
      m |> sendAll idle 6 (linkWords 2 []) |> forEach idle (fun q n => n |> setB (rCPL_STATE q) fCPL_STATE_TX_IDLE true |> setPort q { portOf n q with txIdleAt := n.now })) ∧
  Happens (fun t => .txIdleExit t p) (fun m => portState m p = 4 ∧ blockWaits m p = true)
    (fun m => forEach (withMates m p) txExit m) ∧
  Happens (fun t => .headerCheckFailure t p) (fun m => receives m p = true) (badBlk p fCPL_BLK_ERR_HDR) ∧
  Happens (fun t => .codeViolation t p) (fun m => receives m p = true)
    (fun m => m |> badBlk p fCPL_BLK_ERR_CV |> latchBit (rCPL_DET_STAT p) fCPL_DET_STAT_CV_S)) ∧
  Happens .portReferenceLoss (fun m => hubRuns m = true ∧ flag m rCPL_REF_STAT fCPL_REF_STAT_REF_OK = true)
    (fun m => m |> setB rCPL_REF_STAT fCPL_REF_STAT_REF_OK false |> latchBit rCPL_REF_STAT fCPL_REF_STAT_REF_LOSS |>
      forEach (List.range 24) (fun p m => if portState m p = 0 then m else
        let n := m |> portEvent p 2 (setPortState p 2) |> setB (rCPL_STATE p) fCPL_STATE_TX_IDLE true |>
          setF (rCPL_STATE p) fCPL_STATE_LAST_CAUSE 7
        setPort p { portOf n p with txIdleAt := n.now } n) |> causeOn 5 |> raise 15 noInst) ∧
  Happens .portReferenceRestored (fun m => flag m rCPL_REF_STAT fCPL_REF_STAT_REF_OK = false)
    (fun m => m |> setB rCPL_REF_STAT fCPL_REF_STAT_REF_OK true |>
      forEach (List.range 24) (fun p m => when (portState m p == 2) (toDetect p) m) |> causeOff 5)

/-! ### Tile partners (chapter 8) -/

/-- R264: the tile commands read the tiles' words, and the forms of TILE_AUTH_POLICY write the policy, the timeouts, an anchor key that
lies on P-256, and a tile's home port with its pinned SERIAL. -/
def Obligations.TileCommandsComplete : Prop :=
  Answers .tileEnumerate (native 0x54 1 .topaz .any true true) (replyLen 24) (fun p _ => p.params.length = 0)
    (fun _ m => ok ((List.range 24).map (fun t => viewReg m (rTIL_STAT t)))) (fun _ m => m) ∧
  Answers .tileInfo (native 0x55 1 .topaz .any true true) (replyLen 8)
    (fun p _ => p.params.length = 1 ∧ clean (par p 0) [(4, 0)] = true ∧ bits (par p 0) 4 0 < 24)
    (fun p m =>
      let t := bits (par p 0) 4 0
      ok [viewReg m (rTIL_STAT t), viewReg m (rTIL_INFO t), viewReg m (rTIL_TEMP t), viewReg m (rTIL_ERR t),
        viewReg m (rTIL_ID_LO t), viewReg m (rTIL_ID_HI t), (tileOf m t).ident.getD 3 0,
        (tileOf m t).ident.getD 5 0]) (fun _ m => m) ∧
  Answers .tileAuthPolicy (native 0x56 1 .topaz .h0p false false) noReply
    (fun p _ => p.params.length = 2 ∧ par p 0 = 0 ∧ clean (par p 1) [(31, 30), (19, 0)] = true ∧
      fget (par p 1) fTIL_AUTH_CFG_GEN_CAP ≤ 0x8000)
    (fun _ _ => ok []) (fun p m => setReg rTIL_AUTH_CFG (par p 1) m) ∧
  Answers .policyTimeouts (native 0x56 1 .topaz .h0p false false) noReply
    (fun p _ => p.params.length = 2 ∧ par p 0 = 1 ∧ 2 ≤ fget (par p 1) fTIL_TMO_IDENT_TMO ∧
      fget (par p 1) fTIL_TMO_IDENT_TMO ≤ 100 ∧ 10 ≤ fget (par p 1) fTIL_TMO_AUTH_TMO ∧ fget (par p 1) fTIL_TMO_AUTH_TMO ≤ 200 ∧
      5 ≤ fget (par p 1) fTIL_TMO_SILENT_TMO ∧ fget (par p 1) fTIL_TMO_SILENT_TMO ≤ 100 ∧ 20 ≤ fget (par p 1) fTIL_TMO_HOLD ∧
      fget (par p 1) fTIL_TMO_HOLD ≤ 250)
    (fun _ _ => ok []) (fun p m => setReg rTIL_TMO (par p 1) m) ∧
  Answers .policyAnchor (native 0x56 1 .topaz .h0p false false) noReply
    (fun p _ => p.params.length = 17 ∧ clean (par p 0) [(12, 8), (1, 0)] = true ∧ bits (par p 0) 1 0 = 2 ∧
      bits (par p 0) 12 8 < 4 ∧ onCurve (keyOf (wordsBytes (p.params.drop 1))) = true)
    (fun _ _ => ok [])
    (fun p m => forEach (List.range 16) (fun w => setReg (rTIL_ANCHOR (bits (par p 0) 12 8) w) (par p (w + 1))) m) ∧
  Answers .policyTile (native 0x56 1 .topaz .h0p false false) noReply
    (fun p m =>
      let port := fget (par p 1) fTIL_CFG_PORT
      p.params.length = 4 ∧ clean (par p 0) [(12, 8), (1, 0)] = true ∧ bits (par p 0) 1 0 = 3 ∧ bits (par p 0) 12 8 < 24 ∧
      clean (par p 1) [(31, 30), (4, 0)] = true ∧ port < 24 ∧ getF m (rCPL_CFG port) fCPL_CFG_ROLE = 1 ∧
      (∀ k < 24, k ≠ bits (par p 0) 12 8 → flag m (rTIL_CFG k) fTIL_CFG_EN = true → getF m (rTIL_CFG k) fTIL_CFG_PORT ≠ port))
    (fun _ _ => ok [])
    (fun p m =>
      let t := bits (par p 0) 12 8
      m |> setReg (rTIL_CFG t) (par p 1) |> setReg (rTIL_EXPECT_LO t) (par p 2) |> setReg (rTIL_EXPECT_HI t) (par p 3))

/-- R200, R249 to R252, R255: a report that passes the checks of R249, is new and lies within the flood limit takes effect once:
HEALTH, SIGNATURE and DEAD_LIST always; IDENT and AUTH_RESP where the tile was asked. -/
def Obligations.TileReportsComplete : Prop :=
  ∀ (b : Blk) (t : Nat),
  Happens (fun a => .health { b with t := a }) (ReportComes 1 b t) (fun m => healthReport b t (reportNoted b t m)) ∧
  Happens (fun a => .signature { b with t := a }) (ReportComes 2 b t)
    (fun m => forEach (List.range (bits (blkWord b 1) 4 0))
      (fun k => sigReport t (blkWord b (2 + 2 * k)).toNat (blkWord b (3 + 2 * k)).toNat) (reportNoted b t m)) ∧
  Happens (fun a => .deadList { b with t := a }) (ReportComes 3 b t) (fun m => deadReport b t (reportNoted b t m)) ∧
  (∀ e : Exchange, Happens (fun a => .ident { b with t := a })
    (fun m => ReportComes 4 b t m ∧ (exchangeFor (seqTaken b m) t b.port 1).isSome = true ∧
      exchangeFor (reportNoted b t m) t b.port 1 = some (true, e))
    (fun m =>
      let n := reportNoted b t m
      let e' := { e with ident := blkWords b 0 44 }
      n |> setTile t { tileOf n t with ex := some e' } |> identMain t e')) ∧
  (∀ e : Exchange, Happens (fun a => .ident { b with t := a })
    (fun m => ReportComes 4 b t m ∧ (exchangeFor (seqTaken b m) t b.port 1).isSome = true ∧
      exchangeFor (reportNoted b t m) t b.port 1 = some (false, e))
    (fun m => identOther t { e with ident := blkWords b 0 44 } (reportNoted b t m))) ∧
  (∀ e : Exchange, Happens (fun a => .authResp { b with t := a })
    (fun m => ReportComes 5 b t m ∧ answers (seqTaken b m) t b = true ∧
      exchangeFor (reportNoted b t m) t b.port 2 = some (true, e))
    (fun m =>
      let n := reportNoted b t m
      setTile t { tileOf n t with ex := some { e with stage := 3, sigWords := blkWords b 2 17 } } n)) ∧
  (∀ e : Exchange, Happens (fun a => .authResp { b with t := a })
    (fun m => ReportComes 5 b t m ∧ answers (seqTaken b m) t b = true ∧
      exchangeFor (reportNoted b t m) t b.port 2 = some (false, e))
    (fun m => setCheck t { e with stage := 3, sigWords := blkWords b 2 17 } (reportNoted b t m)))

/-- R247, R250, R252, R255, R258: the timers of a tile: the end of a verification (the carrying port's first), unanswered requests on every
port that is asked, a silent tile, a dead-pixel list
that does not come to its end, a tile whose ports have all been down for 1 s, a flood of reports. -/
def Obligations.TileTimersComplete : Prop :=
  ∀ tile : Fin 24,
  (∀ e : Exchange, Happens (fun t => .authenticationEnd t tile) (fun m => (tileOf m tile).ex = some e ∧ e.stage = 3)
    (fun m => if answerOk e (idCert e) [idWord e 1, idWord e 2] = true then
        (if pinOk m tile e = true then m |> setB (rTIL_STAT tile) fTIL_STAT_AUTH true |> checksPass tile e true
          else authFail tile 6 m)
      else authFail tile 5 m)) ∧
  (∀ e : Exchange, Happens (fun t => .authenticationEnd t tile)
    (fun m => (∀ x, (tileOf m tile).ex = some x → x.stage ≠ 3) ∧ (tileOf m tile).checks.find? (fun x => x.stage == 3) = some e)
    (fun m => if answerOk e (refCert m tile) (refSerial m tile) = true then otherPortPasses tile e m
      else otherPortFails tile e.port 5 m)) ∧
  (let others := fun (m n : Mach) =>
    forEach ((tileOf m tile).checks.filter (waited m 1 (getF m rTIL_TMO fTIL_TMO_IDENT_TMO))) (fun e n =>
      if 3 ≤ e.tries then
        n |> setF (rTIL_STAT tile) fTIL_STAT_CAUSE 1 |>
          setTile tile { tileOf n tile with checks := withoutPort e.port (tileOf n tile).checks }
      else
        let n := tileMsg tile e.port 1 [] n
        setCheck tile { e with tries := e.tries + 1, sentAt := n.now } n) n
  (∀ e : Exchange, Happens (fun t => .identTimeout t tile)
    (fun m => (tileOf m tile).ex = some e ∧ e.stage = 1 ∧ e.sentAt + ms (getF m rTIL_TMO fTIL_TMO_IDENT_TMO) ≤ m.now ∧
      3 ≤ e.tries) (fun m => others m (noIdent tile m))) ∧
  (∀ e : Exchange, Happens (fun t => .identTimeout t tile)
    (fun m => (tileOf m tile).ex = some e ∧ e.stage = 1 ∧ e.sentAt + ms (getF m rTIL_TMO fTIL_TMO_IDENT_TMO) ≤ m.now ∧
      e.tries < 3)
    (fun m =>
      let n := tileMsg tile e.port 1 [] m
      others m (setTile tile { tileOf n tile with ex := some { e with tries := e.tries + 1, sentAt := n.now } } n))) ∧
  Happens (fun t => .identTimeout t tile) (fun m => (tileOf m tile).ex = none) (fun m => others m m)) ∧
  (let others := fun (m n : Mach) =>
    forEach ((tileOf m tile).checks.filter (waited m 2 (getF m rTIL_TMO fTIL_TMO_AUTH_TMO)))
      (fun e n => when ((tileOf n tile).checks.contains e) (otherPortFails tile e.port 5) n) n
  (∀ e : Exchange, Happens (fun t => .authTimeout t tile)
    (fun m => (tileOf m tile).ex = some e ∧ e.stage = 2 ∧ e.sentAt + ms (getF m rTIL_TMO fTIL_TMO_AUTH_TMO) ≤ m.now)
    (fun m => others m (authFail tile 5 m))) ∧
  Happens (fun t => .authTimeout t tile) (fun m => (tileOf m tile).ex = none) (fun m => others m m)) ∧
  (∀ p : Nat, Happens (fun t => .noIdRetry t tile)
    (fun m => (carryPort m tile :: tilePorts m tile).find? (fun p => portState m p == 4) = some p ∧ tileState m tile = 9 ∧
      (tileOf m tile).noIdAt + sec 1 ≤ m.now) (startIdent tile p)) ∧
  Happens (fun t => .silentTimeout t tile)
    (fun m => (tileState m tile = 3 ∨ tileState m tile = 4) ∧
      (tileOf m tile).healthAt + ms (10 * getF m rTIL_TMO fTIL_TMO_SILENT_TMO) ≤ m.now)
    (fun m => m |> setTile tile { tileOf m tile with before := tileState m tile } |> toTileState tile 7 |>
      raise (253 + tile) noInst) ∧
  Happens (fun t => .deadListTimeout t tile) (fun _ => True)
    (fun m => setTile tile
      { tileOf m tile with asms := (tileOf m tile).asms.filter (fun e => decide (m.now < e.2.startAt + ms 50)) } m) ∧
  Happens (fun t => .tileAbsent t tile)
    (fun m => tileState m tile ≠ 8 ∧ (tileState m tile = 5 → (tileOf m tile).stuck = false) ∧ tileHasUp m tile = false ∧
      (tileOf m tile).noUpAt + sec 1 ≤ m.now)
    (fun m => m |> setTile tile { tileOf m tile with ex := none, checks := [] } |> toTileState tile 0) ∧
  Happens (fun t => .reportFlood t tile)
    (fun m => (tileOf m tile).flood.1 = (m.now - m.pwr.hubAt) / sec 1 ∧ 1000 < (tileOf m tile).flood.2 ∧
      (tileOf m tile).flooded = false)
    (fun m => m |> setTile tile { tileOf m tile with flooded := true } |> raise 284 (detail tile 0))

/-! ### Device chains, function groups and Aurora (chapter 9) -/

/-- R269, R273, R276, R280, R281: the chain commands. Values, members, programs and gamma tables wait for the next tick; CHAIN_CONFIG,
the words of a group, its probe word and the colour loop take effect at once; CHAIN_READBACK reads the frames returned. -/
def Obligations.ChainRowsComplete : Prop :=
  Answers .chainConfig (native 0x60 1 .topaz .h0p false false) noReply
    (fun p _ => p.params.length = 2 ∧ clean (par p 0) [(1, 0)] = true ∧ chnPortOk (par p 1) = true) (fun _ _ => ok [])
    (fun p m =>
      let n := bits (par p 0) 1 0
      let was := flag m (rCHN_PORT_CFG n) fCHN_PORT_CFG_EN
      m |> setReg (rCHN_PORT_CFG n) (par p 1) |> when (!was || fget (par p 1) fCHN_PORT_CFG_EN == 0) (forgetPort n) |>
        forgetDevices n (fget (par p 1) fCHN_PORT_CFG_DEVICES + 1)) ∧
  Answers .chainWrite (native 0x61 0 .topaz .any false false) noReply
    (fun p _ =>
      let n := bits (par p 0) 27 16
      p.params.length = 1 + n ∧ clean (par p 0) [(27, 16), (11, 0)] = true ∧ 1 ≤ n ∧ bits (par p 0) 11 0 + n ≤ 3072 ∧
      (∀ v ∈ p.params.drop 1, clean v [(23, 4)] = true)) (fun _ _ => ok [])
    (fun p m => forEach (p.params.drop 1).zipIdx (fun v => stage (.host (bits (par p 0) 11 0 + v.2) (bits v.1 23 4))) m) ∧
  Answers .chainReadback (native 0x62 1 .topaz .any true true) noReply
    (fun p _ =>
      let k := bits (par p 0) 21 16
      p.params.length = 1 ∧ clean (par p 0) [(21, 16), (12, 8), (1, 0)] = true ∧ 1 ≤ k ∧ bits (par p 0) 12 8 + k ≤ 32 ∧
      25 * k ≤ pathMax p.path)
    (fun p m => ok ((List.range (bits (par p 0) 21 16)).flatMap
      (fun d => readbackWords m (bits (par p 0) 1 0) (bits (par p 0) 12 8 + d)))) (fun _ m => m) ∧
  Answers .groupConfig (native 0x63 1 .topaz .h0p false false) noReply
    (fun p m =>
      let n := bits (par p 0) 14 8
      p.params.length = 4 + n ∧ clean (par p 0) [(14, 8), (5, 0)] = true ∧ n ≤ 64 ∧ grpCfgOk (par p 1) (par p 2) = true ∧
      grpProbeOk (par p 3) = true ∧ groupMembersOk m (bits (par p 0) 5 0) (p.params.drop 4) = true) (fun _ _ => ok [])
    (fun p m =>
      let g := bits (par p 0) 5 0
      let had := getF m (rCHN_GRP_CFG g) fCHN_GRP_CFG_MEMBERS
      m |> setReg (rCHN_GRP_CFG g) (par p 1) |> setF (rCHN_GRP_CFG g) fCHN_GRP_CFG_MEMBERS had |>
        setReg (rCHN_GRP_DER g) (par p 2) |> setReg (rCHN_GRP_PROBE g) (par p 3) |>
        stage (.members g ((p.params.drop 4).map (fun w => bits w 13 0)))) ∧
  Answers .probeConfig (native 0x66 1 .topaz .h0p false false) noReply
    (fun p _ => p.params.length = 2 ∧ clean (par p 0) [(5, 0)] = true ∧ grpProbeOk (par p 1) = true) (fun _ _ => ok [])
    (fun p m => setReg (rCHN_GRP_PROBE (bits (par p 0) 5 0)) (par p 1) m) ∧
  Answers .auroraLoad (native 0x64 1 .topaz .any false false) noReply
    (fun p m =>
      let n := bits (par p 0) 23 16
      let e := bits (par p 0) 3 0
      p.params.length = 1 + n ∧ clean (par p 0) [(23, 16), (3, 0)] = true ∧ e < 8 ∧ 1 ≤ n ∧ n ≤ 64 ∧
      (∀ w ∈ p.params.drop 1, auroraOk n w = true) ∧ flag m (rAUR_STAT e) fAUR_STAT_RUN = false) (fun _ _ => ok [])
    (fun p m => stage (.prog (bits (par p 0) 3 0) (p.params.drop 1)) m) ∧
  Answers .gammaLoad (native 0x64 1 .topaz .any false false) noReply
    (fun p _ => p.params.length = 129 ∧ clean (par p 0) [(23, 16), (3, 0)] = true ∧ bits (par p 0) 23 16 = 128 ∧
      bits (par p 0) 3 0 = 8 ∧ (∀ w ∈ p.params.drop 1, clean w [(27, 16), (11, 0)] = true)) (fun _ _ => ok [])
    (fun p m => stage (.gamma (p.params.drop 1)) m) ∧
  Answers .auroraStart (native 0x65 0 .topaz .any false false) noReply
    (fun p m => p.params.length = 1 ∧ clean (par p 0) [(31, 31), (13, 8), (3, 0)] = true ∧ bit (par p 0) 31 = true ∧
      bits (par p 0) 3 0 < 8 ∧ hasProg m (bits (par p 0) 3 0) = true) (fun _ _ => ok [])
    (fun p m =>
      let e := bits (par p 0) 3 0
      m |> setAur e { aurOf m e with j := 0, loops := [] } |> setF (rAUR_STAT e) fAUR_STAT_PC (bits (par p 0) 13 8) |>
        setB (rAUR_STAT e) fAUR_STAT_RUN true) ∧
  Answers .auroraStop (native 0x65 0 .topaz .any false false) noReply
    (fun p m => p.params.length = 1 ∧ clean (par p 0) [(31, 31), (13, 8), (3, 0)] = true ∧ bit (par p 0) 31 = false ∧
      bits (par p 0) 3 0 < 8 ∧ hasProg m (bits (par p 0) 3 0) = true) (fun _ _ => ok [])
    (fun p m => setB (rAUR_STAT (bits (par p 0) 3 0)) fAUR_STAT_RUN false m) ∧
  Answers .colourLoopSet (native 0x67 1 .topaz .h0p false false) noReply
    (fun p _ =>
      let tr := fget (par p 1) fCHN_CLR_TGT_TR
      let tg := fget (par p 1) fCHN_CLR_TGT_TG
      p.params.length = 3 ∧ clean (par p 0) [(31, 18), (9, 0)] = true ∧ fget (par p 0) fCHN_CLR_CFG_TILE < 24 ∧
      clean (par p 2) [(31, 16), (9, 0)] = true ∧ tr ≠ 0 ∧ tg ≠ 0 ∧ tr + tg < 65536) (fun _ _ => ok [])
    (fun p m => m |> setReg rCHN_CLR_CFG (par p 0) |> setReg rCHN_CLR_TGT (par p 1) |> setReg rCHN_CLR_LIM (par p 2))

/-- R269, R271, R284, R285, R290, R363, R371, R395, R417: a tick counts and updates the chains, in thermal hold too; in a running hub outside
the golden image, under which a tick only counts, the steps of a calibration run, the bank swaps that fall due, the motor channels, then the
loops whose turn it is and that do not overrun follow. In an entry the tick after the point of no return makes the last chain update and
stops chains and motors, and a tick after that one only counts. -/
def Obligations.TickCompletes : Prop :=
  ∀ env : TickEnv,
  let counted := fun (m : Mach) => { m with tickAt := m.now } |> wrapInc rGAR_TICK fGAR_TICK_TICK
  let last := fun (m : Mach) => m.pwr.entry.any (fun e => e.step == 5)
  let acts := fun (m : Mach) => hubRuns m = true ∨ m.pwr.st = 5
  Happens (fun t => .tick t env) (fun m => acts m ∧ last m = true)
    (fun m =>
      let n := counted m |> when (!golden m) (chainUpdate env true) |> chainStop |> parkAll
      { n with pwr := { n.pwr with entry := n.pwr.entry.map (fun e => { e with step := 6 }) } }) ∧
  Happens (fun t => .tick t env) (fun m => acts m ∧ last m = false ∧ golden m = true) counted ∧
  Happens (fun t => .tick t env) (fun m => m.pwr.st = 5 ∧ last m = false ∧ golden m = false) (fun m => chainUpdate env false (counted m)) ∧
  Happens (fun t => .tick t env)
    (fun m => m.pwr.st ≠ 5 ∧ hubRuns m = true ∧ last m = false ∧ golden m = false ∧
      (calTick (counted m)).pwr.entry.any (fun e => e.step == 6) = false)
    (fun m =>
      let n := counted m |> calTick |> chainUpdate env false
      let n := n |> switchBanks (swapDue n) |> forEach [0, 1, 2, 3] (tickMotor env)
      let k := getF n rGAR_TICK fGAR_TICK_TICK % 10
      n |> forEach [0, 1, 2, 3] (fun c m => m |> when (!hasBit env.overs (4 + c)) (outerSample c) |> freezeTest c) |>
        when (k == 0 && !hasBit env.overs 8) (levelSample (pitchNow n)) |> when (k == 5 && !hasBit env.overs 9) (colourSample env.pd)) ∧
  Happens (fun t => .tick t env)
    (fun m => m.pwr.st ≠ 5 ∧ hubRuns m = true ∧ last m = false ∧ golden m = false ∧
      (calTick (counted m)).pwr.entry.any (fun e => e.step == 6) = true)
    (fun m => calTick (counted m))

/-! ### Motors, loops and analog inputs (chapter 10) -/

/-- R289, R290, R296, R299, R301 to R303, R307: the loop commands: the words of a channel, a bank image from a RAW buffer into the inactive
bank, a swap at a scheduled sample, a level, an injection (PENDING until its end), its records, the analog inputs. MOTOR_CMD: a position
within the limits of a swivel channel, a speed of a fan or pump, parking of a CLOSED channel (elsewhere PARK is STATE_REJECT, log entry
54), the release of a PARKED or LOST one. -/
def Obligations.LoopAndMotorRowsComplete : Prop :=
  Answers .loopConfig (native 0x68 1 .topaz .h0p false false) noReply
    (fun p m => p.params.length = 8 ∧ clean (par p 0) [(1, 0)] = true ∧ motWordsOk p = true ∧
      motShared m (bits (par p 0) 1 0) p = false ∧ pending m .cal = false) (fun _ _ => ok [])
    (fun p m =>
      let c := bits (par p 0) 1 0
      let n := m |> setReg (rMOT_CFG c) (par p 1) |> setReg (rMOT_ENC c) (par p 2) |> setReg (rMOT_LIM c) (par p 3) |>
        setReg (rMOT_FRZ c) (par p 4) |> setReg (rMOT_ISENSE c) (par p 5) |> setReg (rMOT_HOME c) (par p 6) |>
        setReg (rMOT_TILES c) (par p 7)
      n |> setMot c { motOf n c with reconfig := true } |> showAdc) ∧
  AnswersMem .coefLoad (native 0x69 1 .topaz .h0 false true) (replyLen 1)
    (fun p mem m =>
      let l := bits (par p 0) 3 0
      p.params.length = 2 ∧ clean (par p 0) [(3, 0)] = true ∧ l < 9 ∧ bufRefused m (ctxN p) (par p 1).toNat = none ∧
      rawBuf m (hIdx (par p 1).toNat) 688 = true ∧ bankValid (poolBytes mem (hIdx (par p 1).toNat) 0 688) = true ∧
      flag m (rGAR_LOOP_STAT l) fGAR_LOOP_STAT_SWAP_PEND = false)
    (fun p mem _ => ok [w32 (crc crc32c (poolBytes mem (hIdx (par p 1).toNat) 0 688))]) (fun _ mem _ => mem)
    (fun p mem m =>
      let l := bits (par p 0) 3 0
      putBank l (!bankSel m l) (poolBytes mem (hIdx (par p 1).toNat) 0 688) m) ∧
  Answers .bankSwap (native 0x6A 0 .topaz .h0 false true) (replyLen 2)
    (fun p m =>
      let mask := bits (par p 0) 8 0
      p.params.length = 1 ∧ clean (par p 0) [(8, 0)] = true ∧ mask ≠ 0 ∧
      (∀ l ∈ members 9 mask, bankOk m l (!bankSel m l) = true ∧ flag m (rGAR_LOOP_STAT l) fGAR_LOOP_STAT_SWAP_PEND = false))
    (fun p m => ok [w32 (swapInstant m (bits (par p 0) 8 0)).1, w32 (swapInstant m (bits (par p 0) 8 0)).2])
    (fun p m =>
      let at_ := swapInstant m (bits (par p 0) 8 0)
      forEach (members 9 (bits (par p 0) 8 0)) (fun l m => m |> setLoop l { loopOf m l with swapAt := some at_ } |>
        setB (rGAR_LOOP_STAT l) fGAR_LOOP_STAT_SWAP_PEND true) m) ∧
  Answers .levelSet (native 0x6F 1 .topaz .any false false) noReply
    (fun p _ => p.params.length = 2 ∧ clean (par p 0) [(1, 0)] = true ∧ bits (par p 0) 1 0 ≠ 3 ∧
      (sgn 32 (par p 1).toNat).natAbs ≤ 3 * 2 ^ 20) (fun _ _ => ok [])
    (fun p m => m |> setReg rGAR_LEVEL (par p 0) |> setReg rGAR_AIM (par p 1)) ∧
  Answers .tuneInject (native 0x6C 2 .topaz .h0 false false) noReply
    (fun p m =>
      let w := par p 0
      let l := bits w 3 0
      p.params.length = 4 ∧ clean w [(13, 12), (9, 8), (3, 0)] = true ∧ l < 9 ∧ bits w 13 12 ≤ 2 ∧ bits w 9 8 ≤ 1 ∧
      clean (par p 2) [(31, 16), (12, 0)] = true ∧ (bits w 13 12 = 1 → bits (par p 2) 31 16 ≤ 8 * loopRate l) ∧
      1 ≤ bits (par p 2) 12 0 ∧ bits (par p 2) 12 0 ≤ 4096 ∧ clean (par p 3) [(7, 0)] = true ∧ 1 ≤ bits (par p 3) 7 0 ∧
      m.inject = none ∧ loopClosed m l = true) (fun _ _ => pendingRep)
    (fun p m =>
      let w := par p 0
      let n := { m with inject := some { lp := bits w 3 0, point := bits w 9 8, signal := bits w 13 12, ampl := sgn 32 (par p 1).toNat, freq := bits (par p 2) 31 16, samples := bits (par p 2) 12 0, decim := bits (par p 3) 7 0 }, capture := [] } |>
        setReg rGAR_CAP_STAT 0 |> setB rGAR_CAP_STAT fGAR_CAP_STAT_ACTIVE true |>
        setF rGAR_CAP_STAT fGAR_CAP_STAT_LOOP (bits w 3 0)
      { n with pends := n.pends ++ [⟨.inject, 0, some (replyTo (native 0x6C 2 .topaz .h0 false false) p)⟩] }) ∧
  Answers .captureRead (native 0x6D 2 .topaz .any true true) noReply
    (fun p m =>
      let n := bits (par p 1) 12 0
      p.params.length = 2 ∧ clean (par p 0) [(12, 0)] = true ∧ clean (par p 1) [(12, 0)] = true ∧
      flag m rGAR_CAP_STAT fGAR_CAP_STAT_VALID = true ∧ bits (par p 0) 12 0 + n ≤ m.capture.length ∧ 4 * n ≤ pathMax p.path)
    (fun p m => ok (((m.capture.drop (bits (par p 0) 12 0)).take (bits (par p 1) 12 0)).flatMap
      (fun (r, y, u, e) => [wordI r, wordI y, wordI u, wordI e]))) (fun _ m => m) ∧
  Answers .adcConfig (native 0x6E 1 .topaz .h0p false false) noReply
    (fun p m =>
      let n := bits (par p 0) 12 8
      let first := bits (par p 0) 4 0
      let m' := forEach (List.range n) (setAdcChan p first) m
      p.params.length = 1 + 3 * n ∧ clean (par p 0) [(12, 8), (4, 0)] = true ∧ 1 ≤ n ∧ first + n ≤ 24 ∧
      (∀ j < n, clean (par p (3 * j + 1)) [(31, 28)] = true ∧ fget (par p (3 * j + 1)) fADC_CH_CFG_RATE ≠ 3 ∧
        clean (par p (3 * j + 3)) [(31, 31), (27, 16), (11, 0)] = true) ∧ pending m .cal = false ∧
      adcLoad m' false ≤ 1000000 ∧ adcLoad m' true ≤ 1000000) (fun _ _ => ok [])
    (fun p m => showAdc (forEach (List.range (bits (par p 0) 12 8)) (setAdcChan p (bits (par p 0) 4 0)) m)) ∧
  (∀ row ∈ [(Instr.motorPosition, 0), (.motorSpeed, 1), (.motorPark, 2), (.motorRelease, 3)],
    Answers row.1 (native 0x6B 0 .topaz .any false false) noReply
    (fun p m =>
      let c := bits (par p 0) 1 0
      let v := par p 1
      p.params.length = 2 ∧ clean (par p 0) [(10, 8), (1, 0)] = true ∧ bits (par p 0) 10 8 = row.2 ∧ pending m .cal = false ∧
      (row.2 = 0 → posMin m c ≤ sgn 32 v.toNat ∧ sgn 32 v.toNat ≤ posMax m c ∧ motFunc m c = 2) ∧
      (row.2 = 1 → motFunc m c = 3 ∨ motFunc m c = 4) ∧ (row.2 = 2 → v = 0 ∧ motState m c = 2) ∧
      (row.2 = 3 → v = 0 ∧ releasable m c = true)) (fun _ _ => ok [])
    (fun p m =>
      let c := bits (par p 0) 1 0
      let v := par p 1
      if row.2 = 0 then setMot c { motOf m c with cmdPos := sgn 32 v.toNat } m
      else if row.2 = 1 then setMot c { motOf m c with cmdSpeed := v.toNat } m
      else if row.2 = 2 then parkMotor c 7 m
      else releaseMotor c m))

/-- R285, R290 to R292, R295 to R298, R302, R304, R305: what the loops and motor channels meet: samples, overruns (a current loop's sample is
undone, `undoSample`), a swap that falls due,
failed bank checks, frozen or faulty feedback, the end of homing, a driver fault, the end of an injection (and its end without a result,
as its loop is no longer closed), a conversion. -/
def Obligations.LoopEventsComplete : Prop :=
  (∀ (c : Fin 4) (u v : Nat) (pins : List (Nat × Nat)), Happens (fun t => .currentSample t c u v pins) (fun m => hubRuns m = true)
    (fun m => m |> switchBanks (swapDue m) |> currentSample c u v pins)) ∧
  (∀ l : Fin 10, Happens (fun t => .loopOverrun t l) (fun _ => True)
    (fun m =>
      let n := if l < 4 then undoSample l m else m
      n |> bump (rGAR_LOOP_STAT l) fGAR_LOOP_STAT_OVR |> bump (rGAR_LOOP_STAT l) fGAR_LOOP_STAT_CONSEC |>
        when (getF n (rGAR_LOOP_STAT l) fGAR_LOOP_STAT_CONSEC == 2) (overrunThird l))) ∧
  Happens .bankSwitch (fun _ => True) (fun m => switchBanks (swapDue m) m) ∧
  (∀ bad : Nat, Happens (fun t => .coefCheck t bad) (fun _ => True)
    (forEach (members 18 bad) (fun k => bankFails (k / 2) (k % 2 == 1)))) ∧
  (∀ c : Fin 4,
  Happens (fun t => .frozenFeedback t c)
    (fun m => motState m c = 2 ∧ getF m (rMOT_FRZ c) fMOT_FRZ_FRZ_T ≤ (motOf m c).frz) (loseMotor c 2) ∧
  Happens (fun t => .encoderErrors t c)
    (fun m => motState m c = 2 ∧ 16 < ((motOf m c).errAt.filter (fun a => decide (m.now < a + ms 10))).length) (loseMotor c 3) ∧
  Happens (fun t => .homingComplete t c) (fun m => motState m c = 1 ∧ 50 ≤ (motOf m c).still)
    (fun m => m |> setMot c { motOf m c with endStop := (motOf m c).count, frz := 0 } |>
      setReg (rMOT_POS c) (wordI (posMin m c)) |> setB (rMOT_STAT c) fMOT_STAT_HOMED true |> setMotState c 2) ∧
  Happens (fun t => .homingTimeout t c)
    (fun m => motState m c = 1 ∧ (motOf m c).homeAt + ms (100 * getF m (rMOT_HOME c) fMOT_HOME_HOME_T) ≤ m.now)
    (fun m => m |> parkMotor c 6 |> raise (307 + c) noInst) ∧
  Happens (fun t => .motorDriverFault t c) (fun _ => True)
    (fun m =>
      let n := m |> setB (rMOT_STAT c) fMOT_STAT_DRV_FLT true |>
        when (motState m c == 1 || motState m c == 2 || motState m c == 4) (parkMotor c 4)
      n |> setMot c { motOf n c with gates := false } |> raise (303 + c) noInst)) ∧
  (∀ j : InjRec, Happens .injectionEnd (fun m => m.inject = some j ∧ j.samples ≤ m.capture.length)
    (fun m => { m with inject := none } |> setB rGAR_CAP_STAT fGAR_CAP_STAT_ACTIVE false |> finish .inject 0 (ok []))) ∧
  (∀ j : InjRec, Happens .injectionEnd (fun m => m.inject = some j ∧ m.capture.length < j.samples ∧ loopClosed m j.lp = false)
    (fun m => { m with inject := none } |> setB rGAR_CAP_STAT fGAR_CAP_STAT_ACTIVE false |>
      finish .inject 0 (errW stSTATE_REJECT (viewReg m (rGAR_LOOP_STAT j.lp))))) ∧
  (∀ (k : Fin 24) (raw : Int), Happens (fun t => .adcConversion t k raw)
    (fun m => flag m (rADC_CH_CFG k) fADC_CH_CFG_EN = true ∧ hubRuns m = true ∧ scanStopped m = false)
    (fun m =>
      let code := adcCode m k raw
      let out := flag m (rADC_CH_LIM k) fADC_CH_LIM_LIM_EN && (decide (code < getF m (rADC_CH_LIM k) fADC_CH_LIM_LO) ||
        decide (getF m (rADC_CH_LIM k) fADC_CH_LIM_HI < code))
      let r : AdcRec := tget {} m.adcs k
      let n := { m with adcs := tput {} m.adcs k { outs := if out then capN 3 (r.outs + 1) else 0, at_ := some m.now } }
      n |> setF (rADC_RES k) fADC_RES_CODE code |> setF (rADC_RES k) fADC_RES_VALUE (unsgn 16 (adcValue n k code)) |>
        setB (rADC_RES k) fADC_RES_OUT out |> when (out && r.outs == 2) (raise 313 (detail k 0))))

/-! ### The safety envelope (chapter 11) -/

/-- R317 to R320, R324: an envelope that passes the checks renews its producer and takes effect on its object: HEARTBEAT on none,
BEAM_MODE on the requested modes, MASK_ENABLE on the mask enables, OUTPUT on the outputs, SAFE_CONFIG on a safety register. R174, R175: an
accepted COMPLIANCE_MAP starts Onyx's copy, PENDING for a packet; a copy that agrees with MAP_CRC becomes the set that the tile takes at
its next latch, its producer's FALLBACK ends where R318 has it end, and the reply follows. -/
def Obligations.EnvelopeRowsComplete : Prop :=
  WritesObject .heartbeat 1 (fun d _ => d = []) (fun _ m => m) ∧
  WritesObject .beamMode 2 (fun d _ => d.length = 1 ∧ clean (d.getD 0 0) [(31, 24), (15, 0)] = true)
    (fun d m => m |> setF rSAF_BEAM fSAF_BEAM_REQ
      (selectModes (getF m rSAF_BEAM fSAF_BEAM_REQ) (bits (d.getD 0 0) 31 24) (bits (d.getD 0 0) 15 0)) |> setBeams) ∧
  WritesObject .maskEnable 3 (fun d _ => d.length = 1 ∧ clean (d.getD 0 0) [(15, 0)] = true)
    (fun d m =>
      let sel := bits (d.getD 0 0) 15 8
      setMasks ((bits (d.getD 0 0) 7 0 &&& sel) ||| (getF m rSAF_MASK_EN fSAF_MASK_EN_EN &&& (sel ^^^ 0xFF))) m) ∧
  WritesObject .output 5
    (fun d m => d.length = 1 ∧ clean (d.getD 0 0) [(5, 4), (1, 0)] = true ∧
      (∀ j ∈ members 2 (bits (d.getD 0 0) 5 4 &&& bits (d.getD 0 0) 1 0),
        stopPresent m = false ∧ flag m (rSAF_OUT_STAT j) fSAF_OUT_STAT_FAULT = false))
    (fun d m =>
      let sel := bits (d.getD 0 0) 5 4
      safUpdate { m with saf := { m.saf with
        offBy := (m.saf.offBy &&& (sel ^^^ 3)) ||| (sel &&& (bits (d.getD 0 0) 1 0 ^^^ 3)) } }) ∧
  WritesObject .safeConfig 6
    (fun d _ => d.length = 2 ∧ clean (d.getD 0 0) [(15, 0)] = true ∧ safValueOk (bits (d.getD 0 0) 15 0) (d.getD 1 0) = true)
    (fun d m => safSet (bits (d.getD 0 0) 15 0) (d.getD 1 0) m) ∧
  (∀ (e : Env) (who : Option Nat) (waitMs : Nat),
    let copy := fun (m : Mach) (dratus : Bool) =>
      let d := e.data
      let t := bits (d.getD 0 0) 4 0
      let dim := (mapGeom m t).getD (0, 0)
      setTilePix t { pixOf m t with copies := (pixOf m t).copies ++ [{ beam := bits (d.getD 0 0) 9 8, handle := (d.getD 1 0).toNat, crc := d.getD 2 0, persist := bit (d.getD 0 0) 16, w := dim.1, h := dim.2, slot := who, dratus := dratus, noSpace := !Config.mapRoom (zonesHeld m) (zoneCount dim.1 dim.2) }] } m
    Answers (fun p => .complianceMap (.dratus p waitMs)) (native 0x78 0 .onyx .any false false) noReply
      (fun p m => parseEnv true p.params = .inr e ∧ e.obj = 4 ∧
        EnvTaken true (m.now - p.t + ms waitMs) who e (mapDataOk e.data m = true) m)
      (fun _ _ => pendingRep)
      (fun p m =>
        let n := copy (accountEnv who e true 0 m) true
        { n with pends := n.pends ++ [⟨.map, bits (e.data.getD 0 0) 4 0, some (replyTo (native 0x78 0 .onyx .any false false) p)⟩] }) ∧
    ∀ f : CanFrame, Happens (fun t => .complianceMap (.native { f with t := t } waitMs))
      (fun m => nativeTaken m f = true ∧ parseEnv false f.words = .inr e ∧ e.obj = 4 ∧
        EnvTaken true (ms waitMs) who e (mapDataOk e.data m = true) m)
      (fun m =>
        let n := copy (accountEnv who e true 0 m) false
        when (n.pwr.st == 2) (wakeEvent 8) n)) ∧
  (∀ (t : Nat) (tile : Fin 24) (c : MapCopy) (rest : List MapCopy) (s : State), let m := atTime t s.blk
    hwSafe m = false → (pixOf m tile).copies = c :: rest → c.noSpace = false →
    mapCopyOk s.mem (setTilePix tile { pixOf m tile with copies := rest } m) c = true →
    (let n := setTilePix tile { pixOf m tile with copies := rest } m
    let set : MapSet := { w := c.w, h := c.h, zones := mapWords s.mem c, crc := c.crc, persist := c.persist }
    let n := match c.slot with
      | some k => endFallback k 4 n
      | none => n
    exec (.mapCopyDone t tile) s = .next (after (n |>
      setTilePix tile { pixOf n tile with setsNew := tput {} (pixOf n tile).setsNew c.beam set } |>
      when c.dratus (finish .map tile (ok []))) s)))

/-- R319, R321: SAFE_READ answers the value of an object, SAFE_STATUS the six status words, each in Onyx's reply envelope. -/
def Obligations.SafeReadsComplete : Prop :=
  (∀ (e : Env) (who : Option Nat), Answers .safeRead (native 0x79 0 .onyx .any false true) (replyLen 6)
    (fun p m => parseEnv true p.params = .inr e ∧
      EnvTaken false (m.now - p.t) who e (readDataOk e.obj e.data m = true) m)
    (fun _ m =>
      let n := accountEnv who e false 0 m
      (replyEnv e.obj (objValue n e.obj e.data) n).2)
    (fun _ m =>
      let n := accountEnv who e false 0 m
      { n with saf := { n.saf with replyCnt := (n.saf.replyCnt + 1) % 65536 } })) ∧
  Answers .safeStatus (native 0x7A 0 .onyx .any false true) (replyLen 10)
    (fun p m => p.params.length = 0 ∧ hwSafe m = false)
    (fun _ m =>
      let ws := [w32 Config.uid, w32 (m.saf.replyCnt <<< 16), w32 6, viewReg m rSAF_STAT, viewReg m rSAF_CAUSE,
        viewReg m rSAF_BEAM, viewReg m rSAF_MASK_EN, viewReg m (rSAF_OUT_STAT 0), viewReg m (rSAF_OUT_STAT 1)]
      ok (ws ++ [w32 (crc crcSaf (wordsBytes ws))]))
    (fun _ m => { m with saf := { m.saf with replyCnt := (m.saf.replyCnt + 1) % 65536 } })

/-- R310, R312, R313, R318, R322 to R324, R327, R328: what Onyx sees while its domain is powered and HWSAFE is not in force: a producer whose
expiry's SAF cycle is over, its inputs, their test pulses, the outputs' feedback, the readback of LIMP_N, a clock (but from step E6 of an
entry on), the tick of each 1 ms, which reads the pins again; HWSAFE; and the qualified edge of SAF_ACK: each faulted input that passes its
checks leaves FAULT, each output whose feedback is right has its fault cleared, ended clock and readback faults clear, then every latched
cause whose condition has ended; an edge that is not qualified does nothing. ACK_STUCK raises source 14 after 60 s, once. -/
def Obligations.OnyxEventsComplete : Prop :=
  (∀ k : Fin 4, Happens (fun t => .producerExpiry t k)
    (fun m => onyxActs m = true ∧ timersRun m = true ∧ flag m (rSAF_PROD_CFG k) fSAF_PROD_CFG_EN = true ∧
      flag m (rSAF_PROD_STAT k) fSAF_PROD_STAT_EXPIRED = false ∧
      (tget 0 m.saf.renewed k + ms (getF m (rSAF_PROD_CFG k) fSAF_PROD_CFG_TEXP)) / 6 < m.now / 6) (expire k)) ∧
  (∀ n : Fin 4,
  (∀ a b : RawLevel, Happens (fun t => .safetyInputChange t n a b) (fun m => onyxActs m = true) (inputChange n a b)) ∧
  Happens (fun t => .inputDiscrepancy t n)
    (fun m => onyxActs m = true ∧ inFunc m n ≠ 0 ∧ chanA m n ≠ chanB m n ∧
      (inOf m n).differAt + ms (5 * getF m (rSAF_IN_CFG n) fSAF_IN_CFG_DISC_T) ≤ m.now) (inputFault n 1) ∧
  (∀ changes : Nat, Happens (fun t => .inputRateWindow t n changes)
    (fun m => onyxActs m = true ∧ inFunc m n ≠ 0 ∧ windowDue m.pwr.safAt (ms 100) (inOf m n).ratedAt m = true ∧
      getF m (rSAF_IN_CFG n) fSAF_IN_CFG_RATE_MAX < changes)
    (fun m => m |> setIn n { inOf m n with rateBad := true, ratedAt := windowEnd m.pwr.safAt (ms 100) m } |> inputFault n 4)) ∧
  (∀ levels : Nat, Happens (fun t => .testPulse t n levels) (fun m => onyxActs m = true ∧ pulseDue m n = true)
    (fun m =>
      let s := pulseSeries m n
      { m with saf := { m.saf with pulseAt := tput 0 m.saf.pulseAt n (windowEnd s.1 s.2 m) } } |>
        forEach (List.range 4) (fun j => pulseCheck n j (hasBit levels (2 * j)) (hasBit levels (2 * j + 1)))))) ∧
  (∀ (j : Fin 2) (fb pin : Bool), Happens (fun t => .outputFeedbackMismatch t j fb pin)
    (fun m => onyxActs m = true ∧ flag m (rSAF_OUT_CFG j) fSAF_OUT_CFG_EN = true ∧
      fbChecked m j = true ∧ flag m (rSAF_OUT_STAT j) fSAF_OUT_STAT_OUT = true ∧ fbClosed m j fb = false)
    (outputFails j 1 fb pin)) ∧
  (∀ (j : Fin 2) (fb pin : Bool), Happens (fun t => .outputFeedbackMismatch t j fb pin)
    (fun m => onyxActs m = true ∧ flag m (rSAF_OUT_CFG j) fSAF_OUT_CFG_EN = true ∧
      fbChecked m j = true ∧ flag m (rSAF_OUT_STAT j) fSAF_OUT_STAT_OUT = false ∧ fbClosed m j fb = true)
    (outputFails j 2 fb pin)) ∧
  (∀ (j : Fin 2) (fb pin : Bool), Happens (fun t => .outputFeedbackMismatch t j fb pin)
    (fun m => onyxActs m = true ∧ flag m (rSAF_OUT_CFG j) fSAF_OUT_CFG_EN = true ∧
      (fbChecked m j = false ∨ fbClosed m j fb = flag m (rSAF_OUT_STAT j) fSAF_OUT_STAT_OUT) ∧ pin ≠ flag m (rSAF_OUT_STAT j) fSAF_OUT_STAT_OUT)
    (outputFails j 3 fb pin)) ∧
  Happens .limpReadback (fun m => onyxActs m = true)
    (fun m => { m with flt := { m.flt with limpBad := true } } |> causeOn 19 |> raise 5 noInst) ∧
  (∀ clk : Fin 5, Happens (fun t => .clockMonitor t clk)
    (fun m => onyxActs m = true ∧ hubRuns m = true ∧ m.pwr.entry.any (fun e => e.step == 6) = false ∧ (clk = 2 → inRun m = true))
    (fun m => { m with flt := { m.flt with clkBad := setBit m.flt.clkBad clk } } |>
      latchBit rCLK_STAT ⟨15 - clk.val, 1⟩ |> clockIo |> raise 4 (detail clk 0))) ∧
  (∀ pins : SafPins,
    let again := fun (m : Mach) =>
      { m with saf := { m.saf with tickAt := windowEnd m.pwr.safAt (ms 1) m } } |> readPins pins |> clockIo
    let due := fun (m : Mach) => onyxActs m = true ∧ windowDue m.pwr.safAt (ms 1) m.saf.tickAt m = true
    Happens (fun t => .safTick ⟨t, pins⟩) (fun m => due m ∧ (causePresent (again m) = true ∨ (again m).saf.limpHigh = true)) again ∧
    Happens (fun t => .safTick ⟨t, pins⟩) (fun m => due m ∧ causePresent (again m) = false ∧ (again m).saf.limpHigh = false)
      (fun m => { again m with saf := { (again m).saf with limpHigh := true }, limpAt := (again m).now } |>
        setB rSAF_STAT fSAF_STAT_LIMP false)) ∧
  Happens .hwsafe (fun m => safOn m = true) enterHwSafe ∧
  (∀ (lowAt riseAt : Nat) (pins : SafPins),
    let qualified := fun (m : Mach) => m.pwr.safAt ≤ lowAt ∧ m.saf.ackAt ≤ lowAt ∧
      lowAt + ms (getF m rSAF_GEN_CFG fSAF_GEN_CFG_ACK_LOW) ≤ riseAt ∧ riseAt + ms 10 ≤ m.now
    Happens (fun t => .qualifiedSafAckEdge t ⟨lowAt, riseAt, pins⟩) (fun m => onyxActs m = true ∧ qualified m)
      (fun m =>
        let n := m |> forEach (List.range 4) ackInput |> forEach (List.range 2) (ackOutput pins) |> readPins pins |>
          outputCauses |> clockIo |> ackCauses
        { n with saf := { n.saf with ackSeen := true, ackAt := n.now } } |> safUpdate |> ackUnprovision) ∧
    Happens (fun t => .qualifiedSafAckEdge t ⟨lowAt, riseAt, pins⟩) (fun m => onyxActs m = true ∧ ¬ qualified m) (fun m => m)) ∧
  (∀ riseAt : Nat, Happens (fun t => .ackStuck ⟨t, riseAt⟩)
    (fun m => onyxActs m = true ∧ riseAt + sec 60 < m.now ∧ m.flt.ackHigh = false)
    (fun m => { m with flt := { m.flt with ackHigh := true } } |> raise 14 noInst))

/-- R65, R66, R76, R78, R326, R349: Onyx takes each heartbeat of Topaz, resets Topaz where one is missing or counts wrong, and reports its
return, after which placement follows the engines that are left (R349). At the end of a 10 ms window (R459) the three loads are shown, PEAK
keeps the highest, and a class is deferred from its ON threshold up until the load falls below its OFF threshold. -/
def Obligations.TopazAndLoadEventsComplete : Prop :=
  (∀ count : Nat, Happens (fun t => .topazHeartbeat t count)
    (fun m => onyxActs m = true ∧ hubRuns m = true ∧ m.upd.booted = true ∧ m.saf.topazDown = false ∧
      (∀ c, m.saf.hb = some c → count % 2 ^ 32 = (c + 1) % 2 ^ 32)) (goodBeat count)) ∧
  (∀ count c : Nat, Happens (fun t => .topazHeartbeat t count)
    (fun m => onyxActs m = true ∧ hubRuns m = true ∧ m.upd.booted = true ∧ m.saf.topazDown = false ∧ m.saf.hb = some c ∧
      count % 2 ^ 32 ≠ (c + 1) % 2 ^ 32 ∧ m.saf.hbPaused = false) resetTopaz) ∧
  Happens .topazWatchdog
    (fun m => onyxActs m = true ∧ hubRuns m = true ∧ m.upd.booted = true ∧ m.saf.topazDown = false ∧ m.saf.hbPaused = false ∧
      m.saf.hbAt + ms (getF m rSAF_GEN_CFG fSAF_GEN_CFG_TOPAZ_WD) ≤ m.now) resetTopaz ∧
  Happens .topazRestarted (fun m => m.saf.topazDown = true)
    (fun m =>
      let n := { m with saf := { m.saf with topazDown := false, hbAt := m.now } } |> eventAll 8 [1]
      { n with flt := { n.flt with heldI := [] } } |>
        forEach n.flt.heldI (fun s m => eventAll 1 [w32 (srcClass m s), w32 s] m) |> fitEngines |> showRates) ∧
  (∀ load gar0 gar1 : Nat, Happens (fun t => .loadWindow t load gar0 gar1)
    (fun m => hubRuns m = true ∧ windowDue m.pwr.hubAt (ms 10) m.pwr.loadAt m = true)
    (fun m =>
      let m := { m with pwr := { m.pwr with loadAt := windowEnd m.pwr.hubAt (ms 10) m } }
      let l := deferLimits m
      let bulk := deferNow (flag m rHUB_LOAD fHUB_LOAD_BULK_DEFER) load l.1 l.2.1
      let norm := deferNow (flag m rHUB_LOAD fHUB_LOAD_NORMAL_DEFER) load l.2.2.1 l.2.2.2
      m |> showLoad rHUB_LOAD fHUB_LOAD_LOAD fHUB_LOAD_PEAK load |> setB rHUB_LOAD fHUB_LOAD_BULK_DEFER bulk |>
        setB rHUB_LOAD fHUB_LOAD_NORMAL_DEFER norm |> showLoad (rGAR_LOAD 0) fGAR_LOAD_LOAD fGAR_LOAD_PEAK gar0 |>
        showLoad (rGAR_LOAD 1) fGAR_LOAD_LOAD fGAR_LOAD_PEAK gar1 |>
        when (flag m rHUB_LOAD fHUB_LOAD_BULK_DEFER != bulk || flag m rHUB_LOAD fHUB_LOAD_NORMAL_DEFER != norm)
          (fun m => eventAll 7 [viewReg m rHUB_LOAD] m)))

/-! ### Faults (chapter 12) -/

/-- R331, R337, R341 to R344, R350: arriving faults are taken in order of class and number; a retry ends; a record closes; a parity error
is FATAL; the first scan releases ERR_N; Topaz writes the next record to its ring, first one that the AON domain has kept since before the
start (R348). -/
def Obligations.FaultEventsComplete : Prop :=
  (∀ hits : List (Nat × Word), Happens (fun t => .faultArrival t hits) (fun m => hubRuns m = true)
    (fun m => forEach (sortHits m hits) takeHit m)) ∧
  (∀ (src : Fin 320) (passed : Bool), Happens (fun t => .retryEnd t src passed) (fun m => hubRuns m = true) (retryEnd src passed)) ∧
  Happens .recHoldExpiry (fun m => m.flt.lastMerge + ms (getF m rFLT_CFG fFLT_CFG_REC_HOLD) ≤ m.now) closeRecord ∧
  Happens (fun t => .parityScan t true) (fun m => hubRuns m = true)
    (fun m =>
      let r : LogRec :=
        { src := 0, cls := 4, fcls := 4, last := 0, det := noInst, timeMs := calMs m, uncertain := uncertain m, fatal := true }
      fatal 0 r m) ∧
  Happens .firstRegisterScan
    (fun m => m.flt.errStart = true ∧ flag m rFLT_FATAL fFLT_FATAL_SET = false ∧ hwSafe m = false)
    (fun m => { m with flt := { m.flt with errStart := false } } |> setB rFLT_ERRN fFLT_ERRN_ACTIVE false) ∧
  (∀ (r : LogRec) (rest : List LogRec), Happens (fun t => .logWrite t true)
    (fun m => topazStopped m = false ∧ hubRuns m = true ∧ m.thm.shutting = false ∧ (m.flt.aonRec = none ∨ m.flt.aonDue = false) ∧
      m.flt.logQ = r :: rest)
    (fun m => { m with flt := { m.flt with logQ := rest } } |> showQueued |> logEntry r)) ∧
  (∀ r : LogRec, Happens (fun t => .logWrite t true)
    (fun m => topazStopped m = false ∧ hubRuns m = true ∧ m.thm.shutting = false ∧ m.flt.aonRec = some r ∧
      m.flt.aonDue = true)
    (fun m => logEntry r { m with flt := { m.flt with aonRec := none, aonDue := false } })) ∧
  (∀ (r : LogRec) (rest : List LogRec), Happens (fun t => .logWrite t false)
    (fun m => topazStopped m = false ∧ hubRuns m = true ∧ m.thm.shutting = false ∧ (m.flt.aonRec = none ∨ m.flt.aonDue = false) ∧
      m.flt.logQ = r :: rest)
    (fun m => { m with flt := { m.flt with logQ := rest } } |> showQueued |> raise 1 noInst))

/-! ### Temperature (chapter 13) -/

/-- R354 to R366, R376: a sample of the thermal block senses the grid, brings the model up to date, shows T_gov, raises what it finds,
throttles and decides a shutdown, whose stop parks every motor with CAUSE 8 and leaves the journal with a line write that took longer than 2
ms; the held device samples without the model, and a hold ends after 1 s of cool. The shape of the thermal model where R354 gives none, and
the readings of R360 that govern, are the model's (log entries 73, 121). -/
def Obligations.ThermalRowsComplete : Prop :=
  (∀ (reads : List (Option Int)) (pw : List (List Nat)), Happens (fun t => .thermalSample t reads pw)
    (fun m => hubRuns m = true ∧ m.thm.shutting = false ∧ sampleDue m (if flag m rTHM_STAT fTHM_STAT_FAST then 1 else 10) = true)
    (fun m =>
      let g := senseGrid true reads (takePower pw m)
      let n := g.1 |> setThm (fun s => { s with sampledAt := g.1.now }) |> trackModel g.2.vals |> showGov g.2.vals
      let n := n |> forEach g.2.fresh (fun k m => raise (24 + k) (thmDetail m) m) |> trackRises g.2.vals
      n |> excursion 0 22 (onset n) |> excursion 1 20 (degOf (thmLimits n).2.1) |> floorLimit |> throttle |> fanDemands |>
        shutLimit)) ∧
  Happens .modelBaseUpdate (fun m => hubRuns m = true ∧ windowDue m.pwr.hubAt (sec 1) m.thm.baseAt m = true)
    (fun m => modelBase (setThm (fun s => { s with baseAt := windowEnd m.pwr.hubAt (sec 1) m }) m)) ∧
  Happens .shutdownStop (fun m => m.thm.shutting = true)
    (fun m =>
      let m := lineCut (m.now ≥ m.thm.shutAt + ms 2 && inProgress m.thm.shutAt m) m
      let opened := flag m rFLT_FIRST_SRC fFLT_FIRST_SRC_OPEN
      { m with flt := { m.flt with aonRec := if opened then some (recOf false m) else m.flt.aonRec } } |> parkEvery |>
        forEach (List.range 24) (fun p m => m |> setF (rCPL_STATE p) fCPL_STATE_STATE 0 |> setB (rCPL_STATE p) fCPL_STATE_TX_IDLE true) |>
        forEach (List.range 8) (fun g => setB (rSCN_GRP_STAT g) fSCN_GRP_STAT_RUN false) |>
        setThm (fun s => { s with shutting := false, holdCool := none }) |> setPower 5) ∧
  (∀ reads : List (Option Int), Happens (fun t => .holdSensorSample t reads) (fun m => m.pwr.st = 5 ∧ sampleDue m 10 = true)
    (fun m =>
      let g := senseGrid false reads m
      let n := g.1 |> setThm (fun s => { s with sampledAt := g.1.now, late := g.2.fresh.foldl setBit s.late }) |> showGov g.2.vals
      setThm (fun s => { s with holdCool := if holdIsCool n then some (s.holdCool.getD n.now) else none }) n)) ∧
  Happens .thermalHoldEnd
    (fun m => m.pwr.st = 5 ∧ flag m rTHM_SHUT fTHM_SHUT_LOCK = false ∧ lasted m m.thm.holdCool (sec 1) = true) (chipReset 3 0) ∧
  (∀ reads : List (Option Int), Happens (fun t => .sleepSensorSample t reads) (fun m => m.pwr.st = 2 ∧ sampleDue m 1000 = true)
    (fun m =>
      let g := senseGrid false reads m
      let n := g.1 |> setThm (fun s => { s with sampledAt := g.1.now, late := g.2.fresh.foldl setBit s.late }) |> showGov g.2.vals
      when (decide (degOf (thmLimits n).1 ≤ tgovNow n)) (wakeEvent 6) n))

/-! ### Start, supplies, non-volatile memory (chapters 14 and 17) -/

/-- R365, R379, R384, R386, R388, R433 to R435: power-up and RESET_N restart the device, once the pin is high; a brown-out holds it until the
rails are back; the SAF and AON domains and the calendar lose what the rules say; a loss of VAON ends OFF, and the next power-up follows. -/
def Obligations.SupplyRowsComplete : Prop :=
  Happens .powerUp (fun m => m.pwr.st = 6 ∧ m.pwr.pinHeld = false)
    (fun m =>
      let n := m |> endHwSafe |> clearShut |> calendarAfterLoss |> startUp 0 |> showSource
      { n with pwr := { n.pwr with vaonLost := false } }) ∧
  (∀ lowNs : Nat,
    let low := fun (m : Mach) => { m with pwr := { m.pwr with rstLow := max m.pwr.rstLow (m.now + cdiv (3 * lowNs) 5) } }
    Happens (fun t => .resetN t lowNs) (fun m => m.pwr.st ≠ 4 ∧ m.pwr.st ≠ 6 ∧ 10000 ≤ lowNs)
      (fun m => m |> low |> endShutSeries |> startUp 1) ∧
    Happens (fun t => .resetN t lowNs) (fun m => (m.pwr.st = 4 ∧ m.pwr.exiting = true) ∨ m.pwr.st = 6) low) ∧
  Happens .supplyBrownOut (fun m => m.pwr.st ≠ 4 ∧ (m.pwr.st = 6 → m.pwr.pinHeld = true))
    (fun m =>
      let n := chipReset 0 6 m
      { n with pwr := { n.pwr with pinHeld := false } }) ∧
  Happens .vddSafExcursion (fun m => safOn m = true ∨ m.pwr.st = 6) enterHwSafe ∧
  Happens .safPowerOnReset (fun _ => True)
    (fun m => { m with saf := {}, pwr := { m.pwr with safAt := m.now }, regs := m.regs.filter (fun e => addrBlock e.1 != 14), limpAt := if m.saf.limpHigh then m.now else m.limpAt } |>
      keepHwSafe m |> setReg rFLT_FATAL 0 |> setB rFLT_ERRN fFLT_ERRN_FATAL false) ∧
  Happens .vaonLoss (fun _ => True)
    (fun m =>
      let n := m |> forEach [rPWR_WAKE_EN, rPWR_WAKE_SRC, rPWR_WAKE_TMR, rPWR_SLEEP_TIME] clearReg |> clearShut
      let off := n.pwr.st == 4
      { n with
        pwr := { n.pwr with
          aonCnt := 0, aonAt := n.now, aonHi := none, recMs := 0, recAon := 0, vaonLost := n.pwr.st == 2 || n.pwr.st == 3 || off
          st := if off then 6 else n.pwr.st, exiting := n.pwr.exiting && !off }
        flt := { n.flt with aonRec := none } }) ∧
  Happens .bkupLost (fun _ => True)
    (fun m => m |> latchBit rRTC_STAT fRTC_STAT_BKUP_LOST |> setB rRTC_STAT fRTC_STAT_UNCERTAIN true) ∧
  Happens .crystalStop (fun m => m.pwr.rtcStopped = false)
    (fun m => { m with pwr := { m.pwr with rtcMs := calMs m, rtcAt := m.now, rtcStopped := true } } |>
      latchBit rRTC_STAT fRTC_STAT_OSC_STOP |> setB rRTC_STAT fRTC_STAT_UNCERTAIN true |>
      when (m.pwr.st != 4) (setF rRTC_STAT fRTC_STAT_SRC 1)) ∧
  Happens .crystalReturn (fun m => m.pwr.rtcStopped = true)
    (fun m => { m with pwr := { m.pwr with rtcMs := (m.pwr.rtcMs + 1000) % 2 ^ 48, rtcAt := m.now, rtcStopped := false } } |>
      setF rRTC_STAT fRTC_STAT_SRC 0)

/-- R329, R392 to R400: a start: the journal, the boot ROM's choice and the settings, the self-test (a failed one leads to HWSAFE), the
flash, the groups; and SETTINGS_SAVE, which writes the other area. How the journal, the settings areas and the flash are described to a
start is the model's (log entries 71, 115, 116, 120). -/
def Obligations.StartRowsComplete : Prop :=
  (∀ torn bad : Nat, Happens (fun t => .boot t torn bad) (fun m => m.pwr.st = 0 ∧ m.upd.booted = false)
    (fun m =>
      let n := m |> replayJournal torn |> setNvm (damage bad) |> chooseImage
      n |> setB rNVM_SET_STAT fNVM_SET_STAT_A_OK (n.nvm.setA.any settingsPass) |>
        setB rNVM_SET_STAT fNVM_SET_STAT_B_OK (n.nvm.setB.any settingsPass) |>
        setNvm (fun s => { s with starts := s.starts + 1 }) |> startSettings |> startCal |> loadLock |>
        loadFences |> fitEngines |> assignAll |> placePool |> showRates |> showLog |> showUpd |> showBeams |> startBlocks true |> showAdc |>
        topazRuns)) ∧
  (∀ safOk : Bool, Happens (fun t => .selfTestEnd t true safOk)
    (fun m => m.pwr.st = 0 ∧ m.upd.booted = true ∧ m.saf.selfTested = false ∧ hwSafe m = false ∧
      flag m rFLT_FATAL fFLT_FATAL_SET = false)
    (fun m =>
      let n := m |> loadSafety safOk |> startProducers
      { n with saf := { n.saf with selfTested := true } } |> driveOut 0 false |> driveOut 1 false |>
        setB rSAF_STAT fSAF_STAT_STARTED true |> mapCause |> startCause |> safApply)) ∧
  (∀ safOk : Bool, Happens (fun t => .selfTestEnd t false safOk)
    (fun m => m.pwr.st = 0 ∧ m.upd.booted = true ∧ m.saf.selfTested = false ∧ hwSafe m = false) enterHwSafe) ∧
  (∀ f : FlashLoad, Happens (fun t => .flashLoadEnd t f)
    (fun m => m.pwr.st = 0 ∧ m.upd.booted = true ∧ m.pix.loaded = false)
    (fun m =>
      let on := flashUsable f
      { m with pix := { m.pix with loaded := true } } |> setB rNVM_XSPI_STAT fNVM_XSPI_STAT_PRESENT on |>
      setF rNVM_XSPI_STAT fNVM_XSPI_STAT_MODE (if on then flashMode (getF m rNVM_XSPI_CFG fNVM_XSPI_CFG_MODE) f.mode else 0) |>
      setF rNVM_XSPI_STAT fNVM_XSPI_STAT_SIZE (if on then f.size else 0) |> when on (setNvm (loadDir f.dirBad)) |>
      forEach (List.range 24) (loadUnif f.unifBad) |> loadWear f.wearBad f.tableBad |> loadMaps f.mapsBad |> mapCause)) ∧
  Happens .groupStart
    (fun m => m.pwr.st = 0 ∧ m.upd.booted = true ∧ m.saf.started = false ∧ golden m = false ∧ startDue m = true)
    (fun m =>
      let n := forEach (List.range 8) startGroup m
      startCause { n with saf := { n.saf with started := true } }) ∧
  Answers (fun p => .settingsSave p true) (native 0x75 1 .topaz .h0 false false) noReply
    (fun p m => p.params.length = 0 ∧ updState m ≠ 4 ∧ layoutFits m = true ∧ m.thm.shutting = false) (fun _ _ => ok [])
    (fun _ m => m |> saveArea (settingsNow 0 0 m) |> rebuildDir)

/-! ### Firmware update (chapter 15) -/

/-- R402 to R408: an update begins with a header that passes every check (another is answered with the first check that fails), may be
cancelled, takes its data in order, is verified at UPD_VERIFY's end, activated (in a pause, or with a restart), and confirmed or reverted.
Once Beryl takes no more writes (R363), what would write it is answered INTERNAL. That INTERNAL answers it is the model's (log entry 119).
-/
def Obligations.UpdateRowsComplete : Prop :=
  Answers .updBegin (native 0x70 1 .topaz .h0 false false) noReply
    (fun p m => p.params.length = 48 ∧ updState m ≠ 2 ∧ updState m ≠ 4)
    (fun p m =>
      let c := headerCause m (toBytes (wordsBytes p.params))
      if c ≠ 0 then errW stIMAGE_REJECT (w32 c) else if berylWrites m then ok [] else errW stINTERNAL (w32 314))
    (fun p m =>
      let h := toBytes (wordsBytes p.params)
      let n := { m with upd := { m.upd with part := [] } }
      if headerCause m h = 0 then if !berylWrites m then raise 314 noInst m else n |> setSlot (inactive n) { header := h } |> setReg rUPD_NEXT 0 |> setUpdState 1 |> showUpd
      else setF rUPD_STAT fUPD_STAT_CAUSE (headerCause m h) m) ∧
  Answers .updCancel (native 0x70 1 .topaz .h0 false false) noReply
    (fun p m => p.params.length = 0 ∧ (updState m = 1 ∨ updState m = 3))
    (fun _ m => if berylWrites m then ok [] else errW stINTERNAL (w32 314))
    (fun _ m => if !berylWrites m then raise 314 noInst m else m |> setSlot (inactive m) { slotOf m (inactive m) with mark := false, fresh := false } |> setUpdState 0 |>
      showUpd) ∧
  Answers .updData (native 0x71 2 .topaz .h0 false false) noReply
    (fun p m =>
      let r := slotOf m (inactive m)
      let next := (reg m rUPD_NEXT).toNat
      2 ≤ p.params.length ∧ updState m = 1 ∧ (par p 0).toNat = next ∧
      next + 4 * (p.params.drop 1).length ≤ hdrXferLen r.header ∧ hdrKind r.header = 0)
    (fun _ m => if berylWrites m then ok [] else errW stINTERNAL (w32 314))
    (fun p m =>
      let ws := p.params.drop 1
      let r := slotOf m (inactive m)
      if !berylWrites m then raise 314 noInst m else m |> setReg rUPD_NEXT (w32 ((reg m rUPD_NEXT).toNat + 4 * ws.length)) |>
        setSlot (inactive m) { r with body := r.body ++ toBytes (wordsBytes ws) }) ∧
  (∀ (part : List Word) (body : List Byte), Answers .updData (native 0x71 2 .topaz .h0 false false) noReply
    (fun p m =>
      let r := slotOf m (inactive m)
      let next := (reg m rUPD_NEXT).toNat
      let all := m.upd.part ++ p.params.drop 1
      2 ≤ p.params.length ∧ updState m = 1 ∧ (par p 0).toNat = next ∧
      next + 4 * (p.params.drop 1).length ≤ hdrXferLen r.header ∧ hdrKind r.header ≠ 0 ∧
      deltaRun (activeBody m) (hdrBodyLen r.header) all.length all r.body = some (part, body))
    (fun _ m => if berylWrites m then ok [] else errW stINTERNAL (w32 314))
    (fun p m =>
      if !berylWrites m then raise 314 noInst m else
      let n := setReg rUPD_NEXT (w32 ((reg m rUPD_NEXT).toNat + 4 * (p.params.drop 1).length)) m
      setSlot (inactive m) { slotOf m (inactive m) with body := body } { n with upd := { n.upd with part := part } })) ∧
  Answers .updVerify (native 0x72 2 .topaz .h0 false false) noReply
    (fun p m => p.params.length = 0 ∧ updState m = 1 ∧
      (reg m rUPD_NEXT).toNat = hdrXferLen (slotOf m (inactive m)).header) (fun _ _ => pendingRep)
    (fun p m =>
      let n := setUpdState 2 m
      { n with pends := n.pends ++ [⟨.verify, 0, some (replyTo (native 0x72 2 .topaz .h0 false false) p)⟩] }) ∧
  Happens (fun t => .verifyDone t true)
    (fun m =>
      let r := slotOf m (inactive m)
      updState m = 2 ∧ berylWrites m = true ∧ (hdrKind r.header = 1 → hdrBodyLen r.header ≤ r.body.length) ∧
      sha256 (r.body.map BitVec.toNat) = hdrHash r.header)
    (fun m => m |> setSlot (inactive m) { slotOf m (inactive m) with mark := true, fresh := true } |> setUpdState 3 |> showUpd |>
      finish .verify 0 (ok [])) ∧
  Answers .activate (native 0x73 0 .topaz .h0 false true) (replyLen 1)
    (fun p m => p.params.length = 0 ∧ updState m = 3 ∧ m.pwr.entry = none ∧ m.pix.plan = [] ∧ pending m .cal = false ∧
      berylWrites m = true)
    (fun _ m =>
      let k := inactive m
      let n := m |> setSlot k { slotOf m k with fresh := false } |>
        setBoot (fun b => { b with trial := some k, startCnt := 0, trialMs := 0 }) |> setUpdState 4
      ok [w32 (changeImage k (showUpd { n with upd := { n.upd with trialAt := runTime n } })).2])
    (fun _ m =>
      let k := inactive m
      let n := m |> setSlot k { slotOf m k with fresh := false } |>
        setBoot (fun b => { b with trial := some k, startCnt := 0, trialMs := 0 }) |> setUpdState 4
      (changeImage k (showUpd { n with upd := { n.upd with trialAt := runTime n } })).1) ∧
  (∀ failed : Nat, Happens (fun t => .activationTopazReset t failed)
    (fun m => m.upd.pause.isSome = true ∧ m.upd.pauseReset = false)
    (fun m =>
      let n := chooseImage m
      { n with upd := { n.upd with pauseReset := true }, saf := { n.saf with hb := none } } |> pauseSettings |> showUpd |>
        pauseBanks failed)) ∧
  Happens .activationOverrun (fun m => onyxActs m = true ∧ m.saf.hbPaused = true ∧ lasted m m.upd.pause (ms 250) = true)
    (fun m => { m with saf := { m.saf with hbPaused := false, hbAt := m.now } } |> causeOn 20) ∧
  Happens .trialMsSave
    (fun m => topazStopped m = false ∧ m.upd.trialAt + sec 10 ≤ runTime m ∧ updState m = 4 ∧ berylWrites m = true)
    (fun m => { m with upd := { m.upd with trialAt := runTime m } } |> setBoot (fun b => { b with trialMs := trialMs m })) ∧
  Happens .trialTimeout (fun m => updState m = 4 ∧ topazStopped m = false ∧ 600000 ≤ trialMs m ∧ berylWrites m = true)
    (fun m =>
      let n := m |> saveTrialMs |> revertRecord |> setUpdState 0
      (changeImage n.nvm.boot.active (showUpd n)).1) ∧
  (∀ k : Nat, Answers .confirm (native 0x74 0 .topaz .h0 false false) noReply
    (fun p m => p.params.length = 0 ∧ m.nvm.boot.trial = some k ∧ updState m = 4 ∧ berylWrites m = true) (fun _ _ => ok [])
    (fun _ m => m |> setBoot (fun b =>
      { b with active := k, trial := none, floor := max m.nvm.boot.floor (slotMinVersion (slotOf m k)) }) |>
      setUpdState 0 |> showUpd))

/-! ### Calibration and check values (chapters 15 and 16) -/

/-- R416 to R424: a run that may start answers PENDING; its end replies the items failed and passed with the first cause, and a record is
written for those that passed; a job of a check-value unit answers PENDING, and its end the check value. The order of the items' failures
and the packing of a record are the model's (log entries 82, 116, 117). -/
def Obligations.CalibrationRowsComplete : Prop :=
  Answers .calRun (native 0x76 2 .topaz .h0p false true) (replyLen 2)
    (fun p m => p.params.length = 1 ∧ clean (par p 0) [(5, 3), (1, 0)] = true ∧ bits (par p 0) 5 0 ≠ 0 ∧
      anyGrpRuns m = false ∧ anyMotorActs m = false ∧ pending m .cal = false) (fun _ _ => pendingRep)
    (fun p m =>
      let n := setB rCAL_STAT fCAL_STAT_RUN true { m with calAt := m.now, calTrained := false, calEye := none }
      { n with pends := n.pends ++ [⟨.cal, bits (par p 0) 5 0, some (replyTo (native 0x76 2 .topaz .h0p false true) p)⟩] }) ∧
  Answers .calRunFactory (native 0x76 2 .topaz .h0p false true) (replyLen 2)
    (fun p m => p.params.length = 1 ∧ par p 0 = 0x80000000 ∧ anyGrpRuns m = false ∧ anyMotorActs m = false ∧
      pending m .cal = false) (fun _ _ => pendingRep)
    (fun p m =>
      let n := setB rCAL_STAT fCAL_STAT_RUN true { m with calAt := m.now, calTrained := false, calEye := none }
      { n with pends := n.pends ++ [⟨.cal, 64, some (replyTo (native 0x76 2 .topaz .h0p false true) p)⟩] }) ∧
  (∀ (out : CalOut) (r : PendRec), Happens (fun t => .calibrationDone t out)
    (fun m => m.pends.find? (fun p => p.kind == .cal) = some r ∧ r.key ≠ 64) (calEnds r.key out)) ∧
  (∀ (out : CalOut) (r : PendRec), Happens (fun t => .calibrationDone t out)
    (fun m => m.pends.find? (fun p => p.kind == .cal) = some r ∧ r.key = 64 ∧ out.writeOk = true ∧ berylWrites m = true)
    (fun m =>
      let f := (m.nvm.calFactory.filter calPass).getD {}
      m |> writeRecord { origin := 2, mask := f.mask, blocks := f.blocks } |> calResult 64 0 0 0)) ∧
  Happens (fun t => .calibrationCheck t false)
    (fun m => topazStopped m = false ∧ hubRuns m = true ∧ m.cal.isSome = true) (raise 318 (detail 0xFF 3)) ∧
  Answers .cvJob (native 0x77 1 .topaz .any false true) (replyLen 2)
    (fun p m =>
      let u := bits (par p 0) 1 0
      let owned := flag m (rCVU_STAT u) fCVU_STAT_OWNED
      p.params.length = 11 ∧ jobOk p = true ∧ bufRefused m (ctxN p) (par p 8).toNat = none ∧
      (par p 9).toNat + (par p 10).toNat ≤ (bufOf m (hIdx (par p 8).toNat)).size ∧
      (owned = true → getF m (rCVU_STAT u) fCVU_STAT_OWNER = ctxN p) ∧ flag m (rCVU_STAT u) fCVU_STAT_RUN = false ∧
      (bit (par p 0) 30 = true → owned = true)) (fun _ _ => pendingRep)
    (fun p m =>
      let u := bits (par p 0) 1 0
      let n := startJob u p m
      { n with pends := n.pends ++ [⟨.cv, u, some (replyTo (native 0x77 1 .topaz .any false true) p)⟩] }) ∧
  (∀ (u : Fin 4) (t : Nat) (s : State), let m := atTime t s.blk
    flag m (rCVU_STAT u) fCVU_STAT_RUN = true →
    (let r := cvOf m u
    let v := crcRun r.cfg r.reg (jobBytes s.mem r)
    let res := crcEnd r.cfg v
    exec (.cvJobDone t u) s = .next (after (m |> setCv u { r with reg := v } |> setB (rCVU_STAT u) fCVU_STAT_RUN false |>
      wrapInc (rCVU_STAT u) fCVU_STAT_JOBS |> setReg (rCVU_RES_LO u) (w32 res) |> setReg (rCVU_RES_HI u) (w32 (res >>> 32)) |>
      when (!r.keep) (freeUnit u) |> dueReleases |> finish .cv u (ok [w32 res, w32 (res >>> 32)])) s)))

/-! ### Latches, lines and bands (chapters 4 to 6) -/

/-- R117, R147, R185 to R187, R190 to R192, R194, R195, R198, R199, R203, R219: at a latch that is due the committed set and a TIMING_SET
that waits become active, the frame counter, the rate and the store half advance and the next frame begins for every tile, a prime frame
after a start or a TIMING_SET; moves that reach this boundary take effect before the frame's words are taken. A group that follows a master
latches at its instants, and one that is not LOCKED also before its last line. At a stop instant the group stops and keeps the committed
set; at a line start the next line begins: a sync or porch line carries waiting messages, the lines after them a row to every tile. The
instants themselves, and what a mesh is after a change of geometry, are the model's (log entries 46, 112). -/
def Obligations.GroupInstantsComplete : Prop :=
  ∀ g : Fin 8,
  let follows := fun (m : Mach) => lockedCfg m g = true ∧ grpRuns m (masterOf m g) = true
  let goesOn := fun (m : Mach) => inRun m = true ∧ (grpOf m g).starting = false ∧ grpRuns m g = true ∧
    ∀ ws, (grpOf m g).tset = some ws → fget (ws.getD 3 0) fSCN_RATE_EN ≠ 0
  let latched := fun (m : Mach) =>
    let ctxs := (grpOf m g).comCtx
    let wasRacing := (grpOf m g).cur.racing
    let prime := (grpOf m g).tset.isSome
    let n := m |> forEach (tilesOf m g) (keepSig g) |> takeTiming g |> activate g |> showLead g |> advance g false |> movesAtBoundary g |> takeTiles g prime |>
      setB (rSCN_GRP_STAT g) fSCN_GRP_STAT_PRIME prime |> showPend g
    let gone := (frameOf n g + 2 ^ 33 - 1 - getF n rSCN_SIG_CFG fSCN_SIG_CFG_SIG_WIN) % 2 ^ 32
    n |> forEach (tilesOf n g) (fun t m => m |> sigMiss t gone |> beginFrame g t wasRacing prime) |>
      when (!prime && decide (2 ≤ frameOf n g)) (frameOneSent g) |> eventTo 3 [w32 g, w32 (frameOf n g)] ctxs |> dueReleases
  Happens (fun t => .latch t g)
    (fun m => inRun m = true ∧ (grpOf m g).starting = true ∧ (follows m → lockInstant m g = true))
    (fun m =>
      let ctxs := (grpOf m g).comCtx
      let wasRacing := (grpOf m g).cur.racing
      let n := m |> forEach (tilesOf m g) (fun t m => setTilePix t { pixOf m t with sigs := [], misses := 0, waiting := [] } m) |>
        takeTiming g |> activate g |> showLead g |> advance g true |> movesAtBoundary g |> takeTiles g true |>
        setB (rSCN_GRP_STAT g) fSCN_GRP_STAT_PRIME true |> showPend g
      let gone := (frameOf n g + 2 ^ 33 - 1 - getF n rSCN_SIG_CFG fSCN_SIG_CFG_SIG_WIN) % 2 ^ 32
      n |> forEach (tilesOf n g) (fun t m => m |> sigMiss t gone |> beginFrame g t wasRacing true) |>
        eventTo 3 [w32 g, w32 (frameOf n g)] ctxs |> dueReleases) ∧
  Happens (fun t => .latch t g)
    (fun m => goesOn m ∧ lineOf m g + 1 = vtotal m g ∧
      (follows m → flag m (rSCN_GRP_STAT g) fSCN_GRP_STAT_LOCKED = true → lockInstant m g = true)) latched ∧
  Happens (fun t => .latch t g)
    (fun m => goesOn m ∧ follows m ∧ flag m (rSCN_GRP_STAT g) fSCN_GRP_STAT_LOCKED = false ∧ lockInstant m g = true) latched ∧
  (∀ ws : List Word, Happens (fun t => .stopInstant t g)
    (fun m => (grpOf m g).tset = some ws ∧ grpRuns m g = true ∧ fget (ws.getD 3 0) fSCN_RATE_EN = 0 ∧
      ((lineOf m g + 1 = vtotal m g ∧ (follows m → flag m (rSCN_GRP_STAT g) fSCN_GRP_STAT_LOCKED = true → lockInstant m g = true)) ∨
        (follows m ∧ flag m (rSCN_GRP_STAT g) fSCN_GRP_STAT_LOCKED = false ∧ lockInstant m g = true)))
    (fun m =>
      let n := m |> forEach (tilesOf m g) (keepSig g) |> joinLate g |> takeTiming g |> setB (rSCN_GRP_STAT g) fSCN_GRP_STAT_RUN false |>
        setB (rSCN_GRP_STAT g) fSCN_GRP_STAT_PRIME false |> setB (rSCN_GRP_STAT g) fSCN_GRP_STAT_LOCKED false |>
        setF (rSCN_GRP_STAT g) fSCN_GRP_STAT_LINE 0
      let n := setGrp g { grpOf n g with cur := {}, prev := {} } n
      n |> forEach (tilesOf n g) flushMsgs |> retireAtLatch g |> dueReleases |> movesAtBoundary g |> movesIfStopped g)) ∧
  (∀ notReady : Nat, Happens (fun t => .lineStart t g notReady)
    (fun m => grpRuns m g = true ∧ lineOf m g + 1 < vtotal m g)
    (fun m =>
      let k := lineOf m g + 1
      let n := setF (rSCN_GRP_STAT g) fSCN_GRP_STAT_LINE k m
      let first := vsync n g + vporch n g
      forEach (tilesOf n g) (fun t m => if k < first then sendIdleLine g t 0 m
        else m |> sendRow g t (k - first) (!hasBit notReady t) |> fillAll (sendPorts m t)) n))

/-- R37, R124, R146, R148, R177, R181, R193, R341: the next band of a running group is, from its latch point on, composed, counted and
stored, and the band after it is due; a wrong check band raises its engine's source first; a fenced engine composes none, so that the band
keeps its content; a band whose transfer has not started 4 lines before its first row is counted and not written. What composition and the
chain do where the spec is silent is the model's (log entries 94, 107, 112, 113). -/
def Obligations.BandRowsComplete : Prop :=
  (∀ (t : Nat) (g : Fin 8) (env : BandEnv) (i : BandIn) (s : State), let m := atTime t s.blk
    let n := when env.checkBad (raise (101 + engineOf m i.t i.b) noInst) m
    grpRuns m g = true → bandIn m g env.tile = some i → latchPoint m i = true →
    hasBit (getF n rPLC_ENG_MAP fPLC_ENG_MAP_FENCED) (engineOf m i.t i.b) = false →
    (let r := bandPixels i (chainOf n i) env s.mem n
    exec (.bandLatch t g env) s =
      .next (after (n |> bandCounts i (chainOf n i).generic r |> bandStore i env.violation r |> nextBand i) s))) ∧
  (∀ (t : Nat) (g : Fin 8) (env : BandEnv) (i : BandIn) (s : State), let m := atTime t s.blk
    let n := when env.checkBad (raise (101 + engineOf m i.t i.b) noInst) m
    grpRuns m g = true → bandIn m g env.tile = some i → latchPoint m i = true →
    hasBit (getF n rPLC_ENG_MAP fPLC_ENG_MAP_FENCED) (engineOf m i.t i.b) = true →
    exec (.bandLatch t g env) s = .next (after (n |> keepBand i |> nextBand i) s)) ∧
  (∀ (g : Fin 8) (tile : Fin 24) (b : Nat), Happens (fun t => .bandLate t g tile b)
    (fun m => grpRuns m g = true ∧ groupOf m tile = some g.val ∧ tget [] (pixOf m tile).waiting b ≠ [] ∧
      bandTooLate m g (waitingFrame m g tile b) b = true)
    (fun m => m |> setTilePix tile { pixOf m tile with waiting := tput [] (pixOf m tile).waiting b [] } |>
      bump (rCMP_EVT_CNT g) fCMP_EVT_CNT_LATE |> raise 127 (detail g 0))) ∧
  (∀ (g : Fin 8) (tile : Fin 24) (i : BandIn), Happens (fun t => .bandLate t g tile i.b)
    (fun m => grpRuns m g = true ∧ groupOf m tile = some g.val ∧ tget [] (pixOf m tile).waiting i.b = [] ∧
      bandIn m g tile = some i ∧ i.cfg.racing = true ∧ i.frame = frameOf m g ∧ transferLate m i = true)
    (fun m => m |> nextBand i |> bump (rCMP_EVT_CNT g) fCMP_EVT_CNT_LATE |> raise 127 (detail g 0)))

/-! ### Carriers of packets (chapter 2) -/

/-- R44, R47, R211: a CPT write and a COMMAND block that bring one whole packet run the row of its version and opcode on it, and that
row completes; a COMMAND block without a whole packet joins the stream of its port. -/
def Obligations.CarriersRunTheirPacket : Prop :=
  (∀ (t : Nat) (cpt : Fin 2) (bytes : List Byte) (env : PktEnv) (s : State), let m := atTime t s.blk
    let bs := bytes.map BitVec.toNat
    hubRuns m = true → m.pwr.st ≠ 2 → headerHere bs = true → bs.length = packetSize bs →
    cptWaiting m cpt + packetSize bs ≤ 4096 →
    ∃ u, runRow (byteAt bs 1) (byteAt bs 2) env (packetOf t (cptPath cpt) bs) { s with blk := m } = .next u ∧
      exec (.writePkt t cpt bytes env) s = .next u) ∧
  (∀ (b : Blk) (env : PktEnv) (s : State), let m := atTime b.t s.blk
    let n := seqTaken b m
    let found := findHeader ((rxOf n b.port).buf ++ commandBytes b) (rxOf n b.port).lost 0
    BlkTaken b m → hostRole m b.port = true → portState n b.port = 4 → Quiet m → found.discards = 0 →
    (headerHere found.rest = true → found.rest.length < packetSize found.rest) →
    (let n' := setRx b.port { rxOf n b.port with buf := (rxOf n b.port).buf ++ commandBytes b } n
    exec (.command b env) s = .next { s with blk := setRx b.port ⟨found.rest, found.lost⟩ n' })) ∧
  (∀ (b : Blk) (env : PktEnv) (s : State), let m := atTime b.t s.blk
    let n := seqTaken b m
    let bs := commandBytes b
    BlkTaken b m → hostRole m b.port = true → portState n b.port = 4 → Quiet m → rxOf n b.port = {} →
    headerHere bs = true → bs.length = packetSize bs →
    ∃ u v, runRow (byteAt bs 1) (byteAt bs 2) env (packetOf b.t ⟨b.port, by omega⟩ bs)
        { s with blk := setRx b.port {} (setRx b.port { buf := bs } n) } = .next u ∧
      takePackets b.t b.port env (bs.length / 20) u = .next v ∧ exec (.command b env) s = .next v)

/-- R47, R48, R49, R51, R54, R56: a CPT read gives the byte count and the bytes of the next reply or event in the target's transmit buffer,
a count of 0 where there is none; READ_STAT gives the status byte and clears its
error bits; bytes without a header and classical frames on a request identifier are discarded and counted. -/
def Obligations.CarrierEventsComplete : Prop :=
  (∀ (cpt : Fin 2) (r : OutPkt), Happens (fun t => .readPkt t cpt)
    (fun m => hubRuns m = true ∧ (cptBuffered m cpt 4096 m.wait).head? = some (.reply r))
    (fun m => { m with wait := dropFirst (itemFor cpt) m.wait, sent := m.sent ++ [r], spiOut := halfBytes (outBytes r).length ++ outBytes r })) ∧
  (∀ (cpt : Fin 2) (c path code : Nat) (data : List Word), Happens (fun t => .readPkt t cpt)
    (fun m => hubRuns m = true ∧ (cptBuffered m cpt 4096 m.wait).head? = some (.event c path code data))
    (fun m =>
      let o := eventPkt c path code data m
      eventSent c { m with wait := dropFirst (itemFor cpt) m.wait, sent := m.sent ++ [o], spiOut := halfBytes (outBytes o).length ++ outBytes o })) ∧
  (∀ cpt : Fin 2, Happens (fun t => .readPkt t cpt) (fun m => hubRuns m = true ∧ (cptBuffered m cpt 4096 m.wait).head? = none)
    (fun m => { m with spiOut := [0, 0] })) ∧
  (∀ cpt : Fin 2, Happens (fun t => .readStat t cpt) (fun m => cptLive m = true)
    (fun m =>
      let st := 128 * b2n (cptWaiting m cpt == 0) + 64 * b2n (!(cptBuffered m cpt 4096 m.wait).isEmpty) + 32 * b2n (cptOf m cpt).ovf +
        16 * b2n (cptOf m cpt).err
      setCpt cpt {} { m with rdata := w32 st })) ∧
  (∀ path : Fin 29, Happens (fun t => .packetDiscard t path) (fun m => hubRuns m = true ∧ outOfReach m path = false ∧
      pathEnabled m path = true)
    (bump (rHUB_RX_ERR path) fHUB_RX_ERR_HDR_ERR)) ∧
  (∀ path : Fin 29, Happens (fun t => .packetDiscard t path) (fun m => hubRuns m = true ∧ outOfReach m path = false ∧
      pathEnabled m path = false)
    (bump (rHUB_RX_ERR path) fHUB_RX_ERR_DISC)) ∧
  (∀ (can : Fin 2) (id : Nat), Happens (fun t => .classicalCanFrame t can true id)
    (fun m => hubRuns m = true ∧ flag m (rCAN_DRATUS_ID can) fCAN_DRATUS_ID_EN = true ∧
      flag m (rCAN_DRATUS_ID can) fCAN_DRATUS_ID_XTD = true ∧ getF m (rCAN_DRATUS_ID can) fCAN_DRATUS_ID_REQ_ID = id)
    (bump (rHUB_RX_ERR (26 + can.val)) fHUB_RX_ERR_DISC)) ∧
  (∀ (can : Fin 2) (id : Nat), Happens (fun t => .classicalCanFrame t can false id)
    (fun m => hubRuns m = true ∧ flag m (rCAN_DRATUS_ID can) fCAN_DRATUS_ID_EN = true ∧
      flag m (rCAN_DRATUS_ID can) fCAN_DRATUS_ID_XTD = false ∧
      getF m (rCAN_DRATUS_ID can) fCAN_DRATUS_ID_REQ_ID % 2048 = id % 2048)
    (bump (rHUB_RX_ERR (26 + can.val)) fHUB_RX_ERR_DISC))

/-- R56, R79: a packet whose opcode no table defines and that passes checks 1 to 6 is answered BAD_OPCODE and has no other effect; so is a
packet of another VERSION, or of VERSION 0 without the right to legacy commands, once it has passed check 1. -/
def Obligations.UndefinedOpcodesAnswered : Prop :=
  ∀ (p : Packet) (ver op : Nat) (s : State), let m := atTime p.t s.blk
    let legacy := ver = 0 ∧ flag m (rHUB_CTX_CFG (ctxN p)) fHUB_CTX_CFG_BAMUT_CMD = true
    let o : OpInfo := ⟨ver, op, 0, .hw, .any, 0, false, false⟩
    m.resuming = false → hubRuns m = true → m.pwr.st ≠ 2 → m.pwr.entry = none → outOfReach m p.path = false →
    pathEnabled m p.path = true →
    p.hchk.toNat = packetHchk ver op p →
    ((ver ≠ 1 ∧ ¬ legacy) ∨ ((ver = 1 ∨ legacy) ∧ hostMatches m p = true ∧ fieldsOk p = true ∧ p.plen.toNat ≤ pathMax p.path ∧
      p.short = false ∧ p.plen.toNat = p.params.length ∧ p.trailer.toNat = packetTrailer ver op p)) →
    exec (.badOpcode p ver op) s = .next (after (send (replyTo o p) (err stBAD_OPCODE) m) s)

/-! ### The block as a whole -/

/-- The order of commands, which is the model's (log entry 2): the command at the front of the queue has its effect with the queue's
rest; on an empty queue a packet that waits in the block goes on, and with none the block idles. -/
def Obligations.StepRunsFrontCommand : Prop :=
  (∀ (c : Instr) (s : State), step { s with pending := c :: s.pending } = exec c s) ∧
  (∀ (s : State) (k : Nat) (h : Held), s.pending = [] → nextHeld s.blk = some (k, h) →
    step s = exec h.instr { s with blk := takeHeld k h s.blk }) ∧
  (∀ s : State, s.pending = [] → nextHeld s.blk = none → step s = .next s)

/-- R16, R57, R73, R310, R344: after reset no command waits, the layer pool lists nothing, every register holds its reset value, no
context is open, the lock is open, LIMP_N and ERR_N are low, and every queue expects sequence 0. The value of the boot-time (NV) fields is
the one "when absent". -/
def Obligations.ResetStateIsAsSpecified : Prop :=
  State.reset.pending = [] ∧ State.reset.mem = [] ∧ State.Safe State.reset ∧
  (let m := State.reset.blk
  (∀ a, reg m a = regReset a) ∧ hubRuns m = true ∧ m.upd.booted = false ∧ locked m = false ∧ (∀ n < 4, ctxOpen m n = false) ∧
    flag m rSAF_STAT fSAF_STAT_LIMP = true ∧ m.saf.limpHigh = false ∧ flag m rFLT_ERRN fFLT_ERRN_ACTIVE = true ∧
    flag m rFLT_FATAL fFLT_FATAL_SET = false ∧ m.held = [] ∧ m.wait = [] ∧ m.sent = [] ∧
    (∀ n < 4, ∀ q < 8, (queueOf m n q).expected = 0 ∧ queueLoad m n q = 0))

/-- No command ends in a fault or a refusal, and none touches the queue of the commands that wait. -/
def Obligations.EveryCommandCompletes : Prop :=
  ∀ (c : Instr) (s : State), ∃ t, exec c s = .next t ∧ t.pending = s.pending

/-- From every state whose layer pool is in its canonical form, a step answers a next state whose pool is. -/
def Obligations.EveryStepKeepsPoolCanonical : Prop :=
  ∀ s : State, State.Safe s → ∃ t, step s = .next t ∧ State.Safe t

/-- R92, R99 to R101, R106, R121, R90: the bytes of the layer pool change only at the commands that write pixels, allocate buffers or
lose a page, and at the carriers of packets. -/
def Obligations.PoolChangesOnlyAtItsWriters : Prop :=
  ∀ (c : Instr) (s t : State), exec c s = .next t → t.mem = s.mem ∨ (∃ p, c = .bufAlloc p) ∨ (∃ p, c = .bufWrite p) ∨
    (∃ p, c = .frameWrite p) ∨ (∃ p, c = .bamutEnable p) ∨ (∃ b, c = .pixel b) ∨ (∃ a plan, c = .placementPlan a plan) ∨
    (∃ a k bytes env, c = .writePkt a k bytes env) ∨ (∃ b env, c = .command b env)

/-- R99, R101, R92, R90: BUF_WRITE and FRAME_WRITE put their data words at the bytes that they name, little-endian, and every other byte
of the pool reads as before. BUF_ALLOC changes bytes only where it answers the handle of a buffer that was free: the bytes of that
handle's INDEX then read as 0 (the model's choice, log entry 5), those of every other buffer as before. -/
def Obligations.PoolBytesWritten : Prop :=
  (∀ (p : Packet) (s u : State) (m : Mach),
    Starts (.bufWrite p) (native 0x22 0 .hw .any false false) noReply p s m → 3 ≤ p.params.length →
    bufRefused m (ctxN p) (par p 0).toNat = none → (par p 1).toNat % 4 = 0 →
    (par p 1).toNat + 4 * (p.params.length - 2) ≤ (bufOf m (hIdx (par p 0).toNat)).size → exec (.bufWrite p) s = .next u →
    (let at_ := poolKey (hIdx (par p 0).toNat) (par p 1).toNat
    (∀ k < 4 * (p.params.length - 2), (tget 0 u.mem (at_ + k)).toNat = (wordsBytes (p.params.drop 2)).getD k 0) ∧
    (∀ a, a < at_ ∨ at_ + 4 * (p.params.length - 2) ≤ a → tget 0 u.mem a = tget 0 s.mem a))) ∧
  (∀ (p : Packet) (s u : State) (m : Mach) (b : BamutTile),
    Starts (.frameWrite p) (legacy 0x04 0 .hw .any 2 false false) noReply p s m → 2 ≤ p.params.length →
    tget none (bamutOf m (ctxN p)).tiles (bits (par p 0) 31 24) = some b → bufRefused m (ctxN p) b.back = none →
    bits (par p 0) 23 0 % 4 = 0 → bits (par p 0) 23 0 + 4 * (p.params.length - 1) ≤ (bufOf m (hIdx b.back)).size →
    exec (.frameWrite p) s = .next u →
    (let at_ := poolKey (hIdx b.back) (bits (par p 0) 23 0)
    (∀ k < 4 * (p.params.length - 1), (tget 0 u.mem (at_ + k)).toNat = (wordsBytes (p.params.drop 1)).getD k 0) ∧
    (∀ a, a < at_ ∨ at_ + 4 * (p.params.length - 1) ≤ a → tget 0 u.mem a = tget 0 s.mem a))) ∧
  (∀ (p : Packet) (s u : State), exec (.bufAlloc p) s = .next u → u.mem = s.mem ∨
    ∃ (m m' : Mach) (i gen : Nat) (tail : List Word),
      let o := native 0x20 1 .topaz .any false true
      Starts (.bufAlloc p) o (replyLen 6) p s m ∧ i < 4096 ∧ i ∉ usedBufs m ∧
      u = after (answer (replyTo o p) (ok (w32 (mkHandle (ctxN p) 1 gen i) :: tail)) m') { s with mem := u.mem } ∧
      (∀ off < 2 ^ 27, poolByte u.mem i off = 0) ∧
      (∀ a, a < poolKey i 0 ∨ poolKey (i + 1) 0 ≤ a → tget 0 u.mem a = tget 0 s.mem a))

/-! ### Packets that arrive (chapter 2) -/

/-- R56, R54, R455: a packet to a hub that does not run (outside SLEEP), or on the debug port while it is out of reach, has no effect. In a
running hub checks 1 to 6 and 8 come in this order; the first that fails decides the answer, which leaves the queue where it was, and the
counters of discarded packets. The context of check 2 for a foreign HOST, and GET_ID in check 8, are the model's (log entry 109). -/
def Obligations.HeaderChecksInOrder : Prop :=
  ∀ (c : Instr) (p : Packet) (o : OpInfo) (s : State), rowOp c = some (p, o) →
    let m := atTime p.t s.blk
    let refused (st : Nat) : Prop := exec c s = .next (after (send (replyTo o p) (err st) m) s)
    (m.resuming = false → hubRuns m = false → m.pwr.st ≠ 2 → exec c s = .next (after m s)) ∧
    (Takes m → outOfReach m p.path = true → exec c s = .next (after m s)) ∧
    (Takes m → outOfReach m p.path = false → (pathEnabled m p.path = false → exec c s = .next (after (countDisc p.path m) s)) ∧
      (pathEnabled m p.path = true →
        (p.hchk.toNat ≠ packetHchk o.ver o.op p → exec c s = .next (after (countHdrErr p.path m) s)) ∧
        (p.hchk.toNat = packetHchk o.ver o.op p → (versionOk o p m = false → refused stBAD_OPCODE) ∧
          (versionOk o p m = true → (hostMatches m p = false → refused stNOT_OWNER) ∧
            (hostMatches m p = true → (fieldsOk p = false → refused stBAD_FIELD) ∧
              (fieldsOk p = true → (lengthOk p = false → refused stBAD_LENGTH) ∧
                (lengthOk p = true → (p.trailer.toNat ≠ packetTrailer o.ver o.op p → refused stBAD_CHECK) ∧
                  (p.trailer.toNat = packetTrailer o.ver o.op p → contextOk o p m = false →
                    exec c s = .next (after (send (replyTo o p)
                      (errW stSTATE_REJECT (viewReg m (rHUB_CTX_CFG (ctxN p)))) m) s)))))))))

/-- R58: a packet with another SEQ than its queue expects, and that is no duplicate, is answered SEQ_GAP with the one word that holds the
expected sequence; the packet that carries that sequence then passes check 9 and starts. -/
def Obligations.SeqGapNamesExpected : Prop :=
  ∀ (c : Instr) (p : Packet) (o : OpInfo) (s : State), rowOp c = some (p, o) →
    let m := atTime p.t s.blk
    let q := queueOf m (ctxN p) (queueN p)
    Takes m → Checked o p m →
    (p.seq.toNat ≠ q.expected → ¬ (q.any = true ∧ (p.seq.toNat + 1) % 65536 = q.expected) →
      exec c s = .next (after (m |> bump (rHUB_CTX_STAT (ctxN p)) fHUB_CTX_STAT_SEQGAP_CNT |>
        send (replyTo o p) (errW stSEQ_GAP (w32 q.expected))) s)) ∧
    (p.seq.toNat = q.expected → permission m o p = none → queueLoad m (ctxN p) (queueN p) < 16 → deferred m o = false →
      mayStart o p (advanced o p m) = true → arrive c o true p s.blk = .go (started o p (advanced o p m)))

/-- R62: while fewer than 16 accepted packets of its queue have not completed, a packet that must wait is kept as one more of them; with
16 it is refused with DEFERRED, and its sequence is not consumed. -/
def Obligations.QueueHoldsSixteen : Prop :=
  ∀ (c : Instr) (p : Packet) (o : OpInfo) (s : State), rowOp c = some (p, o) →
    let m := atTime p.t s.blk
    Takes m → Checked o p m → p.seq.toNat = (queueOf m (ctxN p) (queueN p)).expected → permission m o p = none →
    (16 ≤ queueLoad m (ctxN p) (queueN p) →
      exec c s = .next (after (m |> bump (rHUB_CTX_STAT (ctxN p)) fHUB_CTX_STAT_DEFER_CNT |>
        send (replyTo o p) (err stDEFERRED)) s)) ∧
    (queueLoad m (ctxN p) (queueN p) < 16 → deferred m o = false → mayStart o p (advanced o p m) = false →
      exec c s = .next (after (hold c o p true (advanced o p m)) s) ∧
      queueLoad (hold c o p true (advanced o p m)) (ctxN p) (queueN p) = queueLoad m (ctxN p) (queueN p) + 1)

/-- R67, R56 check 10: a context without the opcode's group permission receives NOT_PERMITTED, before the issuer rule; so does an opcode
marked H0 or H0P from H1 to H3; an opcode marked H0P from H0 after the lock receives LOCKED. Each consumes its sequence. -/
def Obligations.IssuerRuleChecked : Prop :=
  ∀ (c : Instr) (p : Packet) (o : OpInfo) (s : State), rowOp c = some (p, o) →
    let m := atTime p.t s.blk
    let perm := reg m (rHUB_CTX_OPPERM (ctxN p))
    let refused (st : Nat) : Prop := exec c s = .next (after (answer (replyTo o p) (err st) (advanced o p m)) s)
    Takes m → Checked o p m → p.seq.toNat = (queueOf m (ctxN p) (queueN p)).expected →
    (bit perm o.grp = false → refused stNOT_PERMITTED) ∧
    (o.ver = 0 → bit perm 8 = false → refused stNOT_PERMITTED) ∧
    (o.issuer ≠ .any → ctxN p ≠ 0 → refused stNOT_PERMITTED) ∧
    (bit perm o.grp = true → (o.ver = 0 → bit perm 8 = true) → o.issuer = .h0p → ctxN p = 0 → locked m = true → refused stLOCKED)

/-- R42: the two check codes by their parameters and check values, and the bytes that each covers. -/
def Obligations.CheckCodesAsSpecified : Prop :=
  let digits := [0x31, 0x32, 0x33, 0x34, 0x35, 0x36, 0x37, 0x38, 0x39]
  crc16 = { w := 16, poly := 0x1021, init := 0xFFFF, refIn := false, refOut := false, xorOut := 0 } ∧
  crc crc16 digits = 0x29B1 ∧
  crc32c = { w := 32, poly := 0x1EDC6F41, init := 0xFFFFFFFF, refIn := true, refOut := true, xorOut := 0xFFFFFFFF } ∧
  crc crc32c digits = 0xE3069283 ∧
  (∀ (ver op : Nat) (p : Packet), ver < 256 → op < 256 →
    packetHchk ver op p = crc crc16 ((encodePacket ver op p).take 14) ∧
    packetTrailer ver op p = crc crc32c ((encodePacket ver op p).take (16 + 4 * p.params.length)))

/-- R39, R40, R47: the bytes of a packet read back as that packet, every field at every value, and a CPT write of them runs the row that
its VERSION and OPCODE name on that packet. -/
def Obligations.PacketBytesReadBack : Prop :=
  ∀ (ver op : Nat) (p : Packet), ver < 256 → op < 256 → p.short = false → p.plen.toNat = p.params.length →
    let bs := encodePacket ver op p
    packetOf p.t p.path bs = p ∧ byteAt bs 0 = 0xD7 ∧ byteAt bs 1 = ver ∧ byteAt bs 2 = op ∧ packetSize bs = bs.length ∧
    (headerHere bs = true ↔ p.hchk.toNat = packetHchk ver op p) ∧
    (∀ (cpt : Fin 2) (env : PktEnv) (s : State), let m := atTime p.t s.blk
      p.path = cptPath cpt → p.hchk.toNat = packetHchk ver op p → hubRuns m = true → m.pwr.st ≠ 2 →
      cptWaiting m cpt + bs.length ≤ 4096 →
      exec (.writePkt p.t cpt (bs.map (BitVec.ofNat 8)) env) s = runRow ver op env p { s with blk := m })

/-- R43, R44, R57, R59, R77: what the arrival of a packet that starts, and the reply to it, leave as it was. After the instant has come
(held AON writes and releases of placement that were due by then have taken effect), the arrival changes the record of the packet's queue
and, for Topaz, the round of the packet's class; the reply changes that record and the packets sent or waiting to be read, and on a port
what its transmitter has sent, its electrical idle and its sequence. -/
def Obligations.ArrivalAndReplyFrame : Prop :=
  (∀ (c : Instr) (o : OpInfo) (p : Packet) (b m : Mach), let n := { atTime p.t b with resuming := false }
    arrive c o true p b = .go m → n.pwr.entry = none →
    ∃ qs k, m = { n with queues := qs, rr := k } ∧ (qs = n.queues ∨ ∃ q, qs = tput {} n.queues (8 * ctxN p + queueN p) q) ∧
      (k = n.rr ∨ (o.exe = .topaz ∧ k = tput 0 n.rr o.cls (ctxN p + 1)))) ∧
  (∀ (dest : ReplyTo) (r : Rep) (m : Mach), ∃ qs, let n := { m with queues := qs }
    (qs = m.queues ∨ ∃ q, qs = tput {} m.queues (8 * dest.host + dest.queue) q) ∧
    (dest.noAck = true → r.status = stOK → answer dest r m = n) ∧
    ((dest.noAck = true → r.status ≠ stOK) →
      (isCpt dest.path = true → answer dest r m = { n with wait := m.wait ++ [.reply (replyPkt dest r)] }) ∧
      (isCpt dest.path = false → answer dest r m = sendOut (replyPkt dest r) n))) ∧
  (∀ (o : OutPkt) (m : Mach), 24 ≤ o.path → ∃ fs, sendOut o m = { m with sent := m.sent ++ [o], canTx := m.canTx ++ fs } ∧
    (o.path ≠ 26 → o.path ≠ 27 → fs = [])) ∧
  (∀ (o : OutPkt) (m : Mach), o.path < 24 → ∃ rs ps ts,
    sendOut o m = { m with sent := m.sent ++ [o], regs := rs, ports := ps, tx := m.tx ++ ts } ∧
    (∀ a, a ≠ rCPL_STATE o.path → tget 0 rs a = tget 0 m.regs a) ∧ (∀ q, q ≠ o.path → tget {} ps q = tget {} m.ports q)) ∧
  (∀ m : Mach, Quiet m → settle m = m)

/-! ### What register writes may not do (chapters 1, 2 and 18) -/

/-- R68: no context writes a register of the SAF block: such a register access receives NOT_PERMITTED and has no effect. -/
def Obligations.SafetyRegistersNotWritable : Prop :=
  Answers .regWrite (native 0x11 0 .hw .any false true) (replyLen 1)
    (fun p _ => countOk (par p 1) = true ∧ p.params.length = 2 + bits (par p 1) 8 0 ∧
      spanOk (par p 0).toNat (bits (par p 1) 8 0) = true ∧ addrBlock (par p 0).toNat = 14)
    (fun _ _ => err stNOT_PERMITTED) (fun _ m => m) ∧
  Answers .regModify (native 0x12 0 .hw .any false true) (replyLen 2)
    (fun p _ => p.params.length = 3 ∧ addrOk (par p 0).toNat = true ∧ specialReg (par p 0).toNat = false ∧
      addrBlock (par p 0).toNat = 14)
    (fun _ _ => err stNOT_PERMITTED) (fun _ m => m) ∧
  Answers .regWriteList (native 0x14 0 .hw .any false true) (replyLen 1)
    (fun p _ => p.params.length % 2 = 0 ∧ 2 ≤ p.params.length ∧ p.params.length ≤ 256 ∧
      ((writePairs p.params).all fun e => addrOk e.1) = true ∧ ∃ e ∈ writePairs p.params, addrBlock e.1 = 14)
    (fun _ _ => err stNOT_PERMITTED) (fun _ m => m) ∧
  (∀ (ctx : Fin 4) (addr : Nat) (v : Word), addrBlock addr = 14 → Happens (fun t => .registerWrite t ctx addr v)
    (fun _ => True) (fun m => m))

/-- R13, R14, R15, R67, R351: what a written word does to each field of a register of the map, by the field's access. RW takes it; RO
keeps its value; W1C clears where 1 is written, but for the bits that are set in the same HUB cycle (`fresh`), where the set wins; a
counter cleared by a 1 in its top bit keeps what was counted in that cycle; W1S, which no field of the map has, sets where 1 is written;
a WO field keeps nothing. RWL
takes the word from H0 in the Provisioning state, and otherwise keeps its value, whatever is written, and counts as refused. A field that
is RO in instance 0 alone, and the fields of FLT_SRC_CFG that are RO for some sources, keep their value there. -/
def Obligations.FieldWritesFollowTheirAccess : Prop :=
  (∀ (m : Mach) (ctx : Nat), mayConfig m ctx = true ↔ ctx = 0 ∧ locked m = false) ∧
  (∀ (may : Bool) (i : Nat) (d : FldDesc) (fresh v old : Word), d.acc = .w1s → ∀ k < d.fld.len,
    bit (writeFld may i d fresh v old).word (d.fld.lo + k) = (bit old (d.fld.lo + k) || bit v (d.fld.lo + k))) ∧
  ∀ (a ctx : Nat) (m : Mach) (r : RegDesc) (is : List Nat) (fresh v old : Word) (d : FldDesc),
    regAt a = some (r, is) → d ∈ r.flds →
    let i := is.headD 0
    let may := mayConfig m ctx
    let x := writeFlds may i r.flds fresh v old
    let kept := fget x.word d.fld = fget old d.fld
    let taken := fget x.word d.fld = fget v d.fld
    let byLock := (may = true → taken) ∧ (may = false → kept ∧ x.refused = true)
    (d.acc = .rw → taken) ∧
    (d.acc = .ro → kept) ∧
    (d.acc = .w1c → ∀ k < d.fld.len, bit x.word (d.fld.lo + k) =
      (bit old (d.fld.lo + k) && !(bit v (d.fld.lo + k) && !bit fresh (d.fld.lo + k)))) ∧
    (d.acc = .w1t → (bit v (d.fld.lo + d.fld.len - 1) = true → fget x.word d.fld = fget fresh d.fld) ∧
      (bit v (d.fld.lo + d.fld.len - 1) = false → kept)) ∧
    (d.acc = .wo → kept) ∧
    (d.acc = .wol → kept ∧ (may = false → x.refused = true)) ∧
    (d.acc = .rwl → byLock) ∧
    (d.acc = .ro0 → (i = 0 → kept) ∧ (i ≠ 0 → byLock)) ∧
    (d.acc = .src →
      (d.fld = fFLT_SRC_CFG_CLASS → (3 ≤ (srcDef i).cls → kept) ∧
        ((srcDef i).cls < 3 → (may = true → 5 ≤ fget v d.fld → kept) ∧ (may = true → fget v d.fld < 5 → taken) ∧
          (may = false → kept ∧ x.refused = true))) ∧
      (d.fld = fFLT_SRC_CFG_F → if (srcDef i).fenceable = true then byLock else kept) ∧
      (d.fld = fFLT_SRC_CFG_E → if (srcDef i).cls < 3 then byLock else kept) ∧
      (d.fld = fFLT_SRC_CFG_C → if (srcDef i).cls ≠ 4 then byLock else kept)) ∧
    (may = true → x.refused = false) ∧
    (timingAt a = none → (writeReg ctx a v m).refused = (writeFlds may i r.flds fresh (takenWord m a v) old).refused)
end

