-- ==== Sys2Proof/Laws/Forms.lean ====
section
/-!
SUPPORT. The common forms in which commands run: what each form answers, said once, so that a claim about a row needs only its body.
-/

namespace Sys2Proof.Machine

variable {i : Instr} {o : OpInfo} {rlen : Packet → Mach → Nat} {p : Packet} {s : State} {m : Mach}

/-- A quiet block is left as it is at the end of a command. -/
@[simp] theorem settle_quiet (h : Quiet m) : settle m = m := by
  obtain ⟨h1, h2⟩ := h
  simp [settle, settleFences, h1, h2]

/-- A packet that starts runs its body; the reply follows unless the body answers later. -/
theorem runDratus_starts {body : Packet → Mach → Mach × Rep} (h : Starts i o rlen p s m) :
    runDratus i o rlen body p s =
      .next (if (body p m).2.later then after (body p m).1 s else afterReply o p (body p m).2 m (body p m).1 s) := by
  obtain ⟨h1, h2, h3⟩ := h
  have h4 : ¬ pathMax p.path < rlen p m := Nat.not_lt.mpr h3
  cases hl : (body p m).2.later <;> simp [runDratus, h1, runPacket, h2, h4, hl, done, after, afterReply]

/-- The same for a packet that acts on the layer pool. -/
theorem runDratusMem_starts {body : Packet → Tab Byte → Mach → MemRep} (h : Starts i o rlen p s m) :
    runDratusMem i o rlen body p s =
      .next (if (body p s.mem m).rep.later then after (body p s.mem m).blk { s with mem := (body p s.mem m).mem }
        else after (answer (replyTo o p) (body p s.mem m).rep (body p s.mem m).blk) { s with mem := (body p s.mem m).mem }) := by
  obtain ⟨h1, h2, h3⟩ := h
  have h4 : ¬ pathMax p.path < rlen p m := Nat.not_lt.mpr h3
  cases hl : (body p s.mem m).rep.later <;> simp [runDratusMem, h1, runPacketMem, h2, h4, hl, done, after]

/-- In a running hub without an entry under way, an arriving packet goes through the checks of R56. -/
theorem arrive_checks {known : Bool} {m b : Mach} (hm : atTime p.t b = m) (h1 : m.resuming = false) (h2 : hubRuns m = true)
    (h3 : m.pwr.st ≠ 2) (h4 : m.pwr.entry = none) (h5 : outOfReach m p.path = false) : arrive i o known p b = checkHeader i o known p m := by
  subst hm
  simp [arrive, h1, h2, h3, pathsHeld, h4, h5]

/-- A packet that does not start changes no byte of the layer pool and no waiting command. -/
theorem runDratus_stops {body : Packet → Mach → Mach × Rep} {m : Mach} (h : arrive i o true p s.blk = .stop m) :
    runDratus i o rlen body p s = .next (after m s) := by
  simp [runDratus, h, done, after]

/-- An event answers a next state: its effect at its instant. -/
theorem runEvent_next (t : Nat) (f : Mach → Mach) : runEvent t f s = .next (after (f (atTime t s.blk)) s) := rfl

theorem runEventMem_next (t : Nat) (f : Tab Byte → Mach → Tab Byte × Mach) :
    runEventMem t f s = .next (after (f s.mem (atTime t s.blk)).2 { s with mem := (f s.mem (atTime t s.blk)).1 }) := rfl

/-- A packet of a right length runs its body (check 12 of R56). -/
theorem withLen_ok {okLen : Nat → Bool} {body : Packet → Mach → Mach × Rep} (h : okLen p.params.length = true) :
    withLen okLen body p m = body p m := by simp [withLen, h]

/-- A condition on the parameters that holds. -/
theorem require_ok {k : Mach → Mach × Rep} : require true k m = k m := rfl

/-! ### What every form keeps -/

/-- Whatever a row of the common form does, it answers a next state, and neither the waiting commands nor the layer pool change. -/
theorem done_keeps (m : Mach) : ∃ t, done s m = .next t ∧ t.pending = s.pending ∧ t.mem = s.mem := ⟨_, rfl, rfl, rfl⟩

theorem runEvent_keeps (t : Nat) (f : Mach → Mach) : ∃ u, runEvent t f s = .next u ∧ u.pending = s.pending ∧ u.mem = s.mem :=
  ⟨_, rfl, rfl, rfl⟩

theorem runDratus_keeps {body : Packet → Mach → Mach × Rep} :
    ∃ u, runDratus i o rlen body p s = .next u ∧ u.pending = s.pending ∧ u.mem = s.mem := by
  unfold runDratus
  split <;> exact ⟨_, rfl, rfl, rfl⟩

/-- A row that acts on the layer pool leaves the waiting commands alone. -/
theorem runDratusMem_keeps {body : Packet → Tab Byte → Mach → MemRep} :
    ∃ u, runDratusMem i o rlen body p s = .next u ∧ u.pending = s.pending := by
  unfold runDratusMem
  split <;> exact ⟨_, rfl, rfl⟩

theorem runEventMem_keeps (t : Nat) (f : Tab Byte → Mach → Tab Byte × Mach) :
    ∃ u, runEventMem t f s = .next u ∧ u.pending = s.pending := ⟨_, rfl, rfl⟩

end Sys2Proof.Machine
end

