-- ==== Sys2Proof/Laws/Tab.lean ====
section
/-!
SUPPORT. What the operations of a sparse table do: a read after a write, and that a write keeps the canonical form.
-/

namespace Sys2Proof.Machine

variable {α : Type} [DecidableEq α] {d : α}

omit [DecidableEq α] in
@[simp] theorem tget_nil (k : Nat) : tget d ([] : Tab α) k = d := rfl

/-- The canonical form from `lo` on holds from any lower key on. -/
theorem twfFrom_mono {lo lo' : Nat} (h : lo' ≤ lo) : ∀ {t : Tab α}, twfFrom d lo t = true → twfFrom d lo' t = true
  | [], _ => rfl
  | (k, v) :: rest, ht => by
    simp only [twfFrom, Bool.and_eq_true, decide_eq_true_eq] at ht ⊢
    exact ⟨⟨Nat.le_trans h ht.1.1, ht.1.2⟩, ht.2⟩

/-- Taking keys out keeps the canonical form. -/
theorem twfFrom_filter (q : Nat × α → Bool) {lo : Nat} :
    ∀ {t : Tab α}, twfFrom d lo t = true → twfFrom d lo (t.filter q) = true
  | [], _ => rfl
  | e :: rest, ht => by
    simp only [twfFrom, Bool.and_eq_true, decide_eq_true_eq] at ht
    have hr := twfFrom_filter q ht.2
    by_cases hq : q e = true
    · simp only [List.filter_cons, hq, if_true, twfFrom, Bool.and_eq_true, decide_eq_true_eq]
      exact ⟨ht.1, hr⟩
    · simp only [List.filter_cons, hq]
      exact twfFrom_mono (by omega) hr

/-- An entry in its place keeps the canonical form. -/
theorem twfFrom_tset {lo k : Nat} {v : α} (hk : lo ≤ k) (hv : v ≠ d) : ∀ {t : Tab α}, twfFrom d lo t = true → twfFrom d lo (tset t k v) = true
  | [], _ => by simp [tset, twfFrom, hk, hv]
  | (j, x) :: rest, ht => by
    simp only [twfFrom, Bool.and_eq_true, decide_eq_true_eq] at ht
    unfold tset
    split
    · subst_vars
      simp [twfFrom, hk, hv, ht.2]
    · split
      · simp only [twfFrom, Bool.and_eq_true, decide_eq_true_eq]
        exact ⟨⟨hk, hv⟩, ⟨⟨by omega, ht.1.2⟩, ht.2⟩⟩
      · simp only [twfFrom, Bool.and_eq_true, decide_eq_true_eq]
        exact ⟨ht.1, twfFrom_tset (by omega) hv ht.2⟩

/-- A write keeps the canonical form. -/
theorem twf_tput {k : Nat} {v : α} {t : Tab α} (ht : twf d t = true) : twf d (tput d t k v) = true := by
  unfold tput
  split
  · exact twfFrom_filter _ ht
  · exact twfFrom_tset (Nat.zero_le k) (by assumption) ht

omit [DecidableEq α] in
theorem tget_tset_self {k : Nat} {v : α} : ∀ (t : Tab α), tget d (tset t k v) k = v
  | [] => by simp [tset, tget]
  | (j, x) :: rest => by
    unfold tset
    split
    · simp [tget]
    · split
      · simp [tget]
      · simp [tget, *, tget_tset_self rest]

omit [DecidableEq α] in
theorem tget_tset_ne {k i : Nat} {v : α} (hi : i ≠ k) : ∀ (t : Tab α), tget d (tset t k v) i = tget d t i
  | [] => by simp [tset, tget, Ne.symm hi]
  | (j, x) :: rest => by
    unfold tset
    split
    · subst_vars
      simp [tget, Ne.symm hi]
    · split
      · simp [tget, Ne.symm hi]
      · simp [tget, tget_tset_ne hi rest]

omit [DecidableEq α] in
/-- A key whose entries all go reads as an unlisted one. -/
theorem tget_filter_out {q : Nat × α → Bool} {k : Nat} (h : ∀ v, q (k, v) = false) : ∀ (t : Tab α), tget d (t.filter q) k = d
  | [] => rfl
  | (j, v) :: rest => by
    rw [List.filter_cons]
    split
    · rename_i hq
      have hjk : j ≠ k := fun e => by simp [e, h] at hq
      simp [tget, hjk, tget_filter_out h rest]
    · exact tget_filter_out h rest

omit [DecidableEq α] in
/-- A key whose entries all stay reads as before. -/
theorem tget_filter_in {q : Nat × α → Bool} {k : Nat} (h : ∀ v, q (k, v) = true) : ∀ (t : Tab α), tget d (t.filter q) k = tget d t k
  | [] => rfl
  | (j, v) :: rest => by
    rw [List.filter_cons]
    split
    · simp [tget, tget_filter_in h rest]
    · rename_i hq
      have hjk : j ≠ k := fun e => by simp [e, h] at hq
      simp [tget, hjk, tget_filter_in h rest]

/-- A read after a write of the same key gives the value written. -/
@[simp] theorem tget_tput_self {k : Nat} {v : α} (t : Tab α) : tget d (tput d t k v) k = v := by
  unfold tput
  split
  · subst_vars
    exact tget_filter_out (by simp) t
  · exact tget_tset_self t

/-- A write of one key leaves every other key alone, whatever an unlisted key reads as. -/
theorem tget_tput_ne {d' : α} {k i : Nat} {v : α} (hi : i ≠ k) (t : Tab α) : tget d (tput d' t k v) i = tget d t i := by
  unfold tput
  split
  · exact tget_filter_in (by simp [hi]) t
  · exact tget_tset_ne hi t

theorem twf_tdrop {lo hi : Nat} {t : Tab α} (ht : twf d t = true) : twf d (tdrop lo hi t) = true :=
  twfFrom_filter _ ht

omit [DecidableEq α] in
/-- A key that was taken out reads as the value of an unlisted one. -/
theorem tget_tdrop_in {lo hi k : Nat} (h1 : lo ≤ k) (h2 : k < hi) (t : Tab α) : tget d (tdrop lo hi t) k = d :=
  tget_filter_out (by simp; omega) t

omit [DecidableEq α] in
/-- Every other key reads as before. -/
theorem tget_tdrop_out {lo hi k : Nat} (h : k < lo ∨ hi ≤ k) (t : Tab α) : tget d (tdrop lo hi t) k = tget d t k :=
  tget_filter_in (by simp; omega) t

end Sys2Proof.Machine
end

