-- ==== Sys2Proof/Laws/Pool.lean ====
section
/-!
SUPPORT. What the operations on the layer pool do: each keeps its canonical form; a byte reads back as written, and the others stand.
-/

namespace Sys2Proof.Machine

/-! ### Every operation keeps the canonical form -/

theorem poolWrite_wf {i : Nat} : ∀ {off : Nat} {bs : List Nat} {mem : Tab Byte}, Memory.wf mem → Memory.wf (poolWrite i off bs mem)
  | _, [], _, h => h
  | off, b :: bs, mem, h => by
    rw [poolWrite]
    exact poolWrite_wf (twf_tput h)

theorem poolClear_wf {i : Nat} {mem : Tab Byte} (h : Memory.wf mem) : Memory.wf (poolClear i mem) := twf_tdrop h

theorem poolZeroPage_wf {i pg : Nat} {mem : Tab Byte} (h : Memory.wf mem) : Memory.wf (poolZeroPage i pg mem) := twf_tdrop h

/-- What a fold of operations that keep the form does. -/
theorem foldl_wf {α : Type} {f : Tab Byte → α → Tab Byte} (hf : ∀ mem x, Memory.wf mem → Memory.wf (f mem x)) :
    ∀ {l : List α} {mem : Tab Byte}, Memory.wf mem → Memory.wf (l.foldl f mem)
  | [], _, h => h
  | x :: l, mem, h => foldl_wf hf (l := l) (hf mem x h)

theorem streamPixels_wf {p : Nat} {bytes : List Nat} {mem : Tab Byte} {m : Mach} (h : Memory.wf mem) :
    Memory.wf (streamPixels p bytes mem m).1 := by
  unfold streamPixels
  dsimp only
  split
  · exact foldl_wf (fun _ _ hm => poolWrite_wf hm) h
  · exact h

theorem legacyBuf_wf {c f w h : Nat} {mem : Tab Byte} {m : Mach} {x : Nat × Tab Byte × Mach} (hm : Memory.wf mem)
    (hr : legacyBuf c f w h mem m = some x) : Memory.wf x.2.1 := by
  rw [legacyBuf] at hr
  dsimp only at hr
  split at hr
  · cases hr
  · split at hr
    · cases hr
    · split at hr
      · cases hr
      · rw [Option.some.injEq] at hr
        exact hr ▸ poolClear_wf hm

theorem legacyTile_wf {c t w h : Nat} {mem : Tab Byte} {m : Mach} {x : BamutTile × Tab Byte × Mach} (hm : Memory.wf mem)
    (hr : legacyTile c t w h mem m = some x) : Memory.wf x.2.1 := by
  rw [legacyTile, Option.bind_eq_some_iff] at hr
  obtain ⟨a, ha, hr⟩ := hr
  rw [Option.bind_eq_some_iff] at hr
  obtain ⟨b, hb, hr⟩ := hr
  rw [Option.map_eq_some_iff] at hr
  obtain ⟨l, -, rfl⟩ := hr
  exact legacyBuf_wf (legacyBuf_wf hm ha) hb

theorem legacyNext_wf {c : Nat} {e : Nat × Nat} {r u : LegacyRes} (hm : Memory.wf r.mem) (hr : legacyNext c e r = some u) :
    Memory.wf u.mem := by
  unfold legacyNext at hr
  split at hr
  · cases hr
  · split at hr
    · cases hr
    · rename_i ht
      rw [Option.some.injEq] at hr
      rw [← hr]
      exact legacyTile_wf hm ht

theorem legacyTiles_wf {c : Nat} {es : List (Nat × Nat)} :
    ∀ {r u : LegacyRes}, Memory.wf r.mem → legacyTiles c es r = some u → Memory.wf u.mem := by
  induction es with
  | nil =>
    intro r u hm hr
    rw [legacyTiles, Option.some.injEq] at hr
    exact hr ▸ hm
  | cons e es ih =>
    intro r u hm hr
    rw [legacyTiles, Option.bind_eq_some_iff] at hr
    obtain ⟨v, h1, h2⟩ := hr
    exact ih (legacyNext_wf hm h1) h2

/-! ### A byte reads back as written -/

theorem poolKey_succ (i off : Nat) : poolKey i (off + 1) = poolKey i off + 1 := (Nat.add_assoc _ _ _).symm

/-- A write leaves every byte outside alone. -/
theorem poolWrite_out {i : Nat} : ∀ {off : Nat} {bs : List Nat} {mem : Tab Byte} {a : Nat},
    a < poolKey i off ∨ poolKey i off + bs.length ≤ a → tget 0 (poolWrite i off bs mem) a = tget 0 mem a
  | _, [], _, _, _ => rfl
  | off, b :: bs, mem, a, ha => by
    rw [List.length_cons] at ha
    rw [poolWrite, poolWrite_out (by rw [poolKey_succ]; omega)]
    exact tget_tput_ne (by omega) mem

/-- The bytes written read as the values given, modulo 256. -/
theorem poolWrite_in {i : Nat} : ∀ {off : Nat} {bs : List Nat} {mem : Tab Byte} {k : Nat}, k < bs.length →
    tget 0 (poolWrite i off bs mem) (poolKey i off + k) = BitVec.ofNat 8 (bs.getD k 0)
  | off, b :: bs, mem, 0, _ => by
    rw [poolWrite, poolWrite_out (by rw [poolKey_succ]; omega)]
    rw [Nat.add_zero, tget_tput_self]
    rfl
  | off, b :: bs, mem, k + 1, hk => by
    rw [List.length_cons] at hk
    have h := poolWrite_in (i := i) (off := off + 1) (bs := bs) (mem := tput 0 mem (poolKey i off) (BitVec.ofNat 8 b)) (k := k) (by omega)
    rw [poolKey_succ, Nat.add_assoc, Nat.add_comm 1 k] at h
    rw [poolWrite, h]
    rfl

end Sys2Proof.Machine
end

