-- ==== Sys2Proof/Laws/Queue.lean ====
section
/-!
SUPPORT. What the arrival of a command does to the queue: nothing waiting is lost; a command that no other precedes stands last, and of
two commands of one cycle the one that the rules take first stands first.
-/

namespace Sys2Proof.Machine

/-- The queue holds the commands that it held, and the new one. -/
theorem arrange_perm (m : Mach) (c : Instr) (q : List Instr) : (arrange m c q).Perm (c :: q) := by
  have h : (q.dropWhile (fun d => !precedes m c d)).Perm
      ((q.dropWhile (fun d => !precedes m c d)).filter (fun d => precedes m d c) ++
        (q.dropWhile (fun d => !precedes m c d)).filter (fun d => !precedes m d c)) :=
    (List.filter_append_perm _ _).symm
  have hq : q.Perm (q.takeWhile (fun d => !precedes m c d) ++ q.dropWhile (fun d => !precedes m c d)) := by
    rw [List.takeWhile_append_dropWhile]
  unfold arrange
  refine List.perm_middle.trans (List.Perm.cons c ?_)
  rw [List.append_assoc]
  exact ((List.Perm.append_left _ h).symm).trans hq.symm

theorem mem_arrange {m : Mach} {c d : Instr} {q : List Instr} : d ∈ arrange m c q ↔ d = c ∨ d ∈ q := by
  rw [(arrange_perm m c q).mem_iff, List.mem_cons]

/-- A command that goes before none of those that wait stands last. -/
theorem arrange_last {m : Mach} {c : Instr} {q : List Instr} (h : ∀ d ∈ q, precedes m c d = false) : arrange m c q = q ++ [c] := by
  have hp : ∀ d ∈ q, (fun d => !precedes m c d) d = true := fun d hd => by simp [h d hd]
  have ht := List.takeWhile_append_of_pos (l₂ := []) hp
  have hd := List.dropWhile_append_of_pos (l₂ := []) hp
  simp only [List.append_nil, List.takeWhile_nil, List.dropWhile_nil] at ht hd
  simp [arrange, ht, hd]

/-- Of two commands, the one that the rules take first stands first, whichever comes first. -/
theorem arrange_pair {m : Mach} {c d : Instr} (h : precedes m c d = true) (h' : precedes m d c = false) :
    arrange m c [d] = [c, d] ∧ arrange m d [c] = [c, d] := by
  simp [arrange, h, h']

/-- A command that is sent while none waits stands alone. -/
@[simp] theorem offer_empty {s : State} (h : s.pending = []) (c : Instr) : (s.offer c).pending = [c] := by
  simp [State.offer, arrange, h]

@[simp] theorem offer_mem (s : State) (c : Instr) : (s.offer c).mem = s.mem := rfl
@[simp] theorem offer_blk (s : State) (c : Instr) : (s.offer c).blk = s.blk := rfl

end Sys2Proof.Machine
end

