-- ==== Sys2Proof/Laws/State.lean ====
section
/-!
SUPPORT. The fields of the block that an update leaves alone, one lemma per field and update; the updates over a register are updates
of the register table.
-/

namespace Sys2Proof.Machine

variable (m : Mach)

/-! ### setReg -/

@[simp] theorem setReg_now (a : Nat) (w : Word) : (setReg a w m).now = m.now := rfl
@[simp] theorem setReg_bornAt (a : Nat) (w : Word) : (setReg a w m).bornAt = m.bornAt := rfl
@[simp] theorem setReg_free (a : Nat) (w : Word) : (setReg a w m).free = m.free := rfl
@[simp] theorem setReg_evAt (a : Nat) (w : Word) : (setReg a w m).evAt = m.evAt := rfl
@[simp] theorem setReg_evs (a : Nat) (w : Word) : (setReg a w m).evs = m.evs := rfl
@[simp] theorem setReg_rdata (a : Nat) (w : Word) : (setReg a w m).rdata = m.rdata := rfl
@[simp] theorem setReg_resuming (a : Nat) (w : Word) : (setReg a w m).resuming = m.resuming := rfl
@[simp] theorem setReg_held (a : Nat) (w : Word) : (setReg a w m).held = m.held := rfl
@[simp] theorem setReg_rr (a : Nat) (w : Word) : (setReg a w m).rr = m.rr := rfl
@[simp] theorem setReg_queues (a : Nat) (w : Word) : (setReg a w m).queues = m.queues := rfl
@[simp] theorem setReg_ctxs (a : Nat) (w : Word) : (setReg a w m).ctxs = m.ctxs := rfl
@[simp] theorem setReg_wait (a : Nat) (w : Word) : (setReg a w m).wait = m.wait := rfl
@[simp] theorem setReg_sent (a : Nat) (w : Word) : (setReg a w m).sent = m.sent := rfl
@[simp] theorem setReg_canTx (a : Nat) (w : Word) : (setReg a w m).canTx = m.canTx := rfl
@[simp] theorem setReg_spiOut (a : Nat) (w : Word) : (setReg a w m).spiOut = m.spiOut := rfl
@[simp] theorem setReg_polls (a : Nat) (w : Word) : (setReg a w m).polls = m.polls := rfl
@[simp] theorem setReg_pends (a : Nat) (w : Word) : (setReg a w m).pends = m.pends := rfl
@[simp] theorem setReg_cpt (a : Nat) (w : Word) : (setReg a w m).cpt = m.cpt := rfl
@[simp] theorem setReg_rx (a : Nat) (w : Word) : (setReg a w m).rx = m.rx := rfl
@[simp] theorem setReg_flt (a : Nat) (w : Word) : (setReg a w m).flt = m.flt := rfl
@[simp] theorem setReg_saf (a : Nat) (w : Word) : (setReg a w m).saf = m.saf := rfl
@[simp] theorem setReg_pwr (a : Nat) (w : Word) : (setReg a w m).pwr = m.pwr := rfl
@[simp] theorem setReg_thm (a : Nat) (w : Word) : (setReg a w m).thm = m.thm := rfl
@[simp] theorem setReg_nvm (a : Nat) (w : Word) : (setReg a w m).nvm = m.nvm := rfl
@[simp] theorem setReg_nvmWas (a : Nat) (w : Word) : (setReg a w m).nvmWas = m.nvmWas := rfl
@[simp] theorem setReg_upd (a : Nat) (w : Word) : (setReg a w m).upd = m.upd := rfl
@[simp] theorem setReg_cvs (a : Nat) (w : Word) : (setReg a w m).cvs = m.cvs := rfl
@[simp] theorem setReg_ports (a : Nat) (w : Word) : (setReg a w m).ports = m.ports := rfl
@[simp] theorem setReg_tx (a : Nat) (w : Word) : (setReg a w m).tx = m.tx := rfl
@[simp] theorem setReg_tiles (a : Nat) (w : Word) : (setReg a w m).tiles = m.tiles := rfl
@[simp] theorem setReg_limpAt (a : Nat) (w : Word) : (setReg a w m).limpAt = m.limpAt := rfl
@[simp] theorem setReg_sigMissed (a : Nat) (w : Word) : (setReg a w m).sigMissed = m.sigMissed := rfl
@[simp] theorem setReg_lampOpen (a : Nat) (w : Word) : (setReg a w m).lampOpen = m.lampOpen := rfl
@[simp] theorem setReg_lampShort (a : Nat) (w : Word) : (setReg a w m).lampShort = m.lampShort := rfl
@[simp] theorem setReg_owners (a : Nat) (w : Word) : (setReg a w m).owners = m.owners := rfl
@[simp] theorem setReg_loops (a : Nat) (w : Word) : (setReg a w m).loops = m.loops := rfl
@[simp] theorem setReg_mots (a : Nat) (w : Word) : (setReg a w m).mots = m.mots := rfl
@[simp] theorem setReg_levelX (a : Nat) (w : Word) : (setReg a w m).levelX = m.levelX := rfl
@[simp] theorem setReg_aim (a : Nat) (w : Word) : (setReg a w m).aim = m.aim := rfl
@[simp] theorem setReg_inject (a : Nat) (w : Word) : (setReg a w m).inject = m.inject := rfl
@[simp] theorem setReg_capture (a : Nat) (w : Word) : (setReg a w m).capture = m.capture := rfl
@[simp] theorem setReg_adcs (a : Nat) (w : Word) : (setReg a w m).adcs = m.adcs := rfl
@[simp] theorem setReg_chn (a : Nat) (w : Word) : (setReg a w m).chn = m.chn := rfl
@[simp] theorem setReg_pix (a : Nat) (w : Word) : (setReg a w m).pix = m.pix := rfl
@[simp] theorem setReg_tickAt (a : Nat) (w : Word) : (setReg a w m).tickAt = m.tickAt := rfl
@[simp] theorem setReg_cal (a : Nat) (w : Word) : (setReg a w m).cal = m.cal := rfl
@[simp] theorem setReg_calAt (a : Nat) (w : Word) : (setReg a w m).calAt = m.calAt := rfl
@[simp] theorem setReg_calTrained (a : Nat) (w : Word) : (setReg a w m).calTrained = m.calTrained := rfl
@[simp] theorem setReg_calEye (a : Nat) (w : Word) : (setReg a w m).calEye = m.calEye := rfl

/-! ### setF -/

@[simp] theorem setF_now (a : Nat) (f : Fld) (v : Nat) : (setF a f v m).now = m.now := rfl
@[simp] theorem setF_bornAt (a : Nat) (f : Fld) (v : Nat) : (setF a f v m).bornAt = m.bornAt := rfl
@[simp] theorem setF_free (a : Nat) (f : Fld) (v : Nat) : (setF a f v m).free = m.free := rfl
@[simp] theorem setF_evAt (a : Nat) (f : Fld) (v : Nat) : (setF a f v m).evAt = m.evAt := rfl
@[simp] theorem setF_evs (a : Nat) (f : Fld) (v : Nat) : (setF a f v m).evs = m.evs := rfl
@[simp] theorem setF_rdata (a : Nat) (f : Fld) (v : Nat) : (setF a f v m).rdata = m.rdata := rfl
@[simp] theorem setF_resuming (a : Nat) (f : Fld) (v : Nat) : (setF a f v m).resuming = m.resuming := rfl
@[simp] theorem setF_held (a : Nat) (f : Fld) (v : Nat) : (setF a f v m).held = m.held := rfl
@[simp] theorem setF_rr (a : Nat) (f : Fld) (v : Nat) : (setF a f v m).rr = m.rr := rfl
@[simp] theorem setF_queues (a : Nat) (f : Fld) (v : Nat) : (setF a f v m).queues = m.queues := rfl
@[simp] theorem setF_ctxs (a : Nat) (f : Fld) (v : Nat) : (setF a f v m).ctxs = m.ctxs := rfl
@[simp] theorem setF_wait (a : Nat) (f : Fld) (v : Nat) : (setF a f v m).wait = m.wait := rfl
@[simp] theorem setF_sent (a : Nat) (f : Fld) (v : Nat) : (setF a f v m).sent = m.sent := rfl
@[simp] theorem setF_canTx (a : Nat) (f : Fld) (v : Nat) : (setF a f v m).canTx = m.canTx := rfl
@[simp] theorem setF_spiOut (a : Nat) (f : Fld) (v : Nat) : (setF a f v m).spiOut = m.spiOut := rfl
@[simp] theorem setF_polls (a : Nat) (f : Fld) (v : Nat) : (setF a f v m).polls = m.polls := rfl
@[simp] theorem setF_pends (a : Nat) (f : Fld) (v : Nat) : (setF a f v m).pends = m.pends := rfl
@[simp] theorem setF_cpt (a : Nat) (f : Fld) (v : Nat) : (setF a f v m).cpt = m.cpt := rfl
@[simp] theorem setF_rx (a : Nat) (f : Fld) (v : Nat) : (setF a f v m).rx = m.rx := rfl
@[simp] theorem setF_flt (a : Nat) (f : Fld) (v : Nat) : (setF a f v m).flt = m.flt := rfl
@[simp] theorem setF_saf (a : Nat) (f : Fld) (v : Nat) : (setF a f v m).saf = m.saf := rfl
@[simp] theorem setF_pwr (a : Nat) (f : Fld) (v : Nat) : (setF a f v m).pwr = m.pwr := rfl
@[simp] theorem setF_thm (a : Nat) (f : Fld) (v : Nat) : (setF a f v m).thm = m.thm := rfl
@[simp] theorem setF_nvm (a : Nat) (f : Fld) (v : Nat) : (setF a f v m).nvm = m.nvm := rfl
@[simp] theorem setF_nvmWas (a : Nat) (f : Fld) (v : Nat) : (setF a f v m).nvmWas = m.nvmWas := rfl
@[simp] theorem setF_upd (a : Nat) (f : Fld) (v : Nat) : (setF a f v m).upd = m.upd := rfl
@[simp] theorem setF_cvs (a : Nat) (f : Fld) (v : Nat) : (setF a f v m).cvs = m.cvs := rfl
@[simp] theorem setF_ports (a : Nat) (f : Fld) (v : Nat) : (setF a f v m).ports = m.ports := rfl
@[simp] theorem setF_tx (a : Nat) (f : Fld) (v : Nat) : (setF a f v m).tx = m.tx := rfl
@[simp] theorem setF_tiles (a : Nat) (f : Fld) (v : Nat) : (setF a f v m).tiles = m.tiles := rfl
@[simp] theorem setF_limpAt (a : Nat) (f : Fld) (v : Nat) : (setF a f v m).limpAt = m.limpAt := rfl
@[simp] theorem setF_sigMissed (a : Nat) (f : Fld) (v : Nat) : (setF a f v m).sigMissed = m.sigMissed := rfl
@[simp] theorem setF_lampOpen (a : Nat) (f : Fld) (v : Nat) : (setF a f v m).lampOpen = m.lampOpen := rfl
@[simp] theorem setF_lampShort (a : Nat) (f : Fld) (v : Nat) : (setF a f v m).lampShort = m.lampShort := rfl
@[simp] theorem setF_owners (a : Nat) (f : Fld) (v : Nat) : (setF a f v m).owners = m.owners := rfl
@[simp] theorem setF_loops (a : Nat) (f : Fld) (v : Nat) : (setF a f v m).loops = m.loops := rfl
@[simp] theorem setF_mots (a : Nat) (f : Fld) (v : Nat) : (setF a f v m).mots = m.mots := rfl
@[simp] theorem setF_levelX (a : Nat) (f : Fld) (v : Nat) : (setF a f v m).levelX = m.levelX := rfl
@[simp] theorem setF_aim (a : Nat) (f : Fld) (v : Nat) : (setF a f v m).aim = m.aim := rfl
@[simp] theorem setF_inject (a : Nat) (f : Fld) (v : Nat) : (setF a f v m).inject = m.inject := rfl
@[simp] theorem setF_capture (a : Nat) (f : Fld) (v : Nat) : (setF a f v m).capture = m.capture := rfl
@[simp] theorem setF_adcs (a : Nat) (f : Fld) (v : Nat) : (setF a f v m).adcs = m.adcs := rfl
@[simp] theorem setF_chn (a : Nat) (f : Fld) (v : Nat) : (setF a f v m).chn = m.chn := rfl
@[simp] theorem setF_pix (a : Nat) (f : Fld) (v : Nat) : (setF a f v m).pix = m.pix := rfl
@[simp] theorem setF_tickAt (a : Nat) (f : Fld) (v : Nat) : (setF a f v m).tickAt = m.tickAt := rfl
@[simp] theorem setF_cal (a : Nat) (f : Fld) (v : Nat) : (setF a f v m).cal = m.cal := rfl
@[simp] theorem setF_calAt (a : Nat) (f : Fld) (v : Nat) : (setF a f v m).calAt = m.calAt := rfl
@[simp] theorem setF_calTrained (a : Nat) (f : Fld) (v : Nat) : (setF a f v m).calTrained = m.calTrained := rfl
@[simp] theorem setF_calEye (a : Nat) (f : Fld) (v : Nat) : (setF a f v m).calEye = m.calEye := rfl

/-! ### setB -/

@[simp] theorem setB_now (a : Nat) (f : Fld) (b : Bool) : (setB a f b m).now = m.now := rfl
@[simp] theorem setB_bornAt (a : Nat) (f : Fld) (b : Bool) : (setB a f b m).bornAt = m.bornAt := rfl
@[simp] theorem setB_free (a : Nat) (f : Fld) (b : Bool) : (setB a f b m).free = m.free := rfl
@[simp] theorem setB_evAt (a : Nat) (f : Fld) (b : Bool) : (setB a f b m).evAt = m.evAt := rfl
@[simp] theorem setB_evs (a : Nat) (f : Fld) (b : Bool) : (setB a f b m).evs = m.evs := rfl
@[simp] theorem setB_rdata (a : Nat) (f : Fld) (b : Bool) : (setB a f b m).rdata = m.rdata := rfl
@[simp] theorem setB_resuming (a : Nat) (f : Fld) (b : Bool) : (setB a f b m).resuming = m.resuming := rfl
@[simp] theorem setB_held (a : Nat) (f : Fld) (b : Bool) : (setB a f b m).held = m.held := rfl
@[simp] theorem setB_rr (a : Nat) (f : Fld) (b : Bool) : (setB a f b m).rr = m.rr := rfl
@[simp] theorem setB_queues (a : Nat) (f : Fld) (b : Bool) : (setB a f b m).queues = m.queues := rfl
@[simp] theorem setB_ctxs (a : Nat) (f : Fld) (b : Bool) : (setB a f b m).ctxs = m.ctxs := rfl
@[simp] theorem setB_wait (a : Nat) (f : Fld) (b : Bool) : (setB a f b m).wait = m.wait := rfl
@[simp] theorem setB_sent (a : Nat) (f : Fld) (b : Bool) : (setB a f b m).sent = m.sent := rfl
@[simp] theorem setB_canTx (a : Nat) (f : Fld) (b : Bool) : (setB a f b m).canTx = m.canTx := rfl
@[simp] theorem setB_spiOut (a : Nat) (f : Fld) (b : Bool) : (setB a f b m).spiOut = m.spiOut := rfl
@[simp] theorem setB_polls (a : Nat) (f : Fld) (b : Bool) : (setB a f b m).polls = m.polls := rfl
@[simp] theorem setB_pends (a : Nat) (f : Fld) (b : Bool) : (setB a f b m).pends = m.pends := rfl
@[simp] theorem setB_cpt (a : Nat) (f : Fld) (b : Bool) : (setB a f b m).cpt = m.cpt := rfl
@[simp] theorem setB_rx (a : Nat) (f : Fld) (b : Bool) : (setB a f b m).rx = m.rx := rfl
@[simp] theorem setB_flt (a : Nat) (f : Fld) (b : Bool) : (setB a f b m).flt = m.flt := rfl
@[simp] theorem setB_saf (a : Nat) (f : Fld) (b : Bool) : (setB a f b m).saf = m.saf := rfl
@[simp] theorem setB_pwr (a : Nat) (f : Fld) (b : Bool) : (setB a f b m).pwr = m.pwr := rfl
@[simp] theorem setB_thm (a : Nat) (f : Fld) (b : Bool) : (setB a f b m).thm = m.thm := rfl
@[simp] theorem setB_nvm (a : Nat) (f : Fld) (b : Bool) : (setB a f b m).nvm = m.nvm := rfl
@[simp] theorem setB_nvmWas (a : Nat) (f : Fld) (b : Bool) : (setB a f b m).nvmWas = m.nvmWas := rfl
@[simp] theorem setB_upd (a : Nat) (f : Fld) (b : Bool) : (setB a f b m).upd = m.upd := rfl
@[simp] theorem setB_cvs (a : Nat) (f : Fld) (b : Bool) : (setB a f b m).cvs = m.cvs := rfl
@[simp] theorem setB_ports (a : Nat) (f : Fld) (b : Bool) : (setB a f b m).ports = m.ports := rfl
@[simp] theorem setB_tx (a : Nat) (f : Fld) (b : Bool) : (setB a f b m).tx = m.tx := rfl
@[simp] theorem setB_tiles (a : Nat) (f : Fld) (b : Bool) : (setB a f b m).tiles = m.tiles := rfl
@[simp] theorem setB_limpAt (a : Nat) (f : Fld) (b : Bool) : (setB a f b m).limpAt = m.limpAt := rfl
@[simp] theorem setB_sigMissed (a : Nat) (f : Fld) (b : Bool) : (setB a f b m).sigMissed = m.sigMissed := rfl
@[simp] theorem setB_lampOpen (a : Nat) (f : Fld) (b : Bool) : (setB a f b m).lampOpen = m.lampOpen := rfl
@[simp] theorem setB_lampShort (a : Nat) (f : Fld) (b : Bool) : (setB a f b m).lampShort = m.lampShort := rfl
@[simp] theorem setB_owners (a : Nat) (f : Fld) (b : Bool) : (setB a f b m).owners = m.owners := rfl
@[simp] theorem setB_loops (a : Nat) (f : Fld) (b : Bool) : (setB a f b m).loops = m.loops := rfl
@[simp] theorem setB_mots (a : Nat) (f : Fld) (b : Bool) : (setB a f b m).mots = m.mots := rfl
@[simp] theorem setB_levelX (a : Nat) (f : Fld) (b : Bool) : (setB a f b m).levelX = m.levelX := rfl
@[simp] theorem setB_aim (a : Nat) (f : Fld) (b : Bool) : (setB a f b m).aim = m.aim := rfl
@[simp] theorem setB_inject (a : Nat) (f : Fld) (b : Bool) : (setB a f b m).inject = m.inject := rfl
@[simp] theorem setB_capture (a : Nat) (f : Fld) (b : Bool) : (setB a f b m).capture = m.capture := rfl
@[simp] theorem setB_adcs (a : Nat) (f : Fld) (b : Bool) : (setB a f b m).adcs = m.adcs := rfl
@[simp] theorem setB_chn (a : Nat) (f : Fld) (b : Bool) : (setB a f b m).chn = m.chn := rfl
@[simp] theorem setB_pix (a : Nat) (f : Fld) (b : Bool) : (setB a f b m).pix = m.pix := rfl
@[simp] theorem setB_tickAt (a : Nat) (f : Fld) (b : Bool) : (setB a f b m).tickAt = m.tickAt := rfl
@[simp] theorem setB_cal (a : Nat) (f : Fld) (b : Bool) : (setB a f b m).cal = m.cal := rfl
@[simp] theorem setB_calAt (a : Nat) (f : Fld) (b : Bool) : (setB a f b m).calAt = m.calAt := rfl
@[simp] theorem setB_calTrained (a : Nat) (f : Fld) (b : Bool) : (setB a f b m).calTrained = m.calTrained := rfl
@[simp] theorem setB_calEye (a : Nat) (f : Fld) (b : Bool) : (setB a f b m).calEye = m.calEye := rfl

/-! ### bumpBy -/

@[simp] theorem bumpBy_now (v a : Nat) (f : Fld) : (bumpBy v a f m).now = m.now := rfl
@[simp] theorem bumpBy_bornAt (v a : Nat) (f : Fld) : (bumpBy v a f m).bornAt = m.bornAt := rfl
@[simp] theorem bumpBy_free (v a : Nat) (f : Fld) : (bumpBy v a f m).free = m.free := rfl
@[simp] theorem bumpBy_rdata (v a : Nat) (f : Fld) : (bumpBy v a f m).rdata = m.rdata := rfl
@[simp] theorem bumpBy_resuming (v a : Nat) (f : Fld) : (bumpBy v a f m).resuming = m.resuming := rfl
@[simp] theorem bumpBy_held (v a : Nat) (f : Fld) : (bumpBy v a f m).held = m.held := rfl
@[simp] theorem bumpBy_rr (v a : Nat) (f : Fld) : (bumpBy v a f m).rr = m.rr := rfl
@[simp] theorem bumpBy_queues (v a : Nat) (f : Fld) : (bumpBy v a f m).queues = m.queues := rfl
@[simp] theorem bumpBy_ctxs (v a : Nat) (f : Fld) : (bumpBy v a f m).ctxs = m.ctxs := rfl
@[simp] theorem bumpBy_wait (v a : Nat) (f : Fld) : (bumpBy v a f m).wait = m.wait := rfl
@[simp] theorem bumpBy_sent (v a : Nat) (f : Fld) : (bumpBy v a f m).sent = m.sent := rfl
@[simp] theorem bumpBy_canTx (v a : Nat) (f : Fld) : (bumpBy v a f m).canTx = m.canTx := rfl
@[simp] theorem bumpBy_spiOut (v a : Nat) (f : Fld) : (bumpBy v a f m).spiOut = m.spiOut := rfl
@[simp] theorem bumpBy_polls (v a : Nat) (f : Fld) : (bumpBy v a f m).polls = m.polls := rfl
@[simp] theorem bumpBy_pends (v a : Nat) (f : Fld) : (bumpBy v a f m).pends = m.pends := rfl
@[simp] theorem bumpBy_cpt (v a : Nat) (f : Fld) : (bumpBy v a f m).cpt = m.cpt := rfl
@[simp] theorem bumpBy_rx (v a : Nat) (f : Fld) : (bumpBy v a f m).rx = m.rx := rfl
@[simp] theorem bumpBy_flt (v a : Nat) (f : Fld) : (bumpBy v a f m).flt = m.flt := rfl
@[simp] theorem bumpBy_saf (v a : Nat) (f : Fld) : (bumpBy v a f m).saf = m.saf := rfl
@[simp] theorem bumpBy_pwr (v a : Nat) (f : Fld) : (bumpBy v a f m).pwr = m.pwr := rfl
@[simp] theorem bumpBy_thm (v a : Nat) (f : Fld) : (bumpBy v a f m).thm = m.thm := rfl
@[simp] theorem bumpBy_nvm (v a : Nat) (f : Fld) : (bumpBy v a f m).nvm = m.nvm := rfl
@[simp] theorem bumpBy_nvmWas (v a : Nat) (f : Fld) : (bumpBy v a f m).nvmWas = m.nvmWas := rfl
@[simp] theorem bumpBy_upd (v a : Nat) (f : Fld) : (bumpBy v a f m).upd = m.upd := rfl
@[simp] theorem bumpBy_cvs (v a : Nat) (f : Fld) : (bumpBy v a f m).cvs = m.cvs := rfl
@[simp] theorem bumpBy_ports (v a : Nat) (f : Fld) : (bumpBy v a f m).ports = m.ports := rfl
@[simp] theorem bumpBy_tx (v a : Nat) (f : Fld) : (bumpBy v a f m).tx = m.tx := rfl
@[simp] theorem bumpBy_tiles (v a : Nat) (f : Fld) : (bumpBy v a f m).tiles = m.tiles := rfl
@[simp] theorem bumpBy_limpAt (v a : Nat) (f : Fld) : (bumpBy v a f m).limpAt = m.limpAt := rfl
@[simp] theorem bumpBy_sigMissed (v a : Nat) (f : Fld) : (bumpBy v a f m).sigMissed = m.sigMissed := rfl
@[simp] theorem bumpBy_lampOpen (v a : Nat) (f : Fld) : (bumpBy v a f m).lampOpen = m.lampOpen := rfl
@[simp] theorem bumpBy_lampShort (v a : Nat) (f : Fld) : (bumpBy v a f m).lampShort = m.lampShort := rfl
@[simp] theorem bumpBy_owners (v a : Nat) (f : Fld) : (bumpBy v a f m).owners = m.owners := rfl
@[simp] theorem bumpBy_loops (v a : Nat) (f : Fld) : (bumpBy v a f m).loops = m.loops := rfl
@[simp] theorem bumpBy_mots (v a : Nat) (f : Fld) : (bumpBy v a f m).mots = m.mots := rfl
@[simp] theorem bumpBy_levelX (v a : Nat) (f : Fld) : (bumpBy v a f m).levelX = m.levelX := rfl
@[simp] theorem bumpBy_aim (v a : Nat) (f : Fld) : (bumpBy v a f m).aim = m.aim := rfl
@[simp] theorem bumpBy_inject (v a : Nat) (f : Fld) : (bumpBy v a f m).inject = m.inject := rfl
@[simp] theorem bumpBy_capture (v a : Nat) (f : Fld) : (bumpBy v a f m).capture = m.capture := rfl
@[simp] theorem bumpBy_adcs (v a : Nat) (f : Fld) : (bumpBy v a f m).adcs = m.adcs := rfl
@[simp] theorem bumpBy_chn (v a : Nat) (f : Fld) : (bumpBy v a f m).chn = m.chn := rfl
@[simp] theorem bumpBy_pix (v a : Nat) (f : Fld) : (bumpBy v a f m).pix = m.pix := rfl
@[simp] theorem bumpBy_tickAt (v a : Nat) (f : Fld) : (bumpBy v a f m).tickAt = m.tickAt := rfl
@[simp] theorem bumpBy_cal (v a : Nat) (f : Fld) : (bumpBy v a f m).cal = m.cal := rfl
@[simp] theorem bumpBy_calAt (v a : Nat) (f : Fld) : (bumpBy v a f m).calAt = m.calAt := rfl
@[simp] theorem bumpBy_calTrained (v a : Nat) (f : Fld) : (bumpBy v a f m).calTrained = m.calTrained := rfl
@[simp] theorem bumpBy_calEye (v a : Nat) (f : Fld) : (bumpBy v a f m).calEye = m.calEye := rfl

/-! ### bump -/

@[simp] theorem bump_now (a : Nat) (f : Fld) : (bump a f m).now = m.now := rfl
@[simp] theorem bump_bornAt (a : Nat) (f : Fld) : (bump a f m).bornAt = m.bornAt := rfl
@[simp] theorem bump_free (a : Nat) (f : Fld) : (bump a f m).free = m.free := rfl
@[simp] theorem bump_rdata (a : Nat) (f : Fld) : (bump a f m).rdata = m.rdata := rfl
@[simp] theorem bump_resuming (a : Nat) (f : Fld) : (bump a f m).resuming = m.resuming := rfl
@[simp] theorem bump_held (a : Nat) (f : Fld) : (bump a f m).held = m.held := rfl
@[simp] theorem bump_rr (a : Nat) (f : Fld) : (bump a f m).rr = m.rr := rfl
@[simp] theorem bump_queues (a : Nat) (f : Fld) : (bump a f m).queues = m.queues := rfl
@[simp] theorem bump_ctxs (a : Nat) (f : Fld) : (bump a f m).ctxs = m.ctxs := rfl
@[simp] theorem bump_wait (a : Nat) (f : Fld) : (bump a f m).wait = m.wait := rfl
@[simp] theorem bump_sent (a : Nat) (f : Fld) : (bump a f m).sent = m.sent := rfl
@[simp] theorem bump_canTx (a : Nat) (f : Fld) : (bump a f m).canTx = m.canTx := rfl
@[simp] theorem bump_spiOut (a : Nat) (f : Fld) : (bump a f m).spiOut = m.spiOut := rfl
@[simp] theorem bump_polls (a : Nat) (f : Fld) : (bump a f m).polls = m.polls := rfl
@[simp] theorem bump_pends (a : Nat) (f : Fld) : (bump a f m).pends = m.pends := rfl
@[simp] theorem bump_cpt (a : Nat) (f : Fld) : (bump a f m).cpt = m.cpt := rfl
@[simp] theorem bump_rx (a : Nat) (f : Fld) : (bump a f m).rx = m.rx := rfl
@[simp] theorem bump_flt (a : Nat) (f : Fld) : (bump a f m).flt = m.flt := rfl
@[simp] theorem bump_saf (a : Nat) (f : Fld) : (bump a f m).saf = m.saf := rfl
@[simp] theorem bump_pwr (a : Nat) (f : Fld) : (bump a f m).pwr = m.pwr := rfl
@[simp] theorem bump_thm (a : Nat) (f : Fld) : (bump a f m).thm = m.thm := rfl
@[simp] theorem bump_nvm (a : Nat) (f : Fld) : (bump a f m).nvm = m.nvm := rfl
@[simp] theorem bump_nvmWas (a : Nat) (f : Fld) : (bump a f m).nvmWas = m.nvmWas := rfl
@[simp] theorem bump_upd (a : Nat) (f : Fld) : (bump a f m).upd = m.upd := rfl
@[simp] theorem bump_cvs (a : Nat) (f : Fld) : (bump a f m).cvs = m.cvs := rfl
@[simp] theorem bump_ports (a : Nat) (f : Fld) : (bump a f m).ports = m.ports := rfl
@[simp] theorem bump_tx (a : Nat) (f : Fld) : (bump a f m).tx = m.tx := rfl
@[simp] theorem bump_tiles (a : Nat) (f : Fld) : (bump a f m).tiles = m.tiles := rfl
@[simp] theorem bump_limpAt (a : Nat) (f : Fld) : (bump a f m).limpAt = m.limpAt := rfl
@[simp] theorem bump_sigMissed (a : Nat) (f : Fld) : (bump a f m).sigMissed = m.sigMissed := rfl
@[simp] theorem bump_lampOpen (a : Nat) (f : Fld) : (bump a f m).lampOpen = m.lampOpen := rfl
@[simp] theorem bump_lampShort (a : Nat) (f : Fld) : (bump a f m).lampShort = m.lampShort := rfl
@[simp] theorem bump_owners (a : Nat) (f : Fld) : (bump a f m).owners = m.owners := rfl
@[simp] theorem bump_loops (a : Nat) (f : Fld) : (bump a f m).loops = m.loops := rfl
@[simp] theorem bump_mots (a : Nat) (f : Fld) : (bump a f m).mots = m.mots := rfl
@[simp] theorem bump_levelX (a : Nat) (f : Fld) : (bump a f m).levelX = m.levelX := rfl
@[simp] theorem bump_aim (a : Nat) (f : Fld) : (bump a f m).aim = m.aim := rfl
@[simp] theorem bump_inject (a : Nat) (f : Fld) : (bump a f m).inject = m.inject := rfl
@[simp] theorem bump_capture (a : Nat) (f : Fld) : (bump a f m).capture = m.capture := rfl
@[simp] theorem bump_adcs (a : Nat) (f : Fld) : (bump a f m).adcs = m.adcs := rfl
@[simp] theorem bump_chn (a : Nat) (f : Fld) : (bump a f m).chn = m.chn := rfl
@[simp] theorem bump_pix (a : Nat) (f : Fld) : (bump a f m).pix = m.pix := rfl
@[simp] theorem bump_tickAt (a : Nat) (f : Fld) : (bump a f m).tickAt = m.tickAt := rfl
@[simp] theorem bump_cal (a : Nat) (f : Fld) : (bump a f m).cal = m.cal := rfl
@[simp] theorem bump_calAt (a : Nat) (f : Fld) : (bump a f m).calAt = m.calAt := rfl
@[simp] theorem bump_calTrained (a : Nat) (f : Fld) : (bump a f m).calTrained = m.calTrained := rfl
@[simp] theorem bump_calEye (a : Nat) (f : Fld) : (bump a f m).calEye = m.calEye := rfl

/-! ### clearReg -/

@[simp] theorem clearReg_now (a : Nat) : (clearReg a m).now = m.now := rfl
@[simp] theorem clearReg_bornAt (a : Nat) : (clearReg a m).bornAt = m.bornAt := rfl
@[simp] theorem clearReg_free (a : Nat) : (clearReg a m).free = m.free := rfl
@[simp] theorem clearReg_evAt (a : Nat) : (clearReg a m).evAt = m.evAt := rfl
@[simp] theorem clearReg_evs (a : Nat) : (clearReg a m).evs = m.evs := rfl
@[simp] theorem clearReg_rdata (a : Nat) : (clearReg a m).rdata = m.rdata := rfl
@[simp] theorem clearReg_resuming (a : Nat) : (clearReg a m).resuming = m.resuming := rfl
@[simp] theorem clearReg_held (a : Nat) : (clearReg a m).held = m.held := rfl
@[simp] theorem clearReg_rr (a : Nat) : (clearReg a m).rr = m.rr := rfl
@[simp] theorem clearReg_queues (a : Nat) : (clearReg a m).queues = m.queues := rfl
@[simp] theorem clearReg_ctxs (a : Nat) : (clearReg a m).ctxs = m.ctxs := rfl
@[simp] theorem clearReg_wait (a : Nat) : (clearReg a m).wait = m.wait := rfl
@[simp] theorem clearReg_sent (a : Nat) : (clearReg a m).sent = m.sent := rfl
@[simp] theorem clearReg_canTx (a : Nat) : (clearReg a m).canTx = m.canTx := rfl
@[simp] theorem clearReg_spiOut (a : Nat) : (clearReg a m).spiOut = m.spiOut := rfl
@[simp] theorem clearReg_polls (a : Nat) : (clearReg a m).polls = m.polls := rfl
@[simp] theorem clearReg_pends (a : Nat) : (clearReg a m).pends = m.pends := rfl
@[simp] theorem clearReg_cpt (a : Nat) : (clearReg a m).cpt = m.cpt := rfl
@[simp] theorem clearReg_rx (a : Nat) : (clearReg a m).rx = m.rx := rfl
@[simp] theorem clearReg_flt (a : Nat) : (clearReg a m).flt = m.flt := rfl
@[simp] theorem clearReg_saf (a : Nat) : (clearReg a m).saf = m.saf := rfl
@[simp] theorem clearReg_pwr (a : Nat) : (clearReg a m).pwr = m.pwr := rfl
@[simp] theorem clearReg_thm (a : Nat) : (clearReg a m).thm = m.thm := rfl
@[simp] theorem clearReg_nvm (a : Nat) : (clearReg a m).nvm = m.nvm := rfl
@[simp] theorem clearReg_nvmWas (a : Nat) : (clearReg a m).nvmWas = m.nvmWas := rfl
@[simp] theorem clearReg_upd (a : Nat) : (clearReg a m).upd = m.upd := rfl
@[simp] theorem clearReg_cvs (a : Nat) : (clearReg a m).cvs = m.cvs := rfl
@[simp] theorem clearReg_ports (a : Nat) : (clearReg a m).ports = m.ports := rfl
@[simp] theorem clearReg_tx (a : Nat) : (clearReg a m).tx = m.tx := rfl
@[simp] theorem clearReg_tiles (a : Nat) : (clearReg a m).tiles = m.tiles := rfl
@[simp] theorem clearReg_limpAt (a : Nat) : (clearReg a m).limpAt = m.limpAt := rfl
@[simp] theorem clearReg_sigMissed (a : Nat) : (clearReg a m).sigMissed = m.sigMissed := rfl
@[simp] theorem clearReg_lampOpen (a : Nat) : (clearReg a m).lampOpen = m.lampOpen := rfl
@[simp] theorem clearReg_lampShort (a : Nat) : (clearReg a m).lampShort = m.lampShort := rfl
@[simp] theorem clearReg_owners (a : Nat) : (clearReg a m).owners = m.owners := rfl
@[simp] theorem clearReg_loops (a : Nat) : (clearReg a m).loops = m.loops := rfl
@[simp] theorem clearReg_mots (a : Nat) : (clearReg a m).mots = m.mots := rfl
@[simp] theorem clearReg_levelX (a : Nat) : (clearReg a m).levelX = m.levelX := rfl
@[simp] theorem clearReg_aim (a : Nat) : (clearReg a m).aim = m.aim := rfl
@[simp] theorem clearReg_inject (a : Nat) : (clearReg a m).inject = m.inject := rfl
@[simp] theorem clearReg_capture (a : Nat) : (clearReg a m).capture = m.capture := rfl
@[simp] theorem clearReg_adcs (a : Nat) : (clearReg a m).adcs = m.adcs := rfl
@[simp] theorem clearReg_chn (a : Nat) : (clearReg a m).chn = m.chn := rfl
@[simp] theorem clearReg_pix (a : Nat) : (clearReg a m).pix = m.pix := rfl
@[simp] theorem clearReg_tickAt (a : Nat) : (clearReg a m).tickAt = m.tickAt := rfl
@[simp] theorem clearReg_cal (a : Nat) : (clearReg a m).cal = m.cal := rfl
@[simp] theorem clearReg_calAt (a : Nat) : (clearReg a m).calAt = m.calAt := rfl
@[simp] theorem clearReg_calTrained (a : Nat) : (clearReg a m).calTrained = m.calTrained := rfl
@[simp] theorem clearReg_calEye (a : Nat) : (clearReg a m).calEye = m.calEye := rfl

/-! ### setQueue -/

@[simp] theorem setQueue_now (a v : Nat) (q : QueueRec) : (setQueue a v q m).now = m.now := rfl
@[simp] theorem setQueue_bornAt (a v : Nat) (q : QueueRec) : (setQueue a v q m).bornAt = m.bornAt := rfl
@[simp] theorem setQueue_free (a v : Nat) (q : QueueRec) : (setQueue a v q m).free = m.free := rfl
@[simp] theorem setQueue_regs (a v : Nat) (q : QueueRec) : (setQueue a v q m).regs = m.regs := rfl
@[simp] theorem setQueue_evAt (a v : Nat) (q : QueueRec) : (setQueue a v q m).evAt = m.evAt := rfl
@[simp] theorem setQueue_evs (a v : Nat) (q : QueueRec) : (setQueue a v q m).evs = m.evs := rfl
@[simp] theorem setQueue_rdata (a v : Nat) (q : QueueRec) : (setQueue a v q m).rdata = m.rdata := rfl
@[simp] theorem setQueue_resuming (a v : Nat) (q : QueueRec) : (setQueue a v q m).resuming = m.resuming := rfl
@[simp] theorem setQueue_held (a v : Nat) (q : QueueRec) : (setQueue a v q m).held = m.held := rfl
@[simp] theorem setQueue_rr (a v : Nat) (q : QueueRec) : (setQueue a v q m).rr = m.rr := rfl
@[simp] theorem setQueue_ctxs (a v : Nat) (q : QueueRec) : (setQueue a v q m).ctxs = m.ctxs := rfl
@[simp] theorem setQueue_wait (a v : Nat) (q : QueueRec) : (setQueue a v q m).wait = m.wait := rfl
@[simp] theorem setQueue_sent (a v : Nat) (q : QueueRec) : (setQueue a v q m).sent = m.sent := rfl
@[simp] theorem setQueue_canTx (a v : Nat) (q : QueueRec) : (setQueue a v q m).canTx = m.canTx := rfl
@[simp] theorem setQueue_spiOut (a v : Nat) (q : QueueRec) : (setQueue a v q m).spiOut = m.spiOut := rfl
@[simp] theorem setQueue_polls (a v : Nat) (q : QueueRec) : (setQueue a v q m).polls = m.polls := rfl
@[simp] theorem setQueue_pends (a v : Nat) (q : QueueRec) : (setQueue a v q m).pends = m.pends := rfl
@[simp] theorem setQueue_cpt (a v : Nat) (q : QueueRec) : (setQueue a v q m).cpt = m.cpt := rfl
@[simp] theorem setQueue_rx (a v : Nat) (q : QueueRec) : (setQueue a v q m).rx = m.rx := rfl
@[simp] theorem setQueue_flt (a v : Nat) (q : QueueRec) : (setQueue a v q m).flt = m.flt := rfl
@[simp] theorem setQueue_saf (a v : Nat) (q : QueueRec) : (setQueue a v q m).saf = m.saf := rfl
@[simp] theorem setQueue_pwr (a v : Nat) (q : QueueRec) : (setQueue a v q m).pwr = m.pwr := rfl
@[simp] theorem setQueue_thm (a v : Nat) (q : QueueRec) : (setQueue a v q m).thm = m.thm := rfl
@[simp] theorem setQueue_nvm (a v : Nat) (q : QueueRec) : (setQueue a v q m).nvm = m.nvm := rfl
@[simp] theorem setQueue_nvmWas (a v : Nat) (q : QueueRec) : (setQueue a v q m).nvmWas = m.nvmWas := rfl
@[simp] theorem setQueue_upd (a v : Nat) (q : QueueRec) : (setQueue a v q m).upd = m.upd := rfl
@[simp] theorem setQueue_cvs (a v : Nat) (q : QueueRec) : (setQueue a v q m).cvs = m.cvs := rfl
@[simp] theorem setQueue_ports (a v : Nat) (q : QueueRec) : (setQueue a v q m).ports = m.ports := rfl
@[simp] theorem setQueue_tx (a v : Nat) (q : QueueRec) : (setQueue a v q m).tx = m.tx := rfl
@[simp] theorem setQueue_tiles (a v : Nat) (q : QueueRec) : (setQueue a v q m).tiles = m.tiles := rfl
@[simp] theorem setQueue_limpAt (a v : Nat) (q : QueueRec) : (setQueue a v q m).limpAt = m.limpAt := rfl
@[simp] theorem setQueue_sigMissed (a v : Nat) (q : QueueRec) : (setQueue a v q m).sigMissed = m.sigMissed := rfl
@[simp] theorem setQueue_lampOpen (a v : Nat) (q : QueueRec) : (setQueue a v q m).lampOpen = m.lampOpen := rfl
@[simp] theorem setQueue_lampShort (a v : Nat) (q : QueueRec) : (setQueue a v q m).lampShort = m.lampShort := rfl
@[simp] theorem setQueue_owners (a v : Nat) (q : QueueRec) : (setQueue a v q m).owners = m.owners := rfl
@[simp] theorem setQueue_loops (a v : Nat) (q : QueueRec) : (setQueue a v q m).loops = m.loops := rfl
@[simp] theorem setQueue_mots (a v : Nat) (q : QueueRec) : (setQueue a v q m).mots = m.mots := rfl
@[simp] theorem setQueue_levelX (a v : Nat) (q : QueueRec) : (setQueue a v q m).levelX = m.levelX := rfl
@[simp] theorem setQueue_aim (a v : Nat) (q : QueueRec) : (setQueue a v q m).aim = m.aim := rfl
@[simp] theorem setQueue_inject (a v : Nat) (q : QueueRec) : (setQueue a v q m).inject = m.inject := rfl
@[simp] theorem setQueue_capture (a v : Nat) (q : QueueRec) : (setQueue a v q m).capture = m.capture := rfl
@[simp] theorem setQueue_adcs (a v : Nat) (q : QueueRec) : (setQueue a v q m).adcs = m.adcs := rfl
@[simp] theorem setQueue_chn (a v : Nat) (q : QueueRec) : (setQueue a v q m).chn = m.chn := rfl
@[simp] theorem setQueue_pix (a v : Nat) (q : QueueRec) : (setQueue a v q m).pix = m.pix := rfl
@[simp] theorem setQueue_tickAt (a v : Nat) (q : QueueRec) : (setQueue a v q m).tickAt = m.tickAt := rfl
@[simp] theorem setQueue_cal (a v : Nat) (q : QueueRec) : (setQueue a v q m).cal = m.cal := rfl
@[simp] theorem setQueue_calAt (a v : Nat) (q : QueueRec) : (setQueue a v q m).calAt = m.calAt := rfl
@[simp] theorem setQueue_calTrained (a v : Nat) (q : QueueRec) : (setQueue a v q m).calTrained = m.calTrained := rfl
@[simp] theorem setQueue_calEye (a v : Nat) (q : QueueRec) : (setQueue a v q m).calEye = m.calEye := rfl

/-! ### setCtx -/

@[simp] theorem setCtx_now (a : Nat) (q : CtxRec) : (setCtx a q m).now = m.now := rfl
@[simp] theorem setCtx_bornAt (a : Nat) (q : CtxRec) : (setCtx a q m).bornAt = m.bornAt := rfl
@[simp] theorem setCtx_free (a : Nat) (q : CtxRec) : (setCtx a q m).free = m.free := rfl
@[simp] theorem setCtx_regs (a : Nat) (q : CtxRec) : (setCtx a q m).regs = m.regs := rfl
@[simp] theorem setCtx_evAt (a : Nat) (q : CtxRec) : (setCtx a q m).evAt = m.evAt := rfl
@[simp] theorem setCtx_evs (a : Nat) (q : CtxRec) : (setCtx a q m).evs = m.evs := rfl
@[simp] theorem setCtx_rdata (a : Nat) (q : CtxRec) : (setCtx a q m).rdata = m.rdata := rfl
@[simp] theorem setCtx_resuming (a : Nat) (q : CtxRec) : (setCtx a q m).resuming = m.resuming := rfl
@[simp] theorem setCtx_held (a : Nat) (q : CtxRec) : (setCtx a q m).held = m.held := rfl
@[simp] theorem setCtx_rr (a : Nat) (q : CtxRec) : (setCtx a q m).rr = m.rr := rfl
@[simp] theorem setCtx_queues (a : Nat) (q : CtxRec) : (setCtx a q m).queues = m.queues := rfl
@[simp] theorem setCtx_wait (a : Nat) (q : CtxRec) : (setCtx a q m).wait = m.wait := rfl
@[simp] theorem setCtx_sent (a : Nat) (q : CtxRec) : (setCtx a q m).sent = m.sent := rfl
@[simp] theorem setCtx_canTx (a : Nat) (q : CtxRec) : (setCtx a q m).canTx = m.canTx := rfl
@[simp] theorem setCtx_spiOut (a : Nat) (q : CtxRec) : (setCtx a q m).spiOut = m.spiOut := rfl
@[simp] theorem setCtx_polls (a : Nat) (q : CtxRec) : (setCtx a q m).polls = m.polls := rfl
@[simp] theorem setCtx_pends (a : Nat) (q : CtxRec) : (setCtx a q m).pends = m.pends := rfl
@[simp] theorem setCtx_cpt (a : Nat) (q : CtxRec) : (setCtx a q m).cpt = m.cpt := rfl
@[simp] theorem setCtx_rx (a : Nat) (q : CtxRec) : (setCtx a q m).rx = m.rx := rfl
@[simp] theorem setCtx_flt (a : Nat) (q : CtxRec) : (setCtx a q m).flt = m.flt := rfl
@[simp] theorem setCtx_saf (a : Nat) (q : CtxRec) : (setCtx a q m).saf = m.saf := rfl
@[simp] theorem setCtx_pwr (a : Nat) (q : CtxRec) : (setCtx a q m).pwr = m.pwr := rfl
@[simp] theorem setCtx_thm (a : Nat) (q : CtxRec) : (setCtx a q m).thm = m.thm := rfl
@[simp] theorem setCtx_nvm (a : Nat) (q : CtxRec) : (setCtx a q m).nvm = m.nvm := rfl
@[simp] theorem setCtx_nvmWas (a : Nat) (q : CtxRec) : (setCtx a q m).nvmWas = m.nvmWas := rfl
@[simp] theorem setCtx_upd (a : Nat) (q : CtxRec) : (setCtx a q m).upd = m.upd := rfl
@[simp] theorem setCtx_cvs (a : Nat) (q : CtxRec) : (setCtx a q m).cvs = m.cvs := rfl
@[simp] theorem setCtx_ports (a : Nat) (q : CtxRec) : (setCtx a q m).ports = m.ports := rfl
@[simp] theorem setCtx_tx (a : Nat) (q : CtxRec) : (setCtx a q m).tx = m.tx := rfl
@[simp] theorem setCtx_tiles (a : Nat) (q : CtxRec) : (setCtx a q m).tiles = m.tiles := rfl
@[simp] theorem setCtx_limpAt (a : Nat) (q : CtxRec) : (setCtx a q m).limpAt = m.limpAt := rfl
@[simp] theorem setCtx_sigMissed (a : Nat) (q : CtxRec) : (setCtx a q m).sigMissed = m.sigMissed := rfl
@[simp] theorem setCtx_lampOpen (a : Nat) (q : CtxRec) : (setCtx a q m).lampOpen = m.lampOpen := rfl
@[simp] theorem setCtx_lampShort (a : Nat) (q : CtxRec) : (setCtx a q m).lampShort = m.lampShort := rfl
@[simp] theorem setCtx_owners (a : Nat) (q : CtxRec) : (setCtx a q m).owners = m.owners := rfl
@[simp] theorem setCtx_loops (a : Nat) (q : CtxRec) : (setCtx a q m).loops = m.loops := rfl
@[simp] theorem setCtx_mots (a : Nat) (q : CtxRec) : (setCtx a q m).mots = m.mots := rfl
@[simp] theorem setCtx_levelX (a : Nat) (q : CtxRec) : (setCtx a q m).levelX = m.levelX := rfl
@[simp] theorem setCtx_aim (a : Nat) (q : CtxRec) : (setCtx a q m).aim = m.aim := rfl
@[simp] theorem setCtx_inject (a : Nat) (q : CtxRec) : (setCtx a q m).inject = m.inject := rfl
@[simp] theorem setCtx_capture (a : Nat) (q : CtxRec) : (setCtx a q m).capture = m.capture := rfl
@[simp] theorem setCtx_adcs (a : Nat) (q : CtxRec) : (setCtx a q m).adcs = m.adcs := rfl
@[simp] theorem setCtx_chn (a : Nat) (q : CtxRec) : (setCtx a q m).chn = m.chn := rfl
@[simp] theorem setCtx_pix (a : Nat) (q : CtxRec) : (setCtx a q m).pix = m.pix := rfl
@[simp] theorem setCtx_tickAt (a : Nat) (q : CtxRec) : (setCtx a q m).tickAt = m.tickAt := rfl
@[simp] theorem setCtx_cal (a : Nat) (q : CtxRec) : (setCtx a q m).cal = m.cal := rfl
@[simp] theorem setCtx_calAt (a : Nat) (q : CtxRec) : (setCtx a q m).calAt = m.calAt := rfl
@[simp] theorem setCtx_calTrained (a : Nat) (q : CtxRec) : (setCtx a q m).calTrained = m.calTrained := rfl
@[simp] theorem setCtx_calEye (a : Nat) (q : CtxRec) : (setCtx a q m).calEye = m.calEye := rfl

/-! ### setCpt -/

@[simp] theorem setCpt_now (a : Nat) (q : CptRec) : (setCpt a q m).now = m.now := rfl
@[simp] theorem setCpt_bornAt (a : Nat) (q : CptRec) : (setCpt a q m).bornAt = m.bornAt := rfl
@[simp] theorem setCpt_free (a : Nat) (q : CptRec) : (setCpt a q m).free = m.free := rfl
@[simp] theorem setCpt_regs (a : Nat) (q : CptRec) : (setCpt a q m).regs = m.regs := rfl
@[simp] theorem setCpt_evAt (a : Nat) (q : CptRec) : (setCpt a q m).evAt = m.evAt := rfl
@[simp] theorem setCpt_evs (a : Nat) (q : CptRec) : (setCpt a q m).evs = m.evs := rfl
@[simp] theorem setCpt_rdata (a : Nat) (q : CptRec) : (setCpt a q m).rdata = m.rdata := rfl
@[simp] theorem setCpt_resuming (a : Nat) (q : CptRec) : (setCpt a q m).resuming = m.resuming := rfl
@[simp] theorem setCpt_held (a : Nat) (q : CptRec) : (setCpt a q m).held = m.held := rfl
@[simp] theorem setCpt_rr (a : Nat) (q : CptRec) : (setCpt a q m).rr = m.rr := rfl
@[simp] theorem setCpt_queues (a : Nat) (q : CptRec) : (setCpt a q m).queues = m.queues := rfl
@[simp] theorem setCpt_ctxs (a : Nat) (q : CptRec) : (setCpt a q m).ctxs = m.ctxs := rfl
@[simp] theorem setCpt_wait (a : Nat) (q : CptRec) : (setCpt a q m).wait = m.wait := rfl
@[simp] theorem setCpt_sent (a : Nat) (q : CptRec) : (setCpt a q m).sent = m.sent := rfl
@[simp] theorem setCpt_canTx (a : Nat) (q : CptRec) : (setCpt a q m).canTx = m.canTx := rfl
@[simp] theorem setCpt_spiOut (a : Nat) (q : CptRec) : (setCpt a q m).spiOut = m.spiOut := rfl
@[simp] theorem setCpt_polls (a : Nat) (q : CptRec) : (setCpt a q m).polls = m.polls := rfl
@[simp] theorem setCpt_pends (a : Nat) (q : CptRec) : (setCpt a q m).pends = m.pends := rfl
@[simp] theorem setCpt_rx (a : Nat) (q : CptRec) : (setCpt a q m).rx = m.rx := rfl
@[simp] theorem setCpt_flt (a : Nat) (q : CptRec) : (setCpt a q m).flt = m.flt := rfl
@[simp] theorem setCpt_saf (a : Nat) (q : CptRec) : (setCpt a q m).saf = m.saf := rfl
@[simp] theorem setCpt_pwr (a : Nat) (q : CptRec) : (setCpt a q m).pwr = m.pwr := rfl
@[simp] theorem setCpt_thm (a : Nat) (q : CptRec) : (setCpt a q m).thm = m.thm := rfl
@[simp] theorem setCpt_nvm (a : Nat) (q : CptRec) : (setCpt a q m).nvm = m.nvm := rfl
@[simp] theorem setCpt_nvmWas (a : Nat) (q : CptRec) : (setCpt a q m).nvmWas = m.nvmWas := rfl
@[simp] theorem setCpt_upd (a : Nat) (q : CptRec) : (setCpt a q m).upd = m.upd := rfl
@[simp] theorem setCpt_cvs (a : Nat) (q : CptRec) : (setCpt a q m).cvs = m.cvs := rfl
@[simp] theorem setCpt_ports (a : Nat) (q : CptRec) : (setCpt a q m).ports = m.ports := rfl
@[simp] theorem setCpt_tx (a : Nat) (q : CptRec) : (setCpt a q m).tx = m.tx := rfl
@[simp] theorem setCpt_tiles (a : Nat) (q : CptRec) : (setCpt a q m).tiles = m.tiles := rfl
@[simp] theorem setCpt_limpAt (a : Nat) (q : CptRec) : (setCpt a q m).limpAt = m.limpAt := rfl
@[simp] theorem setCpt_sigMissed (a : Nat) (q : CptRec) : (setCpt a q m).sigMissed = m.sigMissed := rfl
@[simp] theorem setCpt_lampOpen (a : Nat) (q : CptRec) : (setCpt a q m).lampOpen = m.lampOpen := rfl
@[simp] theorem setCpt_lampShort (a : Nat) (q : CptRec) : (setCpt a q m).lampShort = m.lampShort := rfl
@[simp] theorem setCpt_owners (a : Nat) (q : CptRec) : (setCpt a q m).owners = m.owners := rfl
@[simp] theorem setCpt_loops (a : Nat) (q : CptRec) : (setCpt a q m).loops = m.loops := rfl
@[simp] theorem setCpt_mots (a : Nat) (q : CptRec) : (setCpt a q m).mots = m.mots := rfl
@[simp] theorem setCpt_levelX (a : Nat) (q : CptRec) : (setCpt a q m).levelX = m.levelX := rfl
@[simp] theorem setCpt_aim (a : Nat) (q : CptRec) : (setCpt a q m).aim = m.aim := rfl
@[simp] theorem setCpt_inject (a : Nat) (q : CptRec) : (setCpt a q m).inject = m.inject := rfl
@[simp] theorem setCpt_capture (a : Nat) (q : CptRec) : (setCpt a q m).capture = m.capture := rfl
@[simp] theorem setCpt_adcs (a : Nat) (q : CptRec) : (setCpt a q m).adcs = m.adcs := rfl
@[simp] theorem setCpt_chn (a : Nat) (q : CptRec) : (setCpt a q m).chn = m.chn := rfl
@[simp] theorem setCpt_pix (a : Nat) (q : CptRec) : (setCpt a q m).pix = m.pix := rfl
@[simp] theorem setCpt_tickAt (a : Nat) (q : CptRec) : (setCpt a q m).tickAt = m.tickAt := rfl
@[simp] theorem setCpt_cal (a : Nat) (q : CptRec) : (setCpt a q m).cal = m.cal := rfl
@[simp] theorem setCpt_calAt (a : Nat) (q : CptRec) : (setCpt a q m).calAt = m.calAt := rfl
@[simp] theorem setCpt_calTrained (a : Nat) (q : CptRec) : (setCpt a q m).calTrained = m.calTrained := rfl
@[simp] theorem setCpt_calEye (a : Nat) (q : CptRec) : (setCpt a q m).calEye = m.calEye := rfl

/-! ### setCv -/

@[simp] theorem setCv_now (a : Nat) (q : CvRec) : (setCv a q m).now = m.now := rfl
@[simp] theorem setCv_bornAt (a : Nat) (q : CvRec) : (setCv a q m).bornAt = m.bornAt := rfl
@[simp] theorem setCv_free (a : Nat) (q : CvRec) : (setCv a q m).free = m.free := rfl
@[simp] theorem setCv_regs (a : Nat) (q : CvRec) : (setCv a q m).regs = m.regs := rfl
@[simp] theorem setCv_evAt (a : Nat) (q : CvRec) : (setCv a q m).evAt = m.evAt := rfl
@[simp] theorem setCv_evs (a : Nat) (q : CvRec) : (setCv a q m).evs = m.evs := rfl
@[simp] theorem setCv_rdata (a : Nat) (q : CvRec) : (setCv a q m).rdata = m.rdata := rfl
@[simp] theorem setCv_resuming (a : Nat) (q : CvRec) : (setCv a q m).resuming = m.resuming := rfl
@[simp] theorem setCv_held (a : Nat) (q : CvRec) : (setCv a q m).held = m.held := rfl
@[simp] theorem setCv_rr (a : Nat) (q : CvRec) : (setCv a q m).rr = m.rr := rfl
@[simp] theorem setCv_queues (a : Nat) (q : CvRec) : (setCv a q m).queues = m.queues := rfl
@[simp] theorem setCv_ctxs (a : Nat) (q : CvRec) : (setCv a q m).ctxs = m.ctxs := rfl
@[simp] theorem setCv_wait (a : Nat) (q : CvRec) : (setCv a q m).wait = m.wait := rfl
@[simp] theorem setCv_sent (a : Nat) (q : CvRec) : (setCv a q m).sent = m.sent := rfl
@[simp] theorem setCv_canTx (a : Nat) (q : CvRec) : (setCv a q m).canTx = m.canTx := rfl
@[simp] theorem setCv_spiOut (a : Nat) (q : CvRec) : (setCv a q m).spiOut = m.spiOut := rfl
@[simp] theorem setCv_polls (a : Nat) (q : CvRec) : (setCv a q m).polls = m.polls := rfl
@[simp] theorem setCv_pends (a : Nat) (q : CvRec) : (setCv a q m).pends = m.pends := rfl
@[simp] theorem setCv_cpt (a : Nat) (q : CvRec) : (setCv a q m).cpt = m.cpt := rfl
@[simp] theorem setCv_rx (a : Nat) (q : CvRec) : (setCv a q m).rx = m.rx := rfl
@[simp] theorem setCv_flt (a : Nat) (q : CvRec) : (setCv a q m).flt = m.flt := rfl
@[simp] theorem setCv_saf (a : Nat) (q : CvRec) : (setCv a q m).saf = m.saf := rfl
@[simp] theorem setCv_pwr (a : Nat) (q : CvRec) : (setCv a q m).pwr = m.pwr := rfl
@[simp] theorem setCv_thm (a : Nat) (q : CvRec) : (setCv a q m).thm = m.thm := rfl
@[simp] theorem setCv_nvm (a : Nat) (q : CvRec) : (setCv a q m).nvm = m.nvm := rfl
@[simp] theorem setCv_nvmWas (a : Nat) (q : CvRec) : (setCv a q m).nvmWas = m.nvmWas := rfl
@[simp] theorem setCv_upd (a : Nat) (q : CvRec) : (setCv a q m).upd = m.upd := rfl
@[simp] theorem setCv_ports (a : Nat) (q : CvRec) : (setCv a q m).ports = m.ports := rfl
@[simp] theorem setCv_tx (a : Nat) (q : CvRec) : (setCv a q m).tx = m.tx := rfl
@[simp] theorem setCv_tiles (a : Nat) (q : CvRec) : (setCv a q m).tiles = m.tiles := rfl
@[simp] theorem setCv_limpAt (a : Nat) (q : CvRec) : (setCv a q m).limpAt = m.limpAt := rfl
@[simp] theorem setCv_sigMissed (a : Nat) (q : CvRec) : (setCv a q m).sigMissed = m.sigMissed := rfl
@[simp] theorem setCv_lampOpen (a : Nat) (q : CvRec) : (setCv a q m).lampOpen = m.lampOpen := rfl
@[simp] theorem setCv_lampShort (a : Nat) (q : CvRec) : (setCv a q m).lampShort = m.lampShort := rfl
@[simp] theorem setCv_owners (a : Nat) (q : CvRec) : (setCv a q m).owners = m.owners := rfl
@[simp] theorem setCv_loops (a : Nat) (q : CvRec) : (setCv a q m).loops = m.loops := rfl
@[simp] theorem setCv_mots (a : Nat) (q : CvRec) : (setCv a q m).mots = m.mots := rfl
@[simp] theorem setCv_levelX (a : Nat) (q : CvRec) : (setCv a q m).levelX = m.levelX := rfl
@[simp] theorem setCv_aim (a : Nat) (q : CvRec) : (setCv a q m).aim = m.aim := rfl
@[simp] theorem setCv_inject (a : Nat) (q : CvRec) : (setCv a q m).inject = m.inject := rfl
@[simp] theorem setCv_capture (a : Nat) (q : CvRec) : (setCv a q m).capture = m.capture := rfl
@[simp] theorem setCv_adcs (a : Nat) (q : CvRec) : (setCv a q m).adcs = m.adcs := rfl
@[simp] theorem setCv_chn (a : Nat) (q : CvRec) : (setCv a q m).chn = m.chn := rfl
@[simp] theorem setCv_pix (a : Nat) (q : CvRec) : (setCv a q m).pix = m.pix := rfl
@[simp] theorem setCv_tickAt (a : Nat) (q : CvRec) : (setCv a q m).tickAt = m.tickAt := rfl
@[simp] theorem setCv_cal (a : Nat) (q : CvRec) : (setCv a q m).cal = m.cal := rfl
@[simp] theorem setCv_calAt (a : Nat) (q : CvRec) : (setCv a q m).calAt = m.calAt := rfl
@[simp] theorem setCv_calTrained (a : Nat) (q : CvRec) : (setCv a q m).calTrained = m.calTrained := rfl
@[simp] theorem setCv_calEye (a : Nat) (q : CvRec) : (setCv a q m).calEye = m.calEye := rfl

/-! ### setPort -/

@[simp] theorem setPort_now (a : Nat) (q : PortRec) : (setPort a q m).now = m.now := rfl
@[simp] theorem setPort_bornAt (a : Nat) (q : PortRec) : (setPort a q m).bornAt = m.bornAt := rfl
@[simp] theorem setPort_free (a : Nat) (q : PortRec) : (setPort a q m).free = m.free := rfl
@[simp] theorem setPort_regs (a : Nat) (q : PortRec) : (setPort a q m).regs = m.regs := rfl
@[simp] theorem setPort_evAt (a : Nat) (q : PortRec) : (setPort a q m).evAt = m.evAt := rfl
@[simp] theorem setPort_evs (a : Nat) (q : PortRec) : (setPort a q m).evs = m.evs := rfl
@[simp] theorem setPort_rdata (a : Nat) (q : PortRec) : (setPort a q m).rdata = m.rdata := rfl
@[simp] theorem setPort_resuming (a : Nat) (q : PortRec) : (setPort a q m).resuming = m.resuming := rfl
@[simp] theorem setPort_held (a : Nat) (q : PortRec) : (setPort a q m).held = m.held := rfl
@[simp] theorem setPort_rr (a : Nat) (q : PortRec) : (setPort a q m).rr = m.rr := rfl
@[simp] theorem setPort_queues (a : Nat) (q : PortRec) : (setPort a q m).queues = m.queues := rfl
@[simp] theorem setPort_ctxs (a : Nat) (q : PortRec) : (setPort a q m).ctxs = m.ctxs := rfl
@[simp] theorem setPort_wait (a : Nat) (q : PortRec) : (setPort a q m).wait = m.wait := rfl
@[simp] theorem setPort_sent (a : Nat) (q : PortRec) : (setPort a q m).sent = m.sent := rfl
@[simp] theorem setPort_canTx (a : Nat) (q : PortRec) : (setPort a q m).canTx = m.canTx := rfl
@[simp] theorem setPort_spiOut (a : Nat) (q : PortRec) : (setPort a q m).spiOut = m.spiOut := rfl
@[simp] theorem setPort_polls (a : Nat) (q : PortRec) : (setPort a q m).polls = m.polls := rfl
@[simp] theorem setPort_pends (a : Nat) (q : PortRec) : (setPort a q m).pends = m.pends := rfl
@[simp] theorem setPort_cpt (a : Nat) (q : PortRec) : (setPort a q m).cpt = m.cpt := rfl
@[simp] theorem setPort_rx (a : Nat) (q : PortRec) : (setPort a q m).rx = m.rx := rfl
@[simp] theorem setPort_flt (a : Nat) (q : PortRec) : (setPort a q m).flt = m.flt := rfl
@[simp] theorem setPort_saf (a : Nat) (q : PortRec) : (setPort a q m).saf = m.saf := rfl
@[simp] theorem setPort_pwr (a : Nat) (q : PortRec) : (setPort a q m).pwr = m.pwr := rfl
@[simp] theorem setPort_thm (a : Nat) (q : PortRec) : (setPort a q m).thm = m.thm := rfl
@[simp] theorem setPort_nvm (a : Nat) (q : PortRec) : (setPort a q m).nvm = m.nvm := rfl
@[simp] theorem setPort_nvmWas (a : Nat) (q : PortRec) : (setPort a q m).nvmWas = m.nvmWas := rfl
@[simp] theorem setPort_upd (a : Nat) (q : PortRec) : (setPort a q m).upd = m.upd := rfl
@[simp] theorem setPort_cvs (a : Nat) (q : PortRec) : (setPort a q m).cvs = m.cvs := rfl
@[simp] theorem setPort_tx (a : Nat) (q : PortRec) : (setPort a q m).tx = m.tx := rfl
@[simp] theorem setPort_tiles (a : Nat) (q : PortRec) : (setPort a q m).tiles = m.tiles := rfl
@[simp] theorem setPort_limpAt (a : Nat) (q : PortRec) : (setPort a q m).limpAt = m.limpAt := rfl
@[simp] theorem setPort_sigMissed (a : Nat) (q : PortRec) : (setPort a q m).sigMissed = m.sigMissed := rfl
@[simp] theorem setPort_lampOpen (a : Nat) (q : PortRec) : (setPort a q m).lampOpen = m.lampOpen := rfl
@[simp] theorem setPort_lampShort (a : Nat) (q : PortRec) : (setPort a q m).lampShort = m.lampShort := rfl
@[simp] theorem setPort_owners (a : Nat) (q : PortRec) : (setPort a q m).owners = m.owners := rfl
@[simp] theorem setPort_loops (a : Nat) (q : PortRec) : (setPort a q m).loops = m.loops := rfl
@[simp] theorem setPort_mots (a : Nat) (q : PortRec) : (setPort a q m).mots = m.mots := rfl
@[simp] theorem setPort_levelX (a : Nat) (q : PortRec) : (setPort a q m).levelX = m.levelX := rfl
@[simp] theorem setPort_aim (a : Nat) (q : PortRec) : (setPort a q m).aim = m.aim := rfl
@[simp] theorem setPort_inject (a : Nat) (q : PortRec) : (setPort a q m).inject = m.inject := rfl
@[simp] theorem setPort_capture (a : Nat) (q : PortRec) : (setPort a q m).capture = m.capture := rfl
@[simp] theorem setPort_adcs (a : Nat) (q : PortRec) : (setPort a q m).adcs = m.adcs := rfl
@[simp] theorem setPort_chn (a : Nat) (q : PortRec) : (setPort a q m).chn = m.chn := rfl
@[simp] theorem setPort_pix (a : Nat) (q : PortRec) : (setPort a q m).pix = m.pix := rfl
@[simp] theorem setPort_tickAt (a : Nat) (q : PortRec) : (setPort a q m).tickAt = m.tickAt := rfl
@[simp] theorem setPort_cal (a : Nat) (q : PortRec) : (setPort a q m).cal = m.cal := rfl
@[simp] theorem setPort_calAt (a : Nat) (q : PortRec) : (setPort a q m).calAt = m.calAt := rfl
@[simp] theorem setPort_calTrained (a : Nat) (q : PortRec) : (setPort a q m).calTrained = m.calTrained := rfl
@[simp] theorem setPort_calEye (a : Nat) (q : PortRec) : (setPort a q m).calEye = m.calEye := rfl

/-! ### setTile -/

@[simp] theorem setTile_now (a : Nat) (q : TileRec) : (setTile a q m).now = m.now := rfl
@[simp] theorem setTile_bornAt (a : Nat) (q : TileRec) : (setTile a q m).bornAt = m.bornAt := rfl
@[simp] theorem setTile_free (a : Nat) (q : TileRec) : (setTile a q m).free = m.free := rfl
@[simp] theorem setTile_regs (a : Nat) (q : TileRec) : (setTile a q m).regs = m.regs := rfl
@[simp] theorem setTile_evAt (a : Nat) (q : TileRec) : (setTile a q m).evAt = m.evAt := rfl
@[simp] theorem setTile_evs (a : Nat) (q : TileRec) : (setTile a q m).evs = m.evs := rfl
@[simp] theorem setTile_rdata (a : Nat) (q : TileRec) : (setTile a q m).rdata = m.rdata := rfl
@[simp] theorem setTile_resuming (a : Nat) (q : TileRec) : (setTile a q m).resuming = m.resuming := rfl
@[simp] theorem setTile_held (a : Nat) (q : TileRec) : (setTile a q m).held = m.held := rfl
@[simp] theorem setTile_rr (a : Nat) (q : TileRec) : (setTile a q m).rr = m.rr := rfl
@[simp] theorem setTile_queues (a : Nat) (q : TileRec) : (setTile a q m).queues = m.queues := rfl
@[simp] theorem setTile_ctxs (a : Nat) (q : TileRec) : (setTile a q m).ctxs = m.ctxs := rfl
@[simp] theorem setTile_wait (a : Nat) (q : TileRec) : (setTile a q m).wait = m.wait := rfl
@[simp] theorem setTile_sent (a : Nat) (q : TileRec) : (setTile a q m).sent = m.sent := rfl
@[simp] theorem setTile_canTx (a : Nat) (q : TileRec) : (setTile a q m).canTx = m.canTx := rfl
@[simp] theorem setTile_spiOut (a : Nat) (q : TileRec) : (setTile a q m).spiOut = m.spiOut := rfl
@[simp] theorem setTile_polls (a : Nat) (q : TileRec) : (setTile a q m).polls = m.polls := rfl
@[simp] theorem setTile_pends (a : Nat) (q : TileRec) : (setTile a q m).pends = m.pends := rfl
@[simp] theorem setTile_cpt (a : Nat) (q : TileRec) : (setTile a q m).cpt = m.cpt := rfl
@[simp] theorem setTile_rx (a : Nat) (q : TileRec) : (setTile a q m).rx = m.rx := rfl
@[simp] theorem setTile_flt (a : Nat) (q : TileRec) : (setTile a q m).flt = m.flt := rfl
@[simp] theorem setTile_saf (a : Nat) (q : TileRec) : (setTile a q m).saf = m.saf := rfl
@[simp] theorem setTile_pwr (a : Nat) (q : TileRec) : (setTile a q m).pwr = m.pwr := rfl
@[simp] theorem setTile_thm (a : Nat) (q : TileRec) : (setTile a q m).thm = m.thm := rfl
@[simp] theorem setTile_nvm (a : Nat) (q : TileRec) : (setTile a q m).nvm = m.nvm := rfl
@[simp] theorem setTile_nvmWas (a : Nat) (q : TileRec) : (setTile a q m).nvmWas = m.nvmWas := rfl
@[simp] theorem setTile_upd (a : Nat) (q : TileRec) : (setTile a q m).upd = m.upd := rfl
@[simp] theorem setTile_cvs (a : Nat) (q : TileRec) : (setTile a q m).cvs = m.cvs := rfl
@[simp] theorem setTile_ports (a : Nat) (q : TileRec) : (setTile a q m).ports = m.ports := rfl
@[simp] theorem setTile_tx (a : Nat) (q : TileRec) : (setTile a q m).tx = m.tx := rfl
@[simp] theorem setTile_limpAt (a : Nat) (q : TileRec) : (setTile a q m).limpAt = m.limpAt := rfl
@[simp] theorem setTile_sigMissed (a : Nat) (q : TileRec) : (setTile a q m).sigMissed = m.sigMissed := rfl
@[simp] theorem setTile_lampOpen (a : Nat) (q : TileRec) : (setTile a q m).lampOpen = m.lampOpen := rfl
@[simp] theorem setTile_lampShort (a : Nat) (q : TileRec) : (setTile a q m).lampShort = m.lampShort := rfl
@[simp] theorem setTile_owners (a : Nat) (q : TileRec) : (setTile a q m).owners = m.owners := rfl
@[simp] theorem setTile_loops (a : Nat) (q : TileRec) : (setTile a q m).loops = m.loops := rfl
@[simp] theorem setTile_mots (a : Nat) (q : TileRec) : (setTile a q m).mots = m.mots := rfl
@[simp] theorem setTile_levelX (a : Nat) (q : TileRec) : (setTile a q m).levelX = m.levelX := rfl
@[simp] theorem setTile_aim (a : Nat) (q : TileRec) : (setTile a q m).aim = m.aim := rfl
@[simp] theorem setTile_inject (a : Nat) (q : TileRec) : (setTile a q m).inject = m.inject := rfl
@[simp] theorem setTile_capture (a : Nat) (q : TileRec) : (setTile a q m).capture = m.capture := rfl
@[simp] theorem setTile_adcs (a : Nat) (q : TileRec) : (setTile a q m).adcs = m.adcs := rfl
@[simp] theorem setTile_chn (a : Nat) (q : TileRec) : (setTile a q m).chn = m.chn := rfl
@[simp] theorem setTile_pix (a : Nat) (q : TileRec) : (setTile a q m).pix = m.pix := rfl
@[simp] theorem setTile_tickAt (a : Nat) (q : TileRec) : (setTile a q m).tickAt = m.tickAt := rfl
@[simp] theorem setTile_cal (a : Nat) (q : TileRec) : (setTile a q m).cal = m.cal := rfl
@[simp] theorem setTile_calAt (a : Nat) (q : TileRec) : (setTile a q m).calAt = m.calAt := rfl
@[simp] theorem setTile_calTrained (a : Nat) (q : TileRec) : (setTile a q m).calTrained = m.calTrained := rfl
@[simp] theorem setTile_calEye (a : Nat) (q : TileRec) : (setTile a q m).calEye = m.calEye := rfl

/-! ### setLoop -/

@[simp] theorem setLoop_now (a : Nat) (q : LoopRec) : (setLoop a q m).now = m.now := rfl
@[simp] theorem setLoop_bornAt (a : Nat) (q : LoopRec) : (setLoop a q m).bornAt = m.bornAt := rfl
@[simp] theorem setLoop_free (a : Nat) (q : LoopRec) : (setLoop a q m).free = m.free := rfl
@[simp] theorem setLoop_regs (a : Nat) (q : LoopRec) : (setLoop a q m).regs = m.regs := rfl
@[simp] theorem setLoop_evAt (a : Nat) (q : LoopRec) : (setLoop a q m).evAt = m.evAt := rfl
@[simp] theorem setLoop_evs (a : Nat) (q : LoopRec) : (setLoop a q m).evs = m.evs := rfl
@[simp] theorem setLoop_rdata (a : Nat) (q : LoopRec) : (setLoop a q m).rdata = m.rdata := rfl
@[simp] theorem setLoop_resuming (a : Nat) (q : LoopRec) : (setLoop a q m).resuming = m.resuming := rfl
@[simp] theorem setLoop_held (a : Nat) (q : LoopRec) : (setLoop a q m).held = m.held := rfl
@[simp] theorem setLoop_rr (a : Nat) (q : LoopRec) : (setLoop a q m).rr = m.rr := rfl
@[simp] theorem setLoop_queues (a : Nat) (q : LoopRec) : (setLoop a q m).queues = m.queues := rfl
@[simp] theorem setLoop_ctxs (a : Nat) (q : LoopRec) : (setLoop a q m).ctxs = m.ctxs := rfl
@[simp] theorem setLoop_wait (a : Nat) (q : LoopRec) : (setLoop a q m).wait = m.wait := rfl
@[simp] theorem setLoop_sent (a : Nat) (q : LoopRec) : (setLoop a q m).sent = m.sent := rfl
@[simp] theorem setLoop_canTx (a : Nat) (q : LoopRec) : (setLoop a q m).canTx = m.canTx := rfl
@[simp] theorem setLoop_spiOut (a : Nat) (q : LoopRec) : (setLoop a q m).spiOut = m.spiOut := rfl
@[simp] theorem setLoop_polls (a : Nat) (q : LoopRec) : (setLoop a q m).polls = m.polls := rfl
@[simp] theorem setLoop_pends (a : Nat) (q : LoopRec) : (setLoop a q m).pends = m.pends := rfl
@[simp] theorem setLoop_cpt (a : Nat) (q : LoopRec) : (setLoop a q m).cpt = m.cpt := rfl
@[simp] theorem setLoop_rx (a : Nat) (q : LoopRec) : (setLoop a q m).rx = m.rx := rfl
@[simp] theorem setLoop_flt (a : Nat) (q : LoopRec) : (setLoop a q m).flt = m.flt := rfl
@[simp] theorem setLoop_saf (a : Nat) (q : LoopRec) : (setLoop a q m).saf = m.saf := rfl
@[simp] theorem setLoop_pwr (a : Nat) (q : LoopRec) : (setLoop a q m).pwr = m.pwr := rfl
@[simp] theorem setLoop_thm (a : Nat) (q : LoopRec) : (setLoop a q m).thm = m.thm := rfl
@[simp] theorem setLoop_nvm (a : Nat) (q : LoopRec) : (setLoop a q m).nvm = m.nvm := rfl
@[simp] theorem setLoop_nvmWas (a : Nat) (q : LoopRec) : (setLoop a q m).nvmWas = m.nvmWas := rfl
@[simp] theorem setLoop_upd (a : Nat) (q : LoopRec) : (setLoop a q m).upd = m.upd := rfl
@[simp] theorem setLoop_cvs (a : Nat) (q : LoopRec) : (setLoop a q m).cvs = m.cvs := rfl
@[simp] theorem setLoop_ports (a : Nat) (q : LoopRec) : (setLoop a q m).ports = m.ports := rfl
@[simp] theorem setLoop_tx (a : Nat) (q : LoopRec) : (setLoop a q m).tx = m.tx := rfl
@[simp] theorem setLoop_tiles (a : Nat) (q : LoopRec) : (setLoop a q m).tiles = m.tiles := rfl
@[simp] theorem setLoop_limpAt (a : Nat) (q : LoopRec) : (setLoop a q m).limpAt = m.limpAt := rfl
@[simp] theorem setLoop_sigMissed (a : Nat) (q : LoopRec) : (setLoop a q m).sigMissed = m.sigMissed := rfl
@[simp] theorem setLoop_lampOpen (a : Nat) (q : LoopRec) : (setLoop a q m).lampOpen = m.lampOpen := rfl
@[simp] theorem setLoop_lampShort (a : Nat) (q : LoopRec) : (setLoop a q m).lampShort = m.lampShort := rfl
@[simp] theorem setLoop_owners (a : Nat) (q : LoopRec) : (setLoop a q m).owners = m.owners := rfl
@[simp] theorem setLoop_mots (a : Nat) (q : LoopRec) : (setLoop a q m).mots = m.mots := rfl
@[simp] theorem setLoop_levelX (a : Nat) (q : LoopRec) : (setLoop a q m).levelX = m.levelX := rfl
@[simp] theorem setLoop_aim (a : Nat) (q : LoopRec) : (setLoop a q m).aim = m.aim := rfl
@[simp] theorem setLoop_inject (a : Nat) (q : LoopRec) : (setLoop a q m).inject = m.inject := rfl
@[simp] theorem setLoop_capture (a : Nat) (q : LoopRec) : (setLoop a q m).capture = m.capture := rfl
@[simp] theorem setLoop_adcs (a : Nat) (q : LoopRec) : (setLoop a q m).adcs = m.adcs := rfl
@[simp] theorem setLoop_chn (a : Nat) (q : LoopRec) : (setLoop a q m).chn = m.chn := rfl
@[simp] theorem setLoop_pix (a : Nat) (q : LoopRec) : (setLoop a q m).pix = m.pix := rfl
@[simp] theorem setLoop_tickAt (a : Nat) (q : LoopRec) : (setLoop a q m).tickAt = m.tickAt := rfl
@[simp] theorem setLoop_cal (a : Nat) (q : LoopRec) : (setLoop a q m).cal = m.cal := rfl
@[simp] theorem setLoop_calAt (a : Nat) (q : LoopRec) : (setLoop a q m).calAt = m.calAt := rfl
@[simp] theorem setLoop_calTrained (a : Nat) (q : LoopRec) : (setLoop a q m).calTrained = m.calTrained := rfl
@[simp] theorem setLoop_calEye (a : Nat) (q : LoopRec) : (setLoop a q m).calEye = m.calEye := rfl

/-! ### setMot -/

@[simp] theorem setMot_now (a : Nat) (q : MotRec) : (setMot a q m).now = m.now := rfl
@[simp] theorem setMot_bornAt (a : Nat) (q : MotRec) : (setMot a q m).bornAt = m.bornAt := rfl
@[simp] theorem setMot_free (a : Nat) (q : MotRec) : (setMot a q m).free = m.free := rfl
@[simp] theorem setMot_regs (a : Nat) (q : MotRec) : (setMot a q m).regs = m.regs := rfl
@[simp] theorem setMot_evAt (a : Nat) (q : MotRec) : (setMot a q m).evAt = m.evAt := rfl
@[simp] theorem setMot_evs (a : Nat) (q : MotRec) : (setMot a q m).evs = m.evs := rfl
@[simp] theorem setMot_rdata (a : Nat) (q : MotRec) : (setMot a q m).rdata = m.rdata := rfl
@[simp] theorem setMot_resuming (a : Nat) (q : MotRec) : (setMot a q m).resuming = m.resuming := rfl
@[simp] theorem setMot_held (a : Nat) (q : MotRec) : (setMot a q m).held = m.held := rfl
@[simp] theorem setMot_rr (a : Nat) (q : MotRec) : (setMot a q m).rr = m.rr := rfl
@[simp] theorem setMot_queues (a : Nat) (q : MotRec) : (setMot a q m).queues = m.queues := rfl
@[simp] theorem setMot_ctxs (a : Nat) (q : MotRec) : (setMot a q m).ctxs = m.ctxs := rfl
@[simp] theorem setMot_wait (a : Nat) (q : MotRec) : (setMot a q m).wait = m.wait := rfl
@[simp] theorem setMot_sent (a : Nat) (q : MotRec) : (setMot a q m).sent = m.sent := rfl
@[simp] theorem setMot_canTx (a : Nat) (q : MotRec) : (setMot a q m).canTx = m.canTx := rfl
@[simp] theorem setMot_spiOut (a : Nat) (q : MotRec) : (setMot a q m).spiOut = m.spiOut := rfl
@[simp] theorem setMot_polls (a : Nat) (q : MotRec) : (setMot a q m).polls = m.polls := rfl
@[simp] theorem setMot_pends (a : Nat) (q : MotRec) : (setMot a q m).pends = m.pends := rfl
@[simp] theorem setMot_cpt (a : Nat) (q : MotRec) : (setMot a q m).cpt = m.cpt := rfl
@[simp] theorem setMot_rx (a : Nat) (q : MotRec) : (setMot a q m).rx = m.rx := rfl
@[simp] theorem setMot_flt (a : Nat) (q : MotRec) : (setMot a q m).flt = m.flt := rfl
@[simp] theorem setMot_saf (a : Nat) (q : MotRec) : (setMot a q m).saf = m.saf := rfl
@[simp] theorem setMot_pwr (a : Nat) (q : MotRec) : (setMot a q m).pwr = m.pwr := rfl
@[simp] theorem setMot_thm (a : Nat) (q : MotRec) : (setMot a q m).thm = m.thm := rfl
@[simp] theorem setMot_nvm (a : Nat) (q : MotRec) : (setMot a q m).nvm = m.nvm := rfl
@[simp] theorem setMot_nvmWas (a : Nat) (q : MotRec) : (setMot a q m).nvmWas = m.nvmWas := rfl
@[simp] theorem setMot_upd (a : Nat) (q : MotRec) : (setMot a q m).upd = m.upd := rfl
@[simp] theorem setMot_cvs (a : Nat) (q : MotRec) : (setMot a q m).cvs = m.cvs := rfl
@[simp] theorem setMot_ports (a : Nat) (q : MotRec) : (setMot a q m).ports = m.ports := rfl
@[simp] theorem setMot_tx (a : Nat) (q : MotRec) : (setMot a q m).tx = m.tx := rfl
@[simp] theorem setMot_tiles (a : Nat) (q : MotRec) : (setMot a q m).tiles = m.tiles := rfl
@[simp] theorem setMot_limpAt (a : Nat) (q : MotRec) : (setMot a q m).limpAt = m.limpAt := rfl
@[simp] theorem setMot_sigMissed (a : Nat) (q : MotRec) : (setMot a q m).sigMissed = m.sigMissed := rfl
@[simp] theorem setMot_lampOpen (a : Nat) (q : MotRec) : (setMot a q m).lampOpen = m.lampOpen := rfl
@[simp] theorem setMot_lampShort (a : Nat) (q : MotRec) : (setMot a q m).lampShort = m.lampShort := rfl
@[simp] theorem setMot_owners (a : Nat) (q : MotRec) : (setMot a q m).owners = m.owners := rfl
@[simp] theorem setMot_loops (a : Nat) (q : MotRec) : (setMot a q m).loops = m.loops := rfl
@[simp] theorem setMot_levelX (a : Nat) (q : MotRec) : (setMot a q m).levelX = m.levelX := rfl
@[simp] theorem setMot_aim (a : Nat) (q : MotRec) : (setMot a q m).aim = m.aim := rfl
@[simp] theorem setMot_inject (a : Nat) (q : MotRec) : (setMot a q m).inject = m.inject := rfl
@[simp] theorem setMot_capture (a : Nat) (q : MotRec) : (setMot a q m).capture = m.capture := rfl
@[simp] theorem setMot_adcs (a : Nat) (q : MotRec) : (setMot a q m).adcs = m.adcs := rfl
@[simp] theorem setMot_chn (a : Nat) (q : MotRec) : (setMot a q m).chn = m.chn := rfl
@[simp] theorem setMot_pix (a : Nat) (q : MotRec) : (setMot a q m).pix = m.pix := rfl
@[simp] theorem setMot_tickAt (a : Nat) (q : MotRec) : (setMot a q m).tickAt = m.tickAt := rfl
@[simp] theorem setMot_cal (a : Nat) (q : MotRec) : (setMot a q m).cal = m.cal := rfl
@[simp] theorem setMot_calAt (a : Nat) (q : MotRec) : (setMot a q m).calAt = m.calAt := rfl
@[simp] theorem setMot_calTrained (a : Nat) (q : MotRec) : (setMot a q m).calTrained = m.calTrained := rfl
@[simp] theorem setMot_calEye (a : Nat) (q : MotRec) : (setMot a q m).calEye = m.calEye := rfl

/-! ### setChn -/

@[simp] theorem setChn_now (g : ChnState → ChnState) : (setChn g m).now = m.now := rfl
@[simp] theorem setChn_bornAt (g : ChnState → ChnState) : (setChn g m).bornAt = m.bornAt := rfl
@[simp] theorem setChn_free (g : ChnState → ChnState) : (setChn g m).free = m.free := rfl
@[simp] theorem setChn_regs (g : ChnState → ChnState) : (setChn g m).regs = m.regs := rfl
@[simp] theorem setChn_evAt (g : ChnState → ChnState) : (setChn g m).evAt = m.evAt := rfl
@[simp] theorem setChn_evs (g : ChnState → ChnState) : (setChn g m).evs = m.evs := rfl
@[simp] theorem setChn_rdata (g : ChnState → ChnState) : (setChn g m).rdata = m.rdata := rfl
@[simp] theorem setChn_resuming (g : ChnState → ChnState) : (setChn g m).resuming = m.resuming := rfl
@[simp] theorem setChn_held (g : ChnState → ChnState) : (setChn g m).held = m.held := rfl
@[simp] theorem setChn_rr (g : ChnState → ChnState) : (setChn g m).rr = m.rr := rfl
@[simp] theorem setChn_queues (g : ChnState → ChnState) : (setChn g m).queues = m.queues := rfl
@[simp] theorem setChn_ctxs (g : ChnState → ChnState) : (setChn g m).ctxs = m.ctxs := rfl
@[simp] theorem setChn_wait (g : ChnState → ChnState) : (setChn g m).wait = m.wait := rfl
@[simp] theorem setChn_sent (g : ChnState → ChnState) : (setChn g m).sent = m.sent := rfl
@[simp] theorem setChn_canTx (g : ChnState → ChnState) : (setChn g m).canTx = m.canTx := rfl
@[simp] theorem setChn_spiOut (g : ChnState → ChnState) : (setChn g m).spiOut = m.spiOut := rfl
@[simp] theorem setChn_polls (g : ChnState → ChnState) : (setChn g m).polls = m.polls := rfl
@[simp] theorem setChn_pends (g : ChnState → ChnState) : (setChn g m).pends = m.pends := rfl
@[simp] theorem setChn_cpt (g : ChnState → ChnState) : (setChn g m).cpt = m.cpt := rfl
@[simp] theorem setChn_rx (g : ChnState → ChnState) : (setChn g m).rx = m.rx := rfl
@[simp] theorem setChn_flt (g : ChnState → ChnState) : (setChn g m).flt = m.flt := rfl
@[simp] theorem setChn_saf (g : ChnState → ChnState) : (setChn g m).saf = m.saf := rfl
@[simp] theorem setChn_pwr (g : ChnState → ChnState) : (setChn g m).pwr = m.pwr := rfl
@[simp] theorem setChn_thm (g : ChnState → ChnState) : (setChn g m).thm = m.thm := rfl
@[simp] theorem setChn_nvm (g : ChnState → ChnState) : (setChn g m).nvm = m.nvm := rfl
@[simp] theorem setChn_nvmWas (g : ChnState → ChnState) : (setChn g m).nvmWas = m.nvmWas := rfl
@[simp] theorem setChn_upd (g : ChnState → ChnState) : (setChn g m).upd = m.upd := rfl
@[simp] theorem setChn_cvs (g : ChnState → ChnState) : (setChn g m).cvs = m.cvs := rfl
@[simp] theorem setChn_ports (g : ChnState → ChnState) : (setChn g m).ports = m.ports := rfl
@[simp] theorem setChn_tx (g : ChnState → ChnState) : (setChn g m).tx = m.tx := rfl
@[simp] theorem setChn_tiles (g : ChnState → ChnState) : (setChn g m).tiles = m.tiles := rfl
@[simp] theorem setChn_limpAt (g : ChnState → ChnState) : (setChn g m).limpAt = m.limpAt := rfl
@[simp] theorem setChn_sigMissed (g : ChnState → ChnState) : (setChn g m).sigMissed = m.sigMissed := rfl
@[simp] theorem setChn_lampOpen (g : ChnState → ChnState) : (setChn g m).lampOpen = m.lampOpen := rfl
@[simp] theorem setChn_lampShort (g : ChnState → ChnState) : (setChn g m).lampShort = m.lampShort := rfl
@[simp] theorem setChn_owners (g : ChnState → ChnState) : (setChn g m).owners = m.owners := rfl
@[simp] theorem setChn_loops (g : ChnState → ChnState) : (setChn g m).loops = m.loops := rfl
@[simp] theorem setChn_mots (g : ChnState → ChnState) : (setChn g m).mots = m.mots := rfl
@[simp] theorem setChn_levelX (g : ChnState → ChnState) : (setChn g m).levelX = m.levelX := rfl
@[simp] theorem setChn_aim (g : ChnState → ChnState) : (setChn g m).aim = m.aim := rfl
@[simp] theorem setChn_inject (g : ChnState → ChnState) : (setChn g m).inject = m.inject := rfl
@[simp] theorem setChn_capture (g : ChnState → ChnState) : (setChn g m).capture = m.capture := rfl
@[simp] theorem setChn_adcs (g : ChnState → ChnState) : (setChn g m).adcs = m.adcs := rfl
@[simp] theorem setChn_pix (g : ChnState → ChnState) : (setChn g m).pix = m.pix := rfl
@[simp] theorem setChn_tickAt (g : ChnState → ChnState) : (setChn g m).tickAt = m.tickAt := rfl
@[simp] theorem setChn_cal (g : ChnState → ChnState) : (setChn g m).cal = m.cal := rfl
@[simp] theorem setChn_calAt (g : ChnState → ChnState) : (setChn g m).calAt = m.calAt := rfl
@[simp] theorem setChn_calTrained (g : ChnState → ChnState) : (setChn g m).calTrained = m.calTrained := rfl
@[simp] theorem setChn_calEye (g : ChnState → ChnState) : (setChn g m).calEye = m.calEye := rfl

/-! ### setPix -/

@[simp] theorem setPix_now (g : PixState → PixState) : (setPix g m).now = m.now := rfl
@[simp] theorem setPix_bornAt (g : PixState → PixState) : (setPix g m).bornAt = m.bornAt := rfl
@[simp] theorem setPix_free (g : PixState → PixState) : (setPix g m).free = m.free := rfl
@[simp] theorem setPix_regs (g : PixState → PixState) : (setPix g m).regs = m.regs := rfl
@[simp] theorem setPix_evAt (g : PixState → PixState) : (setPix g m).evAt = m.evAt := rfl
@[simp] theorem setPix_evs (g : PixState → PixState) : (setPix g m).evs = m.evs := rfl
@[simp] theorem setPix_rdata (g : PixState → PixState) : (setPix g m).rdata = m.rdata := rfl
@[simp] theorem setPix_resuming (g : PixState → PixState) : (setPix g m).resuming = m.resuming := rfl
@[simp] theorem setPix_held (g : PixState → PixState) : (setPix g m).held = m.held := rfl
@[simp] theorem setPix_rr (g : PixState → PixState) : (setPix g m).rr = m.rr := rfl
@[simp] theorem setPix_queues (g : PixState → PixState) : (setPix g m).queues = m.queues := rfl
@[simp] theorem setPix_ctxs (g : PixState → PixState) : (setPix g m).ctxs = m.ctxs := rfl
@[simp] theorem setPix_wait (g : PixState → PixState) : (setPix g m).wait = m.wait := rfl
@[simp] theorem setPix_sent (g : PixState → PixState) : (setPix g m).sent = m.sent := rfl
@[simp] theorem setPix_canTx (g : PixState → PixState) : (setPix g m).canTx = m.canTx := rfl
@[simp] theorem setPix_spiOut (g : PixState → PixState) : (setPix g m).spiOut = m.spiOut := rfl
@[simp] theorem setPix_polls (g : PixState → PixState) : (setPix g m).polls = m.polls := rfl
@[simp] theorem setPix_pends (g : PixState → PixState) : (setPix g m).pends = m.pends := rfl
@[simp] theorem setPix_cpt (g : PixState → PixState) : (setPix g m).cpt = m.cpt := rfl
@[simp] theorem setPix_rx (g : PixState → PixState) : (setPix g m).rx = m.rx := rfl
@[simp] theorem setPix_flt (g : PixState → PixState) : (setPix g m).flt = m.flt := rfl
@[simp] theorem setPix_saf (g : PixState → PixState) : (setPix g m).saf = m.saf := rfl
@[simp] theorem setPix_pwr (g : PixState → PixState) : (setPix g m).pwr = m.pwr := rfl
@[simp] theorem setPix_thm (g : PixState → PixState) : (setPix g m).thm = m.thm := rfl
@[simp] theorem setPix_nvm (g : PixState → PixState) : (setPix g m).nvm = m.nvm := rfl
@[simp] theorem setPix_nvmWas (g : PixState → PixState) : (setPix g m).nvmWas = m.nvmWas := rfl
@[simp] theorem setPix_upd (g : PixState → PixState) : (setPix g m).upd = m.upd := rfl
@[simp] theorem setPix_cvs (g : PixState → PixState) : (setPix g m).cvs = m.cvs := rfl
@[simp] theorem setPix_ports (g : PixState → PixState) : (setPix g m).ports = m.ports := rfl
@[simp] theorem setPix_tx (g : PixState → PixState) : (setPix g m).tx = m.tx := rfl
@[simp] theorem setPix_tiles (g : PixState → PixState) : (setPix g m).tiles = m.tiles := rfl
@[simp] theorem setPix_limpAt (g : PixState → PixState) : (setPix g m).limpAt = m.limpAt := rfl
@[simp] theorem setPix_sigMissed (g : PixState → PixState) : (setPix g m).sigMissed = m.sigMissed := rfl
@[simp] theorem setPix_lampOpen (g : PixState → PixState) : (setPix g m).lampOpen = m.lampOpen := rfl
@[simp] theorem setPix_lampShort (g : PixState → PixState) : (setPix g m).lampShort = m.lampShort := rfl
@[simp] theorem setPix_owners (g : PixState → PixState) : (setPix g m).owners = m.owners := rfl
@[simp] theorem setPix_loops (g : PixState → PixState) : (setPix g m).loops = m.loops := rfl
@[simp] theorem setPix_mots (g : PixState → PixState) : (setPix g m).mots = m.mots := rfl
@[simp] theorem setPix_levelX (g : PixState → PixState) : (setPix g m).levelX = m.levelX := rfl
@[simp] theorem setPix_aim (g : PixState → PixState) : (setPix g m).aim = m.aim := rfl
@[simp] theorem setPix_inject (g : PixState → PixState) : (setPix g m).inject = m.inject := rfl
@[simp] theorem setPix_capture (g : PixState → PixState) : (setPix g m).capture = m.capture := rfl
@[simp] theorem setPix_adcs (g : PixState → PixState) : (setPix g m).adcs = m.adcs := rfl
@[simp] theorem setPix_chn (g : PixState → PixState) : (setPix g m).chn = m.chn := rfl
@[simp] theorem setPix_tickAt (g : PixState → PixState) : (setPix g m).tickAt = m.tickAt := rfl
@[simp] theorem setPix_cal (g : PixState → PixState) : (setPix g m).cal = m.cal := rfl
@[simp] theorem setPix_calAt (g : PixState → PixState) : (setPix g m).calAt = m.calAt := rfl
@[simp] theorem setPix_calTrained (g : PixState → PixState) : (setPix g m).calTrained = m.calTrained := rfl
@[simp] theorem setPix_calEye (g : PixState → PixState) : (setPix g m).calEye = m.calEye := rfl

/-! ### setNvm -/

@[simp] theorem setNvm_now (g : NvmState → NvmState) : (setNvm g m).now = m.now := rfl
@[simp] theorem setNvm_bornAt (g : NvmState → NvmState) : (setNvm g m).bornAt = m.bornAt := rfl
@[simp] theorem setNvm_free (g : NvmState → NvmState) : (setNvm g m).free = m.free := rfl
@[simp] theorem setNvm_regs (g : NvmState → NvmState) : (setNvm g m).regs = m.regs := rfl
@[simp] theorem setNvm_evAt (g : NvmState → NvmState) : (setNvm g m).evAt = m.evAt := rfl
@[simp] theorem setNvm_evs (g : NvmState → NvmState) : (setNvm g m).evs = m.evs := rfl
@[simp] theorem setNvm_rdata (g : NvmState → NvmState) : (setNvm g m).rdata = m.rdata := rfl
@[simp] theorem setNvm_resuming (g : NvmState → NvmState) : (setNvm g m).resuming = m.resuming := rfl
@[simp] theorem setNvm_held (g : NvmState → NvmState) : (setNvm g m).held = m.held := rfl
@[simp] theorem setNvm_rr (g : NvmState → NvmState) : (setNvm g m).rr = m.rr := rfl
@[simp] theorem setNvm_queues (g : NvmState → NvmState) : (setNvm g m).queues = m.queues := rfl
@[simp] theorem setNvm_ctxs (g : NvmState → NvmState) : (setNvm g m).ctxs = m.ctxs := rfl
@[simp] theorem setNvm_wait (g : NvmState → NvmState) : (setNvm g m).wait = m.wait := rfl
@[simp] theorem setNvm_sent (g : NvmState → NvmState) : (setNvm g m).sent = m.sent := rfl
@[simp] theorem setNvm_canTx (g : NvmState → NvmState) : (setNvm g m).canTx = m.canTx := rfl
@[simp] theorem setNvm_spiOut (g : NvmState → NvmState) : (setNvm g m).spiOut = m.spiOut := rfl
@[simp] theorem setNvm_polls (g : NvmState → NvmState) : (setNvm g m).polls = m.polls := rfl
@[simp] theorem setNvm_pends (g : NvmState → NvmState) : (setNvm g m).pends = m.pends := rfl
@[simp] theorem setNvm_cpt (g : NvmState → NvmState) : (setNvm g m).cpt = m.cpt := rfl
@[simp] theorem setNvm_rx (g : NvmState → NvmState) : (setNvm g m).rx = m.rx := rfl
@[simp] theorem setNvm_flt (g : NvmState → NvmState) : (setNvm g m).flt = m.flt := rfl
@[simp] theorem setNvm_saf (g : NvmState → NvmState) : (setNvm g m).saf = m.saf := rfl
@[simp] theorem setNvm_pwr (g : NvmState → NvmState) : (setNvm g m).pwr = m.pwr := rfl
@[simp] theorem setNvm_thm (g : NvmState → NvmState) : (setNvm g m).thm = m.thm := rfl
@[simp] theorem setNvm_nvmWas (g : NvmState → NvmState) : (setNvm g m).nvmWas = m.nvmWas := rfl
@[simp] theorem setNvm_upd (g : NvmState → NvmState) : (setNvm g m).upd = m.upd := rfl
@[simp] theorem setNvm_cvs (g : NvmState → NvmState) : (setNvm g m).cvs = m.cvs := rfl
@[simp] theorem setNvm_ports (g : NvmState → NvmState) : (setNvm g m).ports = m.ports := rfl
@[simp] theorem setNvm_tx (g : NvmState → NvmState) : (setNvm g m).tx = m.tx := rfl
@[simp] theorem setNvm_tiles (g : NvmState → NvmState) : (setNvm g m).tiles = m.tiles := rfl
@[simp] theorem setNvm_limpAt (g : NvmState → NvmState) : (setNvm g m).limpAt = m.limpAt := rfl
@[simp] theorem setNvm_sigMissed (g : NvmState → NvmState) : (setNvm g m).sigMissed = m.sigMissed := rfl
@[simp] theorem setNvm_lampOpen (g : NvmState → NvmState) : (setNvm g m).lampOpen = m.lampOpen := rfl
@[simp] theorem setNvm_lampShort (g : NvmState → NvmState) : (setNvm g m).lampShort = m.lampShort := rfl
@[simp] theorem setNvm_owners (g : NvmState → NvmState) : (setNvm g m).owners = m.owners := rfl
@[simp] theorem setNvm_loops (g : NvmState → NvmState) : (setNvm g m).loops = m.loops := rfl
@[simp] theorem setNvm_mots (g : NvmState → NvmState) : (setNvm g m).mots = m.mots := rfl
@[simp] theorem setNvm_levelX (g : NvmState → NvmState) : (setNvm g m).levelX = m.levelX := rfl
@[simp] theorem setNvm_aim (g : NvmState → NvmState) : (setNvm g m).aim = m.aim := rfl
@[simp] theorem setNvm_inject (g : NvmState → NvmState) : (setNvm g m).inject = m.inject := rfl
@[simp] theorem setNvm_capture (g : NvmState → NvmState) : (setNvm g m).capture = m.capture := rfl
@[simp] theorem setNvm_adcs (g : NvmState → NvmState) : (setNvm g m).adcs = m.adcs := rfl
@[simp] theorem setNvm_chn (g : NvmState → NvmState) : (setNvm g m).chn = m.chn := rfl
@[simp] theorem setNvm_pix (g : NvmState → NvmState) : (setNvm g m).pix = m.pix := rfl
@[simp] theorem setNvm_tickAt (g : NvmState → NvmState) : (setNvm g m).tickAt = m.tickAt := rfl
@[simp] theorem setNvm_cal (g : NvmState → NvmState) : (setNvm g m).cal = m.cal := rfl
@[simp] theorem setNvm_calAt (g : NvmState → NvmState) : (setNvm g m).calAt = m.calAt := rfl
@[simp] theorem setNvm_calTrained (g : NvmState → NvmState) : (setNvm g m).calTrained = m.calTrained := rfl
@[simp] theorem setNvm_calEye (g : NvmState → NvmState) : (setNvm g m).calEye = m.calEye := rfl

/-! ### setThm -/

@[simp] theorem setThm_now (g : ThmState → ThmState) : (setThm g m).now = m.now := rfl
@[simp] theorem setThm_bornAt (g : ThmState → ThmState) : (setThm g m).bornAt = m.bornAt := rfl
@[simp] theorem setThm_free (g : ThmState → ThmState) : (setThm g m).free = m.free := rfl
@[simp] theorem setThm_regs (g : ThmState → ThmState) : (setThm g m).regs = m.regs := rfl
@[simp] theorem setThm_evAt (g : ThmState → ThmState) : (setThm g m).evAt = m.evAt := rfl
@[simp] theorem setThm_evs (g : ThmState → ThmState) : (setThm g m).evs = m.evs := rfl
@[simp] theorem setThm_rdata (g : ThmState → ThmState) : (setThm g m).rdata = m.rdata := rfl
@[simp] theorem setThm_resuming (g : ThmState → ThmState) : (setThm g m).resuming = m.resuming := rfl
@[simp] theorem setThm_held (g : ThmState → ThmState) : (setThm g m).held = m.held := rfl
@[simp] theorem setThm_rr (g : ThmState → ThmState) : (setThm g m).rr = m.rr := rfl
@[simp] theorem setThm_queues (g : ThmState → ThmState) : (setThm g m).queues = m.queues := rfl
@[simp] theorem setThm_ctxs (g : ThmState → ThmState) : (setThm g m).ctxs = m.ctxs := rfl
@[simp] theorem setThm_wait (g : ThmState → ThmState) : (setThm g m).wait = m.wait := rfl
@[simp] theorem setThm_sent (g : ThmState → ThmState) : (setThm g m).sent = m.sent := rfl
@[simp] theorem setThm_canTx (g : ThmState → ThmState) : (setThm g m).canTx = m.canTx := rfl
@[simp] theorem setThm_spiOut (g : ThmState → ThmState) : (setThm g m).spiOut = m.spiOut := rfl
@[simp] theorem setThm_polls (g : ThmState → ThmState) : (setThm g m).polls = m.polls := rfl
@[simp] theorem setThm_pends (g : ThmState → ThmState) : (setThm g m).pends = m.pends := rfl
@[simp] theorem setThm_cpt (g : ThmState → ThmState) : (setThm g m).cpt = m.cpt := rfl
@[simp] theorem setThm_rx (g : ThmState → ThmState) : (setThm g m).rx = m.rx := rfl
@[simp] theorem setThm_flt (g : ThmState → ThmState) : (setThm g m).flt = m.flt := rfl
@[simp] theorem setThm_saf (g : ThmState → ThmState) : (setThm g m).saf = m.saf := rfl
@[simp] theorem setThm_pwr (g : ThmState → ThmState) : (setThm g m).pwr = m.pwr := rfl
@[simp] theorem setThm_nvm (g : ThmState → ThmState) : (setThm g m).nvm = m.nvm := rfl
@[simp] theorem setThm_nvmWas (g : ThmState → ThmState) : (setThm g m).nvmWas = m.nvmWas := rfl
@[simp] theorem setThm_upd (g : ThmState → ThmState) : (setThm g m).upd = m.upd := rfl
@[simp] theorem setThm_cvs (g : ThmState → ThmState) : (setThm g m).cvs = m.cvs := rfl
@[simp] theorem setThm_ports (g : ThmState → ThmState) : (setThm g m).ports = m.ports := rfl
@[simp] theorem setThm_tx (g : ThmState → ThmState) : (setThm g m).tx = m.tx := rfl
@[simp] theorem setThm_tiles (g : ThmState → ThmState) : (setThm g m).tiles = m.tiles := rfl
@[simp] theorem setThm_limpAt (g : ThmState → ThmState) : (setThm g m).limpAt = m.limpAt := rfl
@[simp] theorem setThm_sigMissed (g : ThmState → ThmState) : (setThm g m).sigMissed = m.sigMissed := rfl
@[simp] theorem setThm_lampOpen (g : ThmState → ThmState) : (setThm g m).lampOpen = m.lampOpen := rfl
@[simp] theorem setThm_lampShort (g : ThmState → ThmState) : (setThm g m).lampShort = m.lampShort := rfl
@[simp] theorem setThm_owners (g : ThmState → ThmState) : (setThm g m).owners = m.owners := rfl
@[simp] theorem setThm_loops (g : ThmState → ThmState) : (setThm g m).loops = m.loops := rfl
@[simp] theorem setThm_mots (g : ThmState → ThmState) : (setThm g m).mots = m.mots := rfl
@[simp] theorem setThm_levelX (g : ThmState → ThmState) : (setThm g m).levelX = m.levelX := rfl
@[simp] theorem setThm_aim (g : ThmState → ThmState) : (setThm g m).aim = m.aim := rfl
@[simp] theorem setThm_inject (g : ThmState → ThmState) : (setThm g m).inject = m.inject := rfl
@[simp] theorem setThm_capture (g : ThmState → ThmState) : (setThm g m).capture = m.capture := rfl
@[simp] theorem setThm_adcs (g : ThmState → ThmState) : (setThm g m).adcs = m.adcs := rfl
@[simp] theorem setThm_chn (g : ThmState → ThmState) : (setThm g m).chn = m.chn := rfl
@[simp] theorem setThm_pix (g : ThmState → ThmState) : (setThm g m).pix = m.pix := rfl
@[simp] theorem setThm_tickAt (g : ThmState → ThmState) : (setThm g m).tickAt = m.tickAt := rfl
@[simp] theorem setThm_cal (g : ThmState → ThmState) : (setThm g m).cal = m.cal := rfl
@[simp] theorem setThm_calAt (g : ThmState → ThmState) : (setThm g m).calAt = m.calAt := rfl
@[simp] theorem setThm_calTrained (g : ThmState → ThmState) : (setThm g m).calTrained = m.calTrained := rfl
@[simp] theorem setThm_calEye (g : ThmState → ThmState) : (setThm g m).calEye = m.calEye := rfl

/-! ### atTime -/

/-- RESET_N does not hold the device in reset: nothing starts. -/
@[simp] theorem leaveReset_free {m : Mach} (h : m.pwr.pinHeld = false) : leaveReset m = m := by simp [leaveReset, h]

/-- Where RESET_N does not hold the device, no write of the AON domain is held and no source of a move is to be released, only the
instant moves on. -/
theorem atTime_still {t : Nat} (hr : m.pwr.pinHeld = false) (h : m.pwr.aonQ = []) (h' : m.pix.plan = []) :
    atTime t m = { m with now := max m.now t } := by
  have e : { m.pwr with aonQ := [] } = m.pwr := by rw [← h]
  have r : leaveReset { m with now := max m.now t } = { m with now := max m.now t } := leaveReset_free hr
  simp [atTime, r, aonDrain, planDrain, h, h', e]

end Sys2Proof.Machine
end

