-- ==== Sys2Proof/Machine/Pins.lean ====
section
/-!
DEFINITION. The levels of the output pins, as the state and the power state give them (R48, R293, R310, R323, R324, R344, R379, R433). No
row calls these functions: they say what the pins show.
-/

namespace Sys2Proof.Machine

/-- What an output pin shows. `driven`: its unit moves it as it transfers. -/
inductive PinLevel where
  | low
  | high
  | hiZ
  | released
  | idle
  | unpowered
  | driven
  deriving DecidableEq, Repr

/-- The output pins of R379. A gate pin is named by channel, phase (U, V, W) and side, a chain pin by its port. -/
inductive OutPin where
  | limpN
  | sout (j : Fin 2)
  | tp (k : Fin 4)
  | errN
  | gate (c : Fin 4) (phase : Fin 3) (high : Bool)
  | brk (c : Fin 4)
  | chain (n : Fin 4)
  | canTx (n : Fin 2)
  | cptIntN (n : Fin 2)
  | xspiCsN
  | imuCsN
  | cirrusTx (p : Fin 24)
  | railEn
  deriving DecidableEq, Repr

def PinLevel.of (b : Bool) : PinLevel := if b then .high else .low

/-- TPk is low during its pulses (R323). -/
def tpHigh (m : Mach) (k : Nat) : Bool := !inPulse m k 0

/-- The pins while the domains run: RUN, IDLE and thermal hold. A chain port that does not run holds its pins low (R271). -/
def runPin (m : Mach) : OutPin → PinLevel
  | .limpN => .of m.saf.limpHigh
  | .sout j => .of (flag m (rSAF_OUT_STAT j) fSAF_OUT_STAT_OUT)
  | .tp k => .of (tpHigh m k)
  | .errN => if flag m rFLT_ERRN fFLT_ERRN_ACTIVE then .low else .released
  | .gate c ph high =>
    let g := (gatePins m c).getD ph (false, false)
    .of (if high then g.1 else g.2)
  | .brk c => .of (brakePin m c)
  | .chain n => if flag m (rCHN_PORT_STAT n) fCHN_PORT_STAT_RUN && !hasBit (getF m rFLT_FENCE_MISC fFLT_FENCE_MISC_CHAIN) n then .driven else .low
  | .canTx _ => .driven
  | .cptIntN n => .of (Sys2Proof.Machine.cptIntN m n)
  | .xspiCsN => .driven
  | .imuCsN => .driven
  | .cirrusTx p => if flag m (rCPL_STATE p) fCPL_STATE_TX_IDLE then .idle else .driven
  | .railEn => .released

/-- The pins in SLEEP (R379). -/
def sleepPin (m : Mach) : OutPin → PinLevel
  | .limpN => .low
  | .sout _ => .low
  | .tp k => .of (tpHigh m k)
  | .errN => if flag m rFLT_FATAL fFLT_FATAL_SET then .low else .released
  | .gate _ _ _ => .low
  | .brk c => .of (flag m (rMOT_CFG c) fMOT_CFG_BRK_POL)
  | .chain _ => .low
  | .canTx _ => .driven
  | .cptIntN _ => .high
  | .xspiCsN => .high
  | .imuCsN => .high
  | .cirrusTx _ => .idle
  | .railEn => .released

/-- The pins in DEEP and OFF, RAIL_EN low in OFF alone and released at the wake from it, and before the supplies are in range (R379, R433). -/
def offPin (m : Mach) : OutPin → PinLevel
  | .errN => .released
  | .cirrusTx _ => .unpowered
  | .railEn => if m.pwr.st = 4 ∧ !m.pwr.exiting then .low else .released
  | .limpN | .sout _ | .tp _ | .gate _ _ _ | .brk _ | .chain _ | .canTx _ | .cptIntN _ | .xspiCsN | .imuCsN => .hiZ

/-- The level of an output pin. -/
def outPin (m : Mach) (p : OutPin) : PinLevel :=
  if m.pwr.st = 2 then sleepPin m p
  else if m.pwr.st = 3 ∨ m.pwr.st = 4 ∨ m.pwr.st = 6 then offPin m p
  else runPin m p

end Sys2Proof.Machine
end

