-- ==== Sys2Proof/WellFormed.lean ====
section
/-!
DEFINITION. Which commands are well formed: the parameter words name the row that carries the packet, and operands lie in the ranges
that the spec gives what they stand for. The meanings are total; an ill-formed command stands for nothing that can arrive.
-/

namespace Sys2Proof

open Machine

/-! ### Packets -/

/-- Parameter word 0, in which the rows of one opcode differ. -/
def Packet.head (p : Packet) : Word := p.params.getD 0 0

/-- The words of a packet can be counted by PLEN (R40). -/
def Packet.wf (p : Packet) : Bool := decide (p.params.length < 65536)

/-- A packet whose bits `[hi:lo]` of word 0 hold none of `vs`: the row that also takes the codes which no row names. -/
def Packet.others (p : Packet) (hi lo : Nat) (vs : List Nat) : Bool := p.wf && !vs.contains (bits p.head hi lo)

/-- A packet whose bits `[hi:lo]` of word 0 hold `v`. -/
def Packet.names (p : Packet) (hi lo v : Nat) : Bool := p.wf && bits p.head hi lo == v

/-- The opcodes of VERSION 1 (R79), and those of VERSION 0 (R90). -/
def nativeDefined (op : Nat) : Bool :=
  decide (op ≤ 0x0D) || (decide (0x10 ≤ op) && decide (op ≤ 0x15)) || (decide (0x20 ≤ op) && decide (op ≤ 0x25)) ||
  (decide (0x28 ≤ op) && decide (op ≤ 0x2D)) || (decide (0x30 ≤ op) && decide (op ≤ 0x37)) ||
  (decide (0x40 ≤ op) && decide (op ≤ 0x47)) || (decide (0x50 ≤ op) && decide (op ≤ 0x58)) ||
  (decide (0x60 ≤ op) && decide (op ≤ 0x7B))

def legacyDefined (op : Nat) : Bool := decide (op ≤ 6)

/-- VERSION and OPCODE are bytes, and no row carries them. -/
def undefinedOp (ver op : Nat) : Bool :=
  decide (ver < 256) && decide (op < 256) && !(ver == 1 && nativeDefined op) && !(ver == 0 && legacyDefined op)

/-! ### Envelopes, blocks, frames -/

/-- OBJECT of the envelope in `ws` (R314). -/
def envObject (ws : List Word) : Nat := bits (ws.getD 2 0) 31 24

/-- A CAN identifier fits its format, and a CAN FD frame carries at most 64 bytes (R51). -/
def canIdWf (xtd : Bool) (id : Nat) : Bool := decide (id < if xtd then 2 ^ 29 else 2 ^ 11)

def CanFrame.wf (f : CanFrame) : Bool := canIdWf f.xtd f.id && decide (f.words.length ≤ 16)

/-- The words of the envelope that a carrier brings. -/
def EnvSrc.words : EnvSrc → List Word
  | .dratus p _ => p.params
  | .native f _ => f.words

def EnvSrc.wf : EnvSrc → Bool
  | .dratus p _ => p.wf
  | .native f _ => f.wf

/-- An envelope for object `k`. -/
def EnvSrc.names (e : EnvSrc) (k : Nat) : Bool := e.wf && envObject e.words == k

/-- SEQ of a block is 8 bits wide, and a payload has at most 64 words (R209, R210). -/
def Blk.wf (b : Blk) : Bool := decide (b.seq < 256) && decide (b.words.length ≤ 64)

/-- A block of reserved type, or a LINK block whose OP is none of R211. -/
def Blk.reserved (b : Blk) (type : Fin 16) : Bool :=
  b.wf && (decide (8 ≤ type.val) || (type == 6 && !([1, 2, 3, 4, 5].contains (bits (b.words.getD 0 0) 31 24))))

/-! ### What the device measures -/

/-- Each code of the three pins of an encoder or Hall input, with the instant at which it was taken (R295). -/
def pinsWf (pins : List (Nat × Nat)) : Bool := pins.all (fun e => decide (e.2 < 8))

/-- At most 32 devices on each of the 4 chain ports (R266); one list for each motor channel and one sum for each of PD0 to PD3. -/
def TickEnv.wf (e : TickEnv) : Bool :=
  decide (e.ret.length ≤ 4) && e.ret.all (fun l => decide (l.length ≤ 32)) && decide (e.pins.length = 4) && e.pins.all pinsWf &&
  decide (e.pd.length = 4) && decide (e.overs < 2 ^ 10) && decide (e.fltLow < 16)

/-- One reading for each of the 12 sensors, and for each ms one power in mW for each of the 6 regions (R353, R354). -/
def readsWf (reads : List (Option Int)) : Bool := decide (reads.length = 12)
def powersWf (pws : List (List Nat)) : Bool := pws.all (fun pw => decide (pw.length = 6) && pw.all (fun p => decide (p < 65536)))

/-- The levels of the feedback inputs and of the outputs, and the clocks out of range (R324, R327). -/
def SafPins.wf (pins : SafPins) : Bool := decide (pins.sfb < 4) && decide (pins.sout < 4) && decide (pins.clkBad < 32)

/-- One set of measurements for each channel, monitor and range, oscillator, termination and port (R413). -/
def CalOut.wf (out : CalOut) : Bool :=
  decide (out.adc.length ≤ 24) && decide (out.sense.length ≤ 22) && decide (out.osc.length ≤ 4) && decide (out.term.length ≤ 48) && decide (out.eyes.length ≤ 24)

/-- A move names one of the four kinds, one of 12 engines (15: none) and DRAM regions 0 to 63 (64: none). -/
def PlanMove.wf (v : PlanMove) : Bool :=
  decide (1 ≤ v.kind) && decide (v.kind ≤ 4) && decide (v.engA < 12) && (decide (v.engB < 12) || v.engB == 15) &&
  decide (v.src ≤ 64) && decide (v.dst ≤ 64) && decide (v.use < 16)

def PlanEnv.wf (e : PlanEnv) : Bool := e.moves.all PlanMove.wf

/-- Fault sources are numbered 0 to 319 (R338). -/
def hitsWf (hits : List (Nat × Word)) : Bool := hits.all (fun h => decide (h.1 < 320))

/-- Map sets are named by tile and beam mode. -/
def setsWf (l : List (Nat × Nat)) : Bool := l.all (fun e => decide (e.1 < 24) && decide (e.2 < 4))

/-! ### Commands -/

/-- The well-formed commands. -/
def Instr.wf : Instr → Bool
  | .nop p | .identify p | .contextOpen p | .contextClose p | .getStatus p | .loadQuery p | .provisionLock p _
  | .setPermissions p | .eventSubscribe p | .pathBind p | .groupAssign p | .timeGet p | .regRead p | .regWrite p
  | .regModify p | .regReadList p | .regWriteList p | .regPoll p | .bufAlloc p | .bufFree p | .bufWrite p | .bufRead p
  | .bufInfo p | .layerCreate p | .layerDestroy p | .layerSet p | .layerAttach p | .stackSet p | .colourMatrixSet p
  | .commit p _ | .commitStatus p | .timingSet p | .racingSet p | .warpMeshLoad p | .poseMsg p | .placementMap p
  | .gainGlobalSet p | .uniformityLoad p | .wearTableLoad p | .transferCurveLoad p | .wearSnapshot p | .repairConfig p
  | .derateConfig p | .complianceRead p | .portConfig p | .portStatus p | .eyeScan p | .tileEnumerate p | .tileInfo p
  | .spareSet p | .chainConfig p | .chainWrite p | .chainReadback p | .groupConfig p | .probeConfig p | .colourLoopSet p
  | .loopConfig p | .coefLoad p | .bankSwap p | .tuneInject p | .captureRead p | .adcConfig p | .levelSet p | .updData p
  | .updVerify p | .activate p | .confirm p | .settingsSave p _ | .cvJob p | .safeRead p | .safeStatus p | .bamutEnable p
  | .legacyNop p | .getId p | .legacyGetStatus p | .setGain p | .frameWrite p | .frameShow p _ | .sleep p => p.wf
  | .setPowerRun p => p.names 2 0 0
  | .setPowerIdle p => p.names 2 0 1
  | .setPowerSleep p => p.names 2 0 2
  | .setPowerDeep p => p.names 2 0 3
  | .setPowerOff p => p.others 2 0 [0, 1, 2, 3]
  | .restart p => p.others 1 0 [1]
  | .unprovision p => p.names 1 0 1
  | .streamBind p => p.names 31 31 1
  | .streamUnbind p => p.names 31 31 0
  | .poseConfig p => p.others 1 0 [1, 2]
  | .poseConfigGroup p => p.names 1 0 1
  | .poseConfigTile p => p.names 1 0 2
  | .loopbackOff p => p.others 10 8 [1, 2, 3, 4]
  | .nearEndSerial p => p.names 10 8 1
  | .nearEndParallel p => p.names 10 8 2
  | .farEndRequest p => p.names 10 8 3
  | .farEndAccept p => p.names 10 8 4
  | .tileAuthPolicy p => p.names 1 0 0
  | .policyTimeouts p => p.names 1 0 1
  | .policyAnchor p => p.names 1 0 2
  | .policyTile p => p.names 1 0 3
  | .twinSet p => p.names 31 31 1
  | .twinRemove p => p.names 31 31 0
  | .auroraLoad p => p.others 3 0 [8]
  | .gammaLoad p => p.names 3 0 8
  | .auroraStart p => p.names 31 31 1
  | .auroraStop p => p.names 31 31 0
  | .motorPosition p => p.others 10 8 [1, 2, 3]
  | .motorSpeed p => p.names 10 8 1
  | .motorPark p => p.names 10 8 2
  | .motorRelease p => p.names 10 8 3
  | .updBegin p => p.wf && !p.params.isEmpty
  | .updCancel p => p.params.isEmpty
  | .calRun p => p.names 31 31 0
  | .calRunFactory p => p.names 31 31 1
  | .heartbeat src => src.wf && !([2, 3, 4, 5, 6].contains (envObject src.words))
  | .beamMode src => src.names 2
  | .maskEnable src => src.names 3
  | .complianceMap src => src.names 4
  | .output src => src.names 5
  | .safeConfig src => src.names 6
  | .badOpcode p ver op => p.wf && undefinedOp ver op
  | .pollRead _ _ _ | .regPollTimeout _ _ _ | .injectionEnd _ | .verifyDone _ _ | .activationOverrun _ | .trialMsSave _
  | .trialTimeout _ | .cvJobDone _ _ | .mapCopyDone _ _ | .mapPersist _ _ _ | .packetDiscard _ _ | .readPkt _ _
  | .readStat _ _ | .scnRateWrite _ _ _ _ | .close _ _ | .release _ _ | .fltPfenceClrGo _ _ | .telltaleClear _ _ _
  | .rtcTimeStage _ _ _ | .rtcTimeLoad _ _ _ | .rtcTimeLoRead _ | .rtcAonCntLoRead _ | .hubLoadRead _ | .garLoadRead _ _
  | .nvmLogSelWrite _ _ _ | .powerUp _ | .resetN _ _ | .selfTestEnd _ _ _ | .groupStart _ | .supplyBrownOut _
  | .vddSafExcursion _ | .safPowerOnReset _ | .vaonLoss _ | .bkupLost _ | .hwsafe _ | .clockMonitor _ _ | .crystalStop _
  | .crystalReturn _ | .unprovisionTimeout _ | .ackStuck _ | .safetyInputChange _ _ _ _ | .inputDiscrepancy _ _
  | .inputRateWindow _ _ _ | .outputFeedbackMismatch _ _ _ _ | .limpReadback _ | .producerExpiry _ _ | .topazWatchdog _
  | .topazRestarted _ | .latch _ _ | .stopInstant _ _ | .bandLatch _ _ _ | .bandLate _ _ _ _
  | .idleReqTimeout _ _ | .deadListTimeout _ _ | .authenticationEnd _ _ | .identTimeout _ _ | .authTimeout _ _
  | .noIdRetry _ _ | .silentTimeout _ _ | .tileAbsent _ _ | .reportFlood _ _ | .los _ _ | .losHoldExpiry _ _ | .lol _ _
  | .loa _ _ | .errorRateExceeded _ _ | .squelchExit _ _ | .exitTimer _ _ | .detectComplete _ _ | .trainingFailure _ _
  | .failedTimeout _ _ | .resyncTimeout _ _ | .txIdleEntry _ _ | .txIdleExit _ _ | .portReferenceLoss _
  | .portReferenceRestored _ | .spareBringIn _ _ | .twinRejoin _ _ | .spareReturn _ _ | .loopOverrun _ _ | .bankSwitch _
  | .frozenFeedback _ _ | .encoderErrors _ _ | .homingComplete _ _ | .homingTimeout _ _ | .motorDriverFault _ _
  | .hostPoseTimeout _ | .imuOnlyTimeout _ | .modelBaseUpdate _ | .shutdownStop _ | .thermalHoldEnd _ | .waitForState _
  | .entryDrain _ | .stateReached _ | .wakePin _ | .calendarAlarm _ | .wakeTimer _ | .migrationCopyDone _ _
  | .wearSliceWrite _ | .retryEnd _ _ _ | .recHoldExpiry _ | .parityScan _ _ | .firstRegisterScan _ | .logWrite _ _
  | .calibrationCheck _ _ | .transmitPllLossOfLock _ _ | .headerCheckFailure _ _ | .codeViolation _ _ => true
  | .reservedBlockType b type => b.reserved type
  | .eyeScanDone _ _ width height => decide (width < 2 ^ 7) && decide (height < 2 ^ 10)
  | .activationTopazReset _ failed => decide (failed < 2 ^ 32)
  | .exitComplete _ failed => decide (failed < 2 ^ 48)
  | .calibrationDone _ out => out.wf
  | .classicalCanFrame _ _ xtd id => canIdWf xtd id
  | .writePkt _ _ bytes _ => decide (bytes.length ≤ 65536)
  | .topazHeartbeat _ count => decide (count < 2 ^ 32)
  | .registerWrite _ _ addr _ => decide (addr < 2 ^ 32)
  | .boot _ torn bad => decide (torn < 3) && decide (bad < 2 ^ 14)
  | .flashLoadEnd _ flash => decide (flash.unifBad < 2 ^ 24) && decide (flash.dirBad < 4) && decide (flash.mode < 3)
  | .safTick r => r.pins.wf
  | .qualifiedSafAckEdge _ edge => edge.pins.wf
  | .testPulse _ _ levels => decide (levels < 256)
  | .mapCrcScan _ bad => setsWf bad
  | .curveCheck _ bad => decide (bad < 2 ^ 24)
  | .lineStart _ _ notReady => decide (notReady < 2 ^ 24)
  | .fill b | .pixel b | .rowStart b | .frameStart b | .command b _ | .train b | .trainSeq b | .idleReq b | .retrainReq b
  | .loopReq b | .test b | .health b | .signature b | .deadList b | .ident b | .authResp b => b.wf
  | .tick _ env => env.wf
  | .currentSample _ _ adcU adcV pins => decide (adcU < 2 ^ 12) && decide (adcV < 2 ^ 12) && pinsWf pins
  | .coefCheck _ bad => decide (bad < 2 ^ 18)
  | .adcConversion _ _ _ => true
  | .imuSample _ bytes => decide (bytes.length ≤ 64)
  | .thermalSample _ reads pw => readsWf reads && powersWf pw
  | .holdSensorSample _ reads | .sleepSensorSample _ reads => readsWf reads
  | .loadWindow _ load gar0 gar1 => decide (load < 256) && decide (gar0 < 256) && decide (gar1 < 256)
  | .placementPlan _ plan => plan.wf
  | .pageReturn _ handle => decide (handle < 2 ^ 32)
  | .faultArrival _ hits => hitsWf hits

end Sys2Proof
end

