-- ==== Sys2Proof/Tests/Slice0.lean ====
section
/-!
SUPPORT. Tests of the model on small states, and for every statement of Obligations.lean that has hypotheses a theorem `meets_…` that
concrete states and operands meet them, clause by clause.
-/

namespace Sys2Proof.Tests.Slice0

-- One theorem at a time: the kernel's evaluations, made in parallel, want more threads than a checker grants.
set_option Elab.async false

open Sys2Proof Sys2Proof.Machine

/-! ### States and packets for tests -/

/-- A packet of VERSION `ver` and OPCODE `op` from context `host` on the debug port, in queue 0, with sequence 0 and right check words. -/
def pktFrom (host : BitVec 8) (ver op : Nat) (params : List Word) : Packet :=
  sealPacket ver op
    { t := 0, path := 28, flags := 0, host := host, queue := 0, seq := 0, plen := BitVec.ofNat 16 params.length, status := 0
      resv := 0, params := params, hchk := 0, trailer := 0, short := false }

/-- The same from H0. -/
def pkt (ver op : Nat) (params : List Word) : Packet := pktFrom 0 ver op params

/-- A block that has booted, with context 0 open. -/
def m0 : Mach := setB (rHUB_CTX_CFG 0) fHUB_CTX_CFG_OPEN true { upd := { booted := true } }

/-- The state with nothing but the block. -/
def on (m : Mach) : State := { blk := m }

/-- The block at instant `t`. -/
def at' (t : Nat) (m : Mach) : Mach := { m with now := t }

/-! ### Check words -/

theorem reflect_lt (n v : Nat) : reflect n v < 2 ^ n := by
  induction n generalizing v with
  | zero => exact Nat.one_pos
  | succ n ih =>
    have h := ih (v / 2)
    have h2 : v % 2 < 2 := Nat.mod_lt _ (by omega)
    simp only [reflect, Nat.pow_succ]
    have h3 : v % 2 * 2 ^ n ≤ 1 * 2 ^ n := Nat.mul_le_mul_right _ (by omega)
    omega

theorem crcBit_lt {c : CrcCfg} (hp : c.poly < 2 ^ c.w) (r : Nat) (b : Bool) : crcBit c r b < 2 ^ c.w := by
  have h : r * 2 % 2 ^ c.w < 2 ^ c.w := Nat.mod_lt _ (Nat.two_pow_pos _)
  unfold crcBit
  split
  · exact Nat.xor_lt_two_pow h hp
  · exact h

theorem foldl_lt {α : Type} {f : Nat → α → Nat} {n : Nat} (hf : ∀ r a, r < n → f r a < n) (l : List α) (r : Nat) (h : r < n) :
    l.foldl f r < n := by
  induction l generalizing r with
  | nil => exact h
  | cons a l ih => exact ih _ (hf r a h)

/-- A CRC of width `w` is below `2 ^ w`. -/
theorem crc_lt {c : CrcCfg} (hp : c.poly < 2 ^ c.w) (hi : c.init < 2 ^ c.w) (hx : c.xorOut < 2 ^ c.w) (bytes : List Nat) :
    crc c bytes < 2 ^ c.w := by
  have h : crcRun c c.init bytes < 2 ^ c.w :=
    foldl_lt (fun r b hr => foldl_lt (fun r b _ => crcBit_lt hp r b) _ r hr) bytes _ hi
  unfold crc crcEnd
  split
  · exact Nat.xor_lt_two_pow (reflect_lt _ _) hx
  · exact Nat.xor_lt_two_pow h hx

/-- The check words are those of R42. -/
def Right (o : OpInfo) (p : Packet) : Prop :=
  p.hchk.toNat = packetHchk o.ver o.op p ∧ p.trailer.toNat = packetTrailer o.ver o.op p

theorem crc16_lt (bytes : List Nat) : crc crc16 bytes < 2 ^ 16 := crc_lt (c := crc16) (by decide) (by decide) (by decide) bytes

theorem crc32_lt (bytes : List Nat) : crc crc32c bytes < 2 ^ 32 := crc_lt (c := crc32c) (by decide) (by decide) (by decide) bytes

theorem hchk_seal (ver op : Nat) (p : Packet) (h : BitVec 16) (t : Word) :
    packetHchk ver op { p with hchk := h, trailer := t } = packetHchk ver op p :=
  congrArg (crc crc16) (show headerBytes ver op { p with hchk := h, trailer := t } = headerBytes ver op p from rfl)

theorem trailer_seal (ver op : Nat) (p : Packet) (h : BitVec 16) (t : Word) :
    packetTrailer ver op { p with hchk := h, trailer := t } = packetTrailer ver op { p with hchk := h } :=
  congrArg (crc crc32c)
    (show coveredBytes ver op { p with hchk := h, trailer := t } = coveredBytes ver op { p with hchk := h } from rfl)

theorem right {o : OpInfo} (p : Packet) : Right o (sealPacket o.ver o.op p) := by
  unfold Right sealPacket
  dsimp only
  refine ⟨?_, ?_⟩
  · rw [hchk_seal, BitVec.toNat_ofNat]
    exact Nat.mod_eq_of_lt (crc16_lt _)
  · rw [w32, BitVec.toNat_ofNat]
    exact (Nat.mod_eq_of_lt (crc32_lt _)).trans (trailer_seal o.ver o.op p _ _).symm

/-! ### The hypotheses of the statements -/

/-- The first packet of its queue, but for the check words, passes checks 1 to 11 of R56 and starts. -/
abbrev Light (o : OpInfo) (p : Packet) (m : Mach) : Prop :=
  Takes m ∧ outOfReach m p.path = false ∧ m.queues = [] ∧ p.seq.toNat = 0 ∧ pathEnabled m p.path = true ∧ versionOk o p m = true ∧
      hostMatches m p = true ∧
    fieldsOk p = true ∧ lengthOk p = true ∧ contextOk o p m = true ∧ permission m o p = none ∧
    queueLoad m (ctxN p) (queueN p) < 16 ∧ deferred m o = false ∧ mayStart o p (advanced o p m) = true

/-- The state in which such a packet runs. -/
abbrev ready (o : OpInfo) (p : Packet) (m : Mach) : Mach := started o p (advanced o p m)

theorem light_starts {i : Instr} {o : OpInfo} {p : Packet} {b : Mach} (hr : Right o p) (h : Light o p (atTime p.t b)) :
    arrive i o true p b = .go (ready o p (atTime p.t b)) := by
  generalize hm : atTime p.t b = m at h
  obtain ⟨⟨h1, h2, h3, h4⟩, hr5, hq, hs, hp, hv, hh, hf, hl, hc, hx, hw, hd, ha⟩ := h
  have hQ : queueOf m (ctxN p) (queueN p) = {} := by simp [queueOf, hq]
  have hA : checkSeq i o p m = .go (ready o p m) := by
    unfold checkSeq ready started advanced at *
    simp only [hQ, hs, hx, hd, Bool.false_and, Bool.false_eq_true, if_false, bne_self_eq_false, Bool.or_false] at ha ⊢
    rw [if_neg (by simpa using hw)]
    unfold startOrWait
    rw [if_neg (by rw [mayStart, Bool.not_eq_true'] at ha; rw [ha]; exact Bool.false_ne_true)]
  have hH : checkHeader i o true p m = .go (ready o p m) := by
    unfold versionOk at hv
    simp only [lengthOk, Bool.and_eq_true, decide_eq_true_eq, Bool.not_eq_true', beq_iff_eq] at hl
    have hc' : (!ctxOpen m (ctxN p) && !(o.op == 0x00 || (o.ver == 1 && (o.op == 0x01 || o.op == 0x02)) ||
        (o.ver == 0 && o.op == 0x01))) = false := by
      unfold contextOk at hc
      grind
    have e1 : ¬ pathMax p.path < p.params.length := by omega
    simp only [checkHeader, hp, hr.1, hr.2, h4, hv, hh, hf, hl.1.2, Bool.or_false, hl.2, e1, hc', decide_false, Option.isSome_none,
        bne_self_eq_false, Bool.not_true,
      Bool.false_eq_true, if_false]
    exact hA
  unfold arrive
  rw [hm]
  simp only [h1, h2, hr5, pathsHeld, h4, Bool.false_eq_true, if_false, Bool.not_true, if_neg h3]
  exact hH

/-- Packet `p` starts in state `s`, but for its check words, and meets the guard of its row. -/
abbrev MeetsAt (o : OpInfo) (rlen : Packet → Mach → Nat) (guard : Packet → Mach → Prop) (p : Packet) (s : State) : Prop :=
  Light o p (atTime p.t s.blk) ∧
    (flag (ready o p (atTime p.t s.blk)) rUPD_STAT fUPD_STAT_GOLDEN && !goldenOp o) = false ∧
    rlen p (ready o p (atTime p.t s.blk)) ≤ pathMax p.path ∧ guard p (ready o p (atTime p.t s.blk))

/-- The hypotheses of `Answers` are met. -/
def Meets (row : Packet → Instr) (o : OpInfo) (rlen : Packet → Mach → Nat) (guard : Packet → Mach → Prop) : Prop :=
  ∃ p s m, Starts (row p) o rlen p s m ∧ guard p m

/-- The hypotheses of `AnswersMem` are met. -/
def MeetsMem (row : Packet → Instr) (o : OpInfo) (rlen : Packet → Mach → Nat) (guard : Packet → Tab Byte → Mach → Prop) : Prop :=
  ∃ p s m, Starts (row p) o rlen p s m ∧ guard p s.mem m

/-- The hypotheses of `Happens` are met. -/
def Occurs (_row : Nat → Instr) (guard : Mach → Prop) : Prop := ∃ (t : Nat) (s : State), guard (atTime t s.blk)

/-- The hypotheses of both parts of `WritesObject` are met. -/
def MeetsObject (row : EnvSrc → Instr) (obj : Nat) (good : List Word → Mach → Prop) : Prop :=
  ∃ (e : Env) (who : Option Nat) (waitMs : Nat),
  Meets (fun p => row (.dratus p waitMs)) (native 0x78 0 .onyx .any false false) noReply
    (fun p m => parseEnv true p.params = .inr e ∧ e.obj = obj ∧ EnvTaken true (m.now - p.t + ms waitMs) who e (good e.data m) m) ∧
  ∃ f : CanFrame, Occurs (fun t => row (.native { f with t := t } waitMs))
    (fun m => nativeTaken m f = true ∧ parseEnv false f.words = .inr e ∧ e.obj = obj ∧ EnvTaken true (ms waitMs) who e (good e.data m) m)

section
variable {row : Packet → Instr} {o : OpInfo} {rlen : Packet → Mach → Nat}

theorem starts_at {guard : Packet → Mach → Prop} {p : Packet} {s : State} (hr : Right o p) (h : MeetsAt o rlen guard p s) :
    Starts (row p) o rlen p s (ready o p (atTime p.t s.blk)) ∧ guard p (ready o p (atTime p.t s.blk)) :=
  ⟨⟨light_starts hr h.1, h.2.1, h.2.2.1⟩, h.2.2.2⟩

theorem starts {p : Packet} {s : State} (hr : Right o p) (h : MeetsAt o rlen (fun _ _ => True) p s) :
    Starts (row p) o rlen p s (ready o p (atTime p.t s.blk)) := (starts_at hr h).1

theorem meets {guard : Packet → Mach → Prop} (p : Packet) (s : State) (hr : Right o p) (h : MeetsAt o rlen guard p s) :
    Meets row o rlen guard := ⟨p, s, _, starts_at hr h⟩

theorem meetsMem {guard : Packet → Tab Byte → Mach → Prop} (p : Packet) (s : State) (hr : Right o p)
    (h : MeetsAt o rlen (fun p m => guard p s.mem m) p s) : MeetsMem row o rlen guard := ⟨p, s, _, starts_at hr h⟩

end

theorem occurs {row : Nat → Instr} {guard : Mach → Prop} (t : Nat) (s : State) (h : guard (atTime t s.blk)) : Occurs row guard :=
  ⟨t, s, h⟩

/-! ### Small states -/

/-- The packet on CPT target 0. -/
def cptPkt (op : Nat) (params : List Word) : Packet :=
  sealPacket 1 op { pkt 1 op params with path := 24 }

/-- Power condition `st`. -/
def inPower (st : Nat) (m : Mach) : Mach := { m with pwr := { m.pwr with st := st } }

/-- An entry to a power state under way. -/
def entering (e : EntryRec) (m : Mach) : Mach := { m with pwr := { m.pwr with entry := some e } }

/-- The exit from the reached state `st` is under way. -/
def exiting (st : Nat) (m : Mach) : Mach := { m with pwr := { m.pwr with st := st, exiting := true } }

/-- In SLEEP, with the wake timer at 3 and 5 ticks passed. -/
def timer3 : Mach := setReg rPWR_WAKE_TMR 3 (inPower 2 { m0 with pwr := { m0.pwr with aonCnt := 5 } })

/-- The AON count at the instant at which it was taken. -/
theorem aonCount_now {m : Mach} (h : m.now ≤ m.pwr.aonAt) : aonCount m = m.pwr.aonCnt % 2 ^ 48 := by
  simp [aonCount, Nat.sub_eq_zero_of_le h]

/-- Context 0 may send legacy commands. -/
def mLegacy : Mach := setB (rHUB_CTX_CFG 0) fHUB_CTX_CFG_BAMUT_CMD true m0

/-- Buffer 7 of context 0, with its handle. -/
def h7 : Nat := mkHandle 0 1 5 7
def withBuf7 (fmt w h size : Nat) (m : Mach) : Mach :=
  setBuf 7 { used := true, gen := some 5, ctx := 0, fmt := fmt, w := w, h := h, size := size } m

/-- Layer 3 of context 0, with its handle. -/
def l3 : Nat := mkHandle 0 2 9 3
def withLay3 (r : LayRec) (m : Mach) : Mach := setLay 3 { r with used := true, gen := some 9, ctx := 0 } m

/-- Group 0 of context 0 holds tile 0, 8 × 8. -/
def withGroup (m : Mach) : Mach :=
  m |> setReg (rSCN_GEOM 0) (fset (fset 0 fSCN_GEOM_WIDTH 8) fSCN_GEOM_HEIGHT 8) |> setReg (rSCN_TILES 0) (fset 0 fSCN_TILES_MASK 1)

/-- Group 0 runs, with 6 lines before the image. -/
def running (m : Mach) : Mach :=
  m |> setB (rSCN_GRP_STAT 0) fSCN_GRP_STAT_RUN true |>
    setReg (rSCN_VTIME 0) (fset (fset 0 fSCN_VTIME_SYNC 2) fSCN_VTIME_PORCH 4)

/-- An enabled Y10 layer of 8 × 8 for tile 0. -/
def desc0 : List Word := [0x80008404, 0, 0x00080008, 0, 0]

/-- Words 1 to 6 of a timing set for 8 × 8 at 60 Hz with tile 0, and the parameters of TIMING_SET of group 0. -/
def timing0 : List Word := [0, 0x00080008, 0x01000000, 0x02004000, 0x3C0, 0, 1]

/-- Context 0 has legacy tile 0, shown on tile 0, with buffers 7 (back) and 8 (front). -/
def legacyTile0 : BamutTile := { tile := 0, layer := l3, front := mkHandle 0 1 5 8, back := h7 }
def withBamut (m : Mach) : Mach :=
  setBamut 0 { on := true, grp := 0, tiles := [(0, some legacyTile0)] } (withBuf7 2 8 8 4096 m)

/-- With no group enabled DRAM has room, whatever layer is added (R116). -/
theorem fits_idle {m : Mach} (h : ∀ g ∈ List.range 8, enabledGrp m g = false) (hg : m.pix.grps = []) (n : Nat) (r : LayRec) :
    dramFits (setLay n r { m with free := m.free + 1 }) = true := by
  generalize hx : setLay n r { m with free := m.free + 1 } = x
  have h' : ∀ g ∈ List.range 8, enabledGrp x g = false := by
    subst hx
    exact h
  have e : ∀ g, (grpOf x g).tset = none := fun g => by
    subst hx
    show (tget {} m.pix.grps g).tset = none
    rw [hg]
    rfl
  have hw : withWaiting x = x := by simp [withWaiting, forEach, List.range, List.range.loop, e]
  have e : rateSum [x, x] grpBytes80 = 0 := by
    unfold rateSum
    rw [List.map_congr_left (g := fun _ => 0) (fun g hg => by simp [h' g hg])]
    rfl
  rw [dramFits, admitted, hw, e]
  rfl

/-- Port `p` has ROLE `r`. -/
def withRole (p r : Nat) (m : Mach) : Mach := setF (rCPL_CFG p) fCPL_CFG_ROLE r m

theorem ok_of {α β : Type} {x : Except α β} {a : β} (h : x.toOption = some a) : x = .ok a := by
  cases x with
  | error e => cases h
  | ok b => exact congrArg _ (Option.some.inj h)


/-- The pixel-path record of tile `t`. -/
def withPix (t : Nat) (r : TilePix) (m : Mach) : Mach := setTilePix t r m

/-- Group 0 of context 0 also holds tile 1. -/
def withTwo (m : Mach) : Mach := setReg (rSCN_TILES 0) (fset 0 fSCN_TILES_MASK 3) (withGroup m)

/-- Tile 5 has a valid map set of one zone for beam mode 0. -/
def withMap (m : Mach) : Mach :=
  setF (rPHO_MAP_STAT 5) fPHO_MAP_STAT_VALID 1 (withPix 5 { sets := [(0, { w := 8, h := 8, zones := [7], crc := 1 })] } m)

/-- A flat curve rises. -/
theorem flat_rises {l : List Nat} (rgb : Bool) (h : ∀ k, l.getD k 0 = 0) : curveRises l rgb = true := by
  have ok : ∀ lo n, (List.range (n - 1)).all (fun k => decide (l.getD (lo + k) 0 ≤ l.getD (lo + k + 1) 0)) = true := by
    intro lo n
    rw [List.all_eq_true]
    intro k _
    rw [h, h]
    rfl
  unfold curveRises
  dsimp only
  rw [ok, ok, ok, ok]
  cases rgb <;> rfl

/-- The codes of an empty pool. -/
theorem no_codes (i k : Nat) : ((List.range 4096).map (fun k => leNat (poolBytes [] i (2 * k) 2))).getD k 0 = 0 := by
  rw [List.getD_eq_getElem?_getD, List.getElem?_map]
  cases (List.range 4096)[k]? <;> rfl

/-- A wear table with UNIT 64 and zeros. -/
def wear64 : List Nat := 64 :: List.replicate 2287 0

theorem wear64_tail {k a : Nat} (hk : 1 ≤ k) (h : a ∈ wear64.drop k) : a = 0 := by
  obtain ⟨j, rfl⟩ : ∃ j, k = j + 1 := ⟨k - 1, by omega⟩
  exact List.eq_of_mem_replicate (List.mem_of_mem_drop h)

theorem leNat_zeros {l : List Nat} (h : ∀ a ∈ l, a = 0) : leNat l = 0 := by
  induction l with
  | nil => rfl
  | cons a l ih => rw [leNat, h a List.mem_cons_self, ih (fun b hb => h b (List.mem_cons_of_mem _ hb))]

theorem wear64_ok : wearTabOk wear64 = true := by
  have z : ∀ k n, 1 ≤ k → ((wear64.drop k).take n).all (· == 0) = true := by
    intro k n hk
    rw [List.all_eq_true]
    intro a ha
    rw [wear64_tail hk (List.mem_of_mem_take ha)]
    rfl
  have half : ∀ k, 1 ≤ k → half16 wear64 k = 0 := fun k hk =>
    leNat_zeros (fun a ha => wear64_tail hk (List.mem_of_mem_take ha))
  unfold wearTabOk
  dsimp only
  rw [show leNat (wear64.take 4) = 64 from rfl, z 4 12 (by omega)]
  refine Bool.and_eq_true_iff.mpr ⟨rfl, List.all_eq_true.mpr fun k _ => Bool.and_eq_true_iff.mpr ⟨z _ _ (by omega), ?_⟩⟩
  refine List.all_eq_true.mpr fun i _ => ?_
  rw [half _ (by omega), half _ (by omega)]
  rfl

/-- The first bytes of buffer 7 hold that table. -/
theorem wear64_bytes : poolBytes [(7 * 2 ^ 27, 64)] 7 0 2288 = wear64 := by decide +kernel

/-- Port `p` is in state `st`. -/
def inPort (p st : Nat) (m : Mach) : Mach := setF (rCPL_STATE p) fCPL_STATE_STATE st m

/-- Port `p` has ROLE 2 and is in UP. -/
def hostUp (p : Nat) (m : Mach) : Mach := inPort p 4 (withRole p 2 m)

/-- Port 2 does not adapt its equaliser. -/
def noAdapt : Mach := setB (rCPL_RXEQ_CFG 2) fCPL_RXEQ_CFG_ADAPT_EN false m0

/-- A block at port 2 with these words. -/
def blkOf (words : List Word) : Blk := { t := 0, port := 2, seq := 7, words := words }

/-- Tile 0 has entry 1 of the spares, port 9, which is in STANDBY. -/
def withSpare (m : Mach) : Mach :=
  setReg (rCPL_SPARE 1) (fset (fset (fset 0 fCPL_SPARE_EN 1) fCPL_SPARE_PORT 9) fCPL_SPARE_TILE 0) (inPort 9 1 m)

/-- Tile 0 has the twin pair of ports 0 and 1. -/
def withTwin (m : Mach) : Mach :=
  setReg (rCPL_TWIN 0) (fset (fset (fset 0 fCPL_TWIN_EN 1) fCPL_TWIN_PRIMARY 0) fCPL_TWIN_TWIN 1) m

/-- The base point of P-256 as 16 words. -/
def pointG : List Word := [0xf2d1176b, 0x47422ce1, 0xe5e6bcf8, 0xf240a463, 0x817d0377, 0xa033eb2d, 0x4539a1f4, 0x96c298d8, 0xe242e34f,
    0x9b7f1afe, 0x4aebe78e, 0x169e0f7c, 0x5733ce2b, 0xce5e316b, 0x6840b6cb, 0xf551bf37]

/-- Tile 0 is expected on port 0, which has ROLE 1 and is in UP. -/
def withTile (m : Mach) : Mach :=
  setReg (rTIL_CFG 0) (fset (fset 0 fTIL_CFG_EN 1) fTIL_CFG_PORT 0) (inPort 0 4 (withRole 0 1 m))

/-- Tile 0 is in state `st`. -/
def tileIn (st : Nat) (m : Mach) : Mach := setF (rTIL_STAT 0) fTIL_STAT_STATE st (withTile m)

/-- Tile 0 has identity exchange `e`. -/
def withEx (e : Exchange) (m : Mach) : Mach := setTile 0 { tileOf (withTile m) 0 with ex := some e } (withTile m)

/-- Words 0 to 62 of a report. -/
def reportWords (kind : Nat) (words : List Word) : List Word :=
  w32 (kind <<< 24 + 1) :: words ++ List.replicate (62 - words.length) 0

/-- A report of KIND `kind` at port 0 with these words after the first, and its check word. -/
def reportBlk (kind : Nat) (words : List Word) : Blk :=
  { t := 0, port := 0, seq := 0
    words := reportWords kind words ++ [w32 (repCrc { t := 0, port := 0, seq := 0, words := reportWords kind words })] }

/-- A report with its check word passes the checks of R249. -/
theorem report_ok {kind k : Nat} {ws : List Word}
    (h : (repKind (reportBlk k ws) == kind && decide (repPart (reportBlk k ws) < repParts (reportBlk k ws)) &&
      reservedOk (reportBlk k ws)) = true)
    (h2 : blkWords (reportBlk k ws) 0 62 = blkWords { t := 0, port := 0, seq := 0, words := reportWords k ws } 0 62)
    (h3 : (reportWords k ws).length = 63) : reportOk kind (reportBlk k ws) = true := by
  have e : (blkWord (reportBlk k ws) 63).toNat = repCrc (reportBlk k ws) := by
    have e1 : blkWord (reportBlk k ws) 63 = w32 (repCrc { t := 0, port := 0, seq := 0, words := reportWords k ws }) := by
      simp [blkWord, reportBlk, List.getD_eq_getElem?_getD, h3]
    rw [e1, w32, BitVec.toNat_ofNat, Nat.mod_eq_of_lt (show repCrc _ < 2 ^ 32 from crc32_lt _)]
    unfold repCrc
    rw [h2]
  unfold reportOk
  rw [h, e]
  simp

theorem report_comes {k : Nat} {ws : List Word} {m : Mach}
    (h : BlkTaken (reportBlk k ws) m ∧ tileRole m 0 = true ∧ (tileOfPort m 0).isSome = true ∧
      portState (seqTaken (reportBlk k ws) m) 0 = 4 ∧ tileOfPort (seqTaken (reportBlk k ws) m) 0 = some 0 ∧
      (tileOf (seqTaken (reportBlk k ws) m) 0).recent = [] ∧ (tileOf (seqTaken (reportBlk k ws) m) 0).win.2 = 0)
    (h1 : (repKind (reportBlk k ws) == k && decide (repPart (reportBlk k ws) < repParts (reportBlk k ws)) &&
      reservedOk (reportBlk k ws)) = true)
    (h2 : blkWords (reportBlk k ws) 0 62 = blkWords { t := 0, port := 0, seq := 0, words := reportWords k ws } 0 62)
    (h3 : (reportWords k ws).length = 63) : ReportComes k (reportBlk k ws) 0 m := by
  obtain ⟨a, b, c, d, e, f, g⟩ := h
  refine ⟨a, b, c, d, e, report_ok h1 h2 h3, ?_, ?_⟩
  · rw [f]
    rfl
  · rw [g]
    split <;> decide

theorem empty_zeros (i o n : Nat) : ∀ a ∈ poolBytes [] i o n, a = 0 := by
  intro a ha
  obtain ⟨k, -, rfl⟩ := List.mem_map.mp ha
  rfl

/-- The mesh of a buffer of zeros. -/
theorem mesh_zeros (i : Nat) : meshOf [] i = some (List.replicate 2145 (0, 0, false)) := by
  have e : (meshWords [] i).map meshPoint = List.replicate 2145 (some (0, 0, false)) := by
    rw [List.eq_replicate_iff]
    refine ⟨by simp [meshWords], fun b hb => ?_⟩
    simp only [meshWords, List.map_map, List.mem_map] at hb
    obtain ⟨k, -, rfl⟩ := hb
    rw [Function.comp_apply, leNat_zeros (empty_zeros _ _ _)]
    decide
  unfold meshOf
  rw [e]
  dsimp only
  rw [if_pos (List.all_eq_true.mpr fun b hb => by rw [List.eq_of_mem_replicate hb]; rfl), List.filterMap_replicate]
  rfl

theorem meshAt_zeros (w h i j : Nat) : meshAt (List.replicate 2145 (0, 0, false)) w h i j = (0, 0, false) := by
  unfold meshAt
  rw [if_neg (by simp), List.getD_eq_getElem?_getD, List.getElem?_replicate]
  split <;> rfl

/-- Such a mesh spans no source rows. -/
theorem span_zeros : meshSpan (List.replicate 2145 (0, 0, false)) 8 8 ≤ 24 := by
  have e : ∀ i y, meshRowAt (List.replicate 2145 (0, 0, false)) 8 8 i y = 0 := by
    intro i y
    unfold meshRowAt
    simp only [meshAt_zeros]
    rw [show ∀ x : Int, (0 : Int) * 4096 + x * (0 - 0) = 0 from fun x => by omega]
    decide
  simp only [meshSpan, bandSpan, e]
  decide +kernel

/-- Motor channel 3 has FUNC `f` and is in state `st`, with valid banks in its loops. -/
def withMotor (f st : Nat) (m : Mach) : Mach :=
  m |> setF (rMOT_CFG 3) fMOT_CFG_FUNC f |> setF (rMOT_STAT 3) fMOT_STAT_STATE st |>
    setB (rGAR_LOOP_STAT 3) fGAR_LOOP_STAT_VALID_A true |> setB (rGAR_LOOP_STAT 7) fGAR_LOOP_STAT_VALID_A true

/-- The least values of the words of LOOP_CONFIG for channel 3. -/
def loopWords : List Word :=
  [3, fset (fset 0 fMOT_CFG_POLES 1) fMOT_CFG_DT 10, fset (fset 0 fMOT_ENC_SCALE 1) fMOT_ENC_REV 6, 0,
    fset (fset 0 fMOT_FRZ_FRZ_T 5) fMOT_FRZ_FRZ_I 1, fset 0 fMOT_ISENSE_CH_V 12, fset 0 fMOT_HOME_HOME_T 1, 0]

/-- An envelope of producer 5, SEQUENCE 1 and DEADLINE 1000, with its check word. -/
def envOf (obj : Nat) (data : List Word) : Env := { prod := 5, seq := 1, deadline := 1000, obj := obj, data := data }
def envWords (obj : Nat) (data : List Word) : List Word :=
  let ws := [5, 0x000103E8, w32 (obj <<< 24 + data.length)] ++ data
  ws ++ [w32 (crc crcSaf (wordsBytes ws))]

/-- A frame on the native path. -/
def canOf (words : List Word) : CanFrame := { t := 0, can := 0, xtd := false, id := 0x100, words := words }

/-- Producer slot 0 has identifier 5 and may write every object; the native path is enabled. -/
def withProd (m : Mach) : Mach :=
  m |> setReg (rSAF_PROD_ID 0) 5 |> setB (rSAF_PROD_CFG 0) fSAF_PROD_CFG_EN true |> setF (rSAF_PROD_CFG 0) fSAF_PROD_CFG_OBJ 0x7E |>
    setB (rSAF_PROD_STAT 0) fSAF_PROD_STAT_SYNC false |> setB rSAF_CAN fSAF_CAN_EN true

/-- An update header with KIND, BODY_LEN, XFER_LEN and BODY_HASH, and zeros. -/
def header (kind bodyLen xferLen : Nat) (hash : List Nat) : List Byte :=
  (List.replicate 7 0 ++ [kind] ++ List.replicate 16 0 ++ [bodyLen, 0, 0, 0, xferLen, 0, 0, 0] ++ hash).map (BitVec.ofNat 8)

/-- The update is in state `st` with this header and body received. -/
def updating (st : Nat) (h : List Byte) (body : List Byte) (m : Mach) : Mach :=
  m |> setUpdState st |> setSlot (inactive m) { header := h, body := body }

/-- The digest of no bytes (FIPS 180-4). -/
def noBytes : List Nat :=
  (wordsBytes [0x42c4b0e3, 0x141cfc98, 0xc8f4fb9a, 0x24b96f99, 0xe441ae27, 0x4c939b64, 0x1b9995a4, 0x55b85278])

/-- Group 0 runs and its tile 0 is placed; `cfg` is the configuration of the next frame. -/
def withBand (cfg : GrpCfg) (m : Mach) : Mach :=
  m |> withGroup |> running |> setB (rTIL_STAT 0) fTIL_STAT_PLACED true |> setGrp 0 { cur := cfg, prev := cfg }

/-- Group 0 runs, in its last line. -/
def lastLine (m : Mach) : Mach := m |> withGroup |> running |> setF (rSCN_GRP_STAT 0) fSCN_GRP_STAT_LINE 13

theorem no_set {x : Option (List Word)} {P : List Word → Prop} (h : x.isNone = true) : ∀ ws, x = some ws → P ws := by
  rintro ws rfl
  cases h

/-- Group 1 runs and is to follow group 0, which runs and latched at instant 5. -/
def follower (m : Mach) : Mach :=
  m |> setB (rSCN_SYNC 1) fSCN_SYNC_LOCK true |> setB (rSCN_GRP_STAT 1) fSCN_GRP_STAT_RUN true |>
    setB (rSCN_GRP_STAT 0) fSCN_GRP_STAT_RUN true |> setGrp 0 { latchAt := 5 }

theorem some_of {α : Type} {x : Option α} (h : x.isSome = true) : x = some (x.get h) := (Option.some_get h).symm

def band0 (bad : Bool) : BandEnv := { tile := 0, under := [], violation := false, checkBad := bad }

/-- The bytes of a packet in a COMMAND block. -/
def commandOf (bs : List Nat) : Blk := blkOf (w32 bs.length :: bytesWords bs)

/-- A packet that waits, accepted, in queue 0 of context 0. -/
def waiting (p : Packet) : Held :=
  { instr := .nop p, dest := {}, accepted := true, path := 28, ctx := 0, queue := 0, topaz := false, cls := 0, barrier := false, bytes := 20 }

/-- A REG_POLL of HUB_LOCK that asks for any value. -/
def poll0 : PollRec :=
  { dest := { path := 28, ver := 1, op := 0x15, host := 0, queue := 0, seq := 0, noAck := false }
    addr := rHUB_LOCK, mask := 0, expect := 0, last := 0, endsAt := 0 }

/-- Output 1 is in use, with feedback polarity 1, and on or off. -/
def withOut (on : Bool) (m : Mach) : Mach :=
  m |> setB (rSAF_OUT_CFG 1) fSAF_OUT_CFG_EN true |> setB (rSAF_OUT_CFG 1) fSAF_OUT_CFG_FB_POL true |>
    setB (rSAF_OUT_STAT 1) fSAF_OUT_STAT_OUT on

/-- A packet of one of the rows of `rowOp` arrives, and the hypotheses hold. -/
def Arrives (good : Packet → OpInfo → Mach → Prop) : Prop :=
  ∃ (c : Instr) (p : Packet) (o : OpInfo) (s : State), rowOp c = some (p, o) ∧ good p o (atTime p.t s.blk)

/-- NOP on the path and with the fields of `p`. -/
def nopLike (p : Packet) : Packet := sealPacket 1 0 p

theorem meets_UndefinedOpcodesAnswered :
  (∃ (p : Packet) (ver op : Nat) (s : State), let m := atTime p.t s.blk
    Takes m ∧ outOfReach m p.path = false ∧ pathEnabled m p.path = true ∧ p.hchk.toNat = packetHchk ver op p ∧ ver = 0 ∧
      flag m (rHUB_CTX_CFG (ctxN p)) fHUB_CTX_CFG_BAMUT_CMD = false) ∧
  (∃ (p : Packet) (ver op : Nat) (s : State), let m := atTime p.t s.blk
    Takes m ∧ outOfReach m p.path = false ∧ pathEnabled m p.path = true ∧ p.hchk.toNat = packetHchk ver op p ∧ ver = 1 ∧ op = 0xFF ∧
        hostMatches m p = true ∧
      fieldsOk p = true ∧ p.plen.toNat ≤ pathMax p.path ∧ p.short = false ∧ p.plen.toNat = p.params.length ∧
      p.trailer.toNat = packetTrailer ver op p) :=
  ⟨⟨pkt 0 0x05 [], 0, 0x05, on m0, by decide +kernel⟩, ⟨pkt 1 0xFF [], 1, 0xFF, on m0, by decide +kernel⟩⟩

theorem meets_StepRunsFrontCommand :
  (∃ (s : State) (k : Nat) (h : Held), s.pending = [] ∧ nextHeld s.blk = some (k, h)) ∧
  (∃ s : State, s.pending = [] ∧ nextHeld s.blk = none) :=
  ⟨⟨on { m0 with held := [waiting (pkt 1 0 [])] }, 0, waiting (pkt 1 0 []), rfl, by decide +kernel⟩, ⟨on m0, rfl, by decide +kernel⟩⟩

theorem meets_EveryStepKeepsPoolCanonical : ∃ s : State, State.Safe s ∧ s.mem ≠ [] :=
  ⟨{ mem := [(5, 7)] }, by decide +kernel, by decide⟩

theorem meets_PoolChangesOnlyAtItsWriters : ∃ (c : Instr) (s t : State), exec c s = .next t := ⟨.vaonLoss 0, on m0, _, rfl⟩

theorem buf_writes (p : Packet) (s : State) : ∃ u, exec (.bufWrite p) s = .next u := by
  simp only [exec, execBufWrite, runDratusMem]
  split <;> exact ⟨_, rfl⟩

theorem frame_writes (p : Packet) (s : State) : ∃ u, exec (.frameWrite p) s = .next u := by
  simp only [exec, execFrameWrite, runDratusMem]
  split <;> exact ⟨_, rfl⟩

theorem buf_allocs (p : Packet) (s : State) : ∃ u, exec (.bufAlloc p) s = .next u := by
  simp only [exec, execBufAlloc, runDratusMem]
  split <;> exact ⟨_, rfl⟩

theorem meets_PoolBytesWritten :
  (∃ (p : Packet) (s u : State) (m : Mach),
    Starts (.bufWrite p) (native 0x22 0 .hw .any false false) noReply p s m ∧ 3 ≤ p.params.length ∧
    bufRefused m (ctxN p) (par p 0).toNat = none ∧ (par p 1).toNat % 4 = 0 ∧
    (par p 1).toNat + 4 * (p.params.length - 2) ≤ (bufOf m (hIdx (par p 0).toNat)).size ∧ exec (.bufWrite p) s = .next u) ∧
  (∃ (p : Packet) (s u : State) (m : Mach) (b : BamutTile),
    Starts (.frameWrite p) (legacy 0x04 0 .hw .any 2 false false) noReply p s m ∧ 2 ≤ p.params.length ∧
    tget none (bamutOf m (ctxN p)).tiles (bits (par p 0) 31 24) = some b ∧ bufRefused m (ctxN p) b.back = none ∧
    bits (par p 0) 23 0 % 4 = 0 ∧ bits (par p 0) 23 0 + 4 * (p.params.length - 1) ≤ (bufOf m (hIdx b.back)).size ∧
    exec (.frameWrite p) s = .next u) ∧
  (∃ (p : Packet) (s u : State), exec (.bufAlloc p) s = .next u) := by
  refine ⟨?_, ?_, ?_⟩
  · obtain ⟨u, hu⟩ := buf_writes (pkt 1 0x22 [w32 h7, 4092, 0x01020304]) (on (withBuf7 0 0 0 4096 m0))
    exact ⟨_, _, u, _, starts (right _) (by decide +kernel), by decide +kernel,
      by decide +kernel, by decide +kernel, by decide +kernel, hu⟩
  · obtain ⟨u, hu⟩ := frame_writes (pkt 0 4 [0, 0x01020304]) (on (withBamut mLegacy))
    exact ⟨_, _, u, _, legacyTile0, starts (right _) (by decide +kernel),
      by decide +kernel, by decide +kernel, by decide +kernel, by decide +kernel, by decide +kernel, hu⟩
  · obtain ⟨u, hu⟩ := buf_allocs (pkt 1 0x20 [0, 4096]) (on m0)
    exact ⟨_, _, u, hu⟩

theorem meets_HeaderChecksInOrder :
  Arrives (fun _ _ m => m.resuming = false ∧ hubRuns m = false ∧ m.pwr.st ≠ 2) ∧
  Arrives (fun p _ m => Takes m ∧ outOfReach m p.path = true) ∧
  Arrives (fun p _ m => Takes m ∧ outOfReach m p.path = false ∧ pathEnabled m p.path = false) ∧
  Arrives (fun p o m => Takes m ∧ outOfReach m p.path = false ∧ pathEnabled m p.path = true ∧ p.hchk.toNat ≠ packetHchk o.ver o.op p) ∧
  Arrives (fun p o m => Takes m ∧ outOfReach m p.path = false ∧ pathEnabled m p.path = true ∧ p.hchk.toNat = packetHchk o.ver o.op p ∧
      versionOk o p m = false) ∧
  Arrives (fun p o m => Takes m ∧ outOfReach m p.path = false ∧ pathEnabled m p.path = true ∧ p.hchk.toNat = packetHchk o.ver o.op p ∧
      versionOk o p m = true ∧
    hostMatches m p = false) ∧
  Arrives (fun p o m => Takes m ∧ outOfReach m p.path = false ∧ pathEnabled m p.path = true ∧ p.hchk.toNat = packetHchk o.ver o.op p ∧
      versionOk o p m = true ∧
    hostMatches m p = true ∧ fieldsOk p = false) ∧
  Arrives (fun p o m => Takes m ∧ outOfReach m p.path = false ∧ pathEnabled m p.path = true ∧ p.hchk.toNat = packetHchk o.ver o.op p ∧
      versionOk o p m = true ∧
    hostMatches m p = true ∧ fieldsOk p = true ∧ lengthOk p = false) ∧
  Arrives (fun p o m => Takes m ∧ outOfReach m p.path = false ∧ pathEnabled m p.path = true ∧ p.hchk.toNat = packetHchk o.ver o.op p ∧
      versionOk o p m = true ∧
    hostMatches m p = true ∧ fieldsOk p = true ∧ lengthOk p = true ∧ p.trailer.toNat ≠ packetTrailer o.ver o.op p) ∧
  Arrives (fun p o m => Takes m ∧ outOfReach m p.path = false ∧ pathEnabled m p.path = true ∧ p.hchk.toNat = packetHchk o.ver o.op p ∧
      versionOk o p m = true ∧
    hostMatches m p = true ∧ fieldsOk p = true ∧ lengthOk p = true ∧ p.trailer.toNat = packetTrailer o.ver o.op p ∧
    contextOk o p m = false) :=
  ⟨⟨.nop (pkt 1 0 []), _, _, on (inPower 3 m0), rfl, by decide +kernel⟩,
  ⟨.nop (pkt 1 0 []), _, _, on (m0 |> setB rHUB_LOCK fHUB_LOCK_LOCKED true |> setB rHUB_CTRL fHUB_CTRL_JTAG_DBG false), rfl,
      by decide +kernel⟩,
  ⟨.nop (nopLike { pkt 1 0 [] with path := 0 }), _, _, on m0, rfl, by decide +kernel⟩,
  ⟨.nop { pkt 1 0 [] with hchk := 0 }, _, _, on m0, rfl, by decide +kernel⟩,
  ⟨.legacyNop (pkt 0 0 []), _, _, on m0, rfl, by decide +kernel⟩,
  ⟨.nop (pktFrom 4 1 0 []), _, _, on m0, rfl, by decide +kernel⟩,
  ⟨.nop (nopLike { pkt 1 0 [] with queue := 8 }), _, _, on m0, rfl, by decide +kernel⟩,
  ⟨.nop (nopLike { pkt 1 0 [] with plen := 1 }), _, _, on m0, rfl, by decide +kernel⟩,
  ⟨.nop { pkt 1 0 [] with trailer := 0 }, _, _, on m0, rfl, by decide +kernel⟩,
  ⟨.getStatus (pktFrom 1 1 5 []), _, _, on m0, rfl, by decide +kernel⟩⟩

theorem meets_SeqGapNamesExpected :
  Arrives (fun p o m => Takes m ∧ Checked o p m ∧ p.seq.toNat ≠ (queueOf m (ctxN p) (queueN p)).expected ∧
    ¬ ((queueOf m (ctxN p) (queueN p)).any = true ∧ (p.seq.toNat + 1) % 65536 = (queueOf m (ctxN p) (queueN p)).expected)) ∧
  Arrives (fun p o m => Takes m ∧ Checked o p m ∧ p.seq.toNat = (queueOf m (ctxN p) (queueN p)).expected ∧ permission m o p = none ∧
    queueLoad m (ctxN p) (queueN p) < 16 ∧ deferred m o = false ∧ mayStart o p (advanced o p m) = true) :=
  ⟨⟨.nop (nopLike { pkt 1 0 [] with seq := 65535 }), _, _, on m0, rfl, by decide +kernel⟩,
  ⟨.nop (pkt 1 0 []), _, _, on m0, rfl, by decide +kernel⟩⟩

theorem meets_QueueHoldsSixteen :
  Arrives (fun p o m => Takes m ∧ Checked o p m ∧ p.seq.toNat = (queueOf m (ctxN p) (queueN p)).expected ∧ permission m o p = none ∧
    queueLoad m (ctxN p) (queueN p) = 16) ∧
  Arrives (fun p o m => Takes m ∧ Checked o p m ∧ p.seq.toNat = (queueOf m (ctxN p) (queueN p)).expected ∧ permission m o p = none ∧
    queueLoad m (ctxN p) (queueN p) = 15 ∧ deferred m o = false ∧ mayStart o p (advanced o p m) = false) :=
  ⟨⟨.nop (pkt 1 0 []), _, _, on { m0 with held := List.replicate 16 (waiting (pkt 1 0 [])) }, rfl, by decide +kernel⟩,
  ⟨.nop (pkt 1 0 []), _, _, on { m0 with held := List.replicate 15 (waiting (pkt 1 0 [])) }, rfl, by decide +kernel⟩⟩

theorem meets_IssuerRuleChecked :
  Arrives (fun p o m => Takes m ∧ Checked o p m ∧ p.seq.toNat = (queueOf m (ctxN p) (queueN p)).expected ∧
    bit (reg m (rHUB_CTX_OPPERM (ctxN p))) o.grp = false) ∧
  Arrives (fun p o m => Takes m ∧ Checked o p m ∧ p.seq.toNat = (queueOf m (ctxN p) (queueN p)).expected ∧ o.ver = 0 ∧
    bit (reg m (rHUB_CTX_OPPERM (ctxN p))) 8 = false) ∧
  Arrives (fun p o m => Takes m ∧ Checked o p m ∧ p.seq.toNat = (queueOf m (ctxN p) (queueN p)).expected ∧ o.issuer ≠ .any ∧
    ctxN p ≠ 0) ∧
  Arrives (fun p o m => Takes m ∧ Checked o p m ∧ p.seq.toNat = (queueOf m (ctxN p) (queueN p)).expected ∧
    bit (reg m (rHUB_CTX_OPPERM (ctxN p))) o.grp = true ∧ (o.ver = 0 → bit (reg m (rHUB_CTX_OPPERM (ctxN p))) 8 = true) ∧
    o.issuer = .h0p ∧ ctxN p = 0 ∧ locked m = true) :=
  ⟨⟨.nop (pkt 1 0 []), _, _, on (setReg (rHUB_CTX_OPPERM 0) 0 m0), rfl, by decide +kernel⟩,
  ⟨.legacyNop (pkt 0 0 []), _, _, on (setReg (rHUB_CTX_OPPERM 0) 0xFF mLegacy), rfl, by decide +kernel⟩,
  ⟨.pathBind (pktFrom 3 1 0x0A []), _, _, on (setB (rHUB_CTX_CFG 3) fHUB_CTX_CFG_OPEN true m0), rfl, by decide +kernel⟩,
  ⟨.pathBind (cptPkt 0x0A []), _, _, on (setB rHUB_LOCK fHUB_LOCK_LOCKED true m0), rfl, by decide +kernel⟩⟩

theorem meets_PacketBytesReadBack :
  ∃ (ver op : Nat) (p : Packet) (cpt : Fin 2) (s : State), ver < 256 ∧ op < 256 ∧ p.short = false ∧ p.plen.toNat = p.params.length ∧
    p.path = cptPath cpt ∧ p.hchk.toNat = packetHchk ver op p ∧ hubRuns (atTime p.t s.blk) = true ∧ (atTime p.t s.blk).pwr.st ≠ 2 ∧
    cptWaiting (atTime p.t s.blk) cpt + (encodePacket ver op p).length ≤ 4096 :=
  ⟨1, 0, cptPkt 0 [], 0, on m0, by decide +kernel⟩

theorem meets_ArrivalAndReplyFrame :
  (∃ (c : Instr) (o : OpInfo) (p : Packet) (b m : Mach), arrive c o true p b = .go m ∧ (atTime p.t b).pwr.entry = none) ∧
  (∃ (dest : ReplyTo) (r : Rep), dest.noAck = true ∧ r.status = stOK) ∧
  (∃ dest : ReplyTo, dest.noAck = false ∧ isCpt dest.path = true) ∧ (∃ dest : ReplyTo, dest.noAck = false ∧ isCpt dest.path = false) ∧
  (∃ o : OutPkt, 24 ≤ o.path ∧ o.path ≠ 26 ∧ o.path ≠ 27) ∧ (∃ o : OutPkt, o.path < 24) ∧ (∃ m : Mach, Quiet m) :=
  ⟨⟨.nop (pkt 1 0 []), native 0x00 0 .hw .any true true, pkt 1 0 [], m0, _, light_starts (right _) (by decide +kernel),
    by decide +kernel⟩, ⟨{ noAck := true }, ok [], rfl, rfl⟩, ⟨{ path := 25 }, rfl, by decide⟩, ⟨{ path := 28 }, rfl, by decide⟩,
    ⟨{ path := 28 }, by decide⟩, ⟨{ path := 23 }, by decide⟩, ⟨m0, by decide +kernel⟩⟩

/-- The map has a register with a field of that access. -/
def HasField (acc : Acc) : Prop :=
  ∃ (a : Nat) (r : RegDesc) (is : List Nat) (d : FldDesc), regAt a = some (r, is) ∧ d ∈ r.flds ∧ d.acc = acc

theorem has_field {acc : Acc} (a : Nat) (h : ((regAt a).any fun x => x.1.flds.any fun d => d.acc == acc) = true) : HasField acc := by
  cases e : regAt a with
  | none =>
    rw [e] at h
    cases h
  | some x =>
    rw [e] at h
    obtain ⟨d, hd, hacc⟩ := List.any_eq_true.mp h
    exact ⟨a, x.1, x.2, d, e, hd, by simpa using hacc⟩

theorem meets_FieldWritesFollowTheirAccess :
    HasField .rw ∧ HasField .ro ∧ HasField .w1c ∧ HasField .w1t ∧ HasField .wo ∧ HasField .wol ∧ HasField .rwl ∧ HasField .ro0 ∧
      HasField .src ∧ (∃ d : FldDesc, d.acc = .w1s) ∧ timingAt rHUB_LOCK = none :=
  ⟨has_field rPWR_WAKE_EN (by decide +kernel), has_field rHUB_LOAD (by decide +kernel), has_field (rCPL_DET_STAT 23) (by decide +kernel),
    has_field (rLYR_UNDERRUN 255) (by decide +kernel), has_field rFLT_FIRST_CTL (by decide +kernel),
    has_field rFLT_PFENCE_CLR (by decide +kernel), has_field (rCHN_PORT_CFG 3) (by decide +kernel),
    has_field (rHUB_CTX_WPERM 3) (by decide +kernel), has_field (rFLT_SRC_CFG 319) (by decide +kernel),
    ⟨⟨fCPL_DET_STAT_SQ, .w1s, 0, false⟩, rfl⟩, by decide +kernel⟩

/-! ### Ill-formed commands -/

/-- A packet with more words than PLEN can count. -/
theorem test_wf_packet : Instr.wf (.nop { pkt 1 0 [] with params := List.replicate 65536 0 }) = false := by
  change decide ((List.replicate 65536 (0 : Word)).length < 65536) = false
  rw [List.length_replicate]
  rfl

theorem test_wf_names : Instr.wf (.setPowerRun (pkt 1 4 [1])) = false ∧ Instr.wf (.unprovision (pkt 1 0x0D [0])) = false ∧
    Instr.wf (.streamBind (pkt 1 0x25 [0, 0, 0, 0])) = false ∧ Instr.wf (.poseConfigTile (pkt 1 0x36 [1])) = false ∧
    Instr.wf (.farEndAccept (pkt 1 0x52 [0x300])) = false ∧ Instr.wf (.policyTile (pkt 1 0x56 [2])) = false ∧
    Instr.wf (.twinRemove (pkt 1 0x57 [0x80000000, 0])) = false ∧ Instr.wf (.auroraLoad (pkt 1 0x64 [8])) = false ∧
    Instr.wf (.gammaLoad (pkt 1 0x64 [7])) = false ∧ Instr.wf (.auroraStop (pkt 1 0x65 [0x80000000])) = false ∧
    Instr.wf (.motorRelease (pkt 1 0x6B [0x200, 0])) = false ∧ Instr.wf (.updBegin (pkt 1 0x70 [])) = false ∧
    Instr.wf (.updCancel (pkt 1 0x70 [0])) = false ∧ Instr.wf (.calRunFactory (pkt 1 0x76 [1])) = false := by decide +kernel

theorem test_wf_envelopes : Instr.wf (.heartbeat (.dratus (pkt 1 0x78 [0, 0, 0x02000000, 0]) 0)) = false ∧
    Instr.wf (.output (.native { canOf [0, 0, 0x05000000, 0] with id := 0x800 } 0)) = false ∧
    Instr.wf (.safeConfig (.native (canOf (List.replicate 17 0)) 0)) = false ∧
    Instr.wf (.classicalCanFrame 0 1 true (2 ^ 29)) = false ∧ Instr.wf (.badOpcode (pkt 1 0 []) 1 0) = false ∧
    Instr.wf (.badOpcode (pkt 1 0 []) 256 0) = false := by decide +kernel

theorem test_wf_operands : Instr.wf (.eyeScanDone 0 0 128 0) = false ∧ Instr.wf (.activationTopazReset 0 (2 ^ 32)) = false ∧
    Instr.wf (.exitComplete 0 (2 ^ 48)) = false ∧
    Instr.wf (.calibrationDone 0 { refUv := 0, refCodes := [], adc := [], sense := [], osc := [], term := [], eyes := List.replicate 25 none, wild := [], writeOk := true }) = false ∧
    Instr.wf (.topazHeartbeat 0 (2 ^ 32)) = false ∧ Instr.wf (.registerWrite 0 0 (2 ^ 32) 0) = false ∧
    Instr.wf (.boot 0 3 0) = false ∧ Instr.wf (.testPulse 0 0 256) = false ∧ Instr.wf (.mapCrcScan 0 [(24, 0)]) = false ∧
    Instr.wf (.curveCheck 0 (2 ^ 24)) = false ∧ Instr.wf (.lineStart 0 0 (2 ^ 24)) = false ∧
    Instr.wf (.flashLoadEnd 0 { present := true, dirBad := 4, size := 0, mode := 0, unifBad := 0, wearBad := 0, mapsBad := 0, tableBad := false }) = false ∧
    Instr.wf (.qualifiedSafAckEdge 0 ⟨0, 0, { sfb := 4, sout := 0, clkBad := 0, limpBad := false, ack := false }⟩) = false ∧
    Instr.wf (.loadWindow 0 256 0 0) = false ∧ Instr.wf (.pageReturn 0 (2 ^ 32)) = false ∧
    Instr.wf (.faultArrival 0 [(320, 0)]) = false ∧ Instr.wf (.fill { blkOf [] with seq := 256 }) = false ∧
    Instr.wf (.test (blkOf (List.replicate 65 0))) = false ∧ Instr.wf (.currentSample 0 0 4096 0 []) = false ∧
    Instr.wf (.coefCheck 0 (2 ^ 18)) = false ∧ Instr.wf (.imuSample 0 (List.replicate 65 0)) = false ∧
    Instr.wf (.thermalSample 0 (List.replicate 12 none) [[0]]) = false ∧ Instr.wf (.holdSensorSample 0 []) = false ∧
    Instr.wf (.tick 0 { ret := [], pins := [[], [], [], [(0, 8)]], pd := [0, 0, 0, 0], overs := 0, fltLow := 0 })
      = false ∧
    Instr.wf (.placementPlan 0 { moves := [{ kind := 5, group := 0, tile := 0, engA := 0, engB := 15, split := 0, src := 64, dst := 64, use := 0, lost := [], bad := 0 }], lost := [] })
      = false := by decide +kernel

theorem test_wf_bytes : Instr.wf (.writePkt 0 0 (List.replicate 65537 0) { writeOk := true, late := false, waitMs := 0 }) = false := by
  change decide ((List.replicate 65537 (0 : Byte)).length ≤ 65536) = false
  rw [List.length_replicate]
  rfl

/-- R54: of two packets for one queue in one HUB cycle the one on the lower path comes first; packets of different cycles are free. -/
theorem test_ordered : ordered m0 [.nop { pkt 1 0 [] with path := 5 }, .nop { pkt 1 0 [] with path := 3 }] = false ∧
    ordered m0 [.nop { pkt 1 0 [] with path := 3 }, .nop { pkt 1 0 [] with path := 5 }] = true ∧
    ordered m0 [.nop { pkt 1 0 [] with path := 5 }, .nop { pkt 1 0 [] with path := 3, t := 6 }] = true := by decide +kernel

/-- R54: such a packet is put before the other in the queue, although it was sent after it. -/
theorem test_offer : (State.offerAll [.nop { pkt 1 0 [] with path := 5 }, .nop { pkt 1 0 [] with path := 3 }] (on m0)).pending =
    [.nop { pkt 1 0 [] with path := 3 }, .nop { pkt 1 0 [] with path := 5 }] := by decide +kernel

/-- R251: so are two copies of one report, by their ports. -/
theorem test_offer_reports : (State.offerAll [.health { blkOf [] with port := 9 }, .health { blkOf [] with port := 4 }] (on m0)).pending =
    [.health { blkOf [] with port := 4 }, .health { blkOf [] with port := 9 }] := by decide +kernel

/-- Commands that are well formed. -/
theorem test_wf_good : Instr.wf (.nop (pkt 1 0 [1])) = true ∧ Instr.wf (.setPowerOff (pkt 1 4 [4])) = true ∧
    Instr.wf (.badOpcode (pkt 1 0xFF []) 1 0xFF) = true ∧ Instr.wf (.safTick ⟨0,
        { sfb := 3, sout := 0, clkBad := 31, limpBad := true, ack := true }⟩) = true ∧
    Instr.wf (.heartbeat (.dratus (pkt 1 0x78 (envWords 1 [])) 0)) = true := by decide +kernel

/-! ### The spec's examples and tables -/

/-- The check values of R42 and R315. -/
theorem test_check_values : crc crc16 [0x31, 0x32, 0x33, 0x34, 0x35, 0x36, 0x37, 0x38, 0x39] = 0x29B1 ∧
    crc crc32c [0x31, 0x32, 0x33, 0x34, 0x35, 0x36, 0x37, 0x38, 0x39] = 0xE3069283 := by decide +kernel

/-- SHA-256 of "abc" (FIPS 180-4). -/
theorem test_sha256 : sha256 [0x61, 0x62, 0x63] =
    beBytes 32 0xba7816bf8f01cfea414140de5dae2223b00361a396177a9cb410ff61f20015ad := by decide +kernel

/-- 2G on P-256. -/
theorem test_p256 : ecAdd (some p256G) (some p256G) =
    some (0x7cf27b188d034f7e8a52380304b51ac3c08969e277f21b35a60b48fc47669978,
      0x07775510db8ed040293d9ac69f7430dbba7dade63ce982299e04b79d227873d1) := by decide +kernel

/-- The example of chapter 3 (R98): 1536 × 1024 in YC420SP10. -/
theorem test_layout : (fmtOf 0x11).map (fun f => layoutOf f 1536 1024) = some ⟨3072, 3145728, 0, 3072, 4718592⟩ := by
  decide +kernel

/-- The example of R145: source, sampler position and sample. -/
theorem test_warp : rdiv (bilerp 4096 492800 517632 492544 517376 3499 3648) (4096 * 4096) = 513785 ∧
    rdiv (bilerp 4096 685568 685056 718592 718080 3499 3648) (4096 * 4096) = 714543 ∧ samplerPos 513007 = (500, 124) ∧
    samplerPos 716371 = (699, 21) ∧ sampler 16000 19200 16640 19840 124 21 = 17603 := by decide +kernel

/-- The example before R181: the photometric chain of one pixel. -/
theorem test_chain : stage1Gain 121 0x6000 [3] = 39840 ∧ applyGain 39840 17603 = 21402 ∧
    wearGain (List.replicate 100 0 ++ [0x1F, 0x85, 0x60, 0x85]) 0 0x2A80 = 34112 ∧ applyGain 34112 21402 = 22280 ∧
    tileGain (97 * 16) (85 + 40) 0x028F 0x4000 = 28838 ∧ applyGain 28838 22280 = 19608 ∧ applyGain 29491 19608 = 17647 ∧
    clampTo (zoneBounds 0x03E80028 none) 17647 = 16000 ∧
    driveCode (List.replicate 1001 0x0F3C) 10 false 0 16000 = 244 := by decide +kernel

/-- The example of chapter 13: targets of G and F at 131 °C with E = 6, and at E = 8. -/
theorem test_throttle : target 0 0x07AE 96 = 26870 ∧ target 0 0x051F 96 = 28835 ∧ target 0 0x07AE 128 = 24904 ∧
    target 0 0x051F 128 = 27524 := by decide +kernel

/-- The default gamma table (R274): 4,095 × (100 / 255)^2.2 = 522.07. -/
theorem test_gamma : gammaDefault 100 = 522 ∧ gammaDefault 255 = 4095 ∧ gammaDefault 0 = 0 := by decide +kernel

/-- The port register at offset 0x0040 of CP13 (the example of chapter 1). -/
theorem test_port_address : rCPL_DET_STAT 13 - rCPL_DET_STAT 0 = 0x3400 := by decide +kernel

/-! ### Single steps -/

/-- The block after a command. -/
def blkAfter (r : Host.Outcome State Fault Refusal) : Mach :=
  match r with
  | .next t => t.blk
  | _ => {}

/-- Status and parameters of the replies that a command has produced. -/
def replies (r : Host.Outcome State Fault Refusal) : List (Nat × List Word) :=
  (blkAfter r).sent.map (fun p => (p.status, p.params)) ++
    (blkAfter r).wait.filterMap (fun
      | .reply p => some (p.status, p.params)
      | .event .. => none)

/-- R79: NOP returns its parameters. -/
theorem test_nop : replies (exec (.nop (pkt 1 0 [7, 8])) (on m0)) = [(0, [7, 8])] := by decide +kernel

/-- The access of chapter 18: a locked device, H1 on CPT0 with blocks 5 and 11. -/
def mAccess : Mach :=
  m0 |> setB (rHUB_CTX_CFG 1) fHUB_CTX_CFG_OPEN true |> setB rHUB_LOCK fHUB_LOCK_LOCKED true |>
    setF (rHUB_PATH_BIND 24) fHUB_PATH_BIND_CTX 1 |> setReg (rHUB_CTX_OPPERM 1) 3 |> setReg (rHUB_CTX_WPERM 1) 0x820

def access (words : List Word) : Packet := sealPacket 1 0x14 { pktFrom 1 1 0x14 words with path := 24 }

theorem test_access_locked :
    let r := exec (.regWriteList (access [0x400B0004, 1, 0x400B0008, 0x4000, 0x40050120, 0x02904000])) (on mAccess)
    replies r = [(stLOCKED, [2])] ∧ reg (blkAfter r) 0x400B0004 = 1 ∧ reg (blkAfter r) 0x400B0008 = 0x4000 ∧
      reg (blkAfter r) 0x40050120 = regReset 0x40050120 := by decide +kernel

theorem test_access_refused :
    (replies (exec (.regWriteList (access [0x400B0004, 1, 0x400E0010, 0])) (on mAccess))).map Prod.fst = [stNOT_PERMITTED] ∧
    (replies (exec (.regWriteList (access [0x400B0004, 1, 0x401A0000, 0])) (on mAccess))).map Prod.fst = [stBAD_ADDRESS] := by
  decide +kernel

/-- R58: a packet with SEQ 5 where 0 is expected. -/
theorem test_seq_gap : replies (exec (.nop (nopLike { pkt 1 0 [] with seq := 5 })) (on m0)) = [(stSEQ_GAP, [0])] := by decide +kernel

/-- R99: bytes written are read back, little-endian. -/
theorem test_buf_write :
    (match exec (.bufWrite (pkt 1 0x22 [w32 h7, 8, 0x01020304])) (on (withBuf7 0 0 0 4096 m0)) with
      | .next t => poolBytes t.mem 7 8 4
      | _ => []) = [4, 3, 2, 1] := by decide +kernel

/-- Word 0 of a packet spells no command: the table gives its rows no bits. -/
theorem test_table_words : decodeTableWord 32 0xD7 = none := rfl

theorem meets_SystemReportsAnswer :
  (Meets .nop (native 0x00 0 .hw .any true true) (fun p _ => p.params.length) (fun p _ => p.params.length ≤ 8)) ∧
  (Meets .identify (native 0x01 0 .topaz .any true true) (replyLen 6) (fun p _ => p.params.length = 0)) ∧
  (Meets .getStatus (native 0x05 0 .topaz .any true true) (replyLen 2) (fun p _ => p.params.length = 0)) ∧
  (Meets .loadQuery (native 0x06 0 .hw .any false true) (replyLen 1) (fun p _ => p.params.length = 0)) ∧
  (Meets .timeGet (native 0x0C 0 .topaz .any true true) (replyLen 2) (fun p _ => p.params.length = 0)) :=
  ⟨meets (pkt 1 0x00 [1, 2]) (on m0) (right _) (by decide +kernel),
  meets (pkt 1 0x01 []) (on m0) (right _) (by decide +kernel),
  meets (pkt 1 0x05 []) (on m0) (right _) (by decide +kernel),
  meets (pkt 1 0x06 []) (on m0) (right _) (by decide +kernel),
  meets (pkt 1 0x0C []) (on m0) (right _) (by decide +kernel)⟩

theorem meets_ContextRowsComplete :
  (Meets .contextOpen (native 0x02 0 .topaz .any false true) (replyLen 2) (fun p _ => p.params.length = 1 ∧ clean (par p 0) [(0,
      0)] = true)) ∧
  (Meets .contextClose (native 0x03 0 .topaz .any false false) noReply (fun p _ => p.params.length = 0)) ∧
  (Meets .setPermissions (native 0x08 1 .topaz .h0p false false) noReply (fun p _ => p.params.length = 3 ∧ clean (par p 0) [(1,
      0)] = true ∧ bits (par p 0) 1 0 ≠ 0)) ∧
  (Meets .eventSubscribe (native 0x09 1 .hw .any false false) noReply (fun p _ => p.params.length = 1 ∧ clean (par p 0) [(15, 0)] = true)) ∧
  (Meets .pathBind (native 0x0A 1 .topaz .h0p false false) noReply (fun p _ => p.params.length = 1 ∧ clean (par p 0) [(31, 31), (9, 8),
      (4, 0)] = true ∧ bits (par p 0) 4 0 ≤ 28)) ∧
  (Meets .groupAssign (native 0x0B 1 .topaz .h0p false false) noReply (fun p _ => p.params.length = 1 ∧ clean (par p 0) [(15, 12), (9,
      8), (4, 0)] = true ∧ bits (par p 0) 4 0 < 8)) :=
  ⟨meets (pkt 1 0x02 [1]) (on m0) (right _) (by decide +kernel),
  meets (pkt 1 0x03 []) (on m0) (right _) (by decide +kernel),
  meets (pkt 1 0x08 [3, 0xFFFFFFFF, 0xFFFFFFFF]) (on m0) (right _) (by decide +kernel),
  meets (pkt 1 0x09 [0xFFFF]) (on m0) (right _) (by decide +kernel),
  meets (pkt 1 0x0A [0x8000031C]) (on m0) (right _) (by decide +kernel),
  meets (pkt 1 0x0B [0xF307]) (on m0) (right _) (by decide +kernel)⟩

theorem meets_ProvisioningRowsComplete :
  (Meets (fun p => .provisionLock p true) (native 0x07 0 .topaz .h0p false false) noReply (fun p m => p.params.length = 0 ∧
      golden m = false ∧ locked m = false ∧ updState m = 0 ∧ pending m .cal = false ∧
      layoutFits m = true ∧ berylWrites m = true)) ∧
  (Meets .restart (native 0x0D 0 .topaz .h0 false false) noReply (fun p m => p.params.length = 1 ∧ par p 0 = 0 ∧ m.pwr.entry = none ∧
      m.upd.pause = none)) ∧
  (Meets .unprovision (native 0x0D 0 .topaz .h0 false false) noReply (fun p m => p.params.length = 1 ∧ par p 0 = 1 ∧ m.pwr.entry = none ∧
      m.upd.pause = none ∧ locked m = true ∧
      anyGrpRuns m = false ∧ outsOff m = true ∧ updState m = 0)) ∧
  (Occurs .unprovisionTimeout (fun m => ∃ d, m.saf.unprov = some d ∧ d ≤ m.now)) :=
  ⟨meets (pkt 1 0x07 []) (on m0) (right _) (by decide +kernel),
  meets (pkt 1 0x0D [0]) (on m0) (right _) (by decide +kernel),
  meets (cptPkt 0x0D [1]) (on (setB rHUB_LOCK fHUB_LOCK_LOCKED true m0)) (right _) (by decide +kernel),
  occurs 0 (on { m0 with saf := { m0.saf with unprov := some 0 } }) ⟨0, rfl, Nat.le_refl 0⟩⟩

theorem meets_SetPowerRowsComplete :
  (Meets .setPowerRun (native 0x04 0 .topaz .any false false) noReply (fun p m => p.params.length = 1 ∧ par p 0 = 0 ∧ m.pwr.entry = none ∧
      m.pwr.st = 1 ∧
      powerRefused (setF rPWR_STAT fPWR_STAT_LAST_REQ 0 m) 0 = false)) ∧
  (Meets .setPowerIdle (native 0x04 0 .topaz .any false false) noReply (fun p m => p.params.length = 1 ∧ par p 0 = 1 ∧
      m.pwr.entry = none ∧ m.pwr.st ≠ 1 ∧
      powerRefused (setF rPWR_STAT fPWR_STAT_LAST_REQ 1 m) 1 = false)) ∧
  (Meets .setPowerSleep (native 0x04 0 .topaz .h0 false false) noReply (fun p m => p.params.length = 1 ∧ par p 0 = 2 ∧
      m.pwr.entry = none ∧ m.pwr.st ≠ 2 ∧
      powerRefused (setF rPWR_STAT fPWR_STAT_LAST_REQ 2 m) 2 = false)) ∧
  (Meets .setPowerDeep (native 0x04 0 .topaz .h0 false false) noReply (fun p m => p.params.length = 1 ∧ par p 0 = 3 ∧ m.pwr.entry = none ∧
      m.pwr.st ≠ 3 ∧
      powerRefused (setF rPWR_STAT fPWR_STAT_LAST_REQ 3 m) 3 = false ∧
      homeBank (setF rPWR_STAT fPWR_STAT_LAST_REQ 3 m) 0 ≠ none ∧
      homeBank (setF rPWR_STAT fPWR_STAT_LAST_REQ 3 m) 1 ≠ none)) ∧
  (Meets .setPowerOff (native 0x04 0 .topaz .h0 false false) noReply (fun p m => p.params.length = 1 ∧ par p 0 = 4 ∧ m.pwr.entry = none ∧
      m.pwr.st ≠ 4 ∧
      powerRefused (setF rPWR_STAT fPWR_STAT_LAST_REQ 4 m) 4 = false)) ∧
  (Meets .sleep (legacy 0x06 0 .topaz .h0 0 false false) noReply (fun p m => p.params.length = 0 ∧ m.pwr.entry = none ∧ m.pwr.st ≠ 2 ∧
      powerRefused (setF rPWR_STAT fPWR_STAT_LAST_REQ 2 m) 2 = false)) :=
  ⟨meets (pkt 1 0x04 [0]) (on (inPower 1 m0)) (right _) (by decide +kernel),
  meets (pkt 1 0x04 [1]) (on m0) (right _) (by decide +kernel),
  meets (pkt 1 0x04 [2]) (on m0) (right _) (by decide +kernel),
  meets (pkt 1 0x04 [3]) (on m0) (right _) (by decide +kernel),
  meets (pkt 1 0x04 [4]) (on m0) (right _) (by decide +kernel),
  meets (pkt 0 0x06 []) (on mLegacy) (right _) (by decide +kernel)⟩

theorem meets_PowerEntryStepsComplete :
  (Occurs .wearSliceWrite (fun m => hubRuns m = true ∧ topazStopped m = false ∧ golden m = false ∧ (writeSlice m).pwr.entry = none)) ∧
  (∃ e : EntryRec, 
    let entry := fun (k : Nat) (m : Mach) => m.pwr.entry = some e ∧ e.step = k
    
    let wakes := fun (m : Mach) => if flag m rPWR_CFG fPWR_CFG_BAMUT_ENTRY then none else e.wake
    Occurs .wearSliceWrite (fun m => hubRuns m = true ∧ topazStopped m = false ∧ golden m = false ∧ entry 2 (writeSlice m) ∧
        wakes (writeSlice m) = none)) ∧
  (∃ e : EntryRec, 
    let entry := fun (k : Nat) (m : Mach) => m.pwr.entry = some e ∧ e.step = k
    
    let wakes := fun (m : Mach) => if flag m rPWR_CFG fPWR_CFG_BAMUT_ENTRY then none else e.wake
    ∃ src, Occurs .wearSliceWrite (fun m => hubRuns m = true ∧ topazStopped m = false ∧ golden m = false ∧ entry 2 (writeSlice m) ∧
        wakes (writeSlice m) = some src)) ∧
  (∃ e : EntryRec, 
    let entry := fun (k : Nat) (m : Mach) => m.pwr.entry = some e ∧ e.step = k
    
    let wakes := fun (m : Mach) => if flag m rPWR_CFG fPWR_CFG_BAMUT_ENTRY then none else e.wake
    
    let saved := fun (m : Mach) =>
    let n := m |> setF rPWR_TARGET fPWR_TARGET_MODE e.target |> saveTrialMs
    { n with pwr := { n.pwr with berylMs := calMs n } }
    Occurs .waitForState (fun m => entry 3 m ∧ topazStopped m = false ∧ wakes (saved m) = none ∧ e.target = 1)) ∧
  (∃ e : EntryRec, 
    let entry := fun (k : Nat) (m : Mach) => m.pwr.entry = some e ∧ e.step = k
    
    let wakes := fun (m : Mach) => if flag m rPWR_CFG fPWR_CFG_BAMUT_ENTRY then none else e.wake
    
    let saved := fun (m : Mach) =>
    let n := m |> setF rPWR_TARGET fPWR_TARGET_MODE e.target |> saveTrialMs
    { n with pwr := { n.pwr with berylMs := calMs n } }
    Occurs .waitForState (fun m => entry 3 m ∧ topazStopped m = false ∧ wakes (saved m) = none ∧ e.target ≠ 1)) ∧
  (∃ e : EntryRec, 
    let entry := fun (k : Nat) (m : Mach) => m.pwr.entry = some e ∧ e.step = k
    
    let wakes := fun (m : Mach) => if flag m rPWR_CFG fPWR_CFG_BAMUT_ENTRY then none else e.wake
    
    let saved := fun (m : Mach) =>
    let n := m |> setF rPWR_TARGET fPWR_TARGET_MODE e.target |> saveTrialMs
    { n with pwr := { n.pwr with berylMs := calMs n } }
    ∃ src, Occurs .waitForState (fun m => entry 3 m ∧ topazStopped m = false ∧ wakes (saved m) = some src)) ∧
  (∃ e : EntryRec, 
    let entry := fun (k : Nat) (m : Mach) => m.pwr.entry = some e ∧ e.step = k
    
    let wakes := fun (m : Mach) => if flag m rPWR_CFG fPWR_CFG_BAMUT_ENTRY then none else e.wake
    Occurs .entryDrain (fun m => entry 4 m ∧ drained m = true ∧ wakes m = none)) ∧
  (∃ e : EntryRec, 
    let entry := fun (k : Nat) (m : Mach) => m.pwr.entry = some e ∧ e.step = k
    
    let wakes := fun (m : Mach) => if flag m rPWR_CFG fPWR_CFG_BAMUT_ENTRY then none else e.wake
    ∃ src, Occurs .entryDrain (fun m => entry 4 m ∧ drained m = true ∧ wakes m = some src)) ∧
  (∃ e : EntryRec, 
    let entry := fun (k : Nat) (m : Mach) => m.pwr.entry = some e ∧ e.step = k
    Occurs .stateReached (fun m => entry 6 m ∧ e.target = 2)) ∧
  (∃ e : EntryRec, 
    let entry := fun (k : Nat) (m : Mach) => m.pwr.entry = some e ∧ e.step = k
    Occurs .stateReached (fun m => entry 6 m ∧ e.target = 3)) ∧
  (∃ e : EntryRec, 
    let entry := fun (k : Nat) (m : Mach) => m.pwr.entry = some e ∧ e.step = k
    Occurs .stateReached (fun m => entry 6 m ∧ e.target = 4)) :=
  ⟨occurs 0 (on m0) (by decide +kernel),
  ⟨{ target := 3, step := 2 }, occurs 0 (on (entering { target := 3, step := 2 } m0)) (by decide +kernel)⟩,
  ⟨{ target := 3, step := 2, wake := some 1 }, 1, occurs 0 (on (entering { target := 3, step := 2, wake := some 1 } m0))
      (by decide +kernel)⟩,
  ⟨{ target := 1, step := 3 }, occurs 0 (on (entering { target := 1, step := 3 } m0)) (by decide +kernel)⟩,
  ⟨{ target := 2, step := 3 }, occurs 0 (on (entering { target := 2, step := 3 } m0)) (by decide +kernel)⟩,
  ⟨{ target := 2, step := 3, wake := some 0 }, 0, occurs 0 (on (entering { target := 2, step := 3, wake := some 0 } m0))
      (by decide +kernel)⟩,
  ⟨{ target := 2, step := 4 }, occurs 0 (on (entering { target := 2, step := 4 } m0)) (by decide +kernel)⟩,
  ⟨{ target := 4, step := 4, wake := some 2 }, 2, occurs 0 (on (entering { target := 4, step := 4, wake := some 2 } m0))
      (by decide +kernel)⟩,
  ⟨{ target := 2, step := 6 }, occurs 0 (on (entering { target := 2, step := 6 } m0)) (by decide +kernel)⟩,
  ⟨{ target := 3, step := 6 }, occurs 0 (on (entering { target := 3, step := 6 } m0)) (by decide +kernel)⟩,
  ⟨{ target := 4, step := 6 }, occurs 0 (on (entering { target := 4, step := 6 } m0)) (by decide +kernel)⟩⟩

theorem meets_WakeRowsComplete :
  (∃ (high : Bool) (cycles : Nat), Occurs (fun t => .wakePin ⟨t, high, cycles⟩) (fun m => wakeActs m = true ∧
      high = flag m rPWR_CFG fPWR_CFG_WAKE_POL ∧ getF m rPWR_CFG fPWR_CFG_WAKE_FILT ≤ cycles)) ∧
  (Occurs .calendarAlarm (fun m => wakeActs m = true ∧ flag m rRTC_ALARM_HI fRTC_ALARM_HI_EN = true ∧ alarmMs m ≤ calMs m)) ∧
  (Occurs .wakeTimer (fun m => (m.pwr.st = 2 ∨ m.pwr.st = 3 ∨ m.pwr.st = 4) ∧ (reg m rPWR_WAKE_TMR).toNat ≠ 0 ∧
      (reg m rPWR_WAKE_TMR).toNat ≤ ticksSince m)) ∧
  (∃ failed, Occurs (fun t => .exitComplete t failed) (fun m => m.pwr.exiting = true ∧ m.pwr.st = 2)) ∧
  (∃ failed, Occurs (fun t => .exitComplete t failed) (fun m => m.pwr.exiting = true ∧ m.pwr.st = 3 ∧
      roleLost (clocksStart (wakeTime m)) failed 0 = false ∧
      roleLost (clocksStart (wakeTime m)) failed 1 = false)) ∧
  (∃ failed, Occurs (fun t => .exitComplete t failed) (fun m => m.pwr.exiting = true ∧ m.pwr.st = 3 ∧
      (roleLost (clocksStart (wakeTime m)) failed 0 = true ∨
      roleLost (clocksStart (wakeTime m)) failed 1 = true))) ∧
  (∃ failed, Occurs (fun t => .exitComplete t failed) (fun m => m.pwr.exiting = true ∧ m.pwr.st = 4)) ∧
  (∃ k m, 
    let noted := latchBits rPWR_WAKE_SRC fPWR_WAKE_SRC_SRC (2 ^ k) m
    
    let enabled := k = 6 ∨ hasBit (getF noted rPWR_WAKE_EN fPWR_WAKE_EN_EN) k = true
    ¬ enabled) ∧
  (∃ k m, 
    let noted := latchBits rPWR_WAKE_SRC fPWR_WAKE_SRC_SRC (2 ^ k) m
    
    let enabled := k = 6 ∨ hasBit (getF noted rPWR_WAKE_EN fPWR_WAKE_EN_EN) k = true
    enabled ∧ m.pwr.entry = none ∧ (m.pwr.st = 2 ∨ m.pwr.st = 3 ∨ m.pwr.st = 4)) ∧
  (∃ k m, 
    let noted := latchBits rPWR_WAKE_SRC fPWR_WAKE_SRC_SRC (2 ^ k) m
    
    let enabled := k = 6 ∨ hasBit (getF noted rPWR_WAKE_EN fPWR_WAKE_EN_EN) k = true
    ∃ e : EntryRec, enabled ∧ m.pwr.entry = some e ∧ e.wake = none) :=
  ⟨⟨true, 300000, occurs 0 (on (inPower 2 (setB rPWR_CFG fPWR_CFG_WAKE_POL true m0))) (by decide +kernel)⟩,
  occurs 0 (on (inPower 2 (setB rRTC_ALARM_HI fRTC_ALARM_HI_EN true m0))) (by decide +kernel),
  occurs 0 (on timer3) ⟨.inl (by decide +kernel), by decide +kernel, by
    rw [ticksSince, aonCount_now (by decide +kernel)]
    decide +kernel⟩,
  ⟨0, occurs 0 (on (exiting 2 m0)) (by decide +kernel)⟩,
  ⟨0, occurs 0 (on (exiting 3 m0)) (by decide +kernel)⟩,
  ⟨1, occurs 0 (on (exiting 3 m0)) (by decide +kernel)⟩,
  ⟨0, occurs 0 (on (exiting 4 m0)) (by decide +kernel)⟩,
  ⟨1, m0, by decide +kernel⟩,
  ⟨6, inPower 4 m0, by decide +kernel⟩,
  ⟨6, entering {} m0, {}, by decide +kernel⟩⟩

theorem meets_RegisterReadRowsComplete :
  (∃ (p : Packet) (s : State) (m : Mach), 
    let l := span (par p 0).toNat (bits (par p 1) 8 0)
    
    let o := native 0x10 0 .hw .any (onlyReads l) true
    Starts (.regRead p) o (fun _ _ => bits (par p 1) 8 0) p s m ∧ p.params.length = 2 ∧ countOk (par p 1) = true ∧
        spanOk (par p 0).toNat (bits (par p 1) 8 0) = true) ∧
  (∃ (p : Packet) (s : State) (m : Mach), 
    let o := native 0x13 0 .hw .any (onlyReads (addrs p)) true
    Starts (.regReadList p) o (fun p _ => p.params.length) p s m ∧ 1 ≤ p.params.length ∧ p.params.length ≤ 256 ∧
        (addrs p).all addrOk = true) ∧
  (∃ (p : Packet) (s : State) (m : Mach), Starts (.regPoll p) (opRegPoll p) (replyLen 1) p s m ∧ p.params.length = 4 ∧
      clean (par p 3) [(19, 0)] = true ∧ 1 ≤ bits (par p 3) 19 0 ∧ bits (par p 3) 19 0 ≤ 1000000 ∧ addrOk (par p 0).toNat = true ∧
      viewReg m (par p 0).toNat &&& par p 1 = par p 2) ∧
  (∃ (ctx : Fin 4) (q : Fin 8) (r : PollRec), Occurs (fun t => .pollRead t ctx q) (fun m => hubRuns m = true ∧
      m.polls.find? (pollOf ctx q) = some r ∧ viewReg m r.addr &&& r.mask = r.expect)) ∧
  (∃ (ctx : Fin 4) (q : Fin 8) (r : PollRec), Occurs (fun t => .regPollTimeout t ctx q) (fun m => m.polls.find? (pollOf ctx q) = some r ∧
      r.endsAt ≤ m.now)) :=
  ⟨⟨pkt 1 0x10 [w32 rHUB_LOCK, 2], on m0, _, starts (right _) (by decide +kernel), by decide +kernel⟩,
  ⟨pkt 1 0x13 [w32 rHUB_LOCK, w32 rHUB_LOAD], on m0, _, starts (right _) (by decide +kernel), by decide +kernel⟩,
  ⟨pkt 1 0x15 [w32 rHUB_LOCK, 0, 0, 1000000], on m0, _, starts (right _) (by decide +kernel), by decide +kernel⟩,
  ⟨0, 0, poll0, occurs 0 (on { m0 with polls := [poll0] }) (by decide +kernel)⟩,
  ⟨0, 0, poll0, occurs 0 (on { m0 with polls := [poll0] }) (by decide +kernel)⟩⟩

theorem meets_RegisterWriteRowsComplete :
  (Meets .regWrite (native 0x11 0 .hw .any false true) (replyLen 1) (fun p m => countOk (par p 1) = true ∧
      p.params.length = 2 + bits (par p 1) 8 0 ∧
      spanOk (par p 0).toNat (bits (par p 1) 8 0) = true ∧ mayWrite m (ctxN p) (par p 0).toNat = true)) ∧
  (Meets .regWriteList (native 0x14 0 .hw .any false true) (replyLen 1) (fun p m => p.params.length % 2 = 0 ∧ 2 ≤ p.params.length ∧
      p.params.length ≤ 256 ∧
      ((writePairs p.params).all fun e => addrOk e.1) = true ∧
      ((writePairs p.params).all fun e => mayWrite m (ctxN p) e.1) = true)) ∧
  (Meets .regModify (native 0x12 0 .hw .any false true) (replyLen 2) (fun p m => p.params.length = 3 ∧ addrOk (par p 0).toNat = true ∧
      specialReg (par p 0).toNat = false ∧
      mayWrite m (ctxN p) (par p 0).toNat = true)) ∧
  (∃ (ctx : Fin 4) (addr : Nat) (v : Word), Occurs (fun t => .registerWrite t ctx addr v) (fun m => hubRuns m = true ∧
      ctxOpen m ctx = true ∧ addrOk addr = true ∧ mayWrite m ctx addr = true)) :=
  ⟨meets (pkt 1 0x11 [w32 (rADC_CH_CFG 0), 1, 0]) (on m0) (right _) (by decide +kernel),
  meets (pkt 1 0x14 [w32 (rADC_CH_CFG 0), 0, w32 rHUB_LOCK, 5]) (on m0) (right _) (by decide +kernel),
  meets (pkt 1 0x12 [w32 (rADC_CH_CFG 0), 0xFFFF, 1]) (on m0) (right _) (by decide +kernel),
  ⟨0, rADC_CH_CFG 0, 7, occurs 0 (on m0) (by decide +kernel)⟩⟩

theorem meets_RegisterEffectRowsComplete :
  (∃ ctx : Fin 4, 
    let open' (a : Nat) (m : Mach) : Prop := hubRuns m = true ∧ ctxOpen m ctx = true ∧ mayWrite m ctx a = true
    Occurs (fun t => .close t ctx) (open' rFLT_FIRST_CTL)) ∧
  (∃ ctx : Fin 4, 
    let open' (a : Nat) (m : Mach) : Prop := hubRuns m = true ∧ ctxOpen m ctx = true ∧ mayWrite m ctx a = true
    Occurs (fun t => .release t ctx) (open' rFLT_ERRN)) ∧
  (∃ ctx : Fin 4, 
    let open' (a : Nat) (m : Mach) : Prop := hubRuns m = true ∧ ctxOpen m ctx = true ∧ mayWrite m ctx a = true
    Occurs (fun t => .fltPfenceClrGo t ctx) (fun m => open' rFLT_PFENCE_CLR m ∧ mayConfig m ctx = true)) ∧
  (∃ ctx : Fin 4, 
    let open' (a : Nat) (m : Mach) : Prop := hubRuns m = true ∧ ctxOpen m ctx = true ∧ mayWrite m ctx a = true
    ∃ v, Occurs (fun t => .rtcTimeStage t ctx v) (fun m => open' rRTC_TIME_LO m ∧ m.pwr.aonBusyTo ≤ m.now)) ∧
  (∃ ctx : Fin 4, 
    let open' (a : Nat) (m : Mach) : Prop := hubRuns m = true ∧ ctxOpen m ctx = true ∧ mayWrite m ctx a = true
    ∃ v, Occurs (fun t => .rtcTimeStage t ctx v) (fun m => open' rRTC_TIME_LO m ∧ m.now < m.pwr.aonBusyTo)) ∧
  (∃ ctx : Fin 4, 
    let open' (a : Nat) (m : Mach) : Prop := hubRuns m = true ∧ ctxOpen m ctx = true ∧ mayWrite m ctx a = true
    ∃ v, Occurs (fun t => .rtcTimeLoad t ctx v) (fun m => open' rRTC_TIME_HI m ∧ m.pwr.aonBusyTo ≤ m.now)) ∧
  (∃ ctx : Fin 4, 
    let open' (a : Nat) (m : Mach) : Prop := hubRuns m = true ∧ ctxOpen m ctx = true ∧ mayWrite m ctx a = true
    ∃ v, Occurs (fun t => .rtcTimeLoad t ctx v) (fun m => open' rRTC_TIME_HI m ∧ m.now < m.pwr.aonBusyTo)) ∧
  (∃ ctx : Fin 4, 
    let open' (a : Nat) (m : Mach) : Prop := hubRuns m = true ∧ ctxOpen m ctx = true ∧ mayWrite m ctx a = true
    ∃ v, Occurs (fun t => .nvmLogSelWrite t ctx v) (open' rNVM_LOG_SEL)) ∧
  (∃ (ctx : Fin 4) (g : Fin 8) (v : Word), Occurs (fun t => .scnRateWrite t ctx g v) (fun m => hubRuns m = true ∧ ctxOpen m ctx = true ∧
      mayWrite m ctx (rSCN_RATE g) = true ∧ mayConfig m ctx = true)) ∧
  (∃ (ctx : Fin 4) (g : Fin 64), Occurs (fun t => .telltaleClear t ctx g) (fun m => hubRuns m = true ∧ ctxOpen m ctx = true ∧
      mayWrite m ctx (rCHN_GRP_STAT g) = true)) ∧
  (Occurs .rtcTimeLoRead (fun m => hubRuns m = true)) ∧
  (Occurs .rtcAonCntLoRead (fun m => hubRuns m = true)) ∧
  (Occurs .hubLoadRead (fun m => hubRuns m = true)) ∧
  (∃ e : Fin 2, Occurs (fun t => .garLoadRead t e) (fun m => hubRuns m = true)) :=
  ⟨⟨0, occurs 0 (on m0) (by decide +kernel)⟩,
  ⟨0, occurs 0 (on m0) (by decide +kernel)⟩,
  ⟨0, occurs 0 (on m0) (by decide +kernel)⟩,
  ⟨0, 1, occurs 0 (on m0) (by decide +kernel)⟩,
  ⟨0, 1, occurs 0 (on { m0 with pwr := { m0.pwr with aonBusyTo := 9 } }) (by decide +kernel)⟩,
  ⟨0, 1, occurs 0 (on m0) (by decide +kernel)⟩,
  ⟨0, 1, occurs 0 (on { m0 with pwr := { m0.pwr with aonBusyTo := 9 } }) (by decide +kernel)⟩,
  ⟨0, 1, occurs 0 (on m0) (by decide +kernel)⟩,
  ⟨0, 0, 0, occurs 0 (on m0) (by decide +kernel)⟩,
  ⟨0, 0, occurs 0 (on m0) (by decide +kernel)⟩,
  occurs 0 (on m0) (by decide +kernel),
  occurs 0 (on m0) (by decide +kernel),
  occurs 0 (on m0) (by decide +kernel),
  ⟨0, occurs 0 (on m0) (by decide +kernel)⟩⟩

theorem meets_BufferRowsComplete :
  (Meets .bufFree (native 0x21 0 .topaz .any false false) noReply (fun p m => p.params.length = 1 ∧
      bufRefused m (ctxN p) (par p 0).toNat = none)) ∧
  (Meets .bufInfo (native 0x24 1 .topaz .any true true) (replyLen 3) (fun p m => p.params.length = 1 ∧
      (bufRefused m (ctxN p) (par p 0).toNat = none ∨ bufRefused m (ctxN p) (par p 0).toNat = some stHANDLE_RETIRING))) ∧
  (MeetsMem .bufWrite (native 0x22 0 .hw .any false false) noReply (fun p _ m => 3 ≤ p.params.length ∧
      bufRefused m (ctxN p) (par p 0).toNat = none ∧ (par p 1).toNat % 4 = 0 ∧
      (par p 1).toNat + 4 * (p.params.length - 2) ≤ (bufOf m (hIdx (par p 0).toNat)).size)) ∧
  (MeetsMem .bufRead (native 0x23 2 .topaz .any true true) (fun p _ => if p.params.length = 3 then (par p 2).toNat else 0) (fun p _ m => p.params.length = 3 ∧ par p 1 % 4 = 0 ∧ par p 2 ≠ 0 ∧ bufRefused m (ctxN p) (par p 0).toNat = none ∧
      (par p 1).toNat + 4 * (par p 2).toNat ≤ (bufOf m (hIdx (par p 0).toNat)).size)) ∧
  (∃ h : Nat, Occurs (fun t => .pageReturn t h) (fun m => bufNamed m h = true ∧ (bufOf m (hIdx h)).due = true)) ∧
  (∃ h : Nat, Occurs (fun t => .pageReturn t h) (fun m => layNamed m h = true ∧ (layOf m (hIdx h)).due = true ∧ bufNamed m h = false)) ∧
  (∃ (p : Packet) (s : State) (m : Mach) (size : Nat) (l : Layout), 
    let o := native 0x20 1 .topaz .any false true
    
    let c := ctxN p
    Starts (.bufAlloc p) o (replyLen 6) p s m ∧ p.params.length = 2 ∧ allocShape (par p 0) (par p 1) = some (size, l) ∧ (∃ k, k < 4096 ∧
        k ∉ usedBufs m) ∧ ((usedBufs m).filter (fun i => (bufOf m i).ctx == c)).length < 1024 ∧
        size / 4096 ≤ getF m rPLC_POOL_STAT fPLC_POOL_STAT_FREE ∧ ctxPages m c + size / 4096 ≤ getF m (rPLC_QUOTA c) fPLC_QUOTA_PAGES) :=
  ⟨meets (pkt 1 0x21 [w32 h7]) (on (withBuf7 0 0 0 4096 m0)) (right _) (by decide +kernel),
  meets (pkt 1 0x24 [w32 h7]) (on (withBuf7 0 0 0 4096 m0)) (right _) (by decide +kernel),
  meetsMem (pkt 1 0x22 [w32 h7, 4092, 0x01020304]) (on (withBuf7 0 0 0 4096 m0)) (right _) (by decide +kernel),
  meetsMem (pkt 1 0x23 [w32 h7, 0, 2]) (on (withBuf7 0 0 0 4096 m0)) (right _) (by decide +kernel),
  ⟨h7, occurs 0 (on (setBuf 7 { used := true, gen := some 5, retiring := true, due := true } m0)) (by decide +kernel)⟩,
  ⟨l3, occurs 0 (on (withLay3 { retiring := true, due := true } m0)) (by decide +kernel)⟩,
  ⟨pkt 1 0x20 [0, 4096], on m0, _, 4096, _, starts (right _) (by decide +kernel), by decide +kernel, rfl,
    ⟨0, by decide +kernel⟩, by decide +kernel⟩⟩

theorem meets_StreamBindRowsComplete :
  (Meets .streamBind (native 0x25 1 .topaz .any false false) noReply (fun p m =>
      let c := ctxN p
      let port := bits (par p 0) 4 0
      let fmt := descFmt (lastDesc m (hIdx (par p 1).toNat))
      p.params.length = 4 ∧ streamWordOk p = true ∧ (bit (par p 0) 8 = false → par p 3 = 0) ∧
      layRefused m (2 ^ c) (par p 1).toNat = none ∧ bufRefused m c (par p 2).toNat = none ∧
      (bit (par p 0) 8 = true → bufRefused m c (par p 3).toNat = none ∧ (bufOf m (hIdx (par p 3).toNat)).fmt = fmt) ∧
      (bufOf m (hIdx (par p 2).toNat)).fmt = fmt ∧ ((streamOf m port).on = true → (streamOf m port).ctx = c) ∧
      getF m (rCPL_CFG port) fCPL_CFG_ROLE = 2)) ∧
  (Meets .streamUnbind (native 0x25 1 .topaz .any false false) noReply (fun p m =>
      let port := bits (par p 0) 4 0
      p.params.length = 4 ∧ streamWordOk p = true ∧ ((streamOf m port).on = true → (streamOf m port).ctx = ctxN p) ∧
      getF m (rCPL_CFG port) fCPL_CFG_ROLE = 2)) :=
  ⟨meets (pkt 1 0x25 [0x80000101, w32 l3, w32 h7, w32 h7])
      (on (withRole 1 2 (withLay3 { pend := some desc0 } (withBuf7 2 8 8 4096 m0)))) (right _) (by decide +kernel),
  meets (pkt 1 0x25 [1, 0, 0, 0]) (on (withRole 1 2 (withLay3 { pend := some desc0 } (withBuf7 2 8 8 4096 m0)))) (right _)
      (by decide +kernel)⟩

theorem meets_LayerRowsComplete :
  (∃ (p : Packet) (s : State) (m : Mach), 
    let o := native 0x28 1 .topaz .any false true
    Starts (.layerCreate p) o (replyLen 1) p s m ∧ p.params.length = 5 ∧ descOk p.params = true ∧ (∃ k, k < 256 ∧ k ∉ usedLays m) ∧
        ((usedLays m).filter (fun n => (layOf m n).ctx == ctxN p)).length < 128 ∧ blocksUsed m none + descBlocks m p.params ≤ 512 ∧
        (∀ n gen, dramFits (setLay n { used := true, gen := some gen, ctx := ctxN p, blocks := descBlocks m p.params, pend := some p.params }
      { m with free := m.free + 1 }) = true)) ∧
  (Meets .layerDestroy (native 0x29 1 .topaz .any false false) noReply (fun p m => p.params.length = 1 ∧
      layRefused m (2 ^ ctxN p) (par p 0).toNat = none)) ∧
  (Meets .layerSet (native 0x2A 1 .topaz .any false false) noReply (fun p m =>
      let i := hIdx (par p 0).toNat
      let d := p.params.drop 1
      p.params.length = 6 ∧ descOk d = true ∧ layRefused m (2 ^ ctxN p) (par p 0).toNat = none ∧
      (∀ g, g < 8 → inStacks m g i = true → groupOf m (descTile d) = some g) ∧ bufSuits m (lastBuf m i) d = true ∧
      needsBlocks (lastDesc m i) d = true ∧ blocksUsed m (some i) + descBlocks m d ≤ 512 ∧
      dramFits (setLay i { layOf m i with pend := some d, blocks := descBlocks m d } m) = true)) ∧
  (Meets .layerSet (native 0x2A 1 .topaz .any false false) noReply (fun p m =>
      let i := hIdx (par p 0).toNat
      let d := p.params.drop 1
      p.params.length = 6 ∧ descOk d = true ∧ layRefused m (2 ^ ctxN p) (par p 0).toNat = none ∧
      (∀ g, g < 8 → inStacks m g i = true → groupOf m (descTile d) = some g) ∧ bufSuits m (lastBuf m i) d = true ∧
      needsBlocks (lastDesc m i) d = false ∧ dramFits (setLay i { layOf m i with pend := some d } m) = true)) ∧
  (Meets .layerAttach (native 0x2B 0 .hw .any false false) noReply (fun p m => p.params.length = 2 ∧
      layRefused m (2 ^ ctxN p) (par p 0).toNat = none ∧
      (par p 1 ≠ 0 → bufRefused m (ctxN p) (par p 1).toNat = none ∧
        bufSuits m (par p 1).toNat (lastDesc m (hIdx (par p 0).toNat)) = true))) :=
  ⟨⟨pkt 1 0x28 desc0, on m0, _, starts (right _) (by decide +kernel), by decide +kernel, by decide +kernel,
    ⟨0, by decide +kernel⟩, by decide +kernel, by decide +kernel, fun n _ => fits_idle (by decide +kernel) (by decide +kernel) n _⟩,
  meets (pkt 1 0x29 [w32 l3]) (on (withLay3 {} m0)) (right _) (by decide +kernel),
  meets (pkt 1 0x2A (w32 l3 :: desc0)) (on (withLay3 {} m0)) (right _) (by decide +kernel),
  meets (pkt 1 0x2A (w32 l3 :: desc0)) (on (withLay3 { pend := some desc0 } m0)) (right _) (by decide +kernel),
  meets (pkt 1 0x2B [w32 l3, w32 h7]) (on (withLay3 { pend := some desc0 } (withBuf7 2 8 8 4096 m0))) (right _) (by decide +kernel)⟩

theorem meets_CommitAndTimingRowsComplete :
  (∃ late : Bool, Meets (fun p => .commit p late) (native 0x30 0 .hw .any false true) (replyLen 2) (fun p m => p.params.length = 1 ∧
      clean (par p 0) [(4, 0)] = true ∧ bits (par p 0) 4 0 < 8 ∧
      takesPart m (ctxN p) (bits (par p 0) 4 0) = true ∧ grpRuns m (bits (par p 0) 4 0) = true ∧ m.pwr.st ≠ 1)) ∧
  (Meets .commitStatus (native 0x31 0 .hw .any true true) (replyLen 1) (fun p _ => p.params.length = 1 ∧ clean (par p 0) [(4, 0)] = true ∧
      bits (par p 0) 4 0 < 8)) ∧
  (∃ late : Bool, Meets (fun p => .frameShow p late) (legacy 0x05 0 .hw .any 2 false true) (replyLen 2) (fun p m =>
      let r := bamutOf m (ctxN p)
      p.params.length = 0 ∧ r.on = true ∧ takesPart m (ctxN p) r.grp = true ∧ grpRuns m r.grp = true ∧ m.pwr.st ≠ 1)) ∧
  (Meets .timingSet (native 0x32 1 .topaz .h0p false false) noReply (fun p m =>
      let g := bits (par p 0) 4 0
      p.params.length = 7 ∧ clean (par p 0) [(4, 0)] = true ∧ g < 8 ∧ timingRefused m g (p.params.drop 1) = none ∧
      (fget ((p.params.drop 1).getD 3 0) fSCN_RATE_EN ≠ 0 → m.pwr.st ≠ 1 ∧ pending m .cal = false) ∧ grpRuns m g = false)) ∧
  (∃ (p : Packet) (s : State) (m : Mach), 
    let o := native 0x32 1 .topaz .h0p false false
    
    let g := bits (par p 0) 4 0
    Starts (.timingSet p) o noReply p s m ∧ p.params.length = 7 ∧ clean (par p 0) [(4, 0)] = true ∧ g < 8 ∧
        timingRefused m g (p.params.drop 1) = none ∧ (fget ((p.params.drop 1).getD 3 0) fSCN_RATE_EN ≠ 0 → m.pwr.st ≠ 1 ∧
        pending m .cal = false) ∧ grpRuns m g = true) :=
  ⟨⟨true, meets (pkt 1 0x30 [0]) (on (running (withGroup m0))) (right _) (by decide +kernel)⟩,
  meets (pkt 1 0x31 [7]) (on m0) (right _) (by decide +kernel),
  ⟨false, meets (pkt 0 0x05 []) (on (withBamut (running (withGroup mLegacy)))) (right _) (by decide +kernel)⟩,
  meets (pkt 1 0x32 timing0) (on m0) (right _) (by decide +kernel),
  ⟨pkt 1 0x32 timing0, on (running (withGroup m0)), _, starts (right _) (by decide +kernel), by decide +kernel⟩⟩

theorem meets_GroupSettingRowsComplete :
  (∃ ws : List Word, Meets .stackSet (native 0x2C 1 .topaz .any false false) noReply (fun p m =>
      let n := bits (par p 0) 13 8
      let g := bits (par p 0) 4 0
      p.params.length = 1 + 2 * n ∧ clean (par p 0) [(13, 8), (4, 0)] = true ∧ 1 ≤ n ∧ n ≤ 32 ∧ g < 8 ∧
      ownsGroup m (ctxN p) g = true ∧ stackChecked m (ctxN p) g (stackEntries (p.params.drop 1)) = .ok ws)) ∧
  (Meets .colourMatrixSet (native 0x2D 1 .topaz .any false false) noReply (fun p m => p.params.length = 7 ∧ clean (par p 0) [(4,
      0)] = true ∧ bits (par p 0) 4 0 < 8 ∧
      ownsGroup m (ctxN p) (bits (par p 0) 4 0) = true)) ∧
  (Meets .racingSet (native 0x33 1 .topaz .any false false) noReply (fun p m =>
      let w := par p 0
      let g := bits w 4 0
      let lead := fget w fCMP_GRP_CFG_LEAD
      p.params.length = 1 ∧ clean w [(31, 31), (25, 16), (11, 8), (4, 0)] = true ∧ g < 8 ∧ ownsGroup m (ctxN p) g = true ∧
      (bit w 31 = true → lead ≠ 0 ∧ ∀ k ∈ admitted m, vtotal k g ≠ 0 → lead + 8 ≤ vtotal k g))) ∧
  (Meets .gainGlobalSet (native 0x40 1 .topaz .any false false) noReply (fun p m => p.params.length = 2 ∧ clean (par p 0) [(4,
      0)] = true ∧ clean (par p 1) [(15, 0)] = true ∧
      bits (par p 0) 4 0 < 8 ∧ ownsGroup m (ctxN p) (bits (par p 0) 4 0) = true)) ∧
  (Meets .setGain (legacy 0x03 1 .topaz .any 3 false false) noReply (fun p m => p.params.length = 1 ∧ clean (par p 0) [(15, 0)] = true ∧
      (bamutOf m (ctxN p)).on = true ∧
      ownsGroup m (ctxN p) (bamutOf m (ctxN p)).grp = true)) :=
  ⟨⟨[stackWord (w32 l3, 0x8000)], pkt 1 0x2C [0x100, w32 l3, 0x8000], on (withLay3 { pend := some desc0 } (withGroup m0)), _,
    starts (right _) (by decide +kernel), by decide +kernel, by decide +kernel, by decide +kernel, by decide +kernel,
    by decide +kernel, by decide +kernel, ok_of (by decide +kernel)⟩,
  meets (pkt 1 0x2D [0, 1, 2, 3, 4, 5, 6]) (on m0) (right _) (by decide +kernel),
  meets (pkt 1 0x33 [0x80060000]) (on (running (withGroup m0))) (right _) (by decide +kernel),
  meets (pkt 1 0x40 [7, 0x8000]) (on m0) (right _) (by decide +kernel),
  meets (pkt 0 0x03 [0x8000]) (on (withBamut mLegacy)) (right _) (by decide +kernel)⟩

theorem meets_MeshAndPlacementRowsComplete :
  (∃ (mesh : List MeshPt) (g w h : Nat), MeetsMem .warpMeshLoad (native 0x34 1 .topaz .any false true) (replyLen 1) (fun p mem m =>
      let t := bits (par p 0) 4 0
      let i := hIdx (par p 1).toNat
      p.params.length = 2 ∧ clean (par p 0) [(4, 0)] = true ∧ t < 24 ∧ bufRefused m (ctxN p) (par p 1).toNat = none ∧
      rawBuf m i 17160 = true ∧ meshOf mem i = some mesh ∧ tileGeom m t = some (g, w, h) ∧ ownsGroup m (ctxN p) g = true ∧
      meshSpan mesh w h ≤ 24)) ∧
  (Meets .placementMap (native 0x37 2 .topaz .any true true) (replyLen 35) (fun p _ => p.params.length = 0)) ∧
  (∃ (t : Nat) (plan : PlanEnv) (s : State), 
    let m := atTime t s.blk
    
    let named := plan.moves.map (moveRec m (m.pix.planId + 1))
    
    let moves := named.filter (moveFrees m) ++ named.filter (fun v => !moveFrees m v)
    planFits moves m = false) ∧
  (∃ (t : Nat) (plan : PlanEnv) (s : State), 
    let m := atTime t s.blk
    
    let named := plan.moves.map (moveRec m (m.pix.planId + 1))
    
    let moves := named.filter (moveFrees m) ++ named.filter (fun v => !moveFrees m v)
    planFits moves m = true) ∧
  (∃ g : Fin 8, Occurs (fun t => .migrationCopyDone t g) (fun _ => True)) :=
  ⟨⟨_, 0, 8, 8, meetsMem (pkt 1 0x34 [0, w32 h7]) (on (withBuf7 0 0 0 20480 (withGroup m0))) (right _)
    ⟨by decide +kernel, by decide +kernel, by decide +kernel, by decide +kernel, by decide +kernel, by decide +kernel,
      by decide +kernel, by decide +kernel, mesh_zeros _, by decide +kernel, by decide +kernel, span_zeros⟩⟩,
  meets (pkt 1 0x37 []) (on m0) (right _) (by decide +kernel),
  ⟨0, { moves := [{ kind := 1, group := 0, tile := 0, engA := 0, engB := 15, split := 0, src := 64, dst := 0, use := 0, lost := [], bad := 0 }], lost := [] }, on (setRegionUse 0 1 m0), by decide +kernel⟩,
  ⟨0, { moves := [{ kind := 1, group := 0, tile := 0, engA := 0, engB := 15, split := 0, src := 64, dst := 1, use := 0, lost := [], bad := 0 }], lost := [] }, on m0, by decide +kernel⟩,
  ⟨0, occurs 0 (on m0) trivial⟩⟩

theorem meets_PoseRowsComplete :
  (Meets .poseConfig (native 0x36 1 .topaz .h0p false false) (fun _ _ => 0) (fun p _ => p.params.length = 6 ∧ par p 0 = 0 ∧
      poseCfgOk (par p 1) = true ∧ poseFbOk (par p 2) = true ∧
      imuCfgOk (par p 3) = true ∧ imuXferOk (par p 4) = true)) ∧
  (Meets .poseConfigGroup (native 0x36 1 .topaz .h0p false false) (fun _ _ => 0) (fun p _ => p.params.length = 2 ∧ clean (par p 0) [(12,
      8), (1, 0)] = true ∧ bits (par p 0) 12 8 < 8 ∧
      clean (par p 1) [(31, 30), (15, 0)] = true)) ∧
  (Meets .poseConfigTile (native 0x36 1 .topaz .h0p false false) (fun _ _ => 0) (fun p _ => p.params.length = 2 ∧ clean (par p 0) [(12,
      8), (1, 0)] = true ∧ bits (par p 0) 12 8 < 24)) ∧
  (Meets .poseMsg (native 0x35 0 .hw .any false false) (fun _ _ => 0) (fun p _ => p.params.length = 3 ∧ clean (par p 0) [(31, 16), (1,
      0)] = true)) ∧
  (Occurs (fun t => .imuSample t []) (fun m => imuEn m = true ∧ imuMisses m = true)) ∧
  (∃ bytes, bytes ≠ [] ∧ Occurs (fun t => .imuSample t bytes) (fun m => imuEn m = true ∧ imuEnds m = true ∧ imuValid m bytes = true)) ∧
  (∃ bytes, bytes ≠ [] ∧ Occurs (fun t => .imuSample t bytes) (fun m => imuEn m = true ∧ imuEnds m = true ∧ imuValid m bytes = false)) ∧
  (Occurs .hostPoseTimeout (fun m => hostEn m = true ∧ m.pix.pose.hostOk = true ∧
      m.pix.pose.msgAt.getD m.bornAt + ms (getF m rWRP_POSE_CFG fWRP_POSE_CFG_TMO) ≤ m.now)) ∧
  (Occurs .imuOnlyTimeout (fun m => poseMode m = 3 ∧ m.pix.pose.imuOnlyAt + sec 2 < m.now)) :=
  ⟨meets (pkt 1 0x36 [0, 0x00380A64, 0xFFFCCCCD, 0x000013E8, 0x001001F0, 0]) (on m0) (right _) (by decide +kernel),
  meets (pkt 1 0x36 [0x701, 0xC000FFFF]) (on m0) (right _) (by decide +kernel),
  meets (pkt 1 0x36 [0x1702, 1]) (on m0) (right _) (by decide +kernel),
  meets (pkt 1 0x35 [0x00050001, 0, 0]) (on (setB rWRP_POSE_CFG fWRP_POSE_CFG_HOST_EN true (m0))) (right _) (by decide +kernel),
  occurs 1000000000 (on (setB rWRP_POSE_CFG fWRP_POSE_CFG_IMU_EN true (m0))) (by decide +kernel),
  ⟨List.replicate (getF m0 rWRP_IMU_XFER fWRP_IMU_XFER_LEN) 0, by decide +kernel, occurs 1000000000
      (on (setB rWRP_POSE_CFG fWRP_POSE_CFG_IMU_EN true (m0))) (by decide +kernel)⟩,
  ⟨[0], by decide +kernel, occurs 1000000000 (on (setB rWRP_POSE_CFG fWRP_POSE_CFG_IMU_EN true (m0))) (by decide +kernel)⟩,
  occurs 600000000 (on (setB rWRP_POSE_CFG fWRP_POSE_CFG_HOST_EN true (m0))) (by decide +kernel),
  occurs 2000000000 (on (setF rWRP_POSE_STAT fWRP_POSE_STAT_MODE 3 m0)) (by decide +kernel)⟩

theorem meets_PhotometricLoadsComplete :
  (∃ g w h : Nat, MeetsMem .uniformityLoad (native 0x41 2 .topaz .h0p false false) noReply (fun p _ m =>
      let t := bits (par p 0) 4 0
      p.params.length = 2 ∧ clean (par p 0) [(4, 0)] = true ∧ t < 24 ∧ tileGeom m t = some (g, w, h) ∧
      bufRefused m (ctxN p) (par p 1).toNat = none ∧
      rawBuf m (hIdx (par p 1).toNat) (w * h * (if tileRgb m t then 3 else 1)) = true)) ∧
  (MeetsMem .wearTableLoad (native 0x42 1 .topaz .h0p false false) noReply (fun p mem m => p.params.length = 1 ∧
      bufRefused m (ctxN p) (par p 0).toNat = none ∧
      rawBuf m (hIdx (par p 0).toNat) 2288 = true ∧ wearTabOk (poolBytes mem (hIdx (par p 0).toNat) 0 2288) = true)) ∧
  (MeetsMem .transferCurveLoad (native 0x43 1 .topaz .h0p false false) noReply (fun p mem m =>
      let t := bits (par p 0) 4 0
      let i := hIdx (par p 1).toNat
      p.params.length = 2 ∧ clean (par p 0) [(4, 0)] = true ∧ t < 24 ∧ bufRefused m (ctxN p) (par p 1).toNat = none ∧
      rawBuf m i 8192 = true ∧
      curveRises ((List.range 4096).map (fun k => leNat (poolBytes mem i (2 * k) 2))) (tileRgb m t) = true)) :=
  ⟨⟨0, 8, 8, meetsMem (pkt 1 0x41 [0, w32 h7]) (on (withBuf7 0 0 0 4096 (withGroup m0))) (right _) (by decide +kernel)⟩,
  meetsMem (pkt 1 0x42 [w32 h7]) { mem := [(7 * 2 ^ 27, 64)], blk := withBuf7 0 0 0 4096 m0 } (right _) (by
    refine ⟨by decide +kernel, by decide +kernel, by decide +kernel, by decide +kernel,
      by decide +kernel, by decide +kernel, ?_⟩
    exact wear64_bytes.symm ▸ wear64_ok),
  meetsMem (pkt 1 0x43 [23, w32 h7]) (on (withBuf7 0 0 0 8192 m0)) (right _) (by
    refine ⟨by decide +kernel, by decide +kernel, by decide +kernel, by decide +kernel, by decide +kernel, by decide +kernel,
        by decide +kernel, by decide +kernel, flat_rises _ (no_codes _)⟩)⟩

theorem meets_PhotometricSettingsAndChecksComplete :
  (Meets .wearSnapshot (native 0x44 2 .topaz .h0 false false) noReply (fun p m => p.params.length = 0 ∧ pending m .wear = false)) ∧
  (Meets .repairConfig (native 0x45 1 .topaz .h0p false false) noReply (fun p m =>
      let n := bits (par p 1) 3 0
      let ws := p.params.drop 2
      2 ≤ p.params.length ∧ p.params.length = 2 + n ∧ clean (par p 1) [(3, 0)] = true ∧ n ≤ 12 ∧
      clean (par p 0) [(31, 8)] = true ∧ fget (par p 0) fPHO_REPAIR_CFG_SPREAD ≤ 0x8000 ∧ ws.all pairOk = true ∧
      pairGroups m ws = true ∧ namedTwice (pairTiles ws) = false)) ∧
  (Meets .derateConfig (native 0x46 1 .topaz .h0p false false) noReply (fun p _ => p.params.length = 3 ∧ clean (par p 0) [(4, 0)] = true ∧
      clean (par p 2) [(7, 0)] = true ∧
      fget (par p 1) fPHO_DERATE_A_FLOOR ≤ 0x8000 ∧ bits (par p 0) 4 0 < 24)) ∧
  (Meets .complianceRead (native 0x47 2 .topaz .any true true) (fun p _ => if p.params.length = 3 then 1 + (par p 2).toNat else 0) (fun p m =>
      let t := bits (par p 0) 4 0
      let b := bits (par p 0) 9 8
      let set := tget {} (pixOf m t).sets b
      p.params.length = 3 ∧ clean (par p 0) [(9, 8), (4, 0)] = true ∧ 1 ≤ (par p 2).toNat ∧ t < 24 ∧ mapValid m t b = true ∧
      (par p 1).toNat + (par p 2).toNat ≤ zoneCount set.w set.h)) ∧
  (∃ (tile : Fin 24) (b : Nat) (rest : List Nat), Occurs (fun t => .mapPersist t tile true) (fun m => topazStopped m = false ∧
      berylWrites m = true ∧ (pixOf m tile).toFlash = b :: rest)) ∧
  (∃ tile : Fin 24, ∃ b : Fin 4, Occurs (fun t => .mapCrcScan t [(tile.val, b.val)]) (fun m => onyxActs m = true)) ∧
  (∃ bad : Nat, Occurs (fun t => .curveCheck t bad) (fun m => onyxActs m = true ∧
      (members 24 bad).filter (fun t => !(pixOf m t).curve.isEmpty) ≠ [])) ∧
  (∃ bad : Nat, Occurs (fun t => .curveCheck t bad) (fun m => onyxActs m = true ∧
      (members 24 bad).filter (fun t => !(pixOf m t).curve.isEmpty) = [])) :=
  ⟨meets (pkt 1 0x44 []) (on m0) (right _) (by decide +kernel),
  meets (pkt 1 0x45 [0x00008000, 1, 0x0001]) (on (withTwo m0)) (right _) (by decide +kernel),
  meets (pkt 1 0x46 [23, 0x80008000, 0]) (on m0) (right _) (by decide +kernel),
  meets (pkt 1 0x47 [5, 0, 1]) (on (withMap m0)) (right _) (by decide +kernel),
  ⟨5, 0, [], occurs 0 (on (withPix 5 { toFlash := [0] } m0)) (by decide +kernel)⟩,
  ⟨0, 0, occurs 0 (on m0) (by decide +kernel)⟩,
  ⟨1, occurs 0 (on (withPix 0 { curve := [0] } m0)) (by decide +kernel)⟩,
  ⟨0, occurs 0 (on m0) (by decide +kernel)⟩⟩

theorem meets_LegacyRowsComplete :
  (Meets .legacyNop (legacy 0x00 0 .hw .any 0 true true) (fun p _ => p.params.length) (fun p _ => p.params.length ≤ 8)) ∧
  (Meets .getId (legacy 0x01 0 .topaz .any 0 true true) (replyLen 6) (fun p _ => p.params.length = 0)) ∧
  (Meets .legacyGetStatus (legacy 0x02 0 .topaz .any 0 true true) (replyLen 2) (fun p _ => p.params.length = 0)) ∧
  (∃ b : BamutTile, MeetsMem .frameWrite (legacy 0x04 0 .hw .any 2 false false) noReply (fun p _ m => 2 ≤ p.params.length ∧
      tget none (bamutOf m (ctxN p)).tiles (bits (par p 0) 31 24) = some b ∧
      bufRefused m (ctxN p) b.back = none ∧ bits (par p 0) 23 0 % 4 = 0 ∧
      bits (par p 0) 23 0 + 4 * (p.params.length - 1) ≤ (bufOf m (hIdx b.back)).size)) ∧
  (MeetsMem .bamutEnable (native 0x7B 1 .topaz .h0p false false) noReply (fun p _ m =>
      let g := bits (par p 0) 12 8
      p.params.length = 4 ∧ clean (par p 0) [(16, 16), (12, 8), (1, 0)] = true ∧ g < 8 ∧ takesPart m (bits (par p 0) 1 0) g = true ∧
      (∀ e ∈ legacyMap p, e.2 < 24 ∧ groupOf m e.2 = some g ∧ (tileGeom m e.2).isSome = true) ∧ bit (par p 0) 16 = false)) ∧
  (∃ r : LegacyRes, MeetsMem .bamutEnable (native 0x7B 1 .topaz .h0p false false) noReply (fun p mem m =>
      let c := bits (par p 0) 1 0
      let g := bits (par p 0) 12 8
      p.params.length = 4 ∧ clean (par p 0) [(16, 16), (12, 8), (1, 0)] = true ∧ bit (par p 0) 16 = true ∧ g < 8 ∧
      takesPart m c g = true ∧
      (∀ e ∈ legacyMap p, e.2 < 24 ∧ groupOf m e.2 = some g ∧ (tileGeom m e.2).isSome = true) ∧
      legacyPixels m (legacyMap p) ≤ 6291456 ∧ stackRoom m g (legacyMap p).length = true ∧
      legacyTiles c (legacyMap p) ⟨[], mem, m⟩ = some r)) :=
  ⟨meets (pkt 0 0 [1]) (on mLegacy) (right _) (by decide +kernel),
  meets (pkt 0 1 []) (on mLegacy) (right _) (by decide +kernel),
  meets (pkt 0 2 []) (on mLegacy) (right _) (by decide +kernel),
  ⟨legacyTile0, meetsMem (pkt 0 4 [0, 0x01020304]) (on (withBamut mLegacy)) (right _) (by decide +kernel)⟩,
  meetsMem (pkt 1 0x7B [0, 0, 0, 0]) (on (withGroup m0)) (right _) (by decide +kernel),
  ⟨_, pkt 1 0x7B [0x00010000, 0xFFFFFFFF, 0xFFFFFFFF, 0xFFFFFFFF], on (withGroup m0), _,
    starts (right _) (by decide +kernel), by decide +kernel, by decide +kernel, by decide +kernel, by decide +kernel,
    by decide +kernel, by decide +kernel, by decide +kernel, by decide +kernel, (Option.some_get (by decide +kernel)).symm⟩⟩

theorem meets_PortCommandsComplete :
  (Meets .portConfig (native 0x50 1 .topaz .h0p false false) noReply (fun p m =>
      let k := bits (par p 0) 4 0
      p.params.length = 6 ∧ clean (par p 0) [(4, 0)] = true ∧ portCfgOk p = true ∧ k < 24 ∧ portFree m k = true ∧
      pending m .cal = false)) ∧
  (Meets .portStatus (native 0x51 1 .topaz .any true true) (replyLen 9) (fun p _ => p.params.length = 1 ∧ clean (par p 0) [(4,
      0)] = true ∧ bits (par p 0) 4 0 < 24)) ∧
  (∀ row ∈ [(Instr.loopbackOff, 0), (.nearEndSerial, 1), (.nearEndParallel, 2), (.farEndRequest, 3), (.farEndAccept, 4)],
      Meets row.1 (native 0x52 1 .topaz .h0p false false) noReply (fun p m =>
        let k := bits (par p 0) 4 0
        p.params.length = 1 ∧ clean (par p 0) [(10, 8), (4, 0)] = true ∧ bits (par p 0) 10 8 = row.2 ∧ k < 24 ∧
        (row.2 ≠ 0 → portFree m k = true) ∧ pending m .cal = false)) :=
  ⟨meets (pkt 1 0x50 [23, 0x04002000, 0x00607000, 0x88010000, 0x80200100, 0x03E800C8]) (on m0) (right _) (by decide +kernel),
  meets (pkt 1 0x51 [23]) (on m0) (right _) (by decide +kernel),
  by
    intro row h
    simp only [List.mem_cons, List.not_mem_nil, or_false] at h
    rcases h with rfl | rfl | rfl | rfl | rfl
    · exact meets (pkt 1 0x52 [23]) (on m0) (right _) (by decide +kernel)
    · exact meets (pkt 1 0x52 [279]) (on m0) (right _) (by decide +kernel)
    · exact meets (pkt 1 0x52 [535]) (on m0) (right _) (by decide +kernel)
    · exact meets (pkt 1 0x52 [791]) (on m0) (right _) (by decide +kernel)
    · exact meets (pkt 1 0x52 [1047]) (on m0) (right _) (by decide +kernel)⟩

theorem meets_EyeTwinAndSpareRowsComplete :
  (Meets .eyeScan (native 0x53 2 .topaz .h0 false true) (replyLen 1) (fun p m =>
      let k := bits (par p 0) 4 0
      p.params.length = 1 ∧ clean (par p 0) [(4, 0)] = true ∧ k < 24 ∧ (portState m k = 4 ∨ portState m k = 8) ∧
      (pendOf m .eye k).isSome = false ∧ pending m .cal = false)) ∧
  (∃ (k : Fin 24) (width height : Nat), Occurs (fun t => .eyeScanDone t k width height) (fun m => (pendOf m .eye k).isNone = false)) ∧
  (Meets .twinSet (native 0x57 1 .topaz .h0p false false) noReply (fun p m =>
      let w := par p 1
      let a := bits w 4 0
      let b := bits w 12 8
      p.params.length = 2 ∧ clean (par p 0) [(31, 31), (4, 0)] = true ∧ bit (par p 0) 31 = true ∧
      clean w [(12, 8), (4, 0)] = true ∧ bits (par p 0) 4 0 < 24 ∧ a < 24 ∧ b < 24 ∧ a ≠ b ∧
      getF m (rCPL_CFG a) fCPL_CFG_ROLE = 1 ∧ getF m (rCPL_CFG b) fCPL_CFG_ROLE = 1 ∧ sameRates m a b = true ∧
      pairedPort m a = false ∧ pairedPort m b = false)) ∧
  (Meets .twinRemove (native 0x57 1 .topaz .h0p false false) noReply (fun p _ => p.params.length = 2 ∧ clean (par p 0) [(31, 31), (4,
      0)] = true ∧ bit (par p 0) 31 = false ∧
      clean (par p 1) [(12, 8), (4, 0)] = true ∧ bits (par p 0) 4 0 < 24)) ∧
  (Meets .spareSet (native 0x58 1 .topaz .h0p false false) noReply (fun p m =>
      let n := bits (par p 0) 3 0
      p.params.length = 1 + n ∧ clean (par p 0) [(3, 0)] = true ∧ n ≤ 8 ∧ sparesOk m (p.params.drop 1) = true)) ∧
  (∃ (tile : Fin 24) (k : Nat), Occurs (fun t => .spareBringIn t tile) (fun m => spareOf m tile (fun k => !flag m (rCPL_SPARE k) fCPL_SPARE_IN_USE &&
        portState m (getF m (rCPL_SPARE k) fCPL_SPARE_PORT) == 1) = some k ∧
      servedUp m tile = false ∧ (tileOf m tile).noUpAt + us 100 ≤ m.now)) ∧
  (∃ tile : Fin 24, Occurs (fun t => .twinRejoin t tile) (fun m => flag m (rCPL_TWIN tile) fCPL_TWIN_EN = true ∧
      rejoinStat m tile ≠ getF m (rCPL_TWIN tile) fCPL_TWIN_STAT)) ∧
  (∃ (tile : Fin 24) (p k : Nat), Occurs (fun t => .spareReturn t tile) (fun m => (pixOf m tile).former = some p ∧ up100 m p = true ∧
      spareOf m tile (fun k => flag m (rCPL_SPARE k) fCPL_SPARE_IN_USE) = some k)) :=
  ⟨meets (pkt 1 0x53 [23]) (on (inPort 23 4 m0)) (right _) (by decide +kernel),
  ⟨23, 60, 40, occurs 0 (on { m0 with pends := [{ kind := .eye, key := 23 }] }) (by decide +kernel)⟩,
  meets (pkt 1 0x57 [0x80000017, 0x1700]) (on (withRole 0 1 (withRole 23 1 m0))) (right _) (by decide +kernel),
  meets (pkt 1 0x57 [23, 0]) (on m0) (right _) (by decide +kernel),
  meets (pkt 1 0x58 [1, 0x80000900]) (on (withRole 9 3 m0)) (right _) (by decide +kernel),
  ⟨0, 1, occurs 1000000 (on (withSpare m0)) (by decide +kernel)⟩,
  ⟨0, occurs 1000000000 (on (inPort 0 4 (inPort 1 4 (setF (rCPL_TWIN 0) fCPL_TWIN_STAT 1 (withTwin m0))))) (by decide +kernel)⟩,
  ⟨0, 5, 1, occurs 1000000000 (on (withPix 0 { former := some 5 } (inPort 5 4 (setB (rCPL_SPARE 1) fCPL_SPARE_IN_USE true (withSpare m0))))) (by decide +kernel)⟩⟩

theorem meets_ReceivedBlocksComplete :
  (∃ b : Blk, 
    let p := b.port.val
    
    let filled := fun (m : Mach) => m |> heard p |> freezeEq p |> checkSeqIn p b.seq b.seq
    Occurs (fun t => .fill { b with t := t }) (fun m => receives m p = true ∧ portState (filled m) p ≠ 7 ∧ ebWorks (filled m) p = true)) ∧
  (∃ b : Blk, 
    let p := b.port.val
    
    let filled := fun (m : Mach) => m |> heard p |> freezeEq p |> checkSeqIn p b.seq b.seq
    Occurs (fun t => .fill { b with t := t }) (fun m => receives m p = true ∧ portState (filled m) p = 7 ∧
        (filled m).now < (portOf (filled m) p).resyncAt + us 10)) ∧
  (∃ b : Blk, 
    let p := b.port.val
    ∃ (t : Nat) (s : State), 
    let m := atTime t s.blk
    BlkTaken b m ∧ portState m p = 4 ∧ hostRole m p = true) ∧
  (∃ b : Blk, 
    let p := b.port.val
    Occurs (fun t => .rowStart { b with t := t }) (fun m => BlkTaken b m ∧ hostRole m p = true ∧ portState (seqTaken b m) p = 4)) ∧
  (∃ b : Blk, 
    let p := b.port.val
    Occurs (fun t => .frameStart { b with t := t }) (fun m => BlkTaken b m ∧ hostRole m p = true ∧ portState (seqTaken b m) p = 4)) ∧
  (∃ b : Blk, 
    let p := b.port.val
    ∃ type : Fin 16, type ≠ 6 ∧ Occurs (fun t => .reservedBlockType { b with t := t } type) (fun m => BlkTaken b m ∧
        portState (seqTaken b m) p ≠ 7 ∧ returns (seqTaken b m) p = false)) ∧
  (∃ b : Blk, 
    let p := b.port.val
    ∃ type : Fin 16, type ≠ 6 ∧ Occurs (fun t => .reservedBlockType { b with t := t } type) (fun m => BlkTaken b m ∧
        portState (seqTaken b m) p = 7)) ∧
  (∃ b : Blk, 
    let p := b.port.val
    Occurs (fun t => .reservedBlockType { b with t := t } 6) (fun m => BlkTaken b m ∧ returns (seqTaken b m) p = false)) ∧
  (∃ b : Blk, 
    let p := b.port.val
    Occurs (fun t => .trainSeq { b with t := t }) (fun m => BlkTaken b m ∧ returns (seqTaken b m) p = false)) ∧
  (∃ b : Blk, 
    let p := b.port.val
    
    let marked := fun (m : Mach) => m |> heard p |> freezeEq p
    
    let second := fun (m : Mach) => receives m p = true ∧ returns (marked m) p = false ∧ portState (marked m) p = 6 ∧
    (portOf (marked m) p).markers ≠ 0 ∧ (portOf (marked m) p).markers = b.seq
    Occurs (fun t => .train { b with t := t }) (fun m => second m ∧
        (marked m).now - (portOf (marked m) p).rxIdleAt ≤ us (idleEff (marked m) p))) ∧
  (∃ b : Blk, 
    let p := b.port.val
    
    let marked := fun (m : Mach) => m |> heard p |> freezeEq p
    
    let second := fun (m : Mach) => receives m p = true ∧ returns (marked m) p = false ∧ portState (marked m) p = 6 ∧
    (portOf (marked m) p).markers ≠ 0 ∧ (portOf (marked m) p).markers = b.seq
    Occurs (fun t => .train { b with t := t }) (fun m => second m ∧
        us (idleEff (marked m) p) < (marked m).now - (portOf (marked m) p).rxIdleAt)) ∧
  (∃ b : Blk, 
    let p := b.port.val
    Occurs (fun t => .idleReq { b with t := t }) (fun m => BlkTaken b m ∧ portState (seqTaken b m) p = 4)) ∧
  (∃ b : Blk, 
    let p := b.port.val
    Occurs (fun t => .retrainReq { b with t := t }) (fun m => BlkTaken b m ∧ portState (seqTaken b m) p = 4)) ∧
  (∃ b : Blk, 
    let p := b.port.val
    Occurs (fun t => .loopReq { b with t := t }) (fun m => BlkTaken b m ∧ getF (seqTaken b m) (rCPL_LOOP p) fCPL_LOOP_MODE = 4 ∧
        bit (blkWord b 1) 0 = true ∧
      portState (seqTaken b m) p = 4)) ∧
  (∃ b : Blk, 
    let p := b.port.val
    Occurs (fun t => .loopReq { b with t := t }) (fun m => BlkTaken b m ∧ getF (seqTaken b m) (rCPL_LOOP p) fCPL_LOOP_MODE = 4 ∧
        bits (blkWord b 0) 31 24 = 4 ∧
      bit (blkWord b 1) 0 = false ∧ portState (seqTaken b m) p = 8)) ∧
  (∃ b : Blk, 
    let p := b.port.val
    Occurs (fun t => .test { b with t := t }) (fun m => BlkTaken b m ∧ loopActive (seqTaken b m) p = true ∧
        (portOf (seqTaken b m) p).loopMode ≠ 4)) :=
  ⟨⟨blkOf [], occurs 0 (on (hostUp 2 m0)) (by decide +kernel)⟩,
  ⟨blkOf [], occurs 0 (on (inPort 2 7 m0)) (by decide +kernel)⟩,
  ⟨blkOf [], 0, on (hostUp 2 m0), by decide +kernel⟩,
  ⟨blkOf [], occurs 0 (on (hostUp 2 m0)) (by decide +kernel)⟩,
  ⟨blkOf [], occurs 0 (on (hostUp 2 m0)) (by decide +kernel)⟩,
  ⟨blkOf [], 0, by decide, occurs 0 (on (hostUp 2 m0)) (by decide +kernel)⟩,
  ⟨blkOf [], 0, by decide, occurs 0 (on (inPort 2 7 noAdapt)) (by decide +kernel)⟩,
  ⟨blkOf [], occurs 0 (on (hostUp 2 m0)) (by decide +kernel)⟩,
  ⟨blkOf [], occurs 0 (on (inPort 2 3 noAdapt)) (by decide +kernel)⟩,
  ⟨blkOf [], occurs 0 (on (setPort 2 { markers := 7 } (inPort 2 6 m0))) (by decide +kernel)⟩,
  ⟨blkOf [], occurs 1000000000 (on (setPort 2 { markers := 7 } (inPort 2 6 m0))) (by decide +kernel)⟩,
  ⟨blkOf [], occurs 0 (on (hostUp 2 m0)) (by decide +kernel)⟩,
  ⟨blkOf [], occurs 0 (on (hostUp 2 m0)) (by decide +kernel)⟩,
  ⟨blkOf [0x04000000, 1], occurs 0 (on (setF (rCPL_LOOP 2) fCPL_LOOP_MODE 4 (hostUp 2 m0))) (by decide +kernel)⟩,
  ⟨blkOf [0x04000000, 0], occurs 0
      (on (setF (rCPL_LOOP 2) fCPL_LOOP_MODE 4 (setPort 2 { loopUp := some 0, loopMode := 4 } (inPort 2 8 m0)))) (by decide +kernel)⟩,
  ⟨blkOf [], occurs 0 (on (setPort 2 { loopUp := some 0, loopMode := 3 } (inPort 2 8 m0))) (by decide +kernel)⟩⟩

theorem meets_LinkEventsComplete :
  (∃ p : Fin 24, Occurs (fun t => .los t p) (fun m => portState m p ≠ 0)) ∧
  (∃ p : Fin 24, ∃ a : Nat, Occurs (fun t => .losHoldExpiry t p) (fun m => (portOf m p).losAt = some a ∧
      a + us (getF m (rCPL_DET_CFG p) fCPL_DET_CFG_LOS_HOLD) ≤ m.now ∧ portState m p = 4)) ∧
  (∃ p : Fin 24, ∃ a : Nat, Occurs (fun t => .losHoldExpiry t p) (fun m => (portOf m p).losAt = some a ∧
      a + us (getF m (rCPL_DET_CFG p) fCPL_DET_CFG_LOS_HOLD) ≤ m.now ∧ portState m p = 3)) ∧
  (∃ p : Fin 24, 
    let latched := fun (live sticky : Fld) (m : Mach) => m |> setB (rCPL_DET_STAT p) live true |> latchBit (rCPL_DET_STAT p) sticky
    
    let lolAt := fun (m : Mach) =>
    m |> latched fCPL_DET_STAT_LOL fCPL_DET_STAT_LOL_S |> setPort p { portOf m p with lolAt := some m.now }
    Occurs (fun t => .lol t p) (fun m => portState m p ≠ 0 ∧ portState (lolAt m) p = 4)) ∧
  (∃ p : Fin 24, Occurs (fun t => .loa t p) (fun m => portState m p = 4)) ∧
  (∃ p : Fin 24, Occurs (fun t => .errorRateExceeded t p) (fun m =>
      let r := portOf m p
      portState m p = 4 ∧ r.errIx = (m.now - m.pwr.hubAt) / ms 1 ∧ getF m (rCPL_DET_CFG p) fCPL_DET_CFG_ERR_MAX < r.errN ∧
      r.errHit = false ∧
      portState (m |> setPort p { r with errHit := true } |> latchBit (rCPL_DET_STAT p) fCPL_DET_STAT_ERR_RATE) p = 4)) ∧
  (∃ p : Fin 24, Occurs (fun t => .transmitPllLossOfLock t p) (fun m => portState m p = 4)) ∧
  (∃ p : Fin 24, Occurs (fun t => .squelchExit t p) (fun m => portState m p = 5)) ∧
  (∃ p : Fin 24, Occurs (fun t => .squelchExit t p) (fun m => portState m p = 1)) ∧
  (∃ p : Fin 24, Occurs (fun t => .exitTimer t p) (fun m => portState m p = 6 ∧ (portOf m p).exitAt + us 1 ≤ m.now)) ∧
  (∃ p : Fin 24, Occurs (fun t => .resyncTimeout t p) (fun m => portState m p = 7 ∧ (portOf m p).resyncAt + us 20 ≤ m.now)) ∧
  (∃ p : Fin 24, Occurs (fun t => .detectComplete t p) (fun m => portState m p = 2 ∧ (portOf m p).detectAt + us 1 ≤ m.now ∧
      flag m rCPL_REF_STAT fCPL_REF_STAT_REF_OK = true)) ∧
  (∃ p : Fin 24, Occurs (fun t => .trainingFailure t p) (fun m => portState m p = 3 ∧ (portOf m p).rxOk = false ∧
      (portOf m p).trainAt + us 50 ≤ m.now ∧ (portOf m p).fails < 2)) ∧
  (∃ p : Fin 24, Occurs (fun t => .trainingFailure t p) (fun m => portState m p = 3 ∧ (portOf m p).rxOk = true ∧
      (portOf m p).rxOkAt + ms 1 ≤ m.now ∧ 2 ≤ (portOf m p).fails)) ∧
  (∃ p : Fin 24, Occurs (fun t => .failedTimeout t p) (fun m => portState m p = 9 ∧ (portOf m p).failedAt + ms 10 ≤ m.now ∧
      getF m (rCPL_CFG p) fCPL_CFG_ROLE ≠ 3)) ∧
  (∃ p : Fin 24, ∃ a : Nat, Occurs (fun t => .idleReqTimeout t p) (fun m => (portOf m p).idleReqAt = some a ∧ a + us 1 < m.now)) ∧
  (∃ p : Fin 24, Occurs (fun t => .txIdleEntry t p) (fun m => idleDue m p = true)) ∧
  (∃ p : Fin 24, Occurs (fun t => .txIdleExit t p) (fun m => portState m p = 4 ∧ blockWaits m p = true)) ∧
  (∃ p : Fin 24, Occurs (fun t => .headerCheckFailure t p) (fun m => receives m p = true)) ∧
  (∃ p : Fin 24, Occurs (fun t => .codeViolation t p) (fun m => receives m p = true)) ∧
  (Occurs .portReferenceLoss (fun m => hubRuns m = true ∧ flag m rCPL_REF_STAT fCPL_REF_STAT_REF_OK = true)) ∧
  (Occurs .portReferenceRestored (fun m => flag m rCPL_REF_STAT fCPL_REF_STAT_REF_OK = false)) :=
  ⟨⟨23, occurs 0 (on (inPort 23 1 m0)) (by decide +kernel)⟩,
  ⟨23, 0, occurs 1000000000 (on (setPort 23 { losAt := some 0 } (inPort 23 4 m0))) (by decide +kernel)⟩,
  ⟨23, 0, occurs 1000000000 (on (setPort 23 { losAt := some 0 } (inPort 23 3 m0))) (by decide +kernel)⟩,
  ⟨23, occurs 0 (on (inPort 23 4 m0)) (by decide +kernel)⟩,
  ⟨23, occurs 0 (on (inPort 23 4 m0)) (by decide +kernel)⟩,
  ⟨23, occurs 0 (on (setPort 23 { errIx := 0, errN := 2000 } (inPort 23 4 m0))) (by decide +kernel)⟩,
  ⟨23, occurs 0 (on (inPort 23 4 m0)) (by decide +kernel)⟩,
  ⟨23, occurs 0 (on (inPort 23 5 m0)) (by decide +kernel)⟩,
  ⟨23, occurs 0 (on (inPort 23 1 m0)) (by decide +kernel)⟩,
  ⟨23, occurs 1000000000 (on (inPort 23 6 m0)) (by decide +kernel)⟩,
  ⟨23, occurs 1000000000 (on (inPort 23 7 m0)) (by decide +kernel)⟩,
  ⟨23, occurs 1000000000 (on (inPort 23 2 (setB rCPL_REF_STAT fCPL_REF_STAT_REF_OK true m0))) (by decide +kernel)⟩,
  ⟨23, occurs 1000000000 (on (inPort 23 3 m0)) (by decide +kernel)⟩,
  ⟨23, occurs 1000000000 (on (setPort 23 { rxOk := true, fails := 2 } (inPort 23 3 m0))) (by decide +kernel)⟩,
  ⟨23, occurs 1000000000 (on (inPort 23 9 m0)) (by decide +kernel)⟩,
  ⟨23, 0, occurs 1000000000 (on (setPort 23 { idleReqAt := some 0 } (inPort 23 1 m0))) (by decide +kernel)⟩,
  ⟨2, occurs 1000000000 (on (setB (rCPL_CFG 2) fCPL_CFG_TX_IDLE_EN true (hostUp 2 m0))) (by decide +kernel)⟩,
  ⟨0, occurs 0 (on (setTile 0 { msgQ := [[]] } (setB (rTIL_STAT 0) fTIL_STAT_PLACED true (tileIn 3 m0)))) (by decide +kernel)⟩,
  ⟨23, occurs 0 (on (inPort 23 3 m0)) (by decide +kernel)⟩,
  ⟨23, occurs 0 (on (inPort 23 3 m0)) (by decide +kernel)⟩,
  occurs 0 (on (setB rCPL_REF_STAT fCPL_REF_STAT_REF_OK true m0)) (by decide +kernel),
  occurs 0 (on (setB rCPL_REF_STAT fCPL_REF_STAT_REF_OK false m0)) (by decide +kernel)⟩

theorem meets_TileCommandsComplete :
  (Meets .tileEnumerate (native 0x54 1 .topaz .any true true) (replyLen 24) (fun p _ => p.params.length = 0)) ∧
  (Meets .tileInfo (native 0x55 1 .topaz .any true true) (replyLen 8) (fun p _ => p.params.length = 1 ∧ clean (par p 0) [(4, 0)] = true ∧
      bits (par p 0) 4 0 < 24)) ∧
  (Meets .tileAuthPolicy (native 0x56 1 .topaz .h0p false false) noReply (fun p _ => p.params.length = 2 ∧ par p 0 = 0 ∧
      clean (par p 1) [(31, 30), (19, 0)] = true ∧
      fget (par p 1) fTIL_AUTH_CFG_GEN_CAP ≤ 0x8000)) ∧
  (Meets .policyTimeouts (native 0x56 1 .topaz .h0p false false) noReply (fun p _ => p.params.length = 2 ∧ par p 0 = 1 ∧
      2 ≤ fget (par p 1) fTIL_TMO_IDENT_TMO ∧
      fget (par p 1) fTIL_TMO_IDENT_TMO ≤ 100 ∧ 10 ≤ fget (par p 1) fTIL_TMO_AUTH_TMO ∧ fget (par p 1) fTIL_TMO_AUTH_TMO ≤ 200 ∧
      5 ≤ fget (par p 1) fTIL_TMO_SILENT_TMO ∧ fget (par p 1) fTIL_TMO_SILENT_TMO ≤ 100 ∧ 20 ≤ fget (par p 1) fTIL_TMO_HOLD ∧
      fget (par p 1) fTIL_TMO_HOLD ≤ 250)) ∧
  (Meets .policyAnchor (native 0x56 1 .topaz .h0p false false) noReply (fun p _ => p.params.length = 17 ∧ clean (par p 0) [(12, 8), (1,
      0)] = true ∧ bits (par p 0) 1 0 = 2 ∧
      bits (par p 0) 12 8 < 4 ∧ onCurve (keyOf (wordsBytes (p.params.drop 1))) = true)) ∧
  (Meets .policyTile (native 0x56 1 .topaz .h0p false false) noReply (fun p m =>
      let port := fget (par p 1) fTIL_CFG_PORT
      p.params.length = 4 ∧ clean (par p 0) [(12, 8), (1, 0)] = true ∧ bits (par p 0) 1 0 = 3 ∧ bits (par p 0) 12 8 < 24 ∧
      clean (par p 1) [(31, 30), (4, 0)] = true ∧ port < 24 ∧ getF m (rCPL_CFG port) fCPL_CFG_ROLE = 1 ∧
      (∀ k < 24, k ≠ bits (par p 0) 12 8 → flag m (rTIL_CFG k) fTIL_CFG_EN = true → getF m (rTIL_CFG k) fTIL_CFG_PORT ≠ port))) :=
  ⟨meets (pkt 1 0x54 []) (on m0) (right _) (by decide +kernel),
  meets (pkt 1 0x55 [23]) (on m0) (right _) (by decide +kernel),
  meets (pkt 1 0x56 [0, 0x00088000]) (on m0) (right _) (by decide +kernel),
  meets (pkt 1 0x56 [1, 0x64C864FA]) (on m0) (right _) (by decide +kernel),
  meets (pkt 1 0x56 (0x302 :: pointG)) (on m0) (right _) (by decide +kernel),
  meets (pkt 1 0x56 [0x1703, 0x80000017, 0, 0]) (on (withRole 23 1 m0)) (right _) (by decide +kernel)⟩

theorem meets_TileReportsComplete :
  (∃ (b : Blk) (t : Nat), Occurs (fun a => .health { b with t := a }) (ReportComes 1 b t)) ∧
  (∃ (b : Blk) (t : Nat), Occurs (fun a => .signature { b with t := a }) (ReportComes 2 b t)) ∧
  (∃ (b : Blk) (t : Nat), Occurs (fun a => .deadList { b with t := a }) (ReportComes 3 b t)) ∧
  (∃ (b : Blk) (t : Nat), ∃ e : Exchange, Occurs (fun a => .ident { b with t := a }) (fun m => ReportComes 4 b t m ∧
      (exchangeFor (seqTaken b m) t b.port 1).isSome = true ∧
      exchangeFor (reportNoted b t m) t b.port 1 = some (true, e))) ∧
  (∃ (b : Blk) (t : Nat), ∃ e : Exchange, Occurs (fun a => .ident { b with t := a }) (fun m => ReportComes 4 b t m ∧
      (exchangeFor (seqTaken b m) t b.port 1).isSome = true ∧
      exchangeFor (reportNoted b t m) t b.port 1 = some (false, e))) ∧
  (∃ (b : Blk) (t : Nat), ∃ e : Exchange, Occurs (fun a => .authResp { b with t := a }) (fun m => ReportComes 5 b t m ∧
      answers (seqTaken b m) t b = true ∧
      exchangeFor (reportNoted b t m) t b.port 2 = some (true, e))) ∧
  (∃ (b : Blk) (t : Nat), ∃ e : Exchange, Occurs (fun a => .authResp { b with t := a }) (fun m => ReportComes 5 b t m ∧
      answers (seqTaken b m) t b = true ∧
      exchangeFor (reportNoted b t m) t b.port 2 = some (false, e))) :=
  ⟨⟨reportBlk 1 [], 0, occurs 0 (on (tileIn 3 m0)) (report_comes (by decide +kernel) (by decide +kernel) (by decide +kernel)
      (by decide +kernel))⟩,
  ⟨reportBlk 2 [0x00000001], 0, occurs 0 (on (tileIn 3 m0)) (report_comes (by decide +kernel) (by decide +kernel) (by decide +kernel)
      (by decide +kernel))⟩,
  ⟨reportBlk 3 [], 0, occurs 0 (on (tileIn 3 m0)) (report_comes (by decide +kernel) (by decide +kernel) (by decide +kernel)
      (by decide +kernel))⟩,
  ⟨reportBlk 4 [], 0, { port := 0, stage := 1 }, occurs 0 (on (withEx { port := 0, stage := 1 } m0)) ⟨report_comes (by decide +kernel)
      (by decide +kernel) (by decide +kernel) (by decide +kernel), by decide +kernel, by decide +kernel⟩⟩,
  ⟨reportBlk 4 [], 0, { port := 0, stage := 1 }, occurs 0
      (on ((setTile 0 { tileOf (withTile m0) 0 with checks := [{ port := 0, stage := 1 }] } (withTile m0)))) ⟨report_comes
      (by decide +kernel) (by decide +kernel) (by decide +kernel) (by decide +kernel), by decide +kernel, by decide +kernel⟩⟩,
  ⟨reportBlk 5 [], 0, { port := 0, stage := 2 }, occurs 0 (on (withEx { port := 0, stage := 2 } m0)) ⟨report_comes (by decide +kernel)
      (by decide +kernel) (by decide +kernel) (by decide +kernel), by decide +kernel, by decide +kernel⟩⟩,
  ⟨reportBlk 5 [], 0, { port := 0, stage := 2 }, occurs 0
      (on ((setTile 0 { tileOf (withTile m0) 0 with checks := [{ port := 0, stage := 2 }] } (withTile m0)))) ⟨report_comes
      (by decide +kernel) (by decide +kernel) (by decide +kernel) (by decide +kernel), by decide +kernel, by decide +kernel⟩⟩⟩

theorem meets_TileTimersComplete :
  (∃ tile : Fin 24, ∃ e : Exchange, Occurs (fun t => .authenticationEnd t tile) (fun m => (tileOf m tile).ex = some e ∧ e.stage = 3)) ∧
  (∃ tile : Fin 24, ∃ e : Exchange, Occurs (fun t => .authenticationEnd t tile) (fun m => (∀ x, (tileOf m tile).ex = some x →
      x.stage ≠ 3) ∧ (tileOf m tile).checks.find? (fun x => x.stage == 3) = some e)) ∧
  (∃ tile : Fin 24, ∃ e : Exchange, Occurs (fun t => .identTimeout t tile) (fun m => (tileOf m tile).ex = some e ∧ e.stage = 1 ∧
      e.sentAt + ms (getF m rTIL_TMO fTIL_TMO_IDENT_TMO) ≤ m.now ∧
      3 ≤ e.tries)) ∧
  (∃ tile : Fin 24, ∃ e : Exchange, Occurs (fun t => .identTimeout t tile) (fun m => (tileOf m tile).ex = some e ∧ e.stage = 1 ∧
      e.sentAt + ms (getF m rTIL_TMO fTIL_TMO_IDENT_TMO) ≤ m.now ∧
      e.tries < 3)) ∧
  (∃ tile : Fin 24, Occurs (fun t => .identTimeout t tile) (fun m => (tileOf m tile).ex = none)) ∧
  (∃ tile : Fin 24, ∃ e : Exchange, Occurs (fun t => .authTimeout t tile) (fun m => (tileOf m tile).ex = some e ∧ e.stage = 2 ∧
      e.sentAt + ms (getF m rTIL_TMO fTIL_TMO_AUTH_TMO) ≤ m.now)) ∧
  (∃ tile : Fin 24, Occurs (fun t => .authTimeout t tile) (fun m => (tileOf m tile).ex = none)) ∧
  (∃ tile : Fin 24, ∃ p : Nat, Occurs (fun t => .noIdRetry t tile) (fun m => (carryPort m tile :: tilePorts m tile).find? (fun p => portState m p == 4) = some p ∧ tileState m tile = 9 ∧
      (tileOf m tile).noIdAt + sec 1 ≤ m.now)) ∧
  (∃ tile : Fin 24, Occurs (fun t => .silentTimeout t tile) (fun m => (tileState m tile = 3 ∨ tileState m tile = 4) ∧
      (tileOf m tile).healthAt + ms (10 * getF m rTIL_TMO fTIL_TMO_SILENT_TMO) ≤ m.now)) ∧
  (∃ tile : Fin 24, Occurs (fun t => .deadListTimeout t tile) (fun _ => True)) ∧
  (∃ tile : Fin 24, Occurs (fun t => .tileAbsent t tile) (fun m => tileState m tile ≠ 8 ∧ (tileState m tile = 5 →
      (tileOf m tile).stuck = false) ∧ tileHasUp m tile = false ∧
      (tileOf m tile).noUpAt + sec 1 ≤ m.now)) ∧
  (∃ tile : Fin 24, Occurs (fun t => .reportFlood t tile) (fun m => (tileOf m tile).flood.1 = (m.now - m.pwr.hubAt) / sec 1 ∧
      1000 < (tileOf m tile).flood.2 ∧
      (tileOf m tile).flooded = false)) :=
  ⟨⟨0, { stage := 3 }, occurs 0 (on (withEx { stage := 3 } m0)) (by decide +kernel)⟩,
  ⟨0, { stage := 3 }, occurs 0 (on (setTile 0 { tileOf (withTile m0) 0 with checks := [{ stage := 3 }] } (withTile m0)))
      (by decide +kernel)⟩,
  ⟨0, { stage := 1, tries := 3 }, occurs 1000000000 (on (withEx { stage := 1, tries := 3 } m0)) (by decide +kernel)⟩,
  ⟨0, { stage := 1, tries := 2 }, occurs 1000000000 (on (withEx { stage := 1, tries := 2 } m0)) (by decide +kernel)⟩,
  ⟨0, occurs 0 (on m0) (by decide +kernel)⟩,
  ⟨0, { stage := 2 }, occurs 1000000000 (on (withEx { stage := 2 } m0)) (by decide +kernel)⟩,
  ⟨0, occurs 0 (on m0) (by decide +kernel)⟩,
  ⟨0, 0, occurs 1000000000 (on (tileIn 9 m0)) (by decide +kernel)⟩,
  ⟨0, occurs 1000000000 (on (tileIn 4 m0)) (by decide +kernel)⟩,
  ⟨0, occurs 0 (on m0) trivial⟩,
  ⟨23, occurs 1000000000 (on m0) (by decide +kernel)⟩,
  ⟨23, occurs 0 (on (setTile 23 { flood := (0, 1001) } m0)) (by decide +kernel)⟩⟩

theorem meets_ChainRowsComplete :
  (Meets .chainConfig (native 0x60 1 .topaz .h0p false false) noReply (fun p _ => p.params.length = 2 ∧ clean (par p 0) [(1, 0)] = true ∧
      chnPortOk (par p 1) = true)) ∧
  (Meets .chainWrite (native 0x61 0 .topaz .any false false) noReply (fun p _ =>
      let n := bits (par p 0) 27 16
      p.params.length = 1 + n ∧ clean (par p 0) [(27, 16), (11, 0)] = true ∧ 1 ≤ n ∧ bits (par p 0) 11 0 + n ≤ 3072 ∧
      (∀ v ∈ p.params.drop 1, clean v [(23, 4)] = true))) ∧
  (Meets .chainReadback (native 0x62 1 .topaz .any true true) noReply (fun p _ =>
      let k := bits (par p 0) 21 16
      p.params.length = 1 ∧ clean (par p 0) [(21, 16), (12, 8), (1, 0)] = true ∧ 1 ≤ k ∧ bits (par p 0) 12 8 + k ≤ 32 ∧
      25 * k ≤ pathMax p.path)) ∧
  (Meets .groupConfig (native 0x63 1 .topaz .h0p false false) noReply (fun p m =>
      let n := bits (par p 0) 14 8
      p.params.length = 4 + n ∧ clean (par p 0) [(14, 8), (5, 0)] = true ∧ n ≤ 64 ∧ grpCfgOk (par p 1) (par p 2) = true ∧
      grpProbeOk (par p 3) = true ∧ groupMembersOk m (bits (par p 0) 5 0) (p.params.drop 4) = true)) ∧
  (Meets .probeConfig (native 0x66 1 .topaz .h0p false false) noReply (fun p _ => p.params.length = 2 ∧ clean (par p 0) [(5, 0)] = true ∧
      grpProbeOk (par p 1) = true)) ∧
  (Meets .auroraLoad (native 0x64 1 .topaz .any false false) noReply (fun p m =>
      let n := bits (par p 0) 23 16
      let e := bits (par p 0) 3 0
      p.params.length = 1 + n ∧ clean (par p 0) [(23, 16), (3, 0)] = true ∧ e < 8 ∧ 1 ≤ n ∧ n ≤ 64 ∧
      (∀ w ∈ p.params.drop 1, auroraOk n w = true) ∧ flag m (rAUR_STAT e) fAUR_STAT_RUN = false)) ∧
  (Meets .gammaLoad (native 0x64 1 .topaz .any false false) noReply (fun p _ => p.params.length = 129 ∧ clean (par p 0) [(23, 16), (3,
      0)] = true ∧ bits (par p 0) 23 16 = 128 ∧
      bits (par p 0) 3 0 = 8 ∧ (∀ w ∈ p.params.drop 1, clean w [(27, 16), (11, 0)] = true))) ∧
  (Meets .auroraStart (native 0x65 0 .topaz .any false false) noReply (fun p m => p.params.length = 1 ∧ clean (par p 0) [(31, 31), (13,
      8), (3, 0)] = true ∧ bit (par p 0) 31 = true ∧
      bits (par p 0) 3 0 < 8 ∧ hasProg m (bits (par p 0) 3 0) = true)) ∧
  (Meets .auroraStop (native 0x65 0 .topaz .any false false) noReply (fun p m => p.params.length = 1 ∧ clean (par p 0) [(31, 31), (13,
      8), (3, 0)] = true ∧ bit (par p 0) 31 = false ∧
      bits (par p 0) 3 0 < 8 ∧ hasProg m (bits (par p 0) 3 0) = true)) ∧
  (Meets .colourLoopSet (native 0x67 1 .topaz .h0p false false) noReply (fun p _ =>
      let tr := fget (par p 1) fCHN_CLR_TGT_TR
      let tg := fget (par p 1) fCHN_CLR_TGT_TG
      p.params.length = 3 ∧ clean (par p 0) [(31, 18), (9, 0)] = true ∧ fget (par p 0) fCHN_CLR_CFG_TILE < 24 ∧
      clean (par p 2) [(31, 16), (9, 0)] = true ∧ tr ≠ 0 ∧ tg ≠ 0 ∧ tr + tg < 65536)) :=
  ⟨meets (pkt 1 0x60 [3, 0x00000A00]) (on m0) (right _) (by decide +kernel),
  meets (pkt 1 0x61 [0x00010BFF, 0xFFF0]) (on m0) (right _) ⟨by decide +kernel, by decide +kernel, by decide +kernel, by decide +kernel,
      by decide +kernel, by decide +kernel, by decide +kernel, List.all_eq_true.mp (by decide +kernel)⟩,
  meets (pkt 1 0x62 [0x00011F03]) (on m0) (right _) (by decide +kernel),
  meets (pkt 1 0x63 [0x3F, 0x00300000, 0, 0x00010A01]) (on m0) (right _) (by decide +kernel),
  meets (pkt 1 0x66 [0x3F, 0x00010A01]) (on m0) (right _) (by decide +kernel),
  meets (pkt 1 0x64 [0x00010007, 0]) (on m0) (right _) ⟨by decide +kernel, by decide +kernel, by decide +kernel, by decide +kernel,
      by decide +kernel, by decide +kernel, by decide +kernel, by decide +kernel, List.all_eq_true.mp (by decide +kernel),
      by decide +kernel⟩,
  meets (pkt 1 0x64 (0x00800008 :: List.replicate 128 0)) (on m0) (right _) ⟨by decide +kernel, by decide +kernel, by decide +kernel,
      by decide +kernel, by decide +kernel, by decide +kernel, by decide +kernel, List.all_eq_true.mp (by decide +kernel)⟩,
  meets (pkt 1 0x65 [0x80000007]) (on (setAur 7 { len := 1 } m0)) (right _) (by decide +kernel),
  meets (pkt 1 0x65 [7]) (on (setAur 7 { len := 1 } m0)) (right _) (by decide +kernel),
  meets (pkt 1 0x67 [0x005C03FF, 0x00010001, 0]) (on m0) (right _) (by decide +kernel)⟩

theorem meets_TickCompletes :
  (∃ env : TickEnv, 
    let last := fun (m : Mach) => m.pwr.entry.any (fun e => e.step == 5)
    
    let acts := fun (m : Mach) => hubRuns m = true ∨ m.pwr.st = 5
    Occurs (fun t => .tick t env) (fun m => acts m ∧ last m = true)) ∧
  (∃ env : TickEnv, 
    let last := fun (m : Mach) => m.pwr.entry.any (fun e => e.step == 5)
    
    let acts := fun (m : Mach) => hubRuns m = true ∨ m.pwr.st = 5
    Occurs (fun t => .tick t env) (fun m => acts m ∧ last m = false ∧ golden m = true)) ∧
  (∃ env : TickEnv, 
    let last := fun (m : Mach) => m.pwr.entry.any (fun e => e.step == 5)
    Occurs (fun t => .tick t env) (fun m => m.pwr.st = 5 ∧ last m = false ∧ golden m = false)) ∧
  (∃ env : TickEnv, 
    let counted := fun (m : Mach) => { m with tickAt := m.now } |> wrapInc rGAR_TICK fGAR_TICK_TICK
    
    let last := fun (m : Mach) => m.pwr.entry.any (fun e => e.step == 5)
    Occurs (fun t => .tick t env) (fun m => m.pwr.st ≠ 5 ∧ hubRuns m = true ∧ last m = false ∧ golden m = false ∧
      (calTick (counted m)).pwr.entry.any (fun e => e.step == 6) = false)) ∧
  (∃ env : TickEnv, 
    let counted := fun (m : Mach) => { m with tickAt := m.now } |> wrapInc rGAR_TICK fGAR_TICK_TICK
    
    let last := fun (m : Mach) => m.pwr.entry.any (fun e => e.step == 5)
    Occurs (fun t => .tick t env) (fun m => m.pwr.st ≠ 5 ∧ hubRuns m = true ∧ last m = false ∧ golden m = false ∧
      (calTick (counted m)).pwr.entry.any (fun e => e.step == 6) = true)) :=
  ⟨⟨{ ret := [], pins := [], pd := [], overs := 0, fltLow := 0 }, occurs 0 (on (entering { step := 5 } m0)) (by decide +kernel)⟩,
  ⟨{ ret := [], pins := [], pd := [], overs := 0, fltLow := 0 }, occurs 0 (on (setB rUPD_STAT fUPD_STAT_GOLDEN true m0))
      (by decide +kernel)⟩,
  ⟨{ ret := [], pins := [], pd := [], overs := 0, fltLow := 0 }, occurs 0 (on (inPower 5 m0)) (by decide +kernel)⟩,
  ⟨{ ret := [], pins := [], pd := [], overs := 0, fltLow := 0 }, occurs 0 (on m0) (by decide +kernel)⟩,
  ⟨{ ret := [], pins := [], pd := [], overs := 0, fltLow := 0 }, occurs 0 (on (entering { step := 6 } m0)) (by decide +kernel)⟩⟩

theorem meets_LoopAndMotorRowsComplete :
  (Meets .loopConfig (native 0x68 1 .topaz .h0p false false) noReply (fun p m => p.params.length = 8 ∧ clean (par p 0) [(1, 0)] = true ∧
      motWordsOk p = true ∧
      motShared m (bits (par p 0) 1 0) p = false ∧ pending m .cal = false)) ∧
  (MeetsMem .coefLoad (native 0x69 1 .topaz .h0 false true) (replyLen 1) (fun p mem m =>
      let l := bits (par p 0) 3 0
      p.params.length = 2 ∧ clean (par p 0) [(3, 0)] = true ∧ l < 9 ∧ bufRefused m (ctxN p) (par p 1).toNat = none ∧
      rawBuf m (hIdx (par p 1).toNat) 688 = true ∧ bankValid (poolBytes mem (hIdx (par p 1).toNat) 0 688) = true ∧
      flag m (rGAR_LOOP_STAT l) fGAR_LOOP_STAT_SWAP_PEND = false)) ∧
  (Meets .bankSwap (native 0x6A 0 .topaz .h0 false true) (replyLen 2) (fun p m =>
      let mask := bits (par p 0) 8 0
      p.params.length = 1 ∧ clean (par p 0) [(8, 0)] = true ∧ mask ≠ 0 ∧
      (∀ l ∈ members 9 mask, bankOk m l (!bankSel m l) = true ∧ flag m (rGAR_LOOP_STAT l) fGAR_LOOP_STAT_SWAP_PEND = false))) ∧
  (Meets .levelSet (native 0x6F 1 .topaz .any false false) noReply (fun p _ => p.params.length = 2 ∧ clean (par p 0) [(1, 0)] = true ∧
      bits (par p 0) 1 0 ≠ 3 ∧
      (sgn 32 (par p 1).toNat).natAbs ≤ 3 * 2 ^ 20)) ∧
  (Meets .tuneInject (native 0x6C 2 .topaz .h0 false false) noReply (fun p m =>
      let w := par p 0
      let l := bits w 3 0
      p.params.length = 4 ∧ clean w [(13, 12), (9, 8), (3, 0)] = true ∧ l < 9 ∧ bits w 13 12 ≤ 2 ∧ bits w 9 8 ≤ 1 ∧
      clean (par p 2) [(31, 16), (12, 0)] = true ∧ (bits w 13 12 = 1 → bits (par p 2) 31 16 ≤ 8 * loopRate l) ∧
      1 ≤ bits (par p 2) 12 0 ∧ bits (par p 2) 12 0 ≤ 4096 ∧ clean (par p 3) [(7, 0)] = true ∧ 1 ≤ bits (par p 3) 7 0 ∧
      m.inject = none ∧ loopClosed m l = true)) ∧
  (Meets .captureRead (native 0x6D 2 .topaz .any true true) noReply (fun p m =>
      let n := bits (par p 1) 12 0
      p.params.length = 2 ∧ clean (par p 0) [(12, 0)] = true ∧ clean (par p 1) [(12, 0)] = true ∧
      flag m rGAR_CAP_STAT fGAR_CAP_STAT_VALID = true ∧ bits (par p 0) 12 0 + n ≤ m.capture.length ∧ 4 * n ≤ pathMax p.path)) ∧
  (Meets .adcConfig (native 0x6E 1 .topaz .h0p false false) noReply (fun p m =>
      let n := bits (par p 0) 12 8
      let first := bits (par p 0) 4 0
      let m' := forEach (List.range n) (setAdcChan p first) m
      p.params.length = 1 + 3 * n ∧ clean (par p 0) [(12, 8), (4, 0)] = true ∧ 1 ≤ n ∧ first + n ≤ 24 ∧
      (∀ j < n, clean (par p (3 * j + 1)) [(31, 28)] = true ∧ fget (par p (3 * j + 1)) fADC_CH_CFG_RATE ≠ 3 ∧
        clean (par p (3 * j + 3)) [(31, 31), (27, 16), (11, 0)] = true) ∧ pending m .cal = false ∧
      adcLoad m' false ≤ 1000000 ∧ adcLoad m' true ≤ 1000000)) ∧
  (∀ row ∈ [(Instr.motorPosition, 0), (.motorSpeed, 1), (.motorPark, 2), (.motorRelease, 3)],
      Meets row.1 (native 0x6B 0 .topaz .any false false) noReply (fun p m =>
      let c := bits (par p 0) 1 0
      let v := par p 1
      p.params.length = 2 ∧ clean (par p 0) [(10, 8), (1, 0)] = true ∧ bits (par p 0) 10 8 = row.2 ∧ pending m .cal = false ∧
      (row.2 = 0 → posMin m c ≤ sgn 32 v.toNat ∧ sgn 32 v.toNat ≤ posMax m c ∧ motFunc m c = 2) ∧
      (row.2 = 1 → motFunc m c = 3 ∨ motFunc m c = 4) ∧ (row.2 = 2 → v = 0 ∧ motState m c = 2) ∧
      (row.2 = 3 → v = 0 ∧ releasable m c = true))) :=
  ⟨meets (pkt 1 0x68 loopWords) (on m0) (right _) (by decide +kernel),
  meetsMem (pkt 1 0x69 [8, w32 h7]) (on (withBuf7 0 0 0 4096 m0)) (right _) (by decide +kernel),
  meets (pkt 1 0x6A [0x100]) (on (setB (rGAR_LOOP_STAT 8) fGAR_LOOP_STAT_VALID_B true m0)) (right _) (by decide +kernel),
  meets (pkt 1 0x6F [2, 0xFFD00000]) (on m0) (right _) (by decide +kernel),
  meets (pkt 1 0x6C [0x0108, 0, 0x00001000, 1]) (on m0) (right _) (by decide +kernel),
  meets (pkt 1 0x6D [0, 1]) (on { setB rGAR_CAP_STAT fGAR_CAP_STAT_VALID true m0 with capture := [(1, 2, 3, 4)] }) (right _)
      (by decide +kernel),
  meets (pkt 1 0x6E [0x0117, 0, 0, 0]) (on m0) (right _) (by decide +kernel),
  by
    intro row h
    simp only [List.mem_cons, List.not_mem_nil, or_false] at h
    rcases h with rfl | rfl | rfl | rfl
    · exact meets (pkt 1 0x6B [3, 0]) (on (withMotor 2 2 m0)) (right _) (by decide +kernel)
    · exact meets (pkt 1 0x6B [259, 0]) (on (withMotor 4 2 m0)) (right _) (by decide +kernel)
    · exact meets (pkt 1 0x6B [515, 0]) (on (withMotor 1 2 m0)) (right _) (by decide +kernel)
    · exact meets (pkt 1 0x6B [771, 0]) (on (withMotor 1 3 m0)) (right _) (by decide +kernel)⟩

theorem meets_LoopEventsComplete :
  (∃ (c : Fin 4) (u v : Nat) (pins : List (Nat × Nat)), Occurs (fun t => .currentSample t c u v pins) (fun m => hubRuns m = true)) ∧
  (∃ l : Fin 10, Occurs (fun t => .loopOverrun t l) (fun _ => True)) ∧
  (Occurs .bankSwitch (fun _ => True)) ∧
  (∃ bad : Nat, Occurs (fun t => .coefCheck t bad) (fun _ => True)) ∧
  (∃ c : Fin 4, Occurs (fun t => .frozenFeedback t c) (fun m => motState m c = 2 ∧ getF m (rMOT_FRZ c) fMOT_FRZ_FRZ_T ≤ (motOf m c).frz)) ∧
  (∃ c : Fin 4, Occurs (fun t => .encoderErrors t c) (fun m => motState m c = 2 ∧
      16 < ((motOf m c).errAt.filter (fun a => decide (m.now < a + ms 10))).length)) ∧
  (∃ c : Fin 4, Occurs (fun t => .homingComplete t c) (fun m => motState m c = 1 ∧ 50 ≤ (motOf m c).still)) ∧
  (∃ c : Fin 4, Occurs (fun t => .homingTimeout t c) (fun m => motState m c = 1 ∧
      (motOf m c).homeAt + ms (100 * getF m (rMOT_HOME c) fMOT_HOME_HOME_T) ≤ m.now)) ∧
  (∃ c : Fin 4, Occurs (fun t => .motorDriverFault t c) (fun _ => True)) ∧
  (∃ j : InjRec, Occurs .injectionEnd (fun m => m.inject = some j ∧ j.samples ≤ m.capture.length)) ∧
  (∃ j : InjRec, Occurs .injectionEnd (fun m => m.inject = some j ∧ m.capture.length < j.samples ∧ loopClosed m j.lp = false)) ∧
  (∃ (k : Fin 24) (raw : Int), Occurs (fun t => .adcConversion t k raw) (fun m => flag m (rADC_CH_CFG k) fADC_CH_CFG_EN = true ∧
      hubRuns m = true ∧ scanStopped m = false)) :=
  ⟨⟨3, 0, 0, [], occurs 0 (on m0) (by decide +kernel)⟩,
  ⟨9, occurs 0 (on m0) trivial⟩,
  occurs 0 (on m0) trivial,
  ⟨0, occurs 0 (on m0) trivial⟩,
  ⟨3, occurs 0 (on (setMot 3 { frz := 255 } (withMotor 1 2 m0))) (by decide +kernel)⟩,
  ⟨3, occurs 0 (on (setMot 3 { errAt := List.replicate 17 0 } (withMotor 1 2 m0))) (by decide +kernel)⟩,
  ⟨3, occurs 0 (on (setMot 3 { still := 50 } (withMotor 1 1 m0))) (by decide +kernel)⟩,
  ⟨3, occurs 1000000000000 (on (withMotor 1 1 m0)) (by decide +kernel)⟩,
  ⟨3, occurs 0 (on m0) trivial⟩,
  ⟨{}, occurs 0 (on { m0 with inject := some {}, capture := [(0, 0, 0, 0)] }) (by decide +kernel)⟩,
  ⟨{ samples := 2 }, occurs 0 (on { m0 with inject := some { samples := 2 } }) (by decide +kernel)⟩,
  ⟨23, 0, occurs 0 (on (setB (rADC_CH_CFG 23) fADC_CH_CFG_EN true m0)) (by decide +kernel)⟩⟩

theorem meets_EnvelopeRowsComplete :
  (MeetsObject .heartbeat 1 (fun d _ => d = [])) ∧
  (MeetsObject .beamMode 2 (fun d _ => d.length = 1 ∧ clean (d.getD 0 0) [(31, 24), (15, 0)] = true)) ∧
  (MeetsObject .maskEnable 3 (fun d _ => d.length = 1 ∧ clean (d.getD 0 0) [(15, 0)] = true)) ∧
  (MeetsObject .output 5 (fun d m => d.length = 1 ∧ clean (d.getD 0 0) [(5, 4), (1, 0)] = true ∧
      (∀ j ∈ members 2 (bits (d.getD 0 0) 5 4 &&& bits (d.getD 0 0) 1 0),
        stopPresent m = false ∧ flag m (rSAF_OUT_STAT j) fSAF_OUT_STAT_FAULT = false))) ∧
  (MeetsObject .safeConfig 6 (fun d _ => d.length = 2 ∧ clean (d.getD 0 0) [(15, 0)] = true ∧
      safValueOk (bits (d.getD 0 0) 15 0) (d.getD 1 0) = true)) ∧
  (∃ (e : Env) (who : Option Nat) (waitMs : Nat),
    Meets (fun p => .complianceMap (.dratus p waitMs)) (native 0x78 0 .onyx .any false false) noReply
        (fun p m => parseEnv true p.params = .inr e ∧ e.obj = 4 ∧
        EnvTaken true (m.now - p.t + ms waitMs) who e (mapDataOk e.data m = true) m) ∧
    ∃ f : CanFrame, Occurs (fun t => .complianceMap (.native { f with t := t } waitMs)) (fun m => nativeTaken m f = true ∧
        parseEnv false f.words = .inr e ∧ e.obj = 4 ∧
        EnvTaken true (ms waitMs) who e (mapDataOk e.data m = true) m)) ∧
  (∃ (t : Nat) (tile : Fin 24) (c : MapCopy) (rest : List MapCopy) (s : State), 
    let m := atTime t s.blk
    hwSafe m = false ∧ (pixOf m tile).copies = c :: rest ∧ c.noSpace = false ∧
        mapCopyOk s.mem (setTilePix tile { pixOf m tile with copies := rest } m) c = true) :=
  ⟨⟨envOf 1 [], some 0, 0, meets (pkt 1 0x78 (envWords 1 [])) (on (withProd m0)) (right _)
      (by dsimp only [MeetsAt, EnvTaken]; decide +kernel),
    canOf (envWords 1 []), occurs 0 (on (withProd m0)) (by dsimp only [EnvTaken]; decide +kernel)⟩,
  ⟨envOf 2 [0xFF00FFFF], some 0, 0, meets (pkt 1 0x78 (envWords 2 [0xFF00FFFF])) (on (withProd m0)) (right _)
      (by dsimp only [MeetsAt, EnvTaken]; decide +kernel),
    canOf (envWords 2 [0xFF00FFFF]), occurs 0 (on (withProd m0)) (by dsimp only [EnvTaken]; decide +kernel)⟩,
  ⟨envOf 3 [0xFFFF], some 0, 0, meets (pkt 1 0x78 (envWords 3 [0xFFFF])) (on (withProd m0)) (right _)
      (by dsimp only [MeetsAt, EnvTaken]; decide +kernel),
    canOf (envWords 3 [0xFFFF]), occurs 0 (on (withProd m0)) (by dsimp only [EnvTaken]; decide +kernel)⟩,
  ⟨envOf 5 [0x33], some 0, 0, meets (pkt 1 0x78 (envWords 5 [0x33])) (on (withProd m0)) (right _)
      (by dsimp only [MeetsAt, EnvTaken]; decide +kernel),
    canOf (envWords 5 [0x33]), occurs 0 (on (withProd m0)) (by dsimp only [EnvTaken]; decide +kernel)⟩,
  ⟨envOf 6 [0x14, 0xFFFFFFFF], some 0, 0, meets (pkt 1 0x78 (envWords 6 [0x14, 0xFFFFFFFF])) (on (withProd m0)) (right _)
      (by dsimp only [MeetsAt, EnvTaken]; decide +kernel),
    canOf (envWords 6 [0x14, 0xFFFFFFFF]), occurs 0 (on (withProd m0)) (by dsimp only [EnvTaken]; decide +kernel)⟩,
  ⟨envOf 4 [0x00010300, w32 h7, 0], some 0, 0, meets (pkt 1 0x78 (envWords 4 [0x00010300, w32 h7, 0]))
      (on (withBuf7 0 0 0 4096 (withGroup (withProd m0)))) (right _) (by dsimp only [MeetsAt, EnvTaken]; decide +kernel),
    canOf (envWords 4 [0x00010300, w32 h7, 0]), occurs 0 (on (withBuf7 0 0 0 4096 (withGroup (withProd m0))))
        (by dsimp only [EnvTaken]; decide +kernel)⟩,
  ⟨0, 23, { beam := 3, handle := h7, crc := w32 (crc crcSaf [0, 0, 0, 0]), w := 8, h := 8 }, [],
      on (withBuf7 0 0 0 4096 (withPix 23 { copies := [{ beam := 3, handle := h7, crc := w32 (crc crcSaf [0, 0, 0, 0]), w := 8, h := 8 }] } m0)), by decide +kernel⟩⟩

theorem meets_SafeReadsComplete :
  (∃ (e : Env) (who : Option Nat),
      Meets .safeRead (native 0x79 0 .onyx .any false true) (replyLen 6) (fun p m => parseEnv true p.params = .inr e ∧
      EnvTaken false (m.now - p.t) who e (readDataOk e.obj e.data m = true) m)) ∧
  (Meets .safeStatus (native 0x7A 0 .onyx .any false true) (replyLen 10) (fun p m => p.params.length = 0 ∧ hwSafe m = false)) :=
  ⟨⟨envOf 6 [0x14], some 0, meets (pkt 1 0x79 (envWords 6 [0x14])) (on (withProd m0)) (right _)
      (by dsimp only [MeetsAt, EnvTaken]; decide +kernel)⟩,
  meets (pkt 1 0x7A []) (on m0) (right _) (by decide +kernel)⟩

theorem meets_OnyxEventsComplete :
  (∃ k : Fin 4, Occurs (fun t => .producerExpiry t k) (fun m => onyxActs m = true ∧ timersRun m = true ∧
      flag m (rSAF_PROD_CFG k) fSAF_PROD_CFG_EN = true ∧
      flag m (rSAF_PROD_STAT k) fSAF_PROD_STAT_EXPIRED = false ∧
      (tget 0 m.saf.renewed k + ms (getF m (rSAF_PROD_CFG k) fSAF_PROD_CFG_TEXP)) / 6 < m.now / 6)) ∧
  (∃ n : Fin 4, ∃ a b : RawLevel, Occurs (fun t => .safetyInputChange t n a b) (fun m => onyxActs m = true)) ∧
  (∃ n : Fin 4, Occurs (fun t => .inputDiscrepancy t n) (fun m => onyxActs m = true ∧ inFunc m n ≠ 0 ∧ chanA m n ≠ chanB m n ∧
      (inOf m n).differAt + ms (5 * getF m (rSAF_IN_CFG n) fSAF_IN_CFG_DISC_T) ≤ m.now)) ∧
  (∃ n : Fin 4, ∃ changes : Nat, Occurs (fun t => .inputRateWindow t n changes) (fun m => onyxActs m = true ∧ inFunc m n ≠ 0 ∧
      windowDue m.pwr.safAt (ms 100) (inOf m n).ratedAt m = true ∧
      getF m (rSAF_IN_CFG n) fSAF_IN_CFG_RATE_MAX < changes)) ∧
  (∃ n : Fin 4, ∃ levels : Nat, Occurs (fun t => .testPulse t n levels) (fun m => onyxActs m = true ∧ pulseDue m n = true)) ∧
  (∃ (j : Fin 2) (fb pin : Bool), Occurs (fun t => .outputFeedbackMismatch t j fb pin) (fun m => onyxActs m = true ∧
      flag m (rSAF_OUT_CFG j) fSAF_OUT_CFG_EN = true ∧
      fbChecked m j = true ∧ flag m (rSAF_OUT_STAT j) fSAF_OUT_STAT_OUT = true ∧ fbClosed m j fb = false)) ∧
  (∃ (j : Fin 2) (fb pin : Bool), Occurs (fun t => .outputFeedbackMismatch t j fb pin) (fun m => onyxActs m = true ∧
      flag m (rSAF_OUT_CFG j) fSAF_OUT_CFG_EN = true ∧
      fbChecked m j = true ∧ flag m (rSAF_OUT_STAT j) fSAF_OUT_STAT_OUT = false ∧ fbClosed m j fb = true)) ∧
  (∃ (j : Fin 2) (fb pin : Bool), Occurs (fun t => .outputFeedbackMismatch t j fb pin) (fun m => onyxActs m = true ∧
      flag m (rSAF_OUT_CFG j) fSAF_OUT_CFG_EN = true ∧
      (fbChecked m j = false ∨ fbClosed m j fb = flag m (rSAF_OUT_STAT j) fSAF_OUT_STAT_OUT) ∧
          pin ≠ flag m (rSAF_OUT_STAT j) fSAF_OUT_STAT_OUT)) ∧
  (Occurs .limpReadback (fun m => onyxActs m = true)) ∧
  (∃ clk : Fin 5, Occurs (fun t => .clockMonitor t clk) (fun m => onyxActs m = true ∧ hubRuns m = true ∧
      m.pwr.entry.any (fun e => e.step == 6) = false ∧ (clk = 2 → inRun m = true))) ∧
  (∃ pins : SafPins, 
    let again := fun (m : Mach) =>
      { m with saf := { m.saf with tickAt := windowEnd m.pwr.safAt (ms 1) m } } |> readPins pins |> clockIo
    
    let due := fun (m : Mach) => onyxActs m = true ∧ windowDue m.pwr.safAt (ms 1) m.saf.tickAt m = true
    Occurs (fun t => .safTick ⟨t, pins⟩) (fun m => due m ∧ (causePresent (again m) = true ∨ (again m).saf.limpHigh = true))) ∧
  (∃ pins : SafPins, 
    let again := fun (m : Mach) =>
      { m with saf := { m.saf with tickAt := windowEnd m.pwr.safAt (ms 1) m } } |> readPins pins |> clockIo
    
    let due := fun (m : Mach) => onyxActs m = true ∧ windowDue m.pwr.safAt (ms 1) m.saf.tickAt m = true
    Occurs (fun t => .safTick ⟨t, pins⟩) (fun m => due m ∧ causePresent (again m) = false ∧ (again m).saf.limpHigh = false)) ∧
  (Occurs .hwsafe (fun m => safOn m = true)) ∧
  (∃ (lowAt riseAt : Nat) (pins : SafPins), 
    let qualified := fun (m : Mach) => m.pwr.safAt ≤ lowAt ∧ m.saf.ackAt ≤ lowAt ∧
      lowAt + ms (getF m rSAF_GEN_CFG fSAF_GEN_CFG_ACK_LOW) ≤ riseAt ∧ riseAt + ms 10 ≤ m.now
    Occurs (fun t => .qualifiedSafAckEdge t ⟨lowAt, riseAt, pins⟩) (fun m => onyxActs m = true ∧ qualified m)) ∧
  (∃ (lowAt riseAt : Nat) (pins : SafPins), 
    let qualified := fun (m : Mach) => m.pwr.safAt ≤ lowAt ∧ m.saf.ackAt ≤ lowAt ∧
      lowAt + ms (getF m rSAF_GEN_CFG fSAF_GEN_CFG_ACK_LOW) ≤ riseAt ∧ riseAt + ms 10 ≤ m.now
    Occurs (fun t => .qualifiedSafAckEdge t ⟨lowAt, riseAt, pins⟩) (fun m => onyxActs m = true ∧ ¬ qualified m)) ∧
  (∃ riseAt : Nat, Occurs (fun t => .ackStuck ⟨t, riseAt⟩) (fun m => onyxActs m = true ∧ riseAt + sec 60 < m.now ∧
      m.flt.ackHigh = false)) :=
  ⟨⟨3, occurs 1000000000 (on { setB (rSAF_PROD_CFG 3) fSAF_PROD_CFG_EN true m0 with saf := { m0.saf with selfTested := true } })
      (by decide +kernel)⟩,
  ⟨3, ⟨true, 0⟩, ⟨false, 0⟩, occurs 0 (on m0) (by decide +kernel)⟩,
  ⟨3, occurs 1000000000 (on (setB (rSAF_IN_STAT 3) fSAF_IN_STAT_A true (setB (rSAF_IN_STAT 3) fSAF_IN_STAT_B false (setF (rSAF_IN_CFG 3) fSAF_IN_CFG_FUNC 2 m0)))) (by decide +kernel)⟩,
  ⟨3, 1000, occurs 6000000000 (on (setF (rSAF_IN_CFG 3) fSAF_IN_CFG_FUNC 2 m0)) (by decide +kernel)⟩,
  ⟨3, 0, occurs 6000000000 (on m0) (by decide +kernel)⟩,
  ⟨1, false, true, occurs 6000000000 (on (withOut true m0)) (by decide +kernel)⟩,
  ⟨1, true, false, occurs 6000000000 (on (withOut false m0)) (by decide +kernel)⟩,
  ⟨1, true, false, occurs 0 (on (withOut true m0)) (by decide +kernel)⟩,
  occurs 0 (on m0) (by decide +kernel),
  ⟨4, occurs 0 (on (setB rCPL_REF_STAT fCPL_REF_STAT_REF_OK true m0)) (by decide +kernel)⟩,
  ⟨{ sfb := 0, sout := 0, clkBad := 0, limpBad := false, ack := false }, occurs 6000000000 (on m0) (by decide +kernel)⟩,
  ⟨{ sfb := 0, sout := 0, clkBad := 0, limpBad := false, ack := false }, occurs 6000000000
      (on { setReg rSAF_CAUSE 0 m0 with saf := { m0.saf with cond := 0 } }) (by decide +kernel)⟩,
  occurs 0 (on m0) (by decide +kernel),
  ⟨0, 600000000000, { sfb := 0, sout := 0, clkBad := 0, limpBad := false, ack := false }, occurs 1000000000000 (on m0) (by decide +kernel)⟩,
  ⟨0, 0, { sfb := 0, sout := 0, clkBad := 0, limpBad := false, ack := false }, occurs 0 (on m0) (by decide +kernel)⟩,
  ⟨0, occurs 1000000000000 (on m0) (by decide +kernel)⟩⟩

theorem meets_TopazAndLoadEventsComplete :
  (∃ count : Nat, Occurs (fun t => .topazHeartbeat t count) (fun m => onyxActs m = true ∧ hubRuns m = true ∧ m.upd.booted = true ∧
      m.saf.topazDown = false ∧
      (∀ c, m.saf.hb = some c → count % 2 ^ 32 = (c + 1) % 2 ^ 32))) ∧
  (∃ count c : Nat, Occurs (fun t => .topazHeartbeat t count) (fun m => onyxActs m = true ∧ hubRuns m = true ∧ m.upd.booted = true ∧
      m.saf.topazDown = false ∧ m.saf.hb = some c ∧
      count % 2 ^ 32 ≠ (c + 1) % 2 ^ 32 ∧ m.saf.hbPaused = false)) ∧
  (Occurs .topazWatchdog (fun m => onyxActs m = true ∧ hubRuns m = true ∧ m.upd.booted = true ∧ m.saf.topazDown = false ∧
      m.saf.hbPaused = false ∧
      m.saf.hbAt + ms (getF m rSAF_GEN_CFG fSAF_GEN_CFG_TOPAZ_WD) ≤ m.now)) ∧
  (Occurs .topazRestarted (fun m => m.saf.topazDown = true)) ∧
  (∃ load gar0 gar1 : Nat, Occurs (fun t => .loadWindow t load gar0 gar1) (fun m => hubRuns m = true ∧
      windowDue m.pwr.hubAt (ms 10) m.pwr.loadAt m = true)) :=
  ⟨⟨5, occurs 0 (on { m0 with saf := { m0.saf with hb := some 4 } }) ⟨by decide +kernel, by decide +kernel, rfl, rfl,
      fun c h => by cases h; rfl⟩⟩,
  ⟨6, 4, occurs 0 (on { m0 with saf := { m0.saf with hb := some 4 } }) (by decide +kernel)⟩,
  occurs 1000000000 (on m0) (by decide +kernel),
  occurs 0 (on { m0 with saf := { m0.saf with topazDown := true } }) (by decide +kernel),
  ⟨0, 0, 0, occurs 6000000000 (on m0) (by decide +kernel)⟩⟩

theorem meets_FaultEventsComplete :
  (∃ hits : List (Nat × Word), Occurs (fun t => .faultArrival t hits) (fun m => hubRuns m = true)) ∧
  (∃ (src : Fin 320) (passed : Bool), Occurs (fun t => .retryEnd t src passed) (fun m => hubRuns m = true)) ∧
  (Occurs .recHoldExpiry (fun m => m.flt.lastMerge + ms (getF m rFLT_CFG fFLT_CFG_REC_HOLD) ≤ m.now)) ∧
  (Occurs (fun t => .parityScan t true) (fun m => hubRuns m = true)) ∧
  (Occurs .firstRegisterScan (fun m => m.flt.errStart = true ∧ flag m rFLT_FATAL fFLT_FATAL_SET = false ∧ hwSafe m = false)) ∧
  (∃ (r : LogRec) (rest : List LogRec), Occurs (fun t => .logWrite t true) (fun m => topazStopped m = false ∧ hubRuns m = true ∧
      m.thm.shutting = false ∧ (m.flt.aonRec = none ∨ m.flt.aonDue = false) ∧
      m.flt.logQ = r :: rest)) ∧
  (∃ r : LogRec, Occurs (fun t => .logWrite t true) (fun m => topazStopped m = false ∧ hubRuns m = true ∧ m.thm.shutting = false ∧
      m.flt.aonRec = some r ∧
      m.flt.aonDue = true)) ∧
  (∃ (r : LogRec) (rest : List LogRec), Occurs (fun t => .logWrite t false) (fun m => topazStopped m = false ∧ hubRuns m = true ∧
      m.thm.shutting = false ∧ (m.flt.aonRec = none ∨ m.flt.aonDue = false) ∧
      m.flt.logQ = r :: rest)) :=
  ⟨⟨[], occurs 0 (on m0) (by decide +kernel)⟩,
  ⟨319, true, occurs 0 (on m0) (by decide +kernel)⟩,
  occurs 1000000000 (on m0) (by decide +kernel),
  occurs 0 (on m0) (by decide +kernel),
  occurs 0 (on m0) (by decide +kernel),
  ⟨{}, [], occurs 0 (on { m0 with flt := { m0.flt with logQ := [{}] } }) (by decide +kernel)⟩,
  ⟨{}, occurs 0 (on { m0 with flt := { m0.flt with aonRec := some {}, aonDue := true } }) (by decide +kernel)⟩,
  ⟨{}, [], occurs 0 (on { m0 with flt := { m0.flt with logQ := [{}] } }) (by decide +kernel)⟩⟩

theorem meets_ThermalRowsComplete :
  (∃ (reads : List (Option Int)) (pw : List (List Nat)), Occurs (fun t => .thermalSample t reads pw) (fun m => hubRuns m = true ∧
      m.thm.shutting = false ∧ sampleDue m (if flag m rTHM_STAT fTHM_STAT_FAST then 1 else 10) = true)) ∧
  (Occurs .modelBaseUpdate (fun m => hubRuns m = true ∧ windowDue m.pwr.hubAt (sec 1) m.thm.baseAt m = true)) ∧
  (Occurs .shutdownStop (fun m => m.thm.shutting = true)) ∧
  (∃ reads : List (Option Int), Occurs (fun t => .holdSensorSample t reads) (fun m => m.pwr.st = 5 ∧ sampleDue m 10 = true)) ∧
  (Occurs .thermalHoldEnd (fun m => m.pwr.st = 5 ∧ flag m rTHM_SHUT fTHM_SHUT_LOCK = false ∧ lasted m m.thm.holdCool (sec 1) = true)) ∧
  (∃ reads : List (Option Int), Occurs (fun t => .sleepSensorSample t reads) (fun m => m.pwr.st = 2 ∧ sampleDue m 1000 = true)) :=
  ⟨⟨[], [], occurs 6000000000 (on m0) (by decide +kernel)⟩,
  occurs 6000000000 (on m0) (by decide +kernel),
  occurs 0 (on { m0 with thm := { m0.thm with shutting := true } }) (by decide +kernel),
  ⟨[], occurs 6000000000 (on (inPower 5 m0)) (by decide +kernel)⟩,
  occurs 1000000000 (on { m0 with pwr := { m0.pwr with st := 5 }, thm := { m0.thm with holdCool := some 0 } }) (by decide +kernel),
  ⟨[], occurs 6000000000 (on (inPower 2 m0)) (by decide +kernel)⟩⟩

theorem meets_SupplyRowsComplete :
  (Occurs .powerUp (fun m => m.pwr.st = 6 ∧ m.pwr.pinHeld = false)) ∧
  (∃ lowNs : Nat, Occurs (fun t => .resetN t lowNs) (fun m => m.pwr.st ≠ 4 ∧ m.pwr.st ≠ 6 ∧ 10000 ≤ lowNs)) ∧
  (∃ lowNs : Nat, Occurs (fun t => .resetN t lowNs) (fun m => (m.pwr.st = 4 ∧ m.pwr.exiting = true) ∨ m.pwr.st = 6)) ∧
  (Occurs .supplyBrownOut (fun m => m.pwr.st ≠ 4 ∧ (m.pwr.st = 6 → m.pwr.pinHeld = true))) ∧
  (Occurs .vddSafExcursion (fun m => safOn m = true ∨ m.pwr.st = 6)) ∧
  (Occurs .safPowerOnReset (fun _ => True)) ∧
  (Occurs .vaonLoss (fun _ => True)) ∧
  (Occurs .bkupLost (fun _ => True)) ∧
  (Occurs .crystalStop (fun m => m.pwr.rtcStopped = false)) ∧
  (Occurs .crystalReturn (fun m => m.pwr.rtcStopped = true)) :=
  ⟨occurs 0 (on (inPower 6 m0)) (by decide +kernel),
  ⟨10000, occurs 0 (on m0) (by decide +kernel)⟩,
  ⟨0, occurs 0 (on (inPower 6 m0)) (by decide +kernel)⟩,
  occurs 0 (on m0) (by decide +kernel),
  occurs 0 (on m0) (by decide +kernel),
  occurs 0 (on m0) trivial,
  occurs 0 (on m0) trivial,
  occurs 0 (on m0) trivial,
  occurs 0 (on m0) (by decide +kernel),
  occurs 0 (on { m0 with pwr := { m0.pwr with rtcStopped := true } }) (by decide +kernel)⟩

theorem meets_StartRowsComplete :
  (∃ torn bad : Nat, Occurs (fun t => .boot t torn bad) (fun m => m.pwr.st = 0 ∧ m.upd.booted = false)) ∧
  (∃ safOk : Bool, Occurs (fun t => .selfTestEnd t true safOk) (fun m => m.pwr.st = 0 ∧ m.upd.booted = true ∧ m.saf.selfTested = false ∧
      hwSafe m = false ∧
      flag m rFLT_FATAL fFLT_FATAL_SET = false)) ∧
  (∃ safOk : Bool, Occurs (fun t => .selfTestEnd t false safOk) (fun m => m.pwr.st = 0 ∧ m.upd.booted = true ∧ m.saf.selfTested = false ∧
      hwSafe m = false)) ∧
  (∃ f : FlashLoad, Occurs (fun t => .flashLoadEnd t f) (fun m => m.pwr.st = 0 ∧ m.upd.booted = true ∧ m.pix.loaded = false)) ∧
  (Occurs .groupStart (fun m => m.pwr.st = 0 ∧ m.upd.booted = true ∧ m.saf.started = false ∧ golden m = false ∧ startDue m = true)) ∧
  (Meets (fun p => .settingsSave p true) (native 0x75 1 .topaz .h0 false false) noReply (fun p m => p.params.length = 0 ∧ updState m ≠ 4 ∧
      layoutFits m = true ∧ m.thm.shutting = false)) :=
  ⟨⟨0, 0, occurs 0 (State.reset) (by decide +kernel)⟩,
  ⟨true, occurs 0 (on m0) (by decide +kernel)⟩,
  ⟨false, occurs 0 (on m0) (by decide +kernel)⟩,
  ⟨{ present := true, dirBad := 0, size := 27, mode := 0, unifBad := 0, wearBad := 0, mapsBad := 0, tableBad := false }, occurs 0
      (on m0) (by decide +kernel)⟩,
  occurs 0 (on { m0 with pix := { m0.pix with loaded := true } }) (by decide +kernel),
  meets (pkt 1 0x75 []) (on m0) (right _) (by decide +kernel)⟩

theorem meets_UpdateRowsComplete :
  (Meets .updBegin (native 0x70 1 .topaz .h0 false false) noReply (fun p m => p.params.length = 48 ∧ updState m ≠ 2 ∧ updState m ≠ 4)) ∧
  (Meets .updCancel (native 0x70 1 .topaz .h0 false false) noReply (fun p m => p.params.length = 0 ∧ (updState m = 1 ∨ updState m = 3))) ∧
  (Meets .updData (native 0x71 2 .topaz .h0 false false) noReply (fun p m =>
      let r := slotOf m (inactive m)
      let next := (reg m rUPD_NEXT).toNat
      2 ≤ p.params.length ∧ updState m = 1 ∧ (par p 0).toNat = next ∧
      next + 4 * (p.params.drop 1).length ≤ hdrXferLen r.header ∧ hdrKind r.header = 0)) ∧
  (∃ (part : List Word) (body : List Byte), Meets .updData (native 0x71 2 .topaz .h0 false false) noReply (fun p m =>
      let r := slotOf m (inactive m)
      let next := (reg m rUPD_NEXT).toNat
      let all := m.upd.part ++ p.params.drop 1
      2 ≤ p.params.length ∧ updState m = 1 ∧ (par p 0).toNat = next ∧
      next + 4 * (p.params.drop 1).length ≤ hdrXferLen r.header ∧ hdrKind r.header ≠ 0 ∧
      deltaRun (activeBody m) (hdrBodyLen r.header) all.length all r.body = some (part, body))) ∧
  (Meets .updVerify (native 0x72 2 .topaz .h0 false false) noReply (fun p m => p.params.length = 0 ∧ updState m = 1 ∧
      (reg m rUPD_NEXT).toNat = hdrXferLen (slotOf m (inactive m)).header)) ∧
  (Occurs (fun t => .verifyDone t true) (fun m =>
      let r := slotOf m (inactive m)
      updState m = 2 ∧ berylWrites m = true ∧ (hdrKind r.header = 1 → hdrBodyLen r.header ≤ r.body.length) ∧
      sha256 (r.body.map BitVec.toNat) = hdrHash r.header)) ∧
  (Meets .activate (native 0x73 0 .topaz .h0 false true) (replyLen 1) (fun p m => p.params.length = 0 ∧ updState m = 3 ∧
      m.pwr.entry = none ∧ m.pix.plan = [] ∧ pending m .cal = false ∧
      berylWrites m = true)) ∧
  (∃ failed : Nat, Occurs (fun t => .activationTopazReset t failed) (fun m => m.upd.pause.isSome = true ∧ m.upd.pauseReset = false)) ∧
  (Occurs .activationOverrun (fun m => onyxActs m = true ∧ m.saf.hbPaused = true ∧ lasted m m.upd.pause (ms 250) = true)) ∧
  (Occurs .trialMsSave (fun m => topazStopped m = false ∧ m.upd.trialAt + sec 10 ≤ runTime m ∧ updState m = 4 ∧ berylWrites m = true)) ∧
  (Occurs .trialTimeout (fun m => updState m = 4 ∧ topazStopped m = false ∧ 600000 ≤ trialMs m ∧ berylWrites m = true)) ∧
  (∃ k : Nat, Meets .confirm (native 0x74 0 .topaz .h0 false false) noReply (fun p m => p.params.length = 0 ∧ m.nvm.boot.trial = some k ∧
      updState m = 4 ∧ berylWrites m = true)) :=
  ⟨meets (pkt 1 0x70 (List.replicate 48 0)) (on m0) (right _) (by decide +kernel),
  meets (pkt 1 0x70 []) (on (updating 3 [] [] m0)) (right _) (by decide +kernel),
  meets (pkt 1 0x71 [0, 0x01020304]) (on (updating 1 (header 0 4 4 []) [] m0)) (right _) (by decide +kernel),
  ⟨[], List.replicate 4 0, meets (pkt 1 0x71 [0, 0x30000004]) (on (updating 1 (header 1 4 4 []) [] m0)) (right _) (by decide +kernel)⟩,
  meets (pkt 1 0x72 []) (on (setReg rUPD_NEXT 4 (updating 1 (header 0 4 4 []) [] m0))) (right _) (by decide +kernel),
  occurs 0 (on (updating 2 (header 0 0 0 noBytes) [] m0)) (by decide +kernel),
  meets (pkt 1 0x73 []) (on (updating 3 [] [] m0)) (right _) (by decide +kernel),
  ⟨0, occurs 0 (on { m0 with upd := { m0.upd with pause := some 0 } }) (by decide +kernel)⟩,
  occurs 1000000000 (on { m0 with upd := { m0.upd with pause := some 0 }, saf := { m0.saf with hbPaused := true } }) (by decide +kernel),
  occurs 10000000000 (on (setUpdState 4 m0)) (by decide +kernel),
  occurs 0 (on (setUpdState 4 { m0 with nvm := { m0.nvm with boot0 := some { trialMs := 600000 } } })) (by decide +kernel),
  ⟨1, meets (pkt 1 0x74 []) (on (setUpdState 4 { m0 with nvm := { m0.nvm with boot0 := some { trial := some 1 } } })) (right _)
      (by decide +kernel)⟩⟩

theorem meets_CalibrationRowsComplete :
  (Meets .calRun (native 0x76 2 .topaz .h0p false true) (replyLen 2) (fun p m => p.params.length = 1 ∧ clean (par p 0) [(5, 3), (1,
      0)] = true ∧ bits (par p 0) 5 0 ≠ 0 ∧
      anyGrpRuns m = false ∧ anyMotorActs m = false ∧ pending m .cal = false)) ∧
  (Meets .calRunFactory (native 0x76 2 .topaz .h0p false true) (replyLen 2) (fun p m => p.params.length = 1 ∧ par p 0 = 0x80000000 ∧
      anyGrpRuns m = false ∧ anyMotorActs m = false ∧
      pending m .cal = false)) ∧
  (∃ (out : CalOut) (r : PendRec), Occurs (fun t => .calibrationDone t out) (fun m => m.pends.find? (fun p => p.kind == .cal) = some r ∧
      r.key ≠ 64)) ∧
  (∃ (out : CalOut) (r : PendRec), Occurs (fun t => .calibrationDone t out) (fun m => m.pends.find? (fun p => p.kind == .cal) = some r ∧
      r.key = 64 ∧ out.writeOk = true ∧ berylWrites m = true)) ∧
  (Occurs (fun t => .calibrationCheck t false) (fun m => topazStopped m = false ∧ hubRuns m = true ∧ m.cal.isSome = true)) ∧
  (Meets .cvJob (native 0x77 1 .topaz .any false true) (replyLen 2) (fun p m =>
      let u := bits (par p 0) 1 0
      let owned := flag m (rCVU_STAT u) fCVU_STAT_OWNED
      p.params.length = 11 ∧ jobOk p = true ∧ bufRefused m (ctxN p) (par p 8).toNat = none ∧
      (par p 9).toNat + (par p 10).toNat ≤ (bufOf m (hIdx (par p 8).toNat)).size ∧
      (owned = true → getF m (rCVU_STAT u) fCVU_STAT_OWNER = ctxN p) ∧ flag m (rCVU_STAT u) fCVU_STAT_RUN = false ∧
      (bit (par p 0) 30 = true → owned = true))) ∧
  (∃ (u : Fin 4) (t : Nat) (s : State), 
    let m := atTime t s.blk
    flag m (rCVU_STAT u) fCVU_STAT_RUN = true) :=
  ⟨meets (pkt 1 0x76 [0x3B]) (on m0) (right _) (by decide +kernel),
  meets (pkt 1 0x76 [0x80000000]) (on m0) (right _) (by decide +kernel),
  ⟨{ refUv := 0, refCodes := [], adc := [], sense := [], osc := [], term := [], eyes := [], wild := [], writeOk := true },
      { kind := .cal, key := 1 }, occurs 0 (on { m0 with pends := [{ kind := .cal, key := 1 }] }) (by decide +kernel)⟩,
  ⟨{ refUv := 0, refCodes := [], adc := [], sense := [], osc := [], term := [], eyes := [], wild := [], writeOk := true },
      { kind := .cal, key := 64 }, occurs 0 (on { m0 with pends := [{ kind := .cal, key := 64 }] }) (by decide +kernel)⟩,
  occurs 0 (on { m0 with cal := some {} }) (by decide +kernel),
  meets (pkt 1 0x77 [0x00004003, 1, 0, 0, 0, 0, 0, 0, w32 h7, 0, 4096]) (on (withBuf7 0 0 0 4096 m0)) (right _) (by decide +kernel),
  ⟨3, 0, on (setB (rCVU_STAT 3) fCVU_STAT_RUN true m0), by decide +kernel⟩⟩

theorem meets_GroupInstantsComplete :
  (∃ g : Fin 8, 
    let follows := fun (m : Mach) => lockedCfg m g = true ∧ grpRuns m (masterOf m g) = true
    Occurs (fun t => .latch t g) (fun m => inRun m = true ∧ (grpOf m g).starting = true ∧ (follows m → lockInstant m g = true))) ∧
  (∃ g : Fin 8, 
    let follows := fun (m : Mach) => lockedCfg m g = true ∧ grpRuns m (masterOf m g) = true
    
    let goesOn := fun (m : Mach) => inRun m = true ∧ (grpOf m g).starting = false ∧ grpRuns m g = true ∧
    ∀ ws, (grpOf m g).tset = some ws → fget (ws.getD 3 0) fSCN_RATE_EN ≠ 0
    Occurs (fun t => .latch t g) (fun m => goesOn m ∧ lineOf m g + 1 = vtotal m g ∧
      (follows m → flag m (rSCN_GRP_STAT g) fSCN_GRP_STAT_LOCKED = true → lockInstant m g = true))) ∧
  (∃ g : Fin 8, 
    let follows := fun (m : Mach) => lockedCfg m g = true ∧ grpRuns m (masterOf m g) = true
    
    let goesOn := fun (m : Mach) => inRun m = true ∧ (grpOf m g).starting = false ∧ grpRuns m g = true ∧
    ∀ ws, (grpOf m g).tset = some ws → fget (ws.getD 3 0) fSCN_RATE_EN ≠ 0
    Occurs (fun t => .latch t g) (fun m => goesOn m ∧ follows m ∧ flag m (rSCN_GRP_STAT g) fSCN_GRP_STAT_LOCKED = false ∧
        lockInstant m g = true)) ∧
  (∃ g : Fin 8, 
    let follows := fun (m : Mach) => lockedCfg m g = true ∧ grpRuns m (masterOf m g) = true
    ∃ ws : List Word, Occurs (fun t => .stopInstant t g) (fun m => (grpOf m g).tset = some ws ∧ grpRuns m g = true ∧
        fget (ws.getD 3 0) fSCN_RATE_EN = 0 ∧
      ((lineOf m g + 1 = vtotal m g ∧ (follows m → flag m (rSCN_GRP_STAT g) fSCN_GRP_STAT_LOCKED = true → lockInstant m g = true)) ∨
        (follows m ∧ flag m (rSCN_GRP_STAT g) fSCN_GRP_STAT_LOCKED = false ∧ lockInstant m g = true)))) ∧
  (∃ g : Fin 8, ∃ notReady : Nat, Occurs (fun t => .lineStart t g notReady) (fun m => grpRuns m g = true ∧ lineOf m g + 1 < vtotal m g)) :=
  ⟨⟨0, occurs 0 (on (setGrp 0 { starting := true } m0)) ⟨by decide +kernel, by decide +kernel, fun h => absurd h.1 (by decide +kernel)⟩⟩,
  ⟨0, occurs 0 (on (lastLine m0)) ⟨⟨by decide +kernel, by decide +kernel, by decide +kernel, no_set (by decide +kernel)⟩,
      by decide +kernel, fun h => absurd h.1 (by decide +kernel)⟩⟩,
  ⟨1, occurs 9 (on (follower m0)) ⟨⟨by decide +kernel, by decide +kernel, by decide +kernel, no_set (by decide +kernel)⟩,
      by decide +kernel⟩⟩,
  ⟨0, [], occurs 0 (on (setGrp 0 { tset := some [] } (lastLine m0))) (by decide +kernel)⟩,
  ⟨0, 1, occurs 0 (on (running (withGroup m0))) (by decide +kernel)⟩⟩

theorem meets_BandRowsComplete :
  (∃ (t : Nat) (g : Fin 8) (env : BandEnv) (i : BandIn) (s : State), 
    let m := atTime t s.blk
    
    let n := when env.checkBad (raise (101 + engineOf m i.t i.b) noInst) m
    grpRuns m g = true ∧ bandIn m g env.tile = some i ∧ latchPoint m i = true ∧
        hasBit (getF n rPLC_ENG_MAP fPLC_ENG_MAP_FENCED) (engineOf m i.t i.b) = false) ∧
  (∃ (t : Nat) (g : Fin 8) (env : BandEnv) (i : BandIn) (s : State), 
    let m := atTime t s.blk
    
    let n := when env.checkBad (raise (101 + engineOf m i.t i.b) noInst) m
    grpRuns m g = true ∧ bandIn m g env.tile = some i ∧ latchPoint m i = true ∧
        hasBit (getF n rPLC_ENG_MAP fPLC_ENG_MAP_FENCED) (engineOf m i.t i.b) = true) ∧
  (∃ (g : Fin 8) (tile : Fin 24) (b : Nat), Occurs (fun t => .bandLate t g tile b) (fun m => grpRuns m g = true ∧
      groupOf m tile = some g.val ∧ tget [] (pixOf m tile).waiting b ≠ [] ∧
      bandTooLate m g (waitingFrame m g tile b) b = true)) ∧
  (∃ (g : Fin 8) (tile : Fin 24) (i : BandIn), Occurs (fun t => .bandLate t g tile i.b) (fun m => grpRuns m g = true ∧
      groupOf m tile = some g.val ∧ tget [] (pixOf m tile).waiting i.b = [] ∧
      bandIn m g tile = some i ∧ i.cfg.racing = true ∧ i.frame = frameOf m g ∧ transferLate m i = true)) :=
  ⟨⟨0, 0, band0 true, (bandIn (atTime 0 (withBand {} m0)) 0 0).get (by decide +kernel), on (withBand {} m0), by decide +kernel,
      some_of _, by decide +kernel⟩,
  ⟨0, 0, band0 false, (bandIn (atTime 0 (withBand {} (setF rPLC_ENG_MAP fPLC_ENG_MAP_FENCED 1 m0))) 0 0).get (by decide +kernel),
      on (withBand {} (setF rPLC_ENG_MAP fPLC_ENG_MAP_FENCED 1 m0)), by decide +kernel, some_of _, by decide +kernel⟩,
  ⟨0, 0, 1, occurs 1000000000000 (on (withPix 0 { waiting := [(1, [[]])] } (withBand {} m0))) (by decide +kernel)⟩,
  ⟨0, 0, (bandIn (atTime 1000000000000 (withBand { racing := true } m0)) 0 0).get (by decide +kernel), occurs 1000000000000
      (on (withBand { racing := true } m0)) ⟨by decide +kernel, by decide +kernel, by decide +kernel, some_of _, by decide +kernel,
      by decide +kernel, by decide +kernel⟩⟩⟩

theorem meets_CarriersRunTheirPacket :
  (∃ (t : Nat) (cpt : Fin 2) (bytes : List Byte) (s : State), 
    let m := atTime t s.blk
    
    let bs := bytes.map BitVec.toNat
    hubRuns m = true ∧ m.pwr.st ≠ 2 ∧ headerHere bs = true ∧ bs.length = packetSize bs ∧ cptWaiting m cpt + packetSize bs ≤ 4096) ∧
  (∃ (b : Blk) (s : State), 
    let m := atTime b.t s.blk
    
    let n := seqTaken b m
    
    let found := findHeader ((rxOf n b.port).buf ++ commandBytes b) (rxOf n b.port).lost 0
    BlkTaken b m ∧ hostRole m b.port = true ∧ portState n b.port = 4 ∧ Quiet m ∧ found.discards = 0 ∧ (headerHere found.rest = true →
        found.rest.length < packetSize found.rest)) ∧
  (∃ (b : Blk) (s : State), 
    let m := atTime b.t s.blk
    
    let n := seqTaken b m
    
    let bs := commandBytes b
    BlkTaken b m ∧ hostRole m b.port = true ∧ portState n b.port = 4 ∧ Quiet m ∧ rxOf n b.port = {} ∧ headerHere bs = true ∧
        bs.length = packetSize bs) :=
  ⟨⟨0, 1, (encodePacket 1 0 (pkt 1 0 [])).map (BitVec.ofNat 8), on m0, by decide +kernel⟩,
  ⟨commandOf [0xD7, 1, 0], on (hostUp 2 m0), by decide +kernel⟩,
  ⟨commandOf (encodePacket 1 0 (pkt 1 0 [])), on (hostUp 2 m0), by decide +kernel⟩⟩

theorem meets_CarrierEventsComplete :
  (∃ (cpt : Fin 2) (r : OutPkt), Occurs (fun t => .readPkt t cpt) (fun m => hubRuns m = true ∧
      (cptBuffered m cpt 4096 m.wait).head? = some (.reply r))) ∧
  (∃ (cpt : Fin 2) (c path code : Nat) (data : List Word), Occurs (fun t => .readPkt t cpt) (fun m => hubRuns m = true ∧
      (cptBuffered m cpt 4096 m.wait).head? = some (.event c path code data))) ∧
  (∃ cpt : Fin 2, Occurs (fun t => .readPkt t cpt) (fun m => hubRuns m = true ∧ (cptBuffered m cpt 4096 m.wait).head? = none)) ∧
  (∃ cpt : Fin 2, Occurs (fun t => .readStat t cpt) (fun m => cptLive m = true)) ∧
  (∃ path : Fin 29, Occurs (fun t => .packetDiscard t path) (fun m => hubRuns m = true ∧ outOfReach m path = false ∧
      pathEnabled m path = true)) ∧
  (∃ path : Fin 29, Occurs (fun t => .packetDiscard t path) (fun m => hubRuns m = true ∧ outOfReach m path = false ∧
      pathEnabled m path = false)) ∧
  (∃ (can : Fin 2) (id : Nat), Occurs (fun t => .classicalCanFrame t can true id) (fun m => hubRuns m = true ∧
      flag m (rCAN_DRATUS_ID can) fCAN_DRATUS_ID_EN = true ∧
      flag m (rCAN_DRATUS_ID can) fCAN_DRATUS_ID_XTD = true ∧ getF m (rCAN_DRATUS_ID can) fCAN_DRATUS_ID_REQ_ID = id)) ∧
  (∃ (can : Fin 2) (id : Nat), Occurs (fun t => .classicalCanFrame t can false id) (fun m => hubRuns m = true ∧
      flag m (rCAN_DRATUS_ID can) fCAN_DRATUS_ID_EN = true ∧
      flag m (rCAN_DRATUS_ID can) fCAN_DRATUS_ID_XTD = false ∧
      getF m (rCAN_DRATUS_ID can) fCAN_DRATUS_ID_REQ_ID % 2048 = id % 2048)) :=
  ⟨⟨1, { path := 25 }, occurs 0 (on { m0 with wait := [.reply { path := 25 }] }) (by decide +kernel)⟩,
  ⟨1, 0, 25, 3, [], occurs 0 (on { m0 with wait := [.event 0 25 3 []] }) (by decide +kernel)⟩,
  ⟨1, occurs 0 (on m0) (by decide +kernel)⟩,
  ⟨1, occurs 0 (on m0) (by decide +kernel)⟩,
  ⟨28, occurs 0 (on m0) (by decide +kernel)⟩,
  ⟨0, occurs 0 (on m0) (by decide +kernel)⟩,
  ⟨1, 5, occurs 0 (on (setB (rCAN_DRATUS_ID 1) fCAN_DRATUS_ID_EN true (setB (rCAN_DRATUS_ID 1) fCAN_DRATUS_ID_XTD true (setF (rCAN_DRATUS_ID 1) fCAN_DRATUS_ID_REQ_ID 5 m0)))) (by decide +kernel)⟩,
  ⟨1, 5, occurs 0 (on (setB (rCAN_DRATUS_ID 1) fCAN_DRATUS_ID_EN true (setF (rCAN_DRATUS_ID 1) fCAN_DRATUS_ID_REQ_ID 5 m0)))
      (by decide +kernel)⟩⟩

theorem meets_SafetyRegistersNotWritable :
  (Meets .regWrite (native 0x11 0 .hw .any false true) (replyLen 1) (fun p _ => countOk (par p 1) = true ∧
      p.params.length = 2 + bits (par p 1) 8 0 ∧
      spanOk (par p 0).toNat (bits (par p 1) 8 0) = true ∧ addrBlock (par p 0).toNat = 14)) ∧
  (Meets .regModify (native 0x12 0 .hw .any false true) (replyLen 2) (fun p _ => p.params.length = 3 ∧ addrOk (par p 0).toNat = true ∧
      specialReg (par p 0).toNat = false ∧
      addrBlock (par p 0).toNat = 14)) ∧
  (Meets .regWriteList (native 0x14 0 .hw .any false true) (replyLen 1) (fun p _ => p.params.length % 2 = 0 ∧ 2 ≤ p.params.length ∧
      p.params.length ≤ 256 ∧
      ((writePairs p.params).all fun e => addrOk e.1) = true ∧ ∃ e ∈ writePairs p.params, addrBlock e.1 = 14)) ∧
  (∃ addr : Nat, addrBlock addr = 14) :=
  ⟨meets (pkt 1 0x11 [w32 (rSAF_PROD_CFG 3), 1, 0]) (on m0) (right _) (by decide +kernel),
  meets (pkt 1 0x12 [w32 (rSAF_PROD_CFG 3), 0, 0]) (on m0) (right _) (by decide +kernel),
  meets (pkt 1 0x14 [w32 rHUB_LOCK, 0, w32 (rSAF_PROD_CFG 3), 0]) (on m0) (right _) (by decide +kernel),
  ⟨rSAF_PROD_CFG 3, by decide +kernel⟩⟩

end Sys2Proof.Tests.Slice0
end

section
/-!
What a written word does to the fields of a register (R13 to R15, R67, R351), bit by bit, and the state after reset.
-/

namespace Sys2Proof

/-- Bit `k` of a word lies in the field. -/
abbrev Fld.Covers (f : Fld) (k : Nat) : Prop := f.lo ≤ k ∧ k < f.lo + f.len

/-- Two fields of a register share no bit. -/
abbrev FldDesc.Apart (d e : FldDesc) : Prop := d.fld.lo + d.fld.len ≤ e.fld.lo ∨ e.fld.lo + e.fld.len ≤ d.fld.lo

end Sys2Proof

namespace Sys2Proof.Machine

/-! ### Bits of a word -/

theorem bit_of_ge {w : Word} {k : Nat} (h : 32 ≤ k) : bit w k = false := BitVec.getLsbD_of_ge w k h

@[simp] theorem bit_and (v w : Word) (k : Nat) : bit (v &&& w) k = (bit v k && bit w k) := BitVec.getLsbD_and

@[simp] theorem bit_or (v w : Word) (k : Nat) : bit (v ||| w) k = (bit v k || bit w k) := BitVec.getLsbD_or

@[simp] theorem bit_not (w : Word) (k : Nat) : bit (~~~w) k = (decide (k < 32) && !bit w k) := BitVec.getLsbD_not

@[simp] theorem bit_w32 (n k : Nat) : bit (w32 n) k = (decide (k < 32) && n.testBit k) := BitVec.getLsbD_ofNat 32 n k

theorem bit_fldMask (f : Fld) (k : Nat) : bit (fldMask f) k = (decide (k < 32) && decide (f.Covers k)) := by
  rw [fldMask, bit_w32, Nat.testBit_shiftLeft, Nat.testBit_two_pow_sub_one, ← Bool.decide_and]
  congr 2
  exact propext ⟨fun h => ⟨h.1, by omega⟩, fun h => ⟨h.1, by omega⟩⟩

/-- A field takes a number bit by bit; the other bits of the word stand. -/
theorem bit_fset (w : Word) (f : Fld) (v : Nat) {k : Nat} (hk : k < 32) :
    bit (fset w f v) k = if f.Covers k then v.testBit (k - f.lo) else bit w k := by
  have hfset : fset w f v = (w &&& ~~~fldMask f) ||| w32 ((v % 2 ^ f.len) <<< f.lo) := rfl
  simp only [hfset, bit_or, bit_and, bit_not, bit_fldMask, bit_w32, hk, Nat.testBit_shiftLeft, Nat.testBit_mod_two_pow]
  by_cases hc : f.Covers k
  · simp [hc, show k - f.lo < f.len by omega]
  · by_cases hlo : f.lo ≤ k
    · simp [hc, show ¬ k - f.lo < f.len by omega]
    · simp [hc, hlo]

theorem testBit_fget (w : Word) (f : Fld) (j : Nat) : (fget w f).testBit j = (decide (j < f.len) && bit w (f.lo + j)) := by
  rw [fget, Nat.testBit_mod_two_pow, Nat.testBit_shiftRight, bit]

/-- Two words hold the same value in a field when they hold the same bits there. -/
theorem fget_congr {v w : Word} {f : Fld} (h : ∀ k, f.Covers k → bit v k = bit w k) : fget v f = fget w f := by
  refine Nat.eq_of_testBit_eq fun j => ?_
  rw [testBit_fget, testBit_fget]
  by_cases hj : j < f.len
  · rw [h (f.lo + j) ⟨by omega, by omega⟩]
  · simp [hj]

/-- A field that takes the bits of another word takes exactly those bits. -/
theorem bit_fset_fget (v w : Word) (f : Fld) (k : Nat) :
    bit (fset w f (fget v f)) k = if f.Covers k then bit v k else bit w k := by
  by_cases hk : k < 32
  · rw [bit_fset _ _ _ hk]
    by_cases hc : f.Covers k
    · rw [if_pos hc, if_pos hc, testBit_fget, show f.lo + (k - f.lo) = k by omega]
      simp [show k - f.lo < f.len by omega]
    · rw [if_neg hc, if_neg hc]
  · simp [bit_of_ge (Nat.le_of_not_lt hk)]

@[simp] theorem fget_fset_fget (v w : Word) (f : Fld) : fget (fset w f (fget v f)) f = fget v f :=
  fget_congr fun k hk => by rw [bit_fset_fget, if_pos hk]

/-! ### One field -/

/-- A field whose access follows the lock (R15, R67): it takes the written word where that may be, and otherwise keeps its value and
counts as refused. -/
def FollowsLock (may : Bool) (f : Fld) (v old : Word) (x : FldRes) : Prop :=
  (may = true → fget x.word f = fget v f) ∧ (may = false → fget x.word f = fget old f ∧ x.refused = true)

theorem writeRwl_followsLock (may : Bool) (f : Fld) (v old : Word) : FollowsLock may f v old (writeRwl may f v old) := by
  cases may with
  | true => exact ⟨fun _ => fget_fset_fget v old f, Bool.noConfusion⟩
  | false => exact ⟨Bool.noConfusion, fun _ => ⟨rfl, rfl⟩⟩

/-- A field of FLT_SRC_CFG keeps its value or follows the lock; which of the two does not depend on the value it holds. -/
theorem writeSrc_cases (may : Bool) (s : Nat) (f : Fld) (v : Word) :
    (∀ old, writeSrc may s f v old = ⟨old, false⟩) ∨ (∀ old, writeSrc may s f v old = writeRwl may f v old) := by
  by_cases hcls : f = fFLT_SRC_CFG_CLASS
  · by_cases h3 : 3 ≤ (srcDef s).cls
    · exact .inl fun old => by simp only [writeSrc, if_pos hcls, if_pos h3]
    · by_cases h5 : (may && decide (5 ≤ fget v f)) = true
      · exact .inl fun old => by simp only [writeSrc, if_pos hcls, if_neg h3, if_pos h5]
      · exact .inr fun old => by simp only [writeSrc, if_pos hcls, if_neg h3, if_neg h5]
  · by_cases hf : f = fFLT_SRC_CFG_F ∧ (srcDef s).fenceable = false
    · exact .inl fun old => by simp only [writeSrc, if_neg hcls, if_pos hf]
    · by_cases he : f = fFLT_SRC_CFG_E ∧ 3 ≤ (srcDef s).cls
      · exact .inl fun old => by simp only [writeSrc, if_neg hcls, if_neg hf, if_pos he]
      · by_cases hc : f = fFLT_SRC_CFG_C ∧ (srcDef s).cls = 4
        · exact .inl fun old => by simp only [writeSrc, if_neg hcls, if_neg hf, if_neg he, if_pos hc]
        · exact .inr fun old => by simp only [writeSrc, if_neg hcls, if_neg hf, if_neg he, if_neg hc]

theorem writeSrc_fence (may : Bool) (s : Nat) (v old : Word) : writeSrc may s fFLT_SRC_CFG_F v old =
    if (srcDef s).fenceable = true then writeRwl may fFLT_SRC_CFG_F v old else ⟨old, false⟩ := by
  cases h : (srcDef s).fenceable <;>
    simp [writeSrc, h, fFLT_SRC_CFG_CLASS, fFLT_SRC_CFG_F, fFLT_SRC_CFG_E, fFLT_SRC_CFG_C]

theorem writeSrc_err (may : Bool) (s : Nat) (v old : Word) : writeSrc may s fFLT_SRC_CFG_E v old =
    if (srcDef s).cls < 3 then writeRwl may fFLT_SRC_CFG_E v old else ⟨old, false⟩ := by
  by_cases h : (srcDef s).cls < 3 <;>
    simp [writeSrc, h, Nat.not_le.mpr, Nat.le_of_not_lt, fFLT_SRC_CFG_CLASS, fFLT_SRC_CFG_F, fFLT_SRC_CFG_E, fFLT_SRC_CFG_C]

theorem writeSrc_chip (may : Bool) (s : Nat) (v old : Word) : writeSrc may s fFLT_SRC_CFG_C v old =
    if (srcDef s).cls ≠ 4 then writeRwl may fFLT_SRC_CFG_C v old else ⟨old, false⟩ := by
  by_cases h : (srcDef s).cls = 4 <;>
    simp [writeSrc, h, fFLT_SRC_CFG_CLASS, fFLT_SRC_CFG_F, fFLT_SRC_CFG_E, fFLT_SRC_CFG_C]

theorem writeSrc_class (may : Bool) (s : Nat) (v old : Word) : writeSrc may s fFLT_SRC_CFG_CLASS v old =
    if 3 ≤ (srcDef s).cls ∨ may = true ∧ 5 ≤ fget v fFLT_SRC_CFG_CLASS then ⟨old, false⟩
    else writeRwl may fFLT_SRC_CFG_CLASS v old := by
  by_cases h : 3 ≤ (srcDef s).cls <;> simp [writeSrc, h]

section
variable {may : Bool} {i k : Nat} {d : FldDesc} {fresh v old : Word}

theorem writeFld_src (h : d.acc = .src) : writeFld may i d fresh v old = writeSrc may i d.fld v old := by
  simp [writeFld, h]

/-- A 1 written to a W1S bit sets it. -/
theorem bit_writeFld_w1s (h : d.acc = .w1s) (hk : k < d.fld.len) :
    bit (writeFld may i d fresh v old).word (d.fld.lo + k) = (bit old (d.fld.lo + k) || bit v (d.fld.lo + k)) := by
  by_cases h32 : d.fld.lo + k < 32
  · simp [writeFld, h, bit_fldMask, h32, hk]
  · simp [bit_of_ge (Nat.le_of_not_lt h32)]

/-- R14: a 1 written to a W1C bit clears it, unless it is set in the same cycle. -/
theorem bit_writeFld_w1c (h : d.acc = .w1c) (hk : k < d.fld.len) : bit (writeFld may i d fresh v old).word (d.fld.lo + k) =
    (bit old (d.fld.lo + k) && !(bit v (d.fld.lo + k) && !bit fresh (d.fld.lo + k))) := by
  by_cases h32 : d.fld.lo + k < 32
  · simp [writeFld, h, bit_fldMask, h32, hk]
  · simp [bit_of_ge (Nat.le_of_not_lt h32)]

end

/-- A write acts on the bits of field `f` alone, and on each of them by itself. -/
structure ActsOn (f : Fld) (g : Word → Word) : Prop where
  outside : ∀ {w k}, ¬ f.Covers k → bit (g w) k = bit w k
  bitwise : ∀ {w w' k}, bit w k = bit w' k → bit (g w) k = bit (g w') k

theorem actsOn_keep (f : Fld) : ActsOn f (fun w => w) := ⟨fun _ => rfl, fun h => h⟩

theorem actsOn_take (f : Fld) (v : Word) : ActsOn f (fun w => fset w f (fget v f)) :=
  ⟨fun hk => by rw [bit_fset_fget, if_neg hk], fun h => by rw [bit_fset_fget, bit_fset_fget, h]⟩

theorem actsOn_clear (f : Fld) (v : Word) : ActsOn f (fun w => w &&& ~~~(v &&& fldMask f)) := by
  refine ⟨fun {w k} hk => ?_, fun h => by simp [h]⟩
  by_cases h32 : k < 32
  · simp [bit_fldMask, hk, h32]
  · simp [bit_of_ge (Nat.le_of_not_lt h32)]

theorem actsOn_set (f : Fld) (v : Word) : ActsOn f (fun w => w ||| (v &&& fldMask f)) :=
  ⟨fun hk => by simp [bit_fldMask, hk], fun h => by simp [h]⟩

theorem writeRwl_actsOn (may : Bool) (f : Fld) (v : Word) : ActsOn f (fun w => (writeRwl may f v w).word) := by
  cases may with
  | true => exact actsOn_take f v
  | false => exact actsOn_keep f

theorem writeFld_actsOn (may : Bool) (i : Nat) (d : FldDesc) (fresh v : Word) :
    ActsOn d.fld (fun w => (writeFld may i d fresh v w).word) := by
  obtain ⟨f, acc, rst, nv⟩ := d
  cases acc with
  | rw => exact actsOn_take f v
  | ro | wo | wol => exact actsOn_keep f
  | w1c => exact actsOn_clear f (v &&& ~~~fresh)
  | w1s => exact actsOn_set f v
  | rwl => exact writeRwl_actsOn may f v
  | w1t =>
    simp only [writeFld]
    split
    · exact actsOn_take f fresh
    · exact actsOn_keep f
  | ro0 =>
    simp only [writeFld]
    split
    · exact actsOn_keep f
    · exact writeRwl_actsOn may f v
  | src =>
    rcases writeSrc_cases may i f v with h | h
    · simpa only [writeFld, h] using actsOn_keep f
    · simpa only [writeFld, h] using writeRwl_actsOn may f v

/-- Whether a write of a field is refused depends neither on the word that the register holds nor on the events of the cycle. -/
theorem writeFld_refused_congr (may : Bool) (i : Nat) (d : FldDesc) (fresh fresh' v old old' : Word) :
    (writeFld may i d fresh v old).refused = (writeFld may i d fresh' v old').refused := by
  obtain ⟨f, acc, rst, nv⟩ := d
  have hrwl : (writeRwl may f v old).refused = (writeRwl may f v old').refused := by cases may <;> rfl
  cases acc with
  | rw | ro | w1c | w1t | w1s | wo | wol => rfl
  | rwl => exact hrwl
  | ro0 =>
    simp only [writeFld]
    split
    · rfl
    · exact hrwl
  | src =>
    rcases writeSrc_cases may i f v with h | h
    · simp only [writeFld, h]
    · simpa only [writeFld, h] using hrwl

/-- Where RWL fields may be written no field is refused. -/
theorem writeFld_refused_of_may (i : Nat) (d : FldDesc) (fresh v old : Word) : (writeFld true i d fresh v old).refused = false := by
  obtain ⟨f, acc, rst, nv⟩ := d
  cases acc with
  | rw | ro | w1c | w1t | w1s | wo | wol | rwl => rfl
  | ro0 =>
    simp only [writeFld]
    split <;> rfl
  | src => rcases writeSrc_cases true i f v with h | h <;> simp [writeFld, h, writeRwl]

/-! ### Every field of a register -/

section
variable {may : Bool} {i : Nat} {fresh v old : Word} {flds : List FldDesc} {d : FldDesc} {k : Nat}

theorem writeFlds_cons_word (may : Bool) (i : Nat) (d : FldDesc) (flds : List FldDesc) (fresh v old : Word) :
    (writeFlds may i (d :: flds) fresh v old).word = (writeFlds may i flds fresh v (writeFld may i d fresh v old).word).word := by
  have hfold (l : List FldDesc) (w : Word) :
      (writeFlds may i l fresh v w).word = l.foldl (fun w d => (writeFld may i d fresh v w).word) w :=
    (List.foldl_hom FldRes.word fun _ _ => rfl).symm
  rw [hfold, hfold, List.foldl_cons]

/-- A bit that no field covers stands. -/
theorem bit_writeFlds_outside (h : ∀ d ∈ flds, ¬ d.fld.Covers k) : bit (writeFlds may i flds fresh v old).word k = bit old k := by
  induction flds generalizing old with
  | nil => rfl
  | cons e flds ih =>
    rw [writeFlds_cons_word, ih fun d hd => h d (List.mem_cons_of_mem e hd)]
    exact (writeFld_actsOn may i e fresh v).outside (h e List.mem_cons_self)

/-- Where no two fields share a bit, each field fares as if it stood alone. -/
theorem bit_writeFlds (hflds : flds.Pairwise FldDesc.Apart) (hd : d ∈ flds) (hk : d.fld.Covers k) :
    bit (writeFlds may i flds fresh v old).word k = bit (writeFld may i d fresh v old).word k := by
  induction flds generalizing old with
  | nil => cases hd
  | cons e flds ih =>
    obtain ⟨hapart, hflds⟩ := List.pairwise_cons.mp hflds
    rw [writeFlds_cons_word]
    rcases List.mem_cons.mp hd with rfl | hd
    · exact bit_writeFlds_outside fun c hc => by have := hapart c hc; omega
    · have hke : ¬ e.fld.Covers k := by have := hapart d hd; omega
      rw [ih hflds hd]
      exact (writeFld_actsOn may i d fresh v).bitwise ((writeFld_actsOn may i e fresh v).outside hke)

theorem fget_writeFlds (hflds : flds.Pairwise FldDesc.Apart) (hd : d ∈ flds) :
    fget (writeFlds may i flds fresh v old).word d.fld = fget (writeFld may i d fresh v old).word d.fld :=
  fget_congr fun _ hk => bit_writeFlds hflds hd hk

theorem foldl_or (p : FldDesc → Bool) : ∀ (flds : List FldDesc) (b : Bool), flds.foldl (fun b d => b || p d) b = (b || flds.any p)
  | [], b => (Bool.or_false b).symm
  | d :: flds, b => by rw [List.foldl_cons, foldl_or p flds, List.any_cons, Bool.or_assoc]

/-- A write of a register is refused where one of its fields is. -/
theorem writeFlds_refused (may : Bool) (i : Nat) (flds : List FldDesc) (fresh v old : Word) :
    (writeFlds may i flds fresh v old).refused = flds.any fun d => (writeFld may i d 0 v 0).refused := by
  have hfold : (writeFlds may i flds fresh v old).refused =
      flds.foldl (fun b d => b || (writeFld may i d 0 v 0).refused) false :=
    (List.foldl_hom FldRes.refused fun r d => by rw [writeFld_refused_congr may i d 0 fresh v 0 r.word]).symm
  rw [hfold, foldl_or, Bool.false_or]

theorem writeFlds_refused_of_mem (hd : d ∈ flds) (h : (writeFld may i d fresh v old).refused = true) :
    (writeFlds may i flds fresh v old).refused = true := by
  rw [writeFlds_refused, List.any_eq_true]
  exact ⟨d, hd, by rwa [writeFld_refused_congr may i d 0 fresh v 0 old]⟩

/-- A field that its own rule leaves keeps its value. -/
theorem fget_writeFlds_kept (hflds : flds.Pairwise FldDesc.Apart) (hd : d ∈ flds)
    (h : writeFld may i d fresh v old = ⟨old, false⟩) : fget (writeFlds may i flds fresh v old).word d.fld = fget old d.fld := by
  rw [fget_writeFlds hflds hd, h]

/-- A field that its own rule puts under the lock follows the lock. -/
theorem writeFlds_followsLock (hflds : flds.Pairwise FldDesc.Apart) (hd : d ∈ flds)
    (h : writeFld may i d fresh v old = writeRwl may d.fld v old) :
    FollowsLock may d.fld v old (writeFlds may i flds fresh v old) := by
  obtain ⟨htaken, hkept⟩ := writeRwl_followsLock may d.fld v old
  rw [← h] at htaken hkept
  rw [FollowsLock, fget_writeFlds hflds hd]
  exact ⟨htaken, fun hmay => ⟨(hkept hmay).1, writeFlds_refused_of_mem hd (hkept hmay).2⟩⟩

theorem writeFlds_refused_of_may : (writeFlds true i flds fresh v old).refused = false := by
  rw [writeFlds_refused, List.any_eq_false]
  exact fun d _ => by simp [writeFld_refused_of_may]

end

/-! ### The registers of the map -/

theorem blockRegs_apart : ∀ b < 26, ∀ r ∈ blockRegs b, r.flds.Pairwise FldDesc.Apart := by decide +kernel

theorem mem_of_findReg {r : RegDesc} {is : List Nat} {o : Nat} : ∀ {rs : List RegDesc}, findReg rs o = some (r, is) → r ∈ rs
  | [], h => by cases h
  | q :: rs, h => by
    rw [findReg] at h
    split at h
    · split at h
      · obtain ⟨rfl, rfl⟩ := Prod.mk.inj (Option.some.inj h)
        exact List.mem_cons_self
      · exact List.mem_cons_of_mem q (mem_of_findReg h)
    · exact List.mem_cons_of_mem q (mem_of_findReg h)

/-- No two fields of a register of the map share a bit. -/
theorem regAt_apart {a : Nat} {r : RegDesc} {is : List Nat} (h : regAt a = some (r, is)) : r.flds.Pairwise FldDesc.Apart := by
  unfold regAt at h
  split at h
  · cases h
  · have hr := mem_of_findReg h
    by_cases hb : addrBlock a < 26
    · exact blockRegs_apart _ hb r hr
    · have hnone : blockRegs (addrBlock a) = [] := by
        obtain ⟨n, hn⟩ := Nat.exists_eq_add_of_le' (Nat.le_of_not_lt hb)
        rw [hn]
        rfl
      rw [hnone] at hr
      cases hr

/-- Outside the timing registers, which are staged, a write is refused where the field rules refuse it. -/
theorem writeReg_refused {ctx a : Nat} {v fresh old : Word} {m : Mach} {r : RegDesc} {is : List Nat} (hr : regAt a = some (r, is))
    (ht : timingAt a = none) :
    (writeReg ctx a v m).refused = (writeFlds (mayConfig m ctx) (is.headD 0) r.flds fresh (takenWord m a v) old).refused := by
  simp only [writeReg, hr, ht]
  split <;> simp only [writeFlds_refused]

theorem mayConfig_iff (m : Mach) (ctx : Nat) : mayConfig m ctx = true ↔ ctx = 0 ∧ locked m = false := by
  simp [mayConfig]

/-! ### The state after reset -/

@[simp] theorem reg_reset (a : Nat) : reg State.reset.blk a = regReset a := rfl

@[simp] theorem queueOf_reset (ctx q : Nat) : queueOf State.reset.blk ctx q = {} := rfl

@[simp] theorem queueLoad_reset (ctx q : Nat) : queueLoad State.reset.blk ctx q = 0 := rfl

theorem locked_reset : locked State.reset.blk = false := by decide +kernel

theorem ctxOpen_reset : ∀ n < 4, ctxOpen State.reset.blk n = false := by decide +kernel

/-- R310, R344: LIMP_N and ERR_N are low, and no FATAL fault is recorded. -/
theorem outputs_reset : flag State.reset.blk rSAF_STAT fSAF_STAT_LIMP = true ∧ State.reset.blk.saf.limpHigh = false ∧
    flag State.reset.blk rFLT_ERRN fFLT_ERRN_ACTIVE = true ∧ flag State.reset.blk rFLT_FATAL fFLT_FATAL_SET = false := by
  decide +kernel

end Sys2Proof.Machine

open Sys2Proof Sys2Proof.Machine

/-- Settles O60: no two fields of a register share a bit, so each fares as its own access rule has it. -/
theorem fieldWritesFollowTheirAccess : Obligations.FieldWritesFollowTheirAccess := by
  refine ⟨mayConfig_iff, fun _ _ _ _ _ _ h _ hk => bit_writeFld_w1s h hk, fun a ctx m r is fresh v old d hr hd => ?_⟩
  intro i may x kept taken byLock
  have hflds := regAt_apart hr
  have alone : fget x.word d.fld = fget (writeFld may i d fresh v old).word d.fld := fget_writeFlds hflds hd
  have keeps : writeFld may i d fresh v old = ⟨old, false⟩ → kept := fget_writeFlds_kept hflds hd
  have locks : writeFld may i d fresh v old = writeRwl may d.fld v old → byLock := writeFlds_followsLock hflds hd
  have either {p : Prop} [Decidable p]
      (h : writeFld may i d fresh v old = if p then writeRwl may d.fld v old else ⟨old, false⟩) : if p then byLock else kept := by
    split
    next hp => exact locks (h.trans (if_pos hp))
    next hp => exact keeps (h.trans (if_neg hp))
  refine ⟨fun h => ?rw, fun h => ?ro, fun h k hk => ?w1c, fun h => ⟨fun htop => ?w1tClear, fun htop => ?w1tKeep⟩, fun h => ?wo,
    fun h => ⟨?wolKept, fun hmay => ?wolRefused⟩, fun h => ?rwl, fun h => ⟨fun hi => ?ro0First, fun hi => ?ro0Rest⟩,
    fun h => ⟨fun hf => ?srcClass, fun hf => ?srcF, fun hf => ?srcE, fun hf => ?srcC⟩, fun hmay => ?may, writeReg_refused hr⟩
  case rw => exact alone.trans (by simp [writeFld, h])
  case ro | wo => exact keeps (by simp [writeFld, h])
  case w1c => exact (bit_writeFlds hflds hd ⟨by omega, by omega⟩).trans (bit_writeFld_w1c h hk)
  case w1tClear => exact alone.trans (by simp [writeFld, h, htop])
  case w1tKeep => exact keeps (by simp [writeFld, h, htop])
  case wolKept => exact alone.trans (by simp [writeFld, h])
  case wolRefused => exact writeFlds_refused_of_mem hd (by simp [writeFld, h, hmay])
  case rwl => exact locks (by simp [writeFld, h])
  case ro0First => exact keeps (by simp [writeFld, h, hi])
  case ro0Rest => exact locks (by simp [writeFld, h, hi])
  case srcClass =>
    have hsrc : writeFld may i d fresh v old = _ := (writeFld_src h).trans (hf ▸ writeSrc_class may i v old)
    refine ⟨fun hcls => keeps (hsrc.trans (if_pos (.inl hcls))), fun hcls =>
      ⟨fun hmay hv => keeps (hsrc.trans (if_pos (.inr ⟨hmay, hv⟩))), fun hmay hv => ?_, fun hmay => ?_⟩⟩
    · exact (locks (hsrc.trans (if_neg (by omega)))).1 hmay
    · exact (locks (hsrc.trans (if_neg (by simp [hmay, hcls])))).2 hmay
  case srcF => exact either ((writeFld_src h).trans (hf ▸ writeSrc_fence may i v old))
  case srcE => exact either ((writeFld_src h).trans (hf ▸ writeSrc_err may i v old))
  case srcC => exact either ((writeFld_src h).trans (hf ▸ writeSrc_chip may i v old))
  case may =>
    simp only [x, hmay]
    exact writeFlds_refused_of_may

/-- Settles O47: no register is listed after reset, so each reads as its reset value, and the records are the initial ones. -/
theorem resetStateIsAsSpecified : Obligations.ResetStateIsAsSpecified := by
  obtain ⟨hlimp, hlimpHigh, herrn, hfatal⟩ := outputs_reset
  exact ⟨rfl, rfl, rfl, reg_reset, rfl, rfl, locked_reset, ctxOpen_reset, hlimp, hlimpHigh, herrn, hfatal, rfl, rfl, rfl,
    fun n _ q _ => ⟨congrArg QueueRec.expected (queueOf_reset n q), queueLoad_reset n q⟩⟩

end

section
/-!
From a row's body to the statement about the row: the three common forms, and handles that a context may name.
-/

namespace Sys2Proof.Machine

/-! ### The common forms -/

section
variable {row : Packet → Instr} {o : OpInfo} {rlen : Packet → Mach → Nat}

/-- A row of the common form answers as its body does under the guard, provided that the body answers at once. -/
theorem answers_of_body {body : Packet → Mach → Mach × Rep} {guard : Packet → Mach → Prop} {rep : Packet → Mach → Rep}
    {eff : Packet → Mach → Mach} (hrow : ∀ p s, exec (row p) s = runDratus (row p) o rlen body p s)
    (hbody : ∀ p m, guard p m → body p m = (eff p m, rep p m)) (hnow : ∀ p m, (rep p m).later = false := by intros; rfl) :
    Answers row o rlen guard rep eff := by
  intro p s m hstart hguard
  rw [hrow, runDratus_starts hstart, hbody p m hguard, hnow]
  rfl

/-- The same for a row that acts on the layer pool. -/
theorem answersMem_of_body {body : Packet → Tab Byte → Mach → MemRep} {guard : Packet → Tab Byte → Mach → Prop}
    {rep : Packet → Tab Byte → Mach → Rep} {pool : Packet → Tab Byte → Mach → Tab Byte} {eff : Packet → Tab Byte → Mach → Mach}
    (hrow : ∀ p s, exec (row p) s = runDratusMem (row p) o rlen body p s)
    (hbody : ∀ p mem m, guard p mem m → body p mem m = ⟨pool p mem m, eff p mem m, rep p mem m⟩)
    (hnow : ∀ p mem m, (rep p mem m).later = false := by intros; rfl) : AnswersMem row o rlen guard rep pool eff := by
  intro p s m hstart hguard
  rw [hrow, runDratusMem_starts hstart, hbody p s.mem m hguard, hnow]
  rfl

end

/-- A row of its own takes the effect that its event has under the guard. -/
theorem happens_of_event {row : Nat → Instr} {f : Mach → Mach} {guard : Mach → Prop} {eff : Mach → Mach}
    (hrow : ∀ t s, exec (row t) s = runEvent t f s) (hf : ∀ m, guard m → f m = eff m) : Happens row guard eff := by
  intro t s hguard
  rw [hrow, runEvent_next, hf _ hguard]

/-! ### Handles -/

theorem withBuf_of_held {c : Nat} {h : Word} {f : Nat → Mach → Mach × Rep} {m : Mach} (hh : bufRefused m c h.toNat = none) :
    withBuf c h f m = f (hIdx h.toNat) m := by
  rw [withBuf, hh]

theorem withLay_of_held {c : Nat} {h : Word} {f : Nat → Mach → Mach × Rep} {m : Mach} (hh : layRefused m (2 ^ c) h.toNat = none) :
    withLay c h f m = f (hIdx h.toNat) m := by
  rw [withLay, hh]

/-- An INDEX that is picked is free. -/
theorem pickFree_free {n i : Nat} {used : List Nat} {d : Word} (h : pickFree n used d = some i) : i < n ∧ i ∉ used := by
  have hfree : ∀ k ∈ (List.range n).filter (fun i => !used.contains i), k < n ∧ k ∉ used := fun k hk => by simpa using hk
  dsimp only [pickFree] at h
  split at h
  · cases h
  next hne =>
    rw [List.isEmpty_iff] at hne
    have hlt := Nat.mod_lt d.toNat (List.length_pos_iff.mpr hne)
    rw [Option.some.injEq, List.getD_eq_getElem?_getD, List.getElem?_eq_getElem hlt, Option.getD_some] at h
    exact h ▸ hfree _ (List.getElem_mem hlt)

/-- Where an INDEX is free, one is picked. -/
theorem pickFree_of_free {n : Nat} {used : List Nat} (h : ∃ k, k < n ∧ k ∉ used) (d : Word) : ∃ i, pickFree n used d = some i := by
  obtain ⟨k, hk, hu⟩ := h
  have hmem : k ∈ (List.range n).filter (fun i => !used.contains i) := by simp [hk, hu]
  dsimp only [pickFree]
  split
  next he =>
    rw [List.isEmpty_iff] at he
    rw [he] at hmem
    cases hmem
  · exact ⟨_, rfl⟩

theorem nextGen_lt (g : Option Nat) (d : Word) : nextGen g d < 4096 := by
  cases g <;> exact Nat.mod_lt _ (by omega)

/-- R92: an INDEX that has had a generation gets the next one. -/
theorem nextGen_of_some {g : Option Nat} {n : Nat} (h : g = some n) (d : Word) : nextGen g d = (n + 1) % 4096 := by
  rw [h, nextGen]

end Sys2Proof.Machine
end

section
/-!
The buffer rows (R83, R92 to R104): what the body of each does where nothing refuses it.
-/

namespace Sys2Proof.Machine

variable {p : Packet} {mem : Tab Byte} {m : Mach}

/-! ### Writing and reading -/

theorem writeInto_fits {i off : Nat} {data : List Word} (halign : off % 4 = 0) (hfit : off + 4 * data.length ≤ (bufOf m i).size) :
    writeInto i off data mem m = ⟨poolWrite i off (wordsBytes data) mem,
      m |> noteBytes (poolKeys i off (4 * data.length)) mem |> stampBytes i off (4 * data.length), ok []⟩ := by
  rw [writeInto, if_neg (by omega)]

theorem bufWriteBody_of_held (hlen : 3 ≤ p.params.length) (hheld : bufRefused m (ctxN p) (par p 0).toNat = none) :
    bufWriteBody p mem m = writeInto (hIdx (par p 0).toNat) (par p 1).toNat (p.params.drop 2) mem m := by
  rw [bufWriteBody, if_neg (by omega), hheld]

theorem bufReadBody_of_held (hlen : p.params.length = 3) (halign : par p 1 % 4 = 0) (hcount : par p 2 ≠ 0)
    (hheld : bufRefused m (ctxN p) (par p 0).toNat = none)
    (hfit : (par p 1).toNat + 4 * (par p 2).toNat ≤ (bufOf m (hIdx (par p 0).toNat)).size) :
    bufReadBody p mem m = ⟨mem, m, ok ((List.range (par p 2).toNat).map
      fun k => poolWord mem (hIdx (par p 0).toNat) ((par p 1).toNat + 4 * k))⟩ := by
  simp only [bufReadBody, hlen, halign, beq_false_of_ne hcount, hheld, Nat.not_lt.mpr hfit, bne_self_eq_false, Bool.or_self]
  rfl

/-- R99, R103: BUF_INFO answers for a buffer that the context holds, a retiring one included. -/
theorem bufInfoBody_of_held (h : bufRefused m (ctxN p) (par p 0).toNat = none ∨
      bufRefused m (ctxN p) (par p 0).toNat = some stHANDLE_RETIRING) : bufInfoBody p m = bufInfoBody.info p m := by
  rcases h with h | h <;> simp only [bufInfoBody, h, if_true]

/-! ### BUF_ALLOC -/

/-- What follows the handle in the reply of BUF_ALLOC: size and layout (R98). -/
def allocWords (size : Nat) (l : Layout) : List Word := [w32 size, w32 l.pitch, w32 l.plane1, w32 l.plane2, w32 l.cpitch]

/-- What BUF_ALLOC leaves where it takes INDEX `i` with generation `gen` for a buffer of `size` bytes and layout `l`. -/
def allocated (p : Packet) (size : Nat) (l : Layout) (i gen : Nat) (mem : Tab Byte) (m : Mach) : MemRep :=
  let r : BufRec :=
    { used := true, gen := some gen, ctx := ctxN p, fmt := (par p 0).toNat, size := size
      w := if par p 0 ≠ 0 then bits (par p 1) 12 0 else 0
      h := if par p 0 ≠ 0 then bits (par p 1) 28 16 else 0 }
  ⟨poolClear i mem, { m with free := m.free + 1 } |> dropNotes i |> setBuf i r |> takePages (size / 4096),
    ok (w32 (mkHandle (ctxN p) 1 gen i) :: allocWords size l)⟩

/-- The limits of R100 on `pages` more pages for context `c`. -/
abbrev AllocFits (m : Mach) (c pages : Nat) : Prop :=
  ((usedBufs m).filter (fun i => (bufOf m i).ctx == c)).length < 1024 ∧ pages ≤ getF m rPLC_POOL_STAT fPLC_POOL_STAT_FREE ∧
    ctxPages m c + pages ≤ getF m (rPLC_QUOTA c) fPLC_QUOTA_PAGES

section
variable {size i : Nat} {l : Layout} (hlen : p.params.length = 2) (hshape : allocShape (par p 0) (par p 1) = some (size, l))
  (hpick : pickFree 4096 (usedBufs m) (draw m).1 = some i)
include hlen hshape hpick

/-- BUF_ALLOC within the limits takes the INDEX picked. -/
theorem bufAllocBody_of_pick (hfits : AllocFits m (ctxN p) (size / 4096)) :
    bufAllocBody p mem m = allocated p size l i (nextGen (bufOf m i).gen ((draw m).1 >>> 16)) mem m := by
  obtain ⟨hmine, hpool, hquota⟩ := hfits
  simp only [bufAllocBody, hlen, hshape, hpick, Nat.not_le.mpr hmine, Nat.not_lt.mpr hpool, Nat.not_lt.mpr hquota, allocated, bne_iff_ne]
  rfl

theorem bufAllocBody_of_excess (hexcess : ¬ AllocFits m (ctxN p) (size / 4096)) : bufAllocBody p mem m = ⟨mem, m, err stNO_RESOURCE⟩ := by
  have hrefused : 1024 ≤ ((usedBufs m).filter (fun i => (bufOf m i).ctx == ctxN p)).length ∨
      getF m rPLC_POOL_STAT fPLC_POOL_STAT_FREE < size / 4096 ∨
      getF m (rPLC_QUOTA (ctxN p)) fPLC_QUOTA_PAGES < ctxPages m (ctxN p) + size / 4096 := by
    unfold AllocFits at hexcess
    omega
  simp only [bufAllocBody, hlen, hshape, hpick, hrefused]
  rfl

end

/-- BUF_ALLOC leaves the pool alone, or takes a free INDEX. -/
theorem bufAllocBody_cases (p : Packet) (mem : Tab Byte) (m : Mach) : (bufAllocBody p mem m).mem = mem ∨
    ∃ size l i gen, i < 4096 ∧ i ∉ usedBufs m ∧ bufAllocBody p mem m = allocated p size l i gen mem m := by
  by_cases hlen : p.params.length = 2
  · cases hshape : allocShape (par p 0) (par p 1) with
    | none => exact .inl (by simp [bufAllocBody, hlen, hshape])
    | some shape =>
      obtain ⟨size, l⟩ := shape
      cases hpick : pickFree 4096 (usedBufs m) (draw m).1 with
      | none => exact .inl (by simp [bufAllocBody, hlen, hshape, hpick])
      | some i =>
        by_cases hfits : AllocFits m (ctxN p) (size / 4096)
        · obtain ⟨hi, hfree⟩ := pickFree_free hpick
          exact .inr ⟨size, l, i, _, hi, hfree, bufAllocBody_of_pick hlen hshape hpick hfits⟩
        · exact .inl (by rw [bufAllocBody_of_excess hlen hshape hpick hfits])
  · exact .inl (by simp [bufAllocBody, hlen])

/-! ### Release -/

theorem pageReturn_buf {h : Nat} (hnamed : bufNamed m h = true) (hdue : (bufOf m (hIdx h)).due = true) :
    pageReturn h m = (m |> dropBuf (hIdx h) |> eventTo 4 [w32 h] (2 ^ (bufOf m (hIdx h)).ctx)) := by
  simp only [pageReturn, hnamed, hdue, Bool.and_self, if_true]

theorem pageReturn_lay {h : Nat} (hnamed : layNamed m h = true) (hdue : (layOf m (hIdx h)).due = true) (hbuf : bufNamed m h = false) :
    pageReturn h m = (m |> dropLay (hIdx h) |> eventTo 4 [w32 h] (2 ^ (layOf m (hIdx h)).ctx)) := by
  simp only [pageReturn, hnamed, hdue, hbuf, Bool.and_self, Bool.false_and, Bool.false_eq_true, if_false, if_true]

end Sys2Proof.Machine

open Sys2Proof Sys2Proof.Machine

/-- Settles O10: where nothing refuses a row, its body does what the clause says; BUF_ALLOC takes whichever INDEX the draw picks. -/
theorem bufferRowsComplete : Obligations.BufferRowsComplete := by
  refine ⟨answers_of_body (fun _ _ => rfl) ?free, answers_of_body (fun _ _ => rfl) ?info, answersMem_of_body (fun _ _ => rfl) ?write,
    answersMem_of_body (fun _ _ => rfl) ?read, fun h => happens_of_event (fun _ _ => rfl) ?page,
    fun h => happens_of_event (fun _ _ => rfl) ?layer, ?alloc⟩
  case free =>
    rintro p m ⟨hlen, hheld⟩
    rw [withLen_ok (by simp [hlen]), withBuf_of_held hheld]
  case info =>
    rintro p m ⟨hlen, hheld⟩
    rw [withLen_ok (by simp [hlen]), bufInfoBody_of_held hheld]
    rfl
  case write =>
    rintro p mem m ⟨hlen, hheld, halign, hfit⟩
    rw [bufWriteBody_of_held hlen hheld, writeInto_fits halign (by rwa [List.length_drop]), List.length_drop]
  case read =>
    rintro p mem m ⟨hlen, halign, hcount, hheld, hfit⟩
    exact bufReadBody_of_held hlen halign hcount hheld hfit
  case page =>
    rintro m ⟨hnamed, hdue⟩
    exact pageReturn_buf hnamed hdue
  case layer =>
    rintro m ⟨hnamed, hdue, hbuf⟩
    exact pageReturn_lay hnamed hdue hbuf
  case alloc =>
    intro p s m size l o c hstart hlen hshape hfree hmine hpool hquota
    obtain ⟨i, hpick⟩ := pickFree_of_free hfree (draw m).1
    obtain ⟨hi, hiFree⟩ := pickFree_free hpick
    refine ⟨i, nextGen (bufOf m i).gen ((draw m).1 >>> 16), hi, hiFree, fun n hn => nextGen_of_some hn _, nextGen_lt _ _, ?_⟩
    have hexec : exec (.bufAlloc p) s = runDratusMem (.bufAlloc p) o (replyLen 6) bufAllocBody p s := rfl
    rw [hexec, runDratusMem_starts hstart, bufAllocBody_of_pick hlen hshape hpick ⟨hmine, hpool, hquota⟩]
    rfl
end

section
/-!
The stream rows (R106): what the body of each does where nothing refuses it.
-/

namespace Sys2Proof.Machine

variable {p : Packet} {m : Mach} {port : Nat} (hport : bits (par p 0) 4 0 = port)
include hport

/-- R106: STREAM_BIND with EN = 1 binds the port. -/
theorem streamBindBody_of_held {fmt : Nat} (hfmt : descFmt (lastDesc m (hIdx (par p 1).toNat)) = fmt) (hword : streamWordOk p = true)
    (hsingle : bit (par p 0) 8 = false → par p 3 = 0) (hlay : layRefused m (2 ^ ctxN p) (par p 1).toNat = none)
    (hbufA : bufRefused m (ctxN p) (par p 2).toNat = none) (hfmtA : (bufOf m (hIdx (par p 2).toNat)).fmt = fmt)
    (hbufB : bit (par p 0) 8 = true →
      bufRefused m (ctxN p) (par p 3).toNat = none ∧ (bufOf m (hIdx (par p 3).toNat)).fmt = fmt)
    (hown : (streamOf m port).on = true → (streamOf m port).ctx = ctxN p) (hrole : getF m (rCPL_CFG port) fCPL_CFG_ROLE = 2) :
    streamBindBody p m = (setStream port { on := true, ctx := ctxN p, layer := (par p 1).toNat, bufA := (par p 2).toNat
                                           bufB := (par p 3).toNat, pingpong := bit (par p 0) 8 } m, ok []) := by
  have hmine : ((streamOf m port).on && (streamOf m port).ctx != ctxN p) = false := by simpa using hown
  cases hping : bit (par p 0) 8 with
  | false => simp [streamBindBody, hport, hword, hping, hsingle hping, hlay, hbufA, hfmt, hfmtA, hmine, hrole]
  | true =>
    obtain ⟨hheldB, hfmtB⟩ := hbufB hping
    simp [streamBindBody, hport, hword, hping, hlay, hbufA, hheldB, hfmt, hfmtA, hfmtB, hmine, hrole]

/-- R106: STREAM_BIND with EN = 0 ends the binding of the port. -/
theorem streamUnbindBody_of_held (hword : streamWordOk p = true)
    (hown : (streamOf m port).on = true → (streamOf m port).ctx = ctxN p) (hrole : getF m (rCPL_CFG port) fCPL_CFG_ROLE = 2) :
    streamUnbindBody p m = (setStream port {} m, ok []) := by
  have hmine : ((streamOf m port).on && (streamOf m port).ctx != ctxN p) = false := by simpa using hown
  simp [streamUnbindBody, hport, hword, hmine, hrole]

end Sys2Proof.Machine

open Sys2Proof Sys2Proof.Machine

/-- Settles O11: the binding is recorded where every check of R106 passes, and ended likewise. -/
theorem streamBindRowsComplete : Obligations.StreamBindRowsComplete := by
  refine ⟨answers_of_body (fun _ _ => rfl) ?bind, answers_of_body (fun _ _ => rfl) ?unbind⟩
  case bind =>
    rintro p m ⟨hlen, hword, hsingle, hlay, hbufA, hbufB, hfmt, hown, hrole⟩
    rw [withLen_ok (by simp [hlen])]
    exact streamBindBody_of_held rfl rfl hword hsingle hlay hbufA hfmt hbufB hown hrole
  case unbind =>
    rintro p m ⟨hlen, hword, hown, hrole⟩
    rw [withLen_ok (by simp [hlen])]
    exact streamUnbindBody_of_held rfl hword hown hrole
end

section
/-!
The layer rows (R108 to R112): what the body of each does where nothing refuses it.
-/

namespace Sys2Proof.Machine

variable {p : Packet} {m : Mach}

/-- The block in which layer INDEX `i`, taken with generation `gen`, has what the packet's descriptor asks for. -/
def layerCreated (p : Packet) (i gen : Nat) (m : Mach) : Mach :=
  setLay i { used := true, gen := some gen, ctx := ctxN p, blocks := descBlocks m p.params, pend := some p.params }
    { m with free := m.free + 1 }

/-- R108, R112, R116: LAYER_CREATE within its limits takes the INDEX picked. -/
theorem layerCreateBody_of_pick {i gen : Nat} (hdesc : descOk p.params = true)
    (hpick : pickFree 256 (usedLays m) (draw m).1 = some i) (hgen : nextGen (layOf m i).gen ((draw m).1 >>> 16) = gen)
    (hmine : ((usedLays m).filter (fun n => (layOf m n).ctx == ctxN p)).length < 128)
    (hblocks : blocksUsed m none + descBlocks m p.params ≤ 512) (hfits : dramFits (layerCreated p i gen m) = true) :
    layerCreateBody p m = (layerCreated p i gen m, ok [w32 (mkHandle (ctxN p) 2 gen i)]) := by
  have hroom := not_or.mpr ⟨Nat.not_le.mpr hmine, Nat.not_lt.mpr hblocks⟩
  simp only [layerCreateBody, hdesc, hpick, hgen, hroom, Bool.not_true, Bool.false_eq_true, if_false]
  exact if_pos hfits

/-- R129: no group whose stacks name layer `i` loses it to another group. -/
theorem no_group_loses {i t : Nat} (h : ∀ g, g < 8 → inStacks m g i = true → groupOf m t = some g) :
    ((List.range 8).any fun g => inStacks m g i && groupOf m t != some g) = false := by
  rw [List.any_eq_false]
  intro g hg
  simpa using h g (List.mem_range.mp hg)

section
variable {i : Nat} {d : List Word} (hi : hIdx (par p 0).toNat = i) (hd : p.params.drop 1 = d) (hdesc : descOk d = true)
  (hheld : layRefused m (2 ^ ctxN p) (par p 0).toNat = none)
  (hgroups : ∀ g, g < 8 → inStacks m g i = true → groupOf m (descTile d) = some g) (hsuits : bufSuits m (lastBuf m i) d = true)
include hi hd hdesc hheld hgroups hsuits

/-- R112: a change of WIDTH, FORMAT, LB_LINES or TILE reserves blocks anew. -/
theorem layerSetBody_anew (hanew : needsBlocks (lastDesc m i) d = true) (hblocks : blocksUsed m (some i) + descBlocks m d ≤ 512)
    (hfits : dramFits (setLay i { layOf m i with pend := some d, blocks := descBlocks m d } m) = true) :
    layerSetBody p m = (setLay i { layOf m i with pend := some d, blocks := descBlocks m d } m, ok []) := by
  subst hi hd
  simp only [layerSetBody, hdesc, withLay_of_held hheld, no_group_loses hgroups, hsuits, hanew, hfits, Nat.not_lt.mpr hblocks, if_true,
    Bool.not_true, Bool.or_self, decide_false, Bool.and_false, Bool.false_eq_true, if_false]

/-- R112: any other change keeps the blocks. -/
theorem layerSetBody_kept (hkept : needsBlocks (lastDesc m i) d = false)
    (hfits : dramFits (setLay i { layOf m i with pend := some d } m) = true) :
    layerSetBody p m = (setLay i { layOf m i with pend := some d } m, ok []) := by
  subst hi hd
  simp only [layerSetBody, hdesc, withLay_of_held hheld, no_group_loses hgroups, hsuits, hkept, hfits, if_true,
    Bool.not_true, Bool.or_self, Bool.false_and, Bool.false_eq_true, if_false]

end

/-- R110: LAYER_ATTACH records the buffer, or with 0 that there is none. -/
theorem layerAttachBody_of_held {i : Nat} (hi : hIdx (par p 0).toNat = i) (hheld : layRefused m (2 ^ ctxN p) (par p 0).toNat = none)
    (hbuf : par p 1 ≠ 0 → bufRefused m (ctxN p) (par p 1).toNat = none ∧ bufSuits m (par p 1).toNat (lastDesc m i) = true) :
    layerAttachBody p m = (setLay i { layOf m i with pendBuf := some (par p 1).toNat } m, ok []) := by
  subst hi
  rw [layerAttachBody, withLay_of_held hheld]
  by_cases hnone : par p 1 = 0
  · rw [if_pos hnone, hnone]
    rfl
  · obtain ⟨hheldBuf, hsuits⟩ := hbuf hnone
    rw [if_neg hnone, withBuf_of_held hheldBuf, if_pos hsuits]

end Sys2Proof.Machine

open Sys2Proof Sys2Proof.Machine

/-- Settles O12: where nothing refuses a row, its body records what the clause says; LAYER_CREATE takes whichever INDEX the draw picks. -/
theorem layerRowsComplete : Obligations.LayerRowsComplete := by
  refine ⟨?create, answers_of_body (fun _ _ => rfl) ?destroy, answers_of_body (fun _ _ => rfl) ?setAnew,
    answers_of_body (fun _ _ => rfl) ?setKept, answers_of_body (fun _ _ => rfl) ?attach⟩
  case create =>
    intro p s m o hstart hlen hdesc hfree hmine hblocks hfits
    obtain ⟨i, hpick⟩ := pickFree_of_free hfree (draw m).1
    obtain ⟨hi, hiFree⟩ := pickFree_free hpick
    refine ⟨i, nextGen (layOf m i).gen ((draw m).1 >>> 16), hi, hiFree, fun n hn => nextGen_of_some hn _, nextGen_lt _ _, ?_⟩
    have hexec : exec (.layerCreate p) s = runDratus (.layerCreate p) o (replyLen 1) (withLen (· == 5) layerCreateBody) p s := rfl
    rw [hexec, runDratus_starts hstart, withLen_ok (by simp [hlen]), layerCreateBody_of_pick hdesc hpick rfl hmine hblocks (hfits i _)]
    rfl
  case destroy =>
    rintro p m ⟨hlen, hheld⟩
    rw [withLen_ok (by simp [hlen]), withLay_of_held hheld]
  case setAnew =>
    rintro p m ⟨hlen, hdesc, hheld, hgroups, hsuits, hanew, hblocks, hfits⟩
    rw [withLen_ok (by simp [hlen])]
    exact layerSetBody_anew rfl rfl hdesc hheld hgroups hsuits hanew hblocks hfits
  case setKept =>
    rintro p m ⟨hlen, hdesc, hheld, hgroups, hsuits, hkept, hfits⟩
    rw [withLen_ok (by simp [hlen])]
    exact layerSetBody_kept rfl rfl hdesc hheld hgroups hsuits hkept hfits
  case attach =>
    rintro p m ⟨hlen, hheld, hbuf⟩
    rw [withLen_ok (by simp [hlen])]
    exact layerAttachBody_of_held rfl hheld hbuf
end

section
/-!
Meshes and placement (R117 to R122, R136): what each row does where nothing refuses it.
-/

namespace Sys2Proof.Machine

variable {p : Packet} {mem : Tab Byte} {m : Mach}

/-! ### Meshes -/

theorem withTileGeom_of_some {f : Nat → Nat → Nat → Nat → MemRep} {t g w h : Nat} (htile : bits (par p 0) 4 0 = t) (ht : t < 24)
    (hgeom : tileGeom m t = some (g, w, h)) : withTileGeom p f mem m = f t g w h := by
  simp only [withTileGeom, htile, Nat.not_le.mpr ht, if_false, hgeom]

/-- R136: a mesh that spans no more than 24 rows is kept as pending. -/
theorem warpMeshBody_of_mesh {t i g w h : Nat} {mesh : List MeshPt} (htile : bits (par p 0) 4 0 = t) (hi : hIdx (par p 1).toNat = i)
    (hlen : p.params.length = 2) (hclean : clean (par p 0) [(4, 0)] = true) (ht : t < 24)
    (hheld : bufRefused m (ctxN p) (par p 1).toNat = none) (hraw : rawBuf m i 17160 = true) (hmesh : meshOf mem i = some mesh)
    (hgeom : tileGeom m t = some (g, w, h)) (hown : ownsGroup m (ctxN p) g = true) (hspan : meshSpan mesh w h ≤ 24) :
    warpMeshBody p mem m =
      ⟨mem, setPix (fun s => { s with meshPend := tput [] s.meshPend (32 * ctxN p + t) mesh }) m, ok [w32 (meshSpan mesh w h)]⟩ := by
  simp only [warpMeshBody, hlen, hclean, withTileGeom_of_some htile ht hgeom, hown, hheld, hi, hraw, hmesh, Nat.not_lt.mpr hspan,
    ne_eq, not_true_eq_false, Bool.not_true, Bool.false_eq_true, if_false]

/-! ### Plans -/

/-- The moves of a plan as placement takes them: those that free a resource first (R117). -/
def planMoves (plan : PlanEnv) (m : Mach) : List MoveRec :=
  let named := plan.moves.map (moveRec m (m.pix.planId + 1))
  named.filter (moveFrees m) ++ named.filter (fun v => !moveFrees m v)

/-- The destinations of the moves are reserved (R117). -/
def planReserved (moves : List MoveRec) (m : Mach) : Mach := forEach (moves.filterMap MoveRec.dst) (fun d => setRegionUse d 6) m

/-- The pages of a plan that have been lost from buffers in use (R120). -/
def planLost (plan : PlanEnv) (m : Mach) : List (Nat × Nat) :=
  plan.lost.filter fun l => (bufOf m l.1).used && decide (l.2 < bufPages (bufOf m l.1))

/-- The pages `lost` mark their buffers DAMAGED, and the moves are under way as plan `n`. -/
def planUnderWay (moves : List MoveRec) (lost : List (Nat × Nat)) (n : Nat) (m : Mach) : Mach :=
  m |> forEach lost (fun l m => setBuf l.1 { bufOf m l.1 with damaged := true } m) |>
    setPix (fun s => { s with
      plan := s.plan ++ moves, planId := n, planNew := if moves.isEmpty then s.planNew else s.planNew ++ [n] })

theorem placementPlan_eq (plan : PlanEnv) (mem : Tab Byte) (m : Mach) : placementPlan plan mem m =
    if !planFits (planMoves plan m) m then (mem, m)
    else
      let moves := planMoves plan m
      let lost := planLost plan (planReserved moves m)
      (lost.foldl (fun mem l => poolZeroPage l.1 l.2 mem) mem,
        forEach (List.range 8) movesIfStopped (planUnderWay moves lost (m.pix.planId + 1) (planReserved moves m))) := rfl

@[simp] theorem setRegionUse_pix (r v : Nat) (m : Mach) : (setRegionUse r v m).pix = m.pix := setF_pix m _ _ v

theorem planReserved_pix (moves : List MoveRec) (m : Mach) : (planReserved moves m).pix = m.pix := by
  have hpix (ds : List Nat) (m : Mach) : (forEach ds (fun d => setRegionUse d 6) m).pix = m.pix := by
    induction ds generalizing m with
    | nil => rfl
    | cons d ds ih => exact (ih (setRegionUse d 6 m)).trans (setRegionUse_pix d 6 m)
  exact hpix _ m

/-- The pages lost do not depend on the destinations that have been reserved. -/
@[simp] theorem planLost_planReserved (plan : PlanEnv) (moves : List MoveRec) (m : Mach) :
    planLost plan (planReserved moves m) = planLost plan m := by
  have hbuf : bufOf (planReserved moves m) = bufOf m := by
    funext i
    rw [bufOf, bufOf, planReserved_pix]
  rw [planLost, planLost, hbuf]

/-- Log entry 92: a plan that placement cannot decide on changes nothing. -/
theorem placementPlan_undecided {plan : PlanEnv} (h : planFits (planMoves plan m) m = false) : placementPlan plan mem m = (mem, m) := by
  rw [placementPlan_eq, h]
  rfl

/-- R117, R120: a plan that it can decide on is under way. -/
theorem placementPlan_decided {plan : PlanEnv} (h : planFits (planMoves plan m) m = true) :
    placementPlan plan mem m = ((planLost plan m).foldl (fun mem l => poolZeroPage l.1 l.2 mem) mem,
      forEach (List.range 8) movesIfStopped
        (planUnderWay (planMoves plan m) (planLost plan m) (m.pix.planId + 1) (planReserved (planMoves plan m) m))) := by
  simp only [placementPlan_eq, h, planLost_planReserved, Bool.not_true, Bool.false_eq_true, if_false]

end Sys2Proof.Machine

open Sys2Proof Sys2Proof.Machine

/-- Settles O15: a mesh is kept and the map answered as their bodies have it; a plan acts only where placement decides on it, and what it
reserves does not touch the buffers that it judges; the end of a copy is the event itself. -/
theorem meshAndPlacementRowsComplete : Obligations.MeshAndPlacementRowsComplete := by
  refine ⟨fun mesh g w h => answersMem_of_body (fun _ _ => rfl) ?mesh, answers_of_body (fun _ _ => rfl) ?map, ?plan,
    fun g => happens_of_event (fun _ _ => rfl) fun _ _ => rfl⟩
  case mesh =>
    rintro p mem m ⟨hlen, hclean, ht, hheld, hraw, hmesh, hgeom, hown, hspan⟩
    exact warpMeshBody_of_mesh rfl rfl hlen hclean ht hheld hraw hmesh hgeom hown hspan
  case map =>
    intro p m hlen
    exact withLen_ok (by simp [hlen])
  case plan =>
    intro t plan s m named moves lost
    have hexec : exec (.placementPlan t plan) s = runEventMem t (placementPlan plan) s := rfl
    rw [hexec, runEventMem_next]
    refine ⟨fun hfits => ?undecided, fun hfits => ?decided⟩
    case undecided =>
      rw [placementPlan_undecided hfits]
    case decided =>
      rw [placementPlan_decided hfits]
      simp only [planUnderWay, List.isEmpty_iff]
      rfl
end

section
/-!
The instants of a group (R186, R191, R192, R203, R185): when each is due, and what it does.
-/

namespace Sys2Proof.Machine

variable {m : Mach} {g : Nat}

/-! ### The end of a frame -/

theorem follows_iff : follows m g = true ↔ lockedCfg m g = true ∧ grpRuns m (masterOf m g) = true := by
  rw [follows, Bool.and_eq_true]

/-- R191: a frame ends with its last line, and that of a LOCKED group at an instant of its master too. -/
theorem frameEnds_lastLine (hlast : lineOf m g + 1 = vtotal m g)
    (hinstant : follows m g = true → flag m (rSCN_GRP_STAT g) fSCN_GRP_STAT_LOCKED = true → lockInstant m g = true) :
    frameEnds m g = true := by
  have hline : lastLine m g = true := by simp [lastLine, hlast]
  cases hf : follows m g with
  | false => simp [frameEnds, hf, hline]
  | true =>
    cases hl : flag m (rSCN_GRP_STAT g) fSCN_GRP_STAT_LOCKED with
    | false => simp [frameEnds, relocks, hf, hl, hline]
    | true => simp [frameEnds, relocks, hf, hl, hline, hinstant hf hl]

/-- R192: the frame of a group that has lost its master ends at the next instant too. -/
theorem frameEnds_relock (hfollows : follows m g = true) (hlost : flag m (rSCN_GRP_STAT g) fSCN_GRP_STAT_LOCKED = false)
    (hinstant : lockInstant m g = true) : frameEnds m g = true := by
  simp [frameEnds, relocks, hfollows, hlost, hinstant]

/-! ### Latches -/

theorem stopsNext_eq_false (h : ∀ ws, (grpOf m g).tset = some ws → fget (ws.getD 3 0) fSCN_RATE_EN ≠ 0) : stopsNext m g = false := by
  cases ht : (grpOf m g).tset with
  | none => simp [stopsNext, ht]
  | some ws => simpa [stopsNext, ht] using h ws ht

theorem latchDue_start (hrun : inRun m = true) (hstart : (grpOf m g).starting = true)
    (hinstant : follows m g = true → lockInstant m g = true) : latchDue m g = true := by
  cases hf : follows m g with
  | false => simp [latchDue, hrun, hstart, hf]
  | true => simp [latchDue, hrun, hstart, hf, hinstant hf]

theorem latchDue_frame (hrun : inRun m = true) (hgoing : (grpOf m g).starting = false) (hruns : grpRuns m g = true)
    (hstops : ∀ ws, (grpOf m g).tset = some ws → fget (ws.getD 3 0) fSCN_RATE_EN ≠ 0) (hends : frameEnds m g = true) :
    latchDue m g = true := by
  simp [latchDue, hrun, hgoing, hruns, stopsNext_eq_false hstops, hends]

theorem exec_latch (t : Nat) (g : Fin 8) (s : State) :
    exec (.latch t g) s = runEvent t (fun m => if latchDue m g then doLatch g m else m) s := rfl

/-- A latch that is due takes effect. -/
theorem latch_happens {g : Fin 8} {guard : Mach → Prop} {eff : Mach → Mach} (hdue : ∀ m, guard m → latchDue m g = true)
    (heff : ∀ m, guard m → doLatch g m = eff m) : Happens (fun t => .latch t g) guard eff :=
  happens_of_event (fun t s => exec_latch t g s) fun m hm => (if_pos (hdue m hm)).trans (heff m hm)

/-! ### Stops and lines -/

theorem stopDue_frame {ws : List Word} (hset : (grpOf m g).tset = some ws) (hstops : fget (ws.getD 3 0) fSCN_RATE_EN = 0)
    (hruns : grpRuns m g = true) (hends : frameEnds m g = true) : stopDue m g = true := by
  simp only [stopDue, stopsNext, hset, hstops, hruns, hends, beq_self_eq_true, Bool.and_self]

theorem exec_stopInstant (t : Nat) (g : Fin 8) (s : State) :
    exec (.stopInstant t g) s = runEvent t (fun m => if stopDue m g then stopGroup g m else m) s := rfl

theorem exec_lineStart (t : Nat) (g : Fin 8) (notReady : Nat) (s : State) : exec (.lineStart t g notReady) s =
    runEvent t (fun m => if grpRuns m g && decide (lineOf m g + 1 < vtotal m g) then startLine g notReady m else m) s := rfl

end Sys2Proof.Machine

open Sys2Proof Sys2Proof.Machine

/-- Settles O41: the clause's conditions are those under which the instant is due, and its effect is the model's for a group that starts, or
for one that goes on. -/
theorem groupInstantsComplete : Obligations.GroupInstantsComplete := by
  intro g follows goesOn latched
  have hlatched (m : Mach) (hgoing : (grpOf m g).starting = false) : doLatch g m = latched m := by
    simp only [doLatch, hgoing]
    rfl
  refine ⟨latch_happens ?startDue ?start, latch_happens ?frameDue fun m h => hlatched m h.1.2.1,
    latch_happens ?relockDue fun m h => hlatched m h.1.2.1, fun ws => happens_of_event (fun t s => exec_stopInstant t g s) ?stop,
    fun notReady => happens_of_event (fun t s => exec_lineStart t g notReady s) ?line⟩
  case startDue =>
    rintro m ⟨hrun, hstart, hinstant⟩
    exact latchDue_start hrun hstart fun hf => hinstant (follows_iff.mp hf)
  case start =>
    rintro m ⟨hrun, hstart, hinstant⟩
    simp only [doLatch, hstart]
    rfl
  case frameDue =>
    rintro m ⟨⟨hrun, hgoing, hruns, hstops⟩, hlast, hinstant⟩
    exact latchDue_frame hrun hgoing hruns hstops (frameEnds_lastLine hlast fun hf hl => hinstant (follows_iff.mp hf) hl)
  case relockDue =>
    rintro m ⟨⟨hrun, hgoing, hruns, hstops⟩, hfollows, hlost, hinstant⟩
    exact latchDue_frame hrun hgoing hruns hstops (frameEnds_relock (follows_iff.mpr hfollows) hlost hinstant)
  case stop =>
    rintro m ⟨hset, hruns, hstops, hend⟩
    have hends : frameEnds m g = true := by
      rcases hend with ⟨hlast, hinstant⟩ | ⟨hfollows, hlost, hinstant⟩
      · exact frameEnds_lastLine hlast fun hf hl => hinstant (follows_iff.mp hf) hl
      · exact frameEnds_relock (follows_iff.mpr hfollows) hlost hinstant
    rw [if_pos (stopDue_frame hset hstops hruns hends)]
    rfl
  case line =>
    rintro m ⟨hruns, hline⟩
    simp only [hruns, hline, decide_true, Bool.and_self, if_true]
    rfl
end

section
/-!
Which commands leave the layer pool alone (R92, R99 to R101, R106, R121, R90).
-/

namespace Sys2Proof.Machine

/-! ### Bodies that only read the pool -/

section
variable (p : Packet) (mem : Tab Byte) (m : Mach)

theorem withTileGeom_mem {f : Nat → Nat → Nat → Nat → MemRep} (hf : ∀ t g w h, (f t g w h).mem = mem) :
    (withTileGeom p f mem m).mem = mem := by
  cases hgeom : tileGeom m (bits (par p 0) 4 0) <;> simp [withTileGeom, hgeom, hf, apply_ite MemRep.mem]

theorem bufReadBody_mem : (bufReadBody p mem m).mem = mem := by
  cases hheld : bufRefused m (ctxN p) (par p 0).toNat <;> simp [bufReadBody, hheld, apply_ite MemRep.mem]

theorem wearTableBody_mem : (wearTableBody p mem m).mem = mem := by
  cases hheld : bufRefused m (ctxN p) (par p 0).toNat <;> simp [wearTableBody, hheld, apply_ite MemRep.mem]

theorem curveBody_mem : (curveBody p mem m).mem = mem := by
  cases hheld : bufRefused m (ctxN p) (par p 1).toNat <;> simp [curveBody, hheld, apply_ite MemRep.mem]

theorem coefLoadBody_mem : (coefLoadBody p mem m).mem = mem := by
  cases hheld : bufRefused m (ctxN p) (par p 1).toNat <;> simp [coefLoadBody, hheld, apply_ite MemRep.mem]

theorem uniformityBody_mem : (uniformityBody p mem m).mem = mem := by
  simp only [uniformityBody, apply_ite MemRep.mem]
  rw [withTileGeom_mem]
  · simp
  · intro t g w h
    cases bufRefused m (ctxN p) (par p 1).toNat <;> simp [apply_ite MemRep.mem]

theorem warpMeshBody_mem : (warpMeshBody p mem m).mem = mem := by
  simp only [warpMeshBody, apply_ite MemRep.mem]
  rw [withTileGeom_mem]
  · simp
  · intro t g w h
    cases bufRefused m (ctxN p) (par p 1).toNat <;> cases meshOf mem (hIdx (par p 1).toNat) <;> simp [apply_ite MemRep.mem]

end

/-! ### The forms of a row -/

section
variable {s : State} {i : Instr} {o : OpInfo} {rlen : Packet → Mach → Nat} {p : Packet}

/-- A packet changes the pool only where it starts. -/
theorem runDratusMem_starts_or_keeps {body : Packet → Tab Byte → Mach → MemRep} {u : State} (h : runDratusMem i o rlen body p s = .next u) :
    (∃ m, Starts i o rlen p s m) ∨ u.mem = s.mem := by
  cases harrive : arrive i o true p s.blk with
  | stop m =>
    right
    simp only [runDratusMem, harrive, done, Host.Outcome.next.injEq] at h
    rw [← h]
  | go m =>
    by_cases hgolden : (flag m rUPD_STAT fUPD_STAT_GOLDEN && !goldenOp o) = true
    · right
      simp only [runDratusMem, harrive, runPacketMem, hgolden, if_true, done, Host.Outcome.next.injEq] at h
      rw [← h]
    by_cases hlong : pathMax p.path < rlen p m
    · right
      simp only [runDratusMem, harrive, runPacketMem, hgolden, hlong, if_true, done, Host.Outcome.next.injEq] at h
      rw [← h]
      rfl
    · exact .inl ⟨m, harrive, Bool.not_eq_true _ ▸ hgolden, Nat.not_lt.mp hlong⟩

/-- Where the outcome of a command is a next state, its layer pool is that of `s`. -/
def KeepsPool (s : State) (r : Host.Outcome State Fault Refusal) : Prop := ∀ u, r = .next u → u.mem = s.mem

theorem keepsPool_next {t : State} (h : t.mem = s.mem) : KeepsPool s (.next t) := by
  rintro u ⟨⟩
  exact h

theorem keepsPool_runEvent {t : Nat} {f : Mach → Mach} : KeepsPool s (runEvent t f s) := keepsPool_next rfl

theorem keepsPool_runEventMem {t : Nat} {f : Tab Byte → Mach → Mach} : KeepsPool s (runEventMem t (fun mem m => (mem, f mem m)) s) :=
  keepsPool_next rfl

theorem keepsPool_runDratus {body : Packet → Mach → Mach × Rep} : KeepsPool s (runDratus i o rlen body p s) := by
  unfold runDratus
  split <;> exact keepsPool_next rfl

/-- A row that works on the pool keeps it where its body does. -/
theorem keepsPool_runDratusMem {body : Packet → Tab Byte → Mach → MemRep} (hbody : ∀ p mem m, (body p mem m).mem = mem) :
    KeepsPool s (runDratusMem i o rlen body p s) := by
  intro u h
  rcases runDratusMem_starts_or_keeps h with ⟨m, hstart⟩ | hkeeps
  · rw [runDratusMem_starts hstart, hbody, Host.Outcome.next.injEq] at h
    rw [← h]
    split <;> rfl
  · exact hkeeps

theorem keepsPool_safeWrite {obj : Nat} {dataOk stateOk : List Word → Mach → Bool}
    {effect : Option Nat → Option Packet → List Word → Mach → Mach × Rep} {src : EnvSrc} :
    KeepsPool s (safeWrite i obj dataOk stateOk effect src s) := by
  unfold safeWrite
  cases src with
  | dratus p waitMs => exact keepsPool_runDratus
  | native f waitMs => exact keepsPool_runEvent

theorem keepsPool_badOpcode {ver op : Nat} : KeepsPool s (execBadOpcode p ver op s) := by
  unfold execBadOpcode
  split <;> exact keepsPool_next rfl

end

end Sys2Proof.Machine

open Sys2Proof Sys2Proof.Machine

/-- Settles O50, by the form in which each command runs. -/
theorem poolChangesOnlyAtItsWriters : Obligations.PoolChangesOnlyAtItsWriters := by
  intro c s t h
  unfold exec at h
  cases c with
  | bufAlloc | bufWrite | frameWrite | bamutEnable | pixel | placementPlan | writePkt | command => right; simp
  | regRead =>
    unfold execRegRead at h
    exact .inl (keepsPool_runDratus t h)
  | bufRead => exact .inl (keepsPool_runDratusMem bufReadBody_mem t h)
  | warpMeshLoad => exact .inl (keepsPool_runDratusMem warpMeshBody_mem t h)
  | uniformityLoad => exact .inl (keepsPool_runDratusMem uniformityBody_mem t h)
  | wearTableLoad => exact .inl (keepsPool_runDratusMem wearTableBody_mem t h)
  | transferCurveLoad => exact .inl (keepsPool_runDratusMem curveBody_mem t h)
  | coefLoad => exact .inl (keepsPool_runDratusMem coefLoadBody_mem t h)
  | cvJobDone => exact .inl (keepsPool_runEventMem t h)
  | badOpcode => exact .inl (keepsPool_badOpcode t h)
  | heartbeat | beamMode | maskEnable | complianceMap | output | safeConfig => exact .inl (keepsPool_safeWrite t h)
  | nop | identify | contextOpen | contextClose | setPowerRun | setPowerIdle | setPowerSleep | setPowerDeep | setPowerOff | getStatus
    | loadQuery | provisionLock | setPermissions | eventSubscribe | pathBind | groupAssign | timeGet | restart | unprovision
    | regWrite | regModify | regReadList | regWriteList | regPoll | bufFree | bufInfo | streamBind | streamUnbind | layerCreate
    | layerDestroy | layerSet | layerAttach | stackSet | colourMatrixSet | commit | commitStatus | timingSet | racingSet | poseMsg
    | poseConfig | poseConfigGroup | poseConfigTile | placementMap | gainGlobalSet | wearSnapshot | repairConfig | derateConfig
    | complianceRead | portConfig | portStatus | loopbackOff | nearEndSerial | nearEndParallel | farEndRequest | farEndAccept | eyeScan
    | tileEnumerate | tileInfo | tileAuthPolicy | policyTimeouts | policyAnchor | policyTile | twinSet | twinRemove | spareSet
    | chainConfig | chainWrite | chainReadback | groupConfig | auroraLoad | gammaLoad | auroraStart | auroraStop | probeConfig
    | colourLoopSet | loopConfig | bankSwap | motorPosition | motorSpeed | motorPark | motorRelease | tuneInject | captureRead
    | adcConfig | levelSet | updBegin | updCancel | updData | updVerify | activate | confirm | settingsSave | calRun | calRunFactory
    | cvJob | safeRead | safeStatus | legacyNop | getId | legacyGetStatus | setGain | frameShow | sleep => exact .inl (keepsPool_runDratus t h)
  | _ => exact .inl (keepsPool_runEvent t h)
end

section
/-!
The bytes that BUF_WRITE, FRAME_WRITE and BUF_ALLOC leave in the layer pool (R92, R99, R101, R90).
-/

namespace Sys2Proof.Machine

/-! ### Words as bytes -/

theorem wordsBytes_length (ws : List Word) : (wordsBytes ws).length = 4 * ws.length := by
  induction ws with
  | nil => rfl
  | cons w ws ih =>
    have hcons : wordsBytes (w :: ws) = wordBytes w ++ wordsBytes ws := rfl
    have hword : (wordBytes w).length = 4 := rfl
    rw [hcons, List.length_append, ih, hword, List.length_cons]
    omega

theorem wordsBytes_lt {ws : List Word} {b : Nat} (hb : b ∈ wordsBytes ws) : b < 256 := by
  obtain ⟨w, -, hb⟩ := List.mem_flatMap.mp hb
  have hw : w.toNat >>> 24 < 256 := by
    have := w.isLt
    rw [Nat.shiftRight_eq_div_pow]
    omega
  simp only [wordBytes, List.mem_cons, List.not_mem_nil, or_false] at hb
  omega

/-! ### Bytes written -/

section
variable {i off : Nat} {data : List Word} {mem : Tab Byte}

theorem poolWrite_words_in {k : Nat} (hk : k < 4 * data.length) :
    (tget 0 (poolWrite i off (wordsBytes data) mem) (poolKey i off + k)).toNat = (wordsBytes data).getD k 0 := by
  rw [← wordsBytes_length] at hk
  rw [poolWrite_in hk, List.getD_eq_getElem?_getD, List.getElem?_eq_getElem hk, Option.getD_some, BitVec.toNat_ofNat]
  exact Nat.mod_eq_of_lt (wordsBytes_lt (List.getElem_mem hk))

theorem poolWrite_words_out {a : Nat} (ha : a < poolKey i off ∨ poolKey i off + 4 * data.length ≤ a) :
    tget 0 (poolWrite i off (wordsBytes data) mem) a = tget 0 mem a :=
  poolWrite_out (by rwa [wordsBytes_length])

end

/-- The words `data` stand in pool `u` from byte `off` of buffer `i` on, and every other byte is that of `mem`. -/
def WordsPut (i off : Nat) (data : List Word) (mem u : Tab Byte) : Prop :=
  (∀ k < 4 * data.length, (tget 0 u (poolKey i off + k)).toNat = (wordsBytes data).getD k 0) ∧
    ∀ a, a < poolKey i off ∨ poolKey i off + 4 * data.length ≤ a → tget 0 u a = tget 0 mem a

/-- A row whose body writes words into a buffer, within its size, puts them there. -/
theorem runDratusMem_puts {ins : Instr} {o : OpInfo} {rlen : Packet → Mach → Nat} {body : Packet → Tab Byte → Mach → MemRep} {p : Packet}
    {s u : State} {m : Mach} {i off : Nat} {data : List Word} (hstart : Starts ins o rlen p s m)
    (hbody : body p s.mem m = writeInto i off data s.mem m) (halign : off % 4 = 0) (hfit : off + 4 * data.length ≤ (bufOf m i).size)
    (h : runDratusMem ins o rlen body p s = .next u) : WordsPut i off data s.mem u.mem := by
  rw [runDratusMem_starts hstart, hbody, writeInto_fits halign hfit, Host.Outcome.next.injEq] at h
  rw [← h]
  exact ⟨fun k => poolWrite_words_in, fun a => poolWrite_words_out⟩

/-! ### Bytes cleared -/

theorem poolByte_poolClear {i off : Nat} (mem : Tab Byte) (hoff : off < 2 ^ 27) : poolByte (poolClear i mem) i off = 0 := by
  rw [poolByte, poolClear, tget_tdrop_in (by simp only [poolKey]; omega) (by simp only [poolKey]; omega)]
  rfl

theorem poolClear_out {i a : Nat} (mem : Tab Byte) (ha : a < poolKey i 0 ∨ poolKey (i + 1) 0 ≤ a) :
    tget 0 (poolClear i mem) a = tget 0 mem a := tget_tdrop_out ha mem

/-! ### FRAME_WRITE -/

theorem frameWriteBody_of_held {p : Packet} {mem : Tab Byte} {m : Mach} {b : BamutTile} (hlen : 2 ≤ p.params.length)
    (htile : tget none (bamutOf m (ctxN p)).tiles (bits (par p 0) 31 24) = some b) (hheld : bufRefused m (ctxN p) b.back = none) :
    frameWriteBody p mem m = writeInto (hIdx b.back) (bits (par p 0) 23 0) (p.params.drop 1) mem m := by
  simp only [frameWriteBody, Nat.not_lt.mpr hlen, if_false, htile, hheld]

end Sys2Proof.Machine

open Sys2Proof Sys2Proof.Machine

/-- Settles O51: the rows that write do so through `poolWrite`, and BUF_ALLOC leaves the pool alone or clears the INDEX that it takes. -/
theorem poolBytesWritten : Obligations.PoolBytesWritten := by
  refine ⟨?write, ?frame, ?alloc⟩
  case write =>
    intro p s u m hstart hlen hheld halign hfit h
    rw [← List.length_drop] at hfit ⊢
    exact runDratusMem_puts hstart (bufWriteBody_of_held hlen hheld) halign hfit h
  case frame =>
    intro p s u m b hstart hlen htile hheld halign hfit h
    rw [← List.length_drop] at hfit ⊢
    exact runDratusMem_puts hstart (frameWriteBody_of_held hlen htile hheld) halign hfit h
  case alloc =>
    intro p s u h
    have hexec : exec (.bufAlloc p) s = runDratusMem (.bufAlloc p) (native 0x20 1 .topaz .any false true) (replyLen 6) bufAllocBody p s := rfl
    rw [hexec] at h
    rcases runDratusMem_starts_or_keeps h with ⟨m, hstart⟩ | hkeeps
    case inr => exact .inl hkeeps
    rw [runDratusMem_starts hstart, Host.Outcome.next.injEq] at h
    rcases bufAllocBody_cases p s.mem m with hmem | ⟨size, l, i, gen, hi, hfree, hbody⟩
    · left
      rw [← h, hmem]
      split <;> rfl
    · right
      rw [hbody] at h
      have hu : u.mem = poolClear i s.mem := by rw [← h]; rfl
      refine ⟨m, (allocated p size l i gen s.mem m).blk, i, gen, allocWords size l, hstart, hi, hfree, ?_, fun off hoff => ?_, fun a ha => ?_⟩
      · rw [hu]
        exact h.symm
      · rw [hu, poolByte_poolClear s.mem hoff]
      · rw [hu, poolClear_out s.mem ha]
end

section
/-!
The settings of a group (R129, R134, R151, R171): what its owner records as pending.
-/

namespace Sys2Proof.Machine

variable {p : Packet} {m : Mach}

theorem withGroup_of_lt {f : Nat → Mach → Mach × Rep} (h : bits (par p 0) 4 0 < 8) : withGroup p f m = f (bits (par p 0) 4 0) m :=
  if_pos h

/-- R69: the owner of a group is let through. -/
theorem asOwner_of_owns {c g : Nat} {f : Mach → Mach × Rep} (h : ownsGroup m c g = true) : asOwner c g f m = f m := if_pos h

/-- R171: the owner of a group sets its SCALE. -/
theorem setScale_of_owns {c g : Nat} (h : ownsGroup m c g = true) (v : Nat) :
    setScale c g v m = (setGrp g { grpOf m g with gain := some v } m, ok []) := asOwner_of_owns h

/-- R129: a stack of 1 to 32 entries that passes its checks is pending. -/
theorem stackSetBody_of_checked {ws : List Word} (hlen : p.params.length = 1 + 2 * bits (par p 0) 13 8)
    (hclean : clean (par p 0) [(13, 8), (4, 0)] = true) (hsome : 1 ≤ bits (par p 0) 13 8) (hmost : bits (par p 0) 13 8 ≤ 32)
    (hgroup : bits (par p 0) 4 0 < 8) (howns : ownsGroup m (ctxN p) (bits (par p 0) 4 0) = true)
    (hchecked : stackChecked m (ctxN p) (bits (par p 0) 4 0) (stackEntries (p.params.drop 1)) = .ok ws) :
    stackSetBody p m = (setGpend (ctxN p) (bits (par p 0) 4 0)
      { gpendOf m (ctxN p) (bits (par p 0) 4 0) with stack := some ws } m, ok []) := by
  have hword : (clean (par p 0) [(13, 8), (4, 0)] && decide (1 ≤ bits (par p 0) 13 8) && decide (bits (par p 0) 13 8 ≤ 32)) = true := by
    simp [hclean, hsome, hmost]
  rw [stackSetBody, if_neg (not_not_intro hlen), hword, require_ok, withGroup_of_lt hgroup, asOwner_of_owns howns, hchecked]

/-- R151: the racing word is pending unless it sets EN with no LEAD, or with one that a frame does not leave 8 lines for. -/
theorem racingSetBody_of_fits (hclean : clean (par p 0) [(31, 31), (25, 16), (11, 8), (4, 0)] = true) (hgroup : bits (par p 0) 4 0 < 8)
    (howns : ownsGroup m (ctxN p) (bits (par p 0) 4 0) = true)
    (hfits : bit (par p 0) 31 = true → fget (par p 0) fCMP_GRP_CFG_LEAD ≠ 0 ∧ ∀ k ∈ admitted m,
      vtotal k (bits (par p 0) 4 0) ≠ 0 → fget (par p 0) fCMP_GRP_CFG_LEAD + 8 ≤ vtotal k (bits (par p 0) 4 0)) :
    racingSetBody p m = (setGpend (ctxN p) (bits (par p 0) 4 0)
      { gpendOf m (ctxN p) (bits (par p 0) 4 0) with racing := some (par p 0 &&& 0x83FF0F00) } m, ok []) := by
  rw [racingSetBody, hclean, require_ok, withGroup_of_lt hgroup, asOwner_of_owns howns]
  cases hen : bit (par p 0) 31 with
  | false => rfl
  | true =>
    obtain ⟨hlead, hlines⟩ := hfits hen
    refine if_neg ?_
    simpa [hlead] using hlines

end Sys2Proof.Machine

open Sys2Proof Sys2Proof.Machine

/-- Settles O14: the named group is one of the eight and the context owns it, so what is left of each row is its own check. -/
theorem groupSettingRowsComplete : Obligations.GroupSettingRowsComplete := by
  refine ⟨fun ws => answers_of_body (fun _ _ => rfl) ?stack, answers_of_body (fun _ _ => rfl) ?matrix,
    answers_of_body (fun _ _ => rfl) ?racing, answers_of_body (fun _ _ => rfl) ?gain, answers_of_body (fun _ _ => rfl) ?legacyGain⟩
  case stack =>
    rintro p m ⟨hlen, hclean, hsome, hmost, hgroup, howns, hchecked⟩
    exact stackSetBody_of_checked hlen hclean hsome hmost hgroup howns hchecked
  case matrix =>
    rintro p m ⟨hlen, hclean, hgroup, howns⟩
    rw [withLen_ok (by simp [hlen]), hclean, require_ok, withGroup_of_lt hgroup, asOwner_of_owns howns]
  case racing =>
    rintro p m ⟨hlen, hclean, hgroup, howns, hfits⟩
    rw [withLen_ok (by simp [hlen])]
    exact racingSetBody_of_fits hclean hgroup howns hfits
  case gain =>
    rintro p m ⟨hlen, hgroupWord, hscaleWord, hgroup, howns⟩
    rw [withLen_ok (by simp [hlen]), hgroupWord, hscaleWord, Bool.and_self, require_ok, withGroup_of_lt hgroup, setScale_of_owns howns]
  case legacyGain =>
    rintro p m ⟨hlen, hclean, hon, howns⟩
    rw [withLen_ok (by simp [hlen]), setGainBody, hclean, hon, Bool.and_self, require_ok, setScale_of_owns howns]
end

section
/-!
The pose predictor's configuration, messages and samples (R141 to R145): what each row does where nothing refuses it and it is due.
-/

namespace Sys2Proof.Machine

variable {p : Packet} {m : Mach} {bytes : List Byte}

/-! ### Packets -/

/-- R145, form 0: registers whose ranges hold are written. -/
theorem poseConfigBody_of_ranges (hform : par p 0 = 0) (hcfg : poseCfgOk (par p 1) = true) (hfb : poseFbOk (par p 2) = true)
    (himu : imuCfgOk (par p 3) = true) (hxfer : imuXferOk (par p 4) = true) :
    poseConfigBody p m = (m |> setReg rWRP_POSE_CFG (par p 1) |> setReg rWRP_POSE_FB (par p 2) |> setReg rWRP_IMU_CFG (par p 3) |>
      setReg rWRP_IMU_XFER (par p 4) |> setReg rWRP_IMU_SCALE (par p 5) |> updateMode, ok []) := by
  have hzero : (!clean 0 [(1, 0)] || bits 0 1 0 != 0) = false := by decide
  rw [poseConfigBody, hform, hzero, hcfg, hfb, himu, hxfer]
  rfl

theorem poseGroupBody_of_clean (hword : clean (par p 0) [(12, 8), (1, 0)] = true) (hgroup : bits (par p 0) 12 8 < 8)
    (hpose : clean (par p 1) [(31, 30), (15, 0)] = true) :
    poseGroupBody p m = (setReg (rWRP_GRP_POSE (bits (par p 0) 12 8)) (par p 1) m, ok []) := by
  simp [poseGroupBody, hword, hpose, Nat.not_le.mpr hgroup]

theorem poseTileBody_of_clean (hword : clean (par p 0) [(12, 8), (1, 0)] = true) (htile : bits (par p 0) 12 8 < 24) :
    poseTileBody p m = (setReg (rWRP_TILE_K (bits (par p 0) 12 8)) (par p 1) m, ok []) := by
  simp [poseTileBody, hword, Nat.not_le.mpr htile]

/-- R143: a message is answered OK, and taken where host messages are enabled. -/
theorem poseMsgBody_of_clean (hword : clean (par p 0) [(31, 16), (1, 0)] = true) :
    poseMsgBody p m = (when (hostEn m) (takeMsg p.t (bits (par p 0) 31 16) (bit (par p 0) 0) (bit (par p 0) 1) (angle (par p 1).toNat)
      (angle (par p 2).toNat)) m, ok []) := by
  cases hen : hostEn m <;> simp [poseMsgBody, hword, hen, when]

/-! ### Samples (R144) -/

/-- The transaction that ends now is on record. -/
def imuEnded (m : Mach) : Mach :=
  setPose (fun s => { s with xfer := some (m.now - imuLength m, m.now), cmdSent := getF m rWRP_IMU_XFER fWRP_IMU_XFER_CMD }) m

/-- A period that passes without a transaction is missed. -/
theorem imuSample_nil (hen : imuEn m = true) (hmisses : imuMisses m = true) :
    imuSample [] m = missImu (setPose (fun s => { s with missAt := m.now }) m) := by
  simp [imuSample, hen, hmisses, when]

/-- What a transaction that can end brings is looked at in the state before it: a valid sample is taken, any other is a missed period. -/
theorem imuSample_ends (hbytes : bytes ≠ []) (hen : imuEn m = true) (hends : imuEnds m = true) :
    imuSample bytes m = if imuValid m bytes then takeImu bytes (imuEnded m) else missImu (imuEnded m) := by
  have hvalid : imuValid (imuEnded m) bytes = imuValid m bytes := rfl
  rw [← hvalid]
  simp only [imuSample, hen, hends, List.isEmpty_eq_false_iff.mpr hbytes, Bool.not_true, Bool.false_eq_true, if_false]
  rfl

/-! ### Timeouts (R142) -/

theorem exec_hostPoseTimeout (t : Nat) (s : State) : exec (.hostPoseTimeout t) s = runEvent t (fun m =>
    if hostEn m && m.pix.pose.hostOk &&
        decide (m.pix.pose.msgAt.getD m.bornAt + ms (getF m rWRP_POSE_CFG fWRP_POSE_CFG_TMO) ≤ m.now) then
      updateMode (setPose (fun s => { s with hostOk := false }) m)
    else m) s := rfl

theorem exec_imuOnlyTimeout (t : Nat) (s : State) : exec (.imuOnlyTimeout t) s = runEvent t (fun m =>
    if poseMode m == 3 && decide (m.pix.pose.imuOnlyAt + sec 2 < m.now) then
      updateMode (setPose (fun s => { s with overlong := true }) m)
    else m) s := rfl

end Sys2Proof.Machine

open Sys2Proof Sys2Proof.Machine

/-- Settles O16: the packets by their bodies, a sample by whether it brings bytes and whether they are valid, a timeout by its condition. -/
theorem poseRowsComplete : Obligations.PoseRowsComplete := by
  refine ⟨answers_of_body (fun _ _ => rfl) ?config, answers_of_body (fun _ _ => rfl) ?group, answers_of_body (fun _ _ => rfl) ?tile,
    answers_of_body (fun _ _ => rfl) ?message, ⟨happens_of_event (fun _ _ => rfl) ?missed,
      fun bytes hbytes => happens_of_event (fun _ _ => rfl) ?valid, fun bytes hbytes => happens_of_event (fun _ _ => rfl) ?invalid⟩,
    happens_of_event exec_hostPoseTimeout ?host, happens_of_event exec_imuOnlyTimeout ?imuOnly⟩
  case config =>
    rintro p m ⟨hlen, hform, hcfg, hfb, himu, hxfer⟩
    rw [withLen_ok (by simp [hlen])]
    exact poseConfigBody_of_ranges hform hcfg hfb himu hxfer
  case group =>
    rintro p m ⟨hlen, hword, hgroup, hpose⟩
    rw [withLen_ok (by simp [hlen])]
    exact poseGroupBody_of_clean hword hgroup hpose
  case tile =>
    rintro p m ⟨hlen, hword, htile⟩
    rw [withLen_ok (by simp [hlen])]
    exact poseTileBody_of_clean hword htile
  case message =>
    rintro p m ⟨hlen, hword⟩
    rw [withLen_ok (by simp [hlen])]
    exact poseMsgBody_of_clean hword
  case missed =>
    rintro m ⟨hen, hmisses⟩
    exact imuSample_nil hen hmisses
  case valid =>
    rintro m ⟨hen, hends, hvalid⟩
    exact (imuSample_ends hbytes hen hends).trans (if_pos hvalid)
  case invalid =>
    rintro m ⟨hen, hends, hinvalid⟩
    exact (imuSample_ends hbytes hen hends).trans (if_neg (Bool.eq_false_iff.mp hinvalid))
  case host =>
    rintro m ⟨hen, hok, hdue⟩
    exact if_pos (by simp [hen, hok, hdue])
  case imuOnly =>
    rintro m ⟨hmode, hdue⟩
    exact if_pos (by simp [hmode, hdue])
end

section
/-!
Bands (R37, R124, R146, R148, R177, R181, R193, R341): when one is latched or late, and what becomes of it.
-/

namespace Sys2Proof.Machine

variable {m : Mach} {g : Nat} {i : BandIn}

/-! ### The band that is due -/

/-- R341: a wrong check band raises the source of the engine that serves the band. -/
def bandChecked (env : BandEnv) (i : BandIn) (m : Mach) : Mach := when env.checkBad (raise (101 + engineOf m i.t i.b) noInst) m

/-- From its latch point on, the next band of a running group is kept where its engine is fenced, and composed otherwise. -/
theorem bandLatch_due {env : BandEnv} (hruns : grpRuns m g = true) (hin : bandIn m g env.tile = some i)
    (hpoint : latchPoint m i = true) (mem : Tab Byte) : bandLatch g env mem m =
    let n := bandChecked env i m
    if hasBit (getF n rPLC_ENG_MAP fPLC_ENG_MAP_FENCED) (engineOf m i.t i.b) then n |> keepBand i |> nextBand i
    else
      let r := bandPixels i (chainOf n i) env mem n
      n |> bandCounts i (chainOf n i).generic r |> bandStore i env.violation r |> nextBand i := by
  have hdue : (if grpRuns m g then (bandIn m g env.tile).filter (latchPoint m) else none) = some i := by
    rw [if_pos hruns, hin, Option.filter_some, if_pos hpoint]
  rw [bandLatch, hdue]
  rfl

theorem exec_bandLatch (t : Nat) (g : Fin 8) (env : BandEnv) (s : State) :
    exec (.bandLatch t g env) s = runEvent t (bandLatch g env s.mem) s := rfl

/-! ### A band that is late (R148) -/

/-- A waiting transfer that is too late is dropped and counted. -/
theorem bandLate_waiting {t b : Nat} (hruns : grpRuns m g = true) (hgroup : groupOf m t = some g)
    (hwaits : tget [] (pixOf m t).waiting b ≠ []) (hlate : bandTooLate m g (waitingFrame m g t b) b = true) :
    bandLate g t b m =
      (m |> setTilePix t { pixOf m t with waiting := tput [] (pixOf m t).waiting b [] } |> countLate g) := by
  simp [bandLate, hruns, hgroup, hwaits, hlate, when]

/-- A band of the present frame that has not been latched in time is passed over and counted. -/
theorem bandLate_unlatched {t : Nat} (hruns : grpRuns m g = true) (hgroup : groupOf m t = some g)
    (hnone : tget [] (pixOf m t).waiting i.b = []) (hin : bandIn m g t = some i) (hracing : i.cfg.racing = true)
    (hframe : i.frame = frameOf m g) (hlate : transferLate m i = true) : bandLate g t i.b m = (m |> nextBand i |> countLate g) := by
  simp [bandLate, hruns, hgroup, hnone, hin, hracing, hframe, hlate]

end Sys2Proof.Machine

open Sys2Proof Sys2Proof.Machine

/-- Settles O42: a latch by whether the band's engine is fenced after its check band, a late band by whether it waits for its transfer. -/
theorem bandRowsComplete : Obligations.BandRowsComplete := by
  refine ⟨?composed, ?fenced, fun g tile b => happens_of_event (fun _ _ => rfl) ?waiting,
    fun g tile i => happens_of_event (fun _ _ => rfl) ?unlatched⟩
  case composed =>
    intro t g env i s m n hruns hin hpoint hserves r
    rw [exec_bandLatch, runEvent_next, bandLatch_due hruns hin hpoint]
    dsimp only [bandChecked]
    rw [if_neg (Bool.eq_false_iff.mp hserves)]
  case fenced =>
    intro t g env i s m n hruns hin hpoint hfenced
    rw [exec_bandLatch, runEvent_next, bandLatch_due hruns hin hpoint]
    dsimp only [bandChecked]
    rw [if_pos hfenced]
  case waiting =>
    rintro m ⟨hruns, hgroup, hwaits, hlate⟩
    exact bandLate_waiting hruns hgroup hwaits hlate
  case unlatched =>
    rintro m ⟨hruns, hgroup, hnone, hin, hracing, hframe, hlate⟩
    exact bandLate_unlatched hruns hgroup hnone hin hracing hframe hlate
end

section
/-!
The photometric loads (R157, R160, R180): what each row does with a buffer that passes its checks.
-/

namespace Sys2Proof.Machine

variable {p : Packet} {mem : Tab Byte} {m : Mach} {i t : Nat}

/-- A tile's uniformity map waits for its next latch, and is kept in flash (R157). -/
def keepUniformity (t : Nat) (codes : List Nat) (m : Mach) : Mach :=
  m |> setTilePix t { pixOf m t with unifNew := some codes } |> setFlash (fun s => { s with unif := tput [] s.unif t codes })

/-- The wear table is taken, and kept in flash (R160). -/
def keepWearTable (tab : List Nat) (m : Mach) : Mach :=
  m |> setPix (fun s => { s with wearTab := tab }) |> setFlash (fun s => { s with wearTab := tab })

/-- The codes of a transfer curve in a buffer, two bytes each (R180). -/
def curveCodes (mem : Tab Byte) (i : Nat) : List Nat := (List.range 4096).map (fun k => leNat (poolBytes mem i (2 * k) 2))

/-- A tile's transfer curve is taken, and kept in the settings (R180). -/
def keepCurve (t : Nat) (curve : List Nat) (m : Mach) : Mach :=
  m |> setTilePix t { pixOf m t with curve := curve } |> storeInSettings (fun s => { s with curves := tput [] s.curves t curve })

/-- A choice between two ends that leave the pool as it was is one of block and of reply. -/
theorem memRep_ite (c : Prop) [Decidable c] (a b : Mach) (r q : Rep) :
    (if c then (⟨mem, a, r⟩ : MemRep) else ⟨mem, b, q⟩) = ⟨mem, if c then a else b, if c then r else q⟩ := by
  split <;> rfl

/-- R157: a map of the tile's geometry is kept, unless there is flash and Beryl takes no more writes (R363). -/
theorem uniformityBody_of_held {g w h n : Nat} (htile : bits (par p 0) 4 0 = t) (hi : hIdx (par p 1).toNat = i)
    (hn : w * h * (if tileRgb m t then 3 else 1) = n) (hlen : p.params.length = 2) (hclean : clean (par p 0) [(4, 0)] = true)
    (ht : t < 24) (hgeom : tileGeom m t = some (g, w, h)) (hheld : bufRefused m (ctxN p) (par p 1).toNat = none)
    (hraw : rawBuf m i n = true) :
    uniformityBody p mem m =
      if flashThere m && !berylWrites m then ⟨mem, raise 316 noInst m, errW stINTERNAL (w32 316)⟩
      else ⟨mem, keepUniformity t (poolBytes mem i 0 n) m, ok []⟩ := by
  subst hn
  simp only [uniformityBody, hlen, hclean, withTileGeom_of_some htile ht hgeom, hheld, hi, hraw, ne_eq, not_true_eq_false,
    Bool.not_true, Bool.false_eq_true, if_false]
  rfl

/-- R160: a table that passes its checks is kept, unless there is flash and Beryl takes no more writes (R363). -/
theorem wearTableBody_of_held (hi : hIdx (par p 0).toNat = i) (hlen : p.params.length = 1)
    (hheld : bufRefused m (ctxN p) (par p 0).toNat = none) (hraw : rawBuf m i wearBytes = true)
    (htab : wearTabOk (poolBytes mem i 0 wearBytes) = true) :
    wearTableBody p mem m =
      if flashThere m && !berylWrites m then ⟨mem, raise 316 noInst m, errW stINTERNAL (w32 316)⟩
      else ⟨mem, keepWearTable (poolBytes mem i 0 wearBytes) m, ok []⟩ := by
  simp only [wearTableBody, hlen, hheld, hi, hraw, htab, ne_eq, not_true_eq_false, Bool.not_true, Bool.false_eq_true, if_false]
  rfl

/-- R180: a curve that rises is kept, unless Beryl takes no more writes (R363). -/
theorem curveBody_of_held (htile : bits (par p 0) 4 0 = t) (hi : hIdx (par p 1).toNat = i) (hlen : p.params.length = 2)
    (hclean : clean (par p 0) [(4, 0)] = true) (ht : t < 24) (hheld : bufRefused m (ctxN p) (par p 1).toNat = none)
    (hraw : rawBuf m i 8192 = true) (hrises : curveRises (curveCodes mem i) (tileRgb m t) = true) :
    curveBody p mem m =
      if !berylWrites m then ⟨mem, raise 314 noInst m, errW stINTERNAL (w32 314)⟩
      else ⟨mem, keepCurve t (curveCodes mem i) m, ok []⟩ := by
  rw [curveCodes] at hrises
  simp only [curveBody, hlen, hclean, hheld, htile, hi, hraw, hrises, Nat.not_le.mpr ht, ne_eq, not_true_eq_false, decide_false,
    Bool.not_true, Bool.or_self, Bool.false_eq_true, if_false]
  rfl

end Sys2Proof.Machine

open Sys2Proof Sys2Proof.Machine

/-- Settles O17: what passes its checks is kept, and what Beryl can no longer write is answered INTERNAL. -/
theorem photometricLoadsComplete : Obligations.PhotometricLoadsComplete := by
  refine ⟨fun g w h => answersMem_of_body (fun _ _ => rfl) ?map (fun _ _ _ => by split <;> rfl),
    answersMem_of_body (fun _ _ => rfl) ?table (fun _ _ _ => by split <;> rfl),
    answersMem_of_body (fun _ _ => rfl) ?curve (fun _ _ _ => by split <;> rfl)⟩
  case map =>
    rintro p mem m ⟨hlen, hclean, ht, hgeom, hheld, hraw⟩
    rw [uniformityBody_of_held rfl rfl rfl hlen hclean ht hgeom hheld hraw, memRep_ite]
    rfl
  case table =>
    rintro p mem m ⟨hlen, hheld, hraw, htab⟩
    rw [wearTableBody_of_held rfl hlen hheld hraw htab, memRep_ite]
    rfl
  case curve =>
    rintro p mem m ⟨hlen, hclean, ht, hheld, hraw, hrises⟩
    rw [curveBody_of_held rfl rfl hlen hclean ht hheld hraw hrises]
    cases berylWrites m <;> rfl
end

section
/-!
Wear, repair, derating and the checks of stored data (R162, R168, R170, R175 to R178, R180): what each row does where nothing refuses it.
-/

namespace Sys2Proof.Machine

variable {p : Packet} {m : Mach}

theorem withTile_of_lt {f : Nat → Mach → Mach × Rep} (h : bits (par p 0) 4 0 < 24) : withTile p f m = f (bits (par p 0) 4 0) m :=
  if_pos h

/-- R168: a repair word and its pairs that pass their checks are written, and every pair register that no word is for is reset. -/
theorem repairBody_of_checked (htwo : 2 ≤ p.params.length) (hlen : p.params.length = 2 + bits (par p 1) 3 0)
    (hcount : clean (par p 1) [(3, 0)] = true) (hmost : bits (par p 1) 3 0 ≤ 12) (hword : clean (par p 0) [(31, 8)] = true)
    (hspread : fget (par p 0) fPHO_REPAIR_CFG_SPREAD ≤ 0x8000) (hpairs : (p.params.drop 2).all pairOk = true)
    (hgroups : pairGroups m (p.params.drop 2) = true) (honce : namedTwice (pairTiles (p.params.drop 2)) = false) :
    repairBody p m = (m |> setReg rPHO_REPAIR_CFG (par p 0) |> forEach (List.range 12) (fun k =>
      setReg (rPHO_OVL_PAIR k) ((p.params.drop 2).getD k (regReset (rPHO_OVL_PAIR k)))), ok []) := by
  have hright : ¬(p.params.length < 2 ∨ p.params.length ≠ 2 + bits (par p 1) 3 0) := by omega
  simp only [repairBody, if_neg hright, hcount, hmost, hword, hspread, hpairs, hgroups, honce, decide_true, Bool.not_false,
    Bool.and_self, require_ok]

/-- R178: the zone words of a valid set are answered behind its MAP_CRC. -/
theorem complianceReadBody_of_valid {set : MapSet} (hword : clean (par p 0) [(9, 8), (4, 0)] = true) (hsome : 1 ≤ (par p 2).toNat)
    (ht : bits (par p 0) 4 0 < 24) (hset : tget {} (pixOf m (bits (par p 0) 4 0)).sets (bits (par p 0) 9 8) = set)
    (hvalid : mapValid m (bits (par p 0) 4 0) (bits (par p 0) 9 8) = true)
    (hzones : (par p 1).toNat + (par p 2).toNat ≤ zoneCount set.w set.h) :
    complianceReadBody p m = (m, ok (set.crc :: (set.zones.drop (par p 1).toNat).take (par p 2).toNat)) := by
  subst hset
  simp only [complianceReadBody, hword, hsome, decide_true, Bool.and_self, require_ok, withTile_of_lt ht, hvalid, Bool.not_true,
    Bool.false_eq_true, if_false, if_neg (Nat.not_lt.mpr hzones)]

/-- R175, step 5: the first set that waits is written. -/
theorem mapPersist_first {t b : Nat} {rest : List Nat} (hwrites : berylWrites m = true) (hwaits : (pixOf m t).toFlash = b :: rest) :
    mapPersist t true m = (m |> setTilePix t { pixOf m t with toFlash := rest } |>
      setFlash (fun s => { s with maps := tput {} s.maps (4 * t + b) (tget {} (pixOf m t).sets b) })) := by
  simp only [mapPersist, hwrites, hwaits, Bool.not_true, Bool.false_eq_true, if_false, if_true]

theorem exec_mapPersist (t : Nat) (tile : Fin 24) (ok : Bool) (s : State) :
    exec (.mapPersist t tile ok) s = runEvent t (fun m => when (!topazStopped m) (mapPersist tile ok) m) s := rfl

/-- R177: a set that no longer agrees with its MAP_CRC is not valid. -/
theorem mapBad_of_lt (t : Fin 24) (b : Fin 4) : mapBad (t.val, b.val) m =
    setF (rPHO_MAP_STAT t) fPHO_MAP_STAT_VALID (clrBit (getF m (rPHO_MAP_STAT t) fPHO_MAP_STAT_VALID) b) m := by
  simp only [mapBad, t.isLt, b.isLt, decide_true, Bool.and_self, when, if_true]

/-- An event of Onyx takes effect while Onyx acts (R309). -/
theorem happens_of_onyx {row : Nat → Instr} {f : Mach → Mach} {guard : Mach → Prop} {eff : Mach → Mach}
    (hrow : ∀ t s, exec (row t) s = runOnyx t f s) (hacts : ∀ m, guard m → onyxActs m = true)
    (hf : ∀ m, guard m → f m = eff m) : Happens row guard eff :=
  happens_of_event hrow fun m hm => (if_pos (hacts m hm)).trans (hf m hm)

/-- The tiles among `bad` that have a curve (R180). -/
def curveTiles (bad : Nat) (m : Mach) : List Nat := (members 24 bad).filter (fun t => !(pixOf m t).curve.isEmpty)

theorem curveCheck_bad {bad : Nat} (h : curveTiles bad m ≠ []) :
    curveCheck bad m = forEach (curveTiles bad m) (fun t => raise 8 (detail t 0)) (causeOn 17 m) :=
  if_neg (mt List.isEmpty_iff.mp h)

theorem curveCheck_good {bad : Nat} (h : curveTiles bad m = []) : curveCheck bad m = causeOff 17 m :=
  if_pos (List.isEmpty_iff.mpr h)

end Sys2Proof.Machine

open Sys2Proof Sys2Proof.Machine

/-- Settles O18: the packets by their bodies, the checks of Onyx while it acts, and a curve check by whether a tile with a curve fails. -/
theorem photometricSettingsAndChecksComplete : Obligations.PhotometricSettingsAndChecksComplete := by
  refine ⟨answers_of_body (fun _ _ => rfl) ?snapshot, answers_of_body (fun _ _ => rfl) ?repair, answers_of_body (fun _ _ => rfl) ?derate,
    answers_of_body (fun _ _ => rfl) ?compliance, fun tile b rest => happens_of_event (fun t s => exec_mapPersist t tile true s) ?persist,
    fun tile b => happens_of_onyx (fun _ _ => rfl) (fun _ h => h) ?scan,
    fun bad => happens_of_onyx (fun _ _ => rfl) (fun _ h => h.1) fun m h => curveCheck_bad h.2,
    fun bad => happens_of_onyx (fun _ _ => rfl) (fun _ h => h.1) fun m h => curveCheck_good h.2⟩
  case snapshot =>
    rintro p m ⟨hlen, hnone⟩
    rw [withLen_ok (by simp [hlen]), hnone]
    rfl
  case repair =>
    rintro p m ⟨htwo, hlen, hcount, hmost, hword, hspread, hpairs, hgroups, honce⟩
    exact repairBody_of_checked htwo hlen hcount hmost hword hspread hpairs hgroups honce
  case derate =>
    rintro p m ⟨hlen, htile, hknee, hfloor, ht⟩
    rw [withLen_ok (by simp [hlen]), htile, hknee, decide_eq_true hfloor, Bool.and_self, Bool.and_self, require_ok, withTile_of_lt ht]
  case compliance =>
    rintro p m ⟨hlen, hword, hsome, ht, hvalid, hzones⟩
    rw [withLen_ok (by simp [hlen])]
    exact complianceReadBody_of_valid hword hsome ht rfl hvalid hzones
  case persist =>
    rintro m ⟨hruns, hwrites, hwaits⟩
    rw [hruns]
    exact mapPersist_first hwrites hwaits
  case scan =>
    intro m _
    exact congrArg mapCause (mapBad_of_lt tile b)
end

section
/-!
COMMIT, FRAME_SHOW and TIMING_SET (R90, R192, R196, R197, R202, R203, R370): what the body of each does where nothing refuses it.
-/

namespace Sys2Proof.Machine

variable {p : Packet} {m : Mach} {g : Nat}

/-! ### COMMIT -/

/-- R69, R370: a commit goes on where the context takes part in a group that runs, outside IDLE. -/
theorem commit_admitted {c : Nat} (htakes : takesPart m c g = true) (hruns : grpRuns m g = true) (hawake : m.pwr.st ≠ 1)
    (next : Mach × Rep) : (if !takesPart m c g then (m, err stNOT_OWNER)
      else if !grpRuns m g || m.pwr.st == 1 then stateReject m (rSCN_GRP_STAT g) else next) = next := by
  rw [htakes, hruns, beq_false_of_ne hawake]
  rfl

/-- Does a commit that is late, or not, miss the next latch of group `g` (R192)? -/
def missesLatch (late : Bool) (m : Mach) (g : Nat) : Bool := late && (lastLine m g || relocks m g)

/-- R192: a commit misses the next latch where it is late in the last line of the frame, or in any line of a group that is to lock again. -/
theorem missesLatch_eq (late : Bool) :
    missesLatch late m g = decide (late = true ∧ (lineOf m g + 1 = vtotal m g ∨ relocks m g = true)) := by
  rw [Bool.eq_iff_iff]
  simp only [missesLatch, lastLine, Bool.and_eq_true, Bool.or_eq_true, beq_iff_eq, decide_eq_true_eq]

/-- R197: the first frame to show a commit is the present one + 2, or + 3 where the commit misses the next latch. -/
theorem commitGroup_eq {late slow : Bool} (c : Nat) (hslow : missesLatch late m g = slow) :
    commitGroup c g late m =
      (m |> moveChanges c g slow |> setF (rSCN_COMMIT_STATUS g) fSCN_COMMIT_STATUS_REL (if slow then 2 else 1) |>
        setF (rSCN_COMMIT_STATUS g) fSCN_COMMIT_STATUS_CTX c |>
        setF (rSCN_COMMIT_STATUS g) fSCN_COMMIT_STATUS_FIRST ((frameOf m g + (if slow then 2 else 1) + 1) % 2 ^ 32) |> showPend g,
      ok [w32 ((frameOf m g + (if slow then 2 else 1) + 1) % 2 ^ 32), w32 (if slow then 2 else 1)]) := by
  have hfirst : frameOf m g + (if slow then 3 else 2) = frameOf m g + (if slow then 2 else 1) + 1 := by cases slow <;> rfl
  rw [missesLatch] at hslow
  simp only [commitGroup, hslow, hfirst]

/-! ### TIMING_SET -/

/-- R203: a group that does not run takes its timing at once, and starts if it is enabled and step B7 has passed. -/
theorem acceptTiming_stopped {ws : List Word} (hstopped : grpRuns m g = false) : acceptTiming g ws m =
    setGrp g { grpOf (applyTiming g ws m) g with
      starting := enabledGrp (applyTiming g ws m) g && (applyTiming g ws m).saf.started, startAt := (applyTiming g ws m).now }
      (applyTiming g ws m) := by
  rw [acceptTiming, hstopped]
  rfl

/-- R203: a running group keeps its timing for its next latch. -/
theorem acceptTiming_running {ws : List Word} (hruns : grpRuns m g = true) :
    acceptTiming g ws m = setGrp g { grpOf m g with tset := some ws } m := if_pos hruns

/-- R202, R370: words that pass the checks, and enable no group in IDLE or during a calibration, are accepted; the reply of a running group
waits for the latch. -/
theorem timingSetBody_of_checked (hclean : clean (par p 0) [(4, 0)] = true) (hg : bits (par p 0) 4 0 = g) (hgroup : g < 8)
    (hchecked : timingRefused m g (p.params.drop 1) = none)
    (henables : fget ((p.params.drop 1).getD 3 0) fSCN_RATE_EN ≠ 0 → m.pwr.st ≠ 1 ∧ pending m .cal = false) :
    timingSetBody p m = if grpRuns m g then
        ({ acceptTiming g (p.params.drop 1) m with pends := (acceptTiming g (p.params.drop 1) m).pends ++
          [⟨.timing, g, some (replyTo (native 0x32 1 .topaz .h0p false false) p)⟩] }, later)
      else (acceptTiming g (p.params.drop 1) m, ok []) := by
  subst hg
  have hawake : (fget ((p.params.drop 1).getD 3 0) fSCN_RATE_EN != 0 && m.pwr.st == 1) = false := by
    simpa using fun hen => (henables hen).1
  have hfree : (fget ((p.params.drop 1).getD 3 0) fSCN_RATE_EN != 0 && pending m .cal) = false := by
    simpa using fun hen => (henables hen).2
  simp only [timingSetBody, hclean, require_ok, withGroup_of_lt hgroup, hchecked, hawake, hfree, Bool.false_eq_true, if_false]

end Sys2Proof.Machine

open Sys2Proof Sys2Proof.Machine

/-- Settles O13: the commits by whether they miss the next latch, and a timing set by whether its group runs. -/
theorem commitAndTimingRowsComplete : Obligations.CommitAndTimingRowsComplete := by
  refine ⟨fun late => answers_of_body (fun _ _ => rfl) ?commit, answers_of_body (fun _ _ => rfl) ?status,
    fun late => answers_of_body (fun _ _ => rfl) ?frame, answers_of_body (fun _ _ => rfl) ?stopped, ?running⟩
  case commit =>
    rintro p m ⟨hlen, hclean, hgroup, htakes, hruns, hawake⟩
    rw [withLen_ok (by simp [hlen]), commitBody, hclean, require_ok, withGroup_of_lt hgroup, commit_admitted htakes hruns hawake,
      commitGroup_eq _ (missesLatch_eq late)]
    simp only [decide_eq_true_eq]
  case status =>
    rintro p m ⟨hlen, hclean, hgroup⟩
    rw [withLen_ok (by simp [hlen]), hclean, require_ok, withGroup_of_lt hgroup]
  case frame =>
    rintro p m ⟨hlen, hon, htakes, hruns, hawake⟩
    rw [withLen_ok (by simp [hlen]), frameShowBody, hon, require_ok, commit_admitted htakes hruns hawake]
  case stopped =>
    rintro p m ⟨hlen, hclean, hgroup, hchecked, henables, hstopped⟩
    rw [withLen_ok (by simp [hlen]), timingSetBody_of_checked hclean rfl hgroup hchecked henables, hstopped,
      acceptTiming_stopped hstopped]
    rfl
  case running =>
    intro p s m o g hstart hlen hclean hgroup hchecked henables hruns
    have hbody : withLen (· == 7) timingSetBody p m = _ := (withLen_ok (by simp [hlen])).trans
      ((timingSetBody_of_checked hclean rfl hgroup hchecked henables).trans (if_pos hruns))
    rw [acceptTiming_running hruns] at hbody
    have hrow : exec (.timingSet p) s = runDratus (.timingSet p) o noReply (withLen (· == 7) timingSetBody) p s := rfl
    rw [hrow, runDratus_starts hstart, hbody]
    rfl
end

section
/-!
PORT_CONFIG, PORT_STATUS and PORT_LOOPBACK (R232, R234, R244, R245): what the body of each does where nothing refuses it.
-/

namespace Sys2Proof.Machine

variable {p : Packet} {m : Mach} {k : Nat}

theorem withPort_of_lt {f : Nat → Mach → Mach × Rep} (hk : bits (par p 0) 4 0 = k) (h : k < 24) : withPort p f m = f k m := by
  subst hk
  exact if_pos h

/-- R244, R245: a free port takes its five words while no calibration runs, and then acts on them. -/
theorem portConfigBody_of_free (hk : bits (par p 0) 4 0 = k) (hclean : clean (par p 0) [(4, 0)] = true) (hcfg : portCfgOk p = true)
    (h : k < 24) (hfree : portFree m k = true) (hcal : pending m .cal = false) :
    portConfigBody p m = (m |> txLate k |> setReg (rCPL_CFG k) (par p 1) |> setReg (rCPL_TXEQ k) (par p 2) |>
      setReg (rCPL_RXEQ_CFG k) (par p 3) |> setReg (rCPL_DET_CFG k) (par p 4) |> setReg (rCPL_IDLE_CFG k) (par p 5) |> applyPort k,
      ok []) := by
  simp only [portConfigBody, hclean, hcfg, Bool.and_self, require_ok, withPort_of_lt hk h, hfree, hcal, Bool.true_eq_false,
    Bool.false_eq_true, if_false]

/-- R234: a loopback is selected on a free port, and ended on any, while no calibration runs. -/
theorem loopBody_of_free {mode : Nat} (hk : bits (par p 0) 4 0 = k) (hclean : clean (par p 0) [(10, 8), (4, 0)] = true)
    (hmode : bits (par p 0) 10 8 = mode) (h : k < 24) (hfree : mode ≠ 0 → portFree m k = true) (hcal : pending m .cal = false) :
    loopBody mode p m = (setLoopback k mode m, ok []) := by
  have htaken : ¬(mode ≠ 0 ∧ portFree m k = false) := fun hno => by simp [hfree hno.1] at hno
  rw [loopBody, hclean, hmode, beq_self_eq_true, Bool.and_self, require_ok, withPort_of_lt hk h, if_neg htaken, hcal]
  rfl

/-- Every row of PORT_LOOPBACK selects its own mode. -/
theorem answers_loopRow {row : Packet → Instr} {mode : Nat} (hrow : ∀ p s, exec (row p) s = loopRow (row p) mode p s) :
    Answers row (native 0x52 1 .topaz .h0p false false) noReply
      (fun p m =>
        let k := bits (par p 0) 4 0
        p.params.length = 1 ∧ clean (par p 0) [(10, 8), (4, 0)] = true ∧ bits (par p 0) 10 8 = mode ∧ k < 24 ∧
        (mode ≠ 0 → portFree m k = true) ∧ pending m .cal = false)
      (fun _ _ => ok []) (fun p m => setLoopback (bits (par p 0) 4 0) mode m) := by
  refine answers_of_body hrow ?_
  rintro p m ⟨hlen, hclean, hmode, hk, hfree, hcal⟩
  rw [withLen_ok (by simp [hlen])]
  exact loopBody_of_free rfl hclean hmode hk hfree hcal

end Sys2Proof.Machine

open Sys2Proof Sys2Proof.Machine

/-- Settles O20: the named port is one of the 24, free where it has to be, so what is left of each row is its effect. -/
theorem portCommandsComplete : Obligations.PortCommandsComplete := by
  refine ⟨answers_of_body (fun _ _ => rfl) ?config, answers_of_body (fun _ _ => rfl) ?status, ?loops⟩
  case config =>
    rintro p m ⟨hlen, hclean, hcfg, hk, hfree, hcal⟩
    rw [withLen_ok (by simp [hlen])]
    exact portConfigBody_of_free rfl hclean hcfg hk hfree hcal
  case status =>
    rintro p m ⟨hlen, hclean, hk⟩
    rw [withLen_ok (by simp [hlen]), hclean, require_ok, withPort_of_lt rfl hk]
    rfl
  case loops =>
    simp only [List.forall_mem_cons, List.not_mem_nil, false_implies, implies_true, and_true]
    exact ⟨answers_loopRow fun _ _ => rfl, answers_loopRow fun _ _ => rfl, answers_loopRow fun _ _ => rfl,
      answers_loopRow fun _ _ => rfl, answers_loopRow fun _ _ => rfl⟩
end

section
/-!
The eye monitor, twin pairs and spares (R236, R237, R239 to R244): what each row does where nothing refuses it and it is due.
-/

namespace Sys2Proof.Machine

variable {p : Packet} {m : Mach}

/-! ### Packets -/

/-- R239: two ports in tile role with the same rates, in no pair and no spare, become the pair of a tile. -/
theorem twinBody_set {a b t : Nat} (ha : bits (par p 1) 4 0 = a) (hb : bits (par p 1) 12 8 = b) (ht : bits (par p 0) 4 0 = t)
    (hclean : clean (par p 0) [(31, 31), (4, 0)] = true) (hen : bit (par p 0) 31 = true)
    (hports : clean (par p 1) [(12, 8), (4, 0)] = true) (htile : t < 24) (halt : a < 24) (hblt : b < 24) (hne : a ≠ b)
    (harole : getF m (rCPL_CFG a) fCPL_CFG_ROLE = 1) (hbrole : getF m (rCPL_CFG b) fCPL_CFG_ROLE = 1) (hrates : sameRates m a b = true)
    (hafree : pairedPort m a = false) (hbfree : pairedPort m b = false) :
    twinBody true p m = (setTwin t (par p 1 ||| 0x80000000) m, ok []) := by
  subst ha hb ht
  simp [twinBody, hclean, hen, hports, require_ok, withTile_of_lt htile, Nat.not_le.mpr halt, Nat.not_le.mpr hblt, hne, harole, hbrole,
    hrates, hafree, hbfree]

/-- R244: EN = 0 removes the pair of a tile. -/
theorem twinBody_remove {t : Nat} (ht : bits (par p 0) 4 0 = t) (hclean : clean (par p 0) [(31, 31), (4, 0)] = true)
    (hen : bit (par p 0) 31 = false) (hports : clean (par p 1) [(12, 8), (4, 0)] = true) (htile : t < 24) :
    twinBody false p m = (setTwin t (par p 1 &&& 0x1F1F) m, ok []) := by
  subst ht
  rw [twinBody, hclean, hen, hports, beq_self_eq_true, Bool.and_self, Bool.and_self, require_ok, withTile_of_lt htile]
  rfl

/-! ### Events -/

/-- A row of its own that runs as `run` takes the effect that its event has under the guard. -/
theorem happens_of_run {row : Nat → Instr} (run : Nat → State → Host.Outcome State Fault Refusal) {f : Mach → Mach}
    {guard : Mach → Prop} {eff : Mach → Mach} (hrun : ∀ t s, run t s = runEvent t f s) (hf : ∀ m, guard m → f m = eff m)
    (hrow : ∀ t s, exec (row t) s = run t s := by intros; rfl) : Happens row guard eff :=
  happens_of_event (fun t s => (hrow t s).trans (hrun t s)) hf

end Sys2Proof.Machine

open Sys2Proof Sys2Proof.Machine

/-- Settles O21: the packets by their bodies, and each event by the conditions under which it is due. -/
theorem eyeTwinAndSpareRowsComplete : Obligations.EyeTwinAndSpareRowsComplete := by
  refine ⟨answers_of_body (fun _ _ => rfl) ?scan,
    fun k width height => happens_of_run (execEyeScanDone · k width height) (fun _ _ => rfl) ?done,
    answers_of_body (fun _ _ => rfl) ?twin, answers_of_body (fun _ _ => rfl) ?remove, answers_of_body (fun _ _ => rfl) ?spares,
    fun tile k => happens_of_run (execSpareBringIn · tile) (fun _ _ => rfl) ?bringIn,
    fun tile => happens_of_run (execTwinRejoin · tile) (fun _ _ => rfl) ?rejoin,
    fun tile port k => happens_of_run (execSpareReturn · tile) (fun _ _ => rfl) ?giveBack⟩
  case scan =>
    rintro p m ⟨hlen, hclean, hk, hstate, hscan, hcal⟩
    rw [withLen_ok (by simp [hlen]), hclean, require_ok, withPort_of_lt rfl hk, if_neg (fun hno => hstate.elim hno.1 hno.2), hscan, hcal]
    rfl
  case done =>
    intro m hasked
    exact if_neg (by simp [hasked])
  case twin =>
    rintro p m ⟨hlen, hclean, hen, hports, htile, ha, hb, hne, harole, hbrole, hrates, hafree, hbfree⟩
    rw [withLen_ok (by simp [hlen])]
    exact twinBody_set rfl rfl rfl hclean hen hports htile ha hb hne harole hbrole hrates hafree hbfree
  case remove =>
    rintro p m ⟨hlen, hclean, hen, hports, htile⟩
    rw [withLen_ok (by simp [hlen])]
    exact twinBody_remove rfl hclean hen hports htile
  case spares =>
    rintro p m ⟨hlen, hclean, hmost, hok⟩
    rw [if_neg (not_not_intro hlen), hclean, decide_eq_true hmost, hok]
    rfl
  case bringIn =>
    rintro m ⟨hspare, hdown, hlate⟩
    simp only [hspare, hdown, Nat.not_lt.mpr hlate, decide_false, Bool.or_self, Bool.false_eq_true, if_false]
  case rejoin =>
    rintro m ⟨hen, hstat⟩
    exact if_pos (by simp [hen, hstat])
  case giveBack =>
    rintro m ⟨hformer, hup, hspare⟩
    simp only [hformer, hspare, hup, if_true]
end

section
/-!
The blocks that a port receives (R211, R212, R219, R220, R226 to R235): what each does where its port takes it.
-/

namespace Sys2Proof.Machine

variable {b : Blk} {m : Mach} {p : Nat}

/-! ### Port states -/

theorem loopActive_inLoop (h : loopActive m p = true) : portState m p = 8 := by
  rw [loopActive] at h
  split at h
  · exact beq_iff_eq.mp (Bool.and_eq_true_iff.mp h).1
  · cases h

/-- R233: only a port in LOOP returns blocks. -/
theorem not_returns_of_state (h : portState m p ≠ 8) : returns m p = false := by
  rw [returns, Bool.and_eq_false_iff]
  exact .inl (Bool.eq_false_iff.mpr fun hloop => h (loopActive_inLoop hloop))

theorem not_returns_of_mode (h : (portOf m p).loopMode ≠ 4) : returns m p = false := by
  rw [returns, beq_false_of_ne h, Bool.and_false]

/-- An event of a port has the effect that it has in the state in which it falls. -/
theorem portEvent_congr {rank : Nat} {f g : Mach → Mach} (h : f m = g m) : portEvent p rank f m = portEvent p rank g m := by
  simp only [portEvent, h]

/-- What acts on port `p` in UP alone. -/
def inUp (p : Nat) (f : Mach → Mach) (m : Mach) : Mach := when (portState m p == 4) f m

theorem inUp_up {f : Mach → Mach} (hup : portState m p = 4) : inUp p f m = f m := if_pos (beq_iff_eq.mpr hup)

/-! ### Reception -/

/-- R211: only a reserved OP comes in a LINK block. -/
theorem reservedBlk_of_type {type : Fin 16} (htype : type ≠ 6) : reservedBlk type b m = takeBlk type false b id m :=
  if_neg fun hsix : type.val = 6 => htype (Fin.ext hsix)

section
variable (h : BlkTaken b m)
include h

/-- What a block that carries data does once its SEQ has been checked. -/
theorem takeBlk_of_taken (type : Nat) (accept : Bool) (f : Mach → Mach) :
    takeBlk type accept b f m =
      if portState (seqTaken b m) b.port = 7 then resyncBreak b.port (when (!accept) (countType b.port) (seqTaken b m))
      else if returns (seqTaken b m) b.port then returnBlk b.port type b (seqTaken b m)
      else if !accept then countType b.port (seqTaken b m)
      else if portState (seqTaken b m) b.port = 4 then f (seqTaken b m) else seqTaken b m := by
  have hunfold : takeBlk type accept b f m = if !receives m b.port then m else if !(blkHeard b m).1 then (blkHeard b m).2 else _ := rfl
  obtain ⟨hreceives, htaken⟩ := h
  rw [hunfold, hreceives, htaken]
  rfl

theorem takeBlk_inUp {f : Mach → Mach} {accept : Bool} (type : Nat) (haccept : accept = true)
    (hup : portState (seqTaken b m) b.port = 4) : takeBlk type accept b f m = f (seqTaken b m) := by
  subst haccept
  simp [takeBlk_of_taken h, hup, not_returns_of_state]

/-- R211: a block of a type that is not accepted is counted. -/
theorem takeBlk_refused {f : Mach → Mach} (type : Nat) (hstate : portState (seqTaken b m) b.port ≠ 7)
    (hreturns : returns (seqTaken b m) b.port = false) : takeBlk type false b f m = countType b.port (seqTaken b m) := by
  simp [takeBlk_of_taken h, hstate, hreturns]

/-- R211, R231: in RESYNC it is counted too, and may end the resync. -/
theorem takeBlk_refused_inResync {f : Mach → Mach} (type : Nat) (hstate : portState (seqTaken b m) b.port = 7) :
    takeBlk type false b f m = resyncBreak b.port (countType b.port (seqTaken b m)) := by
  simp [takeBlk_of_taken h, hstate, when]

/-- A LINK block acts on a port that does not return it. -/
theorem takeLink_of_taken {f : Mach → Mach} (hacts : (returns (seqTaken b m) b.port && !endsLoop b) = false) :
    takeLink b f m = f (seqTaken b m) := by
  have hunfold : takeLink b f m = if !receives m b.port then m else if !(blkHeard b m).1 then (blkHeard b m).2
      else if returns (seqTaken b m) b.port && !endsLoop b then returnBlk b.port 6 b (seqTaken b m) else f (seqTaken b m) := rfl
  obtain ⟨hreceives, htaken⟩ := h
  rw [hunfold, hreceives, htaken, hacts]
  rfl

theorem takeLink_not_returned {f : Mach → Mach} (hreturns : returns (seqTaken b m) b.port = false) :
    takeLink b f m = f (seqTaken b m) :=
  takeLink_of_taken h (by rw [hreturns, Bool.false_and])

/-- A LINK block that acts in UP alone takes its effect there. -/
theorem takeLink_inUp {f : Mach → Mach} (hup : portState (seqTaken b m) b.port = 4) :
    takeLink b (inUp b.port f) m = f (seqTaken b m) :=
  (takeLink_not_returned h (not_returns_of_state (by simp [hup]))).trans (inUp_up hup)

/-- R106: the stream content of a PIXEL block that a host port in UP takes goes to the pool. -/
theorem pixelBlk_of_taken (mem : Tab Byte) (hup : portState m b.port = 4) (hhost : hostRole m b.port = true) :
    pixelBlk b mem m = streamPixels b.port (wordsBytes (pad64 b.words)) mem (seqTaken b m) := by
  have hunfold : pixelBlk b mem m = if receives m b.port && portState m b.port == 4 && hostRole m b.port then
      if (blkHeard b m).1 then streamPixels b.port (wordsBytes (pad64 b.words)) mem (seqTaken b m) else (mem, (blkHeard b m).2)
      else (mem, takeBlk 1 (hostRole m b.port) b id m) := rfl
  obtain ⟨hreceives, htaken⟩ := h
  rw [hunfold, hreceives, htaken, hup, hhost]
  rfl

/-- R233: LOOP_REQ with its bit set puts a port in UP that accepts it into the far-end loop. -/
theorem loopReq_begins (hmode : getF (seqTaken b m) (rCPL_LOOP b.port) fCPL_LOOP_MODE = 4) (hbegin : bit (blkWord b 1) 0 = true)
    (hup : portState (seqTaken b m) b.port = 4) :
    takeLink b (loopReq b) m = portEvent b.port 7 (enterLoop b.port 4) (seqTaken b m) := by
  rw [takeLink_not_returned h (not_returns_of_state (by simp [hup])), loopReq, if_neg (not_not_intro hmode), if_pos hbegin, hup]
  rfl

/-- R233: LOOP_REQ with its bit clear ends the far-end loop, and is not returned. -/
theorem loopReq_ends (hmode : getF (seqTaken b m) (rCPL_LOOP b.port) fCPL_LOOP_MODE = 4) (hop : bits (blkWord b 0) 31 24 = 4)
    (hend : bit (blkWord b 1) 0 = false) (hloop : portState (seqTaken b m) b.port = 8) :
    takeLink b (loopReq b) m = portEvent b.port 7 (toTrain b.port) (seqTaken b m) := by
  have hends : endsLoop b = true := by
    rw [blkWord] at hop hend
    rw [endsLoop, hop, hend]
    rfl
  rw [takeLink_of_taken h (by rw [hends, Bool.not_true, Bool.and_false]), loopReq, if_neg (not_not_intro hmode), hend, hloop]
  rfl

end

/-! ### FILL (R220) -/

/-- The block after the SEQ of a FILL has been checked. -/
def fillSeen (b : Blk) (m : Mach) : Mach := m |> heard b.port |> freezeEq b.port |> checkSeqIn b.port b.seq b.seq

/-- R231: a FILL before 10 µs of a resync ends it in full training. -/
theorem fillBlk_inResync (hreceives : receives m b.port = true) (hstate : portState (fillSeen b m) b.port = 7)
    (hearly : (fillSeen b m).now < (portOf (fillSeen b m) b.port).resyncAt + us 10) :
    fillBlk b m = portEvent b.port 7 (retrain b.port) (fillSeen b m) := by
  rw [fillBlk, hreceives]
  exact (if_pos hstate).trans (if_pos (decide_eq_true hearly))

/-- R220: the elastic buffer of a port that carries data deletes or inserts a FILL as its level asks. -/
theorem fillBlk_inData (hreceives : receives m b.port = true) (hstate : portState (fillSeen b m) b.port ≠ 7)
    (hworks : ebWorks (fillSeen b m) b.port = true) :
    fillBlk b m =
      let n := fillSeen b m |> when (returns (fillSeen b m) b.port) (txFill b.port)
      let n := n |> setPort b.port { portOf n b.port with noFill := 0 } |> ebDrift b.port
      let level := getF n (rCPL_EB b.port) fCPL_EB_LEVEL
      if 6 ≤ level then n |> bump (rCPL_EB b.port) fCPL_EB_DEL |> setF (rCPL_EB b.port) fCPL_EB_LEVEL (level - 1)
      else ebInsert b.port n := by
  rw [fillBlk, hreceives]
  exact (if_neg hstate).trans (if_neg (ne_true_of_eq_false (congrArg not hworks)))

/-! ### TRAIN (R228, R229, R231) -/

/-- The block after a TRAIN marker has been heard. -/
def markerSeen (b : Blk) (m : Mach) : Mach := m |> heard b.port |> freezeEq b.port

section
variable (hreceives : receives m b.port = true) (hreturns : returns (markerSeen b m) b.port = false)
  (hstate : portState (markerSeen b m) b.port = 6) (hfirst : (portOf (markerSeen b m) b.port).markers ≠ 0)
  (hsecond : (portOf (markerSeen b m) b.port).markers = b.seq)
include hreceives hreturns hstate hfirst hsecond

/-- The second of two consecutive markers ends the exit from idle: in UP after an idle that was short enough, else in RESYNC. -/
theorem trainMarker_second :
    trainMarker b m = portEvent b.port 7 (fun n =>
      if n.now - (portOf (markerSeen b m) b.port).rxIdleAt ≤ us (idleEff n b.port) then
        n |> bump (rCPL_TRAIN_CNT b.port) fCPL_TRAIN_CNT_FAST |> toUp b.port false
      else n |> setPort b.port { portOf (markerSeen b m) b.port with resyncAt := n.now, seqs := 0 } |> setPortState b.port 7)
      (markerSeen b m) := by
  rw [trainMarker, hreceives]
  refine (if_neg (ne_true_of_eq_false hreturns)).trans ?_
  exact (if_neg (not_not_intro hstate)).trans (if_neg (not_or.mpr ⟨hfirst, not_not_intro hsecond⟩))

theorem trainMarker_shortIdle
    (hshort : (markerSeen b m).now - (portOf (markerSeen b m) b.port).rxIdleAt ≤ us (idleEff (markerSeen b m) b.port)) :
    trainMarker b m = portEvent b.port 7 (fun n => n |> bump (rCPL_TRAIN_CNT b.port) fCPL_TRAIN_CNT_FAST |> toUp b.port false)
      (markerSeen b m) :=
  (trainMarker_second hreceives hreturns hstate hfirst hsecond).trans (portEvent_congr (if_pos hshort))

theorem trainMarker_longIdle
    (hlong : us (idleEff (markerSeen b m) b.port) < (markerSeen b m).now - (portOf (markerSeen b m) b.port).rxIdleAt) :
    trainMarker b m = portEvent b.port 7 (fun n => n |> setPort b.port { portOf n b.port with resyncAt := n.now, seqs := 0 } |>
      setPortState b.port 7) (markerSeen b m) :=
  (trainMarker_second hreceives hreturns hstate hfirst hsecond).trans (portEvent_congr (if_neg (Nat.not_le.mpr hlong)))

end

end Sys2Proof.Machine

open Sys2Proof Sys2Proof.Machine

/-- Settles O22: the rows by what the port's state and role make of the block that it takes, and FILL and TRAIN, which no elastic buffer
holds back, by theirs. -/
theorem receivedBlocksComplete : Obligations.ReceivedBlocksComplete := by
  intro b p filled
  refine ⟨happens_of_event (f := fillBlk b) (fun _ _ => rfl) ?fill, happens_of_event (f := fillBlk b) (fun _ _ => rfl) ?fillResync,
    ?pixel, happens_of_event (f := fun m => takeBlk 2 (hostRole m p) b (streamRow p (bits (blkWord b 0) 11 0)) m) (fun _ _ => rfl) ?row,
    happens_of_event (f := fun m => takeBlk 3 (hostRole m p) b (streamFrame p) m) (fun _ _ => rfl) ?frame,
    fun type htype => happens_of_event (f := reservedBlk type b) (fun _ _ => rfl) ?type,
    fun type htype => happens_of_event (f := reservedBlk type b) (fun _ _ => rfl) ?typeResync,
    happens_of_event (f := reservedBlk 6 b) (fun _ _ => rfl) ?op, happens_of_event (f := trainSeqBlk b) (fun _ _ => rfl) ?trainSeq,
    ⟨happens_of_event (f := trainMarker b) (fun _ _ => rfl) ?short, happens_of_event (f := trainMarker b) (fun _ _ => rfl) ?long⟩,
    happens_of_event (f := takeLink b (inUp p fun n => setPort p { portOf n p with idleReqAt := some n.now } n)) (fun _ _ => rfl) ?idleReq,
    happens_of_event (f := takeLink b (inUp p (portEvent p 6 (linkDown p 5 false)))) (fun _ _ => rfl) ?retrainReq,
    happens_of_event (f := takeLink b (loopReq b)) (fun _ _ => rfl) ?loopBegins,
    happens_of_event (f := takeLink b (loopReq b)) (fun _ _ => rfl) ?loopEnds,
    happens_of_event (f := takeLink b (testBlk b)) (fun _ _ => rfl) ?test⟩
  case fill =>
    rintro m ⟨hreceives, hstate, hworks⟩
    exact fillBlk_inData hreceives hstate hworks
  case fillResync =>
    rintro m ⟨hreceives, hstate, hearly⟩
    exact fillBlk_inResync hreceives hstate hearly
  case pixel =>
    intro t s m htaken hup hhost r
    have hrow : exec (.pixel { b with t := t }) s = runEventMem t (pixelBlk b) s := rfl
    rw [hrow, runEventMem_next, pixelBlk_of_taken htaken s.mem hup hhost]
  case row =>
    rintro m ⟨htaken, hhost, hup⟩
    exact takeBlk_inUp htaken 2 hhost hup
  case frame =>
    rintro m ⟨htaken, hhost, hup⟩
    exact takeBlk_inUp htaken 3 hhost hup
  case type =>
    rintro m ⟨htaken, hstate, hreturns⟩
    rw [reservedBlk_of_type htype]
    exact takeBlk_refused htaken type hstate hreturns
  case typeResync =>
    rintro m ⟨htaken, hstate⟩
    rw [reservedBlk_of_type htype]
    exact takeBlk_refused_inResync htaken type hstate
  case op =>
    rintro m ⟨htaken, hreturns⟩
    exact takeLink_not_returned htaken hreturns
  case trainSeq =>
    rintro m ⟨htaken, hreturns⟩
    rw [trainSeqBlk]
    exact takeLink_not_returned htaken hreturns
  case short =>
    rintro m ⟨⟨hreceives, hreturns, hstate, hfirst, hsecond⟩, hshort⟩
    exact trainMarker_shortIdle hreceives hreturns hstate hfirst hsecond hshort
  case long =>
    rintro m ⟨⟨hreceives, hreturns, hstate, hfirst, hsecond⟩, hlong⟩
    exact trainMarker_longIdle hreceives hreturns hstate hfirst hsecond hlong
  case idleReq | retrainReq =>
    rintro m ⟨htaken, hup⟩
    exact takeLink_inUp htaken hup
  case loopBegins =>
    rintro m ⟨htaken, hmode, hbegin, hup⟩
    exact loopReq_begins htaken hmode hbegin hup
  case loopEnds =>
    rintro m ⟨htaken, hmode, hop, hend, hloop⟩
    exact loopReq_ends htaken hmode hop hend hloop
  case test =>
    rintro m ⟨htaken, hactive, hmode⟩
    exact (takeLink_not_returned htaken (not_returns_of_mode hmode)).trans (if_neg (by simpa using hactive))
end

section
/-!
Detectors, timers and the reference of the ports (R222 to R224, R227 to R232): what each event does in the states in which it acts.
-/

namespace Sys2Proof.Machine

variable {p : Nat} {m : Mach}

/-! ### Detectors -/

/-- R224: a detector sets its live and its sticky bit outside OFF. -/
theorem detect_on (live sticky : Fld) (hon : portState m p ≠ 0) :
    detect p live sticky m = (m |> setB (rCPL_DET_STAT p) live true |> latchBit (rCPL_DET_STAT p) sticky) := if_neg hon

/-- R222: an error rate that is exceeded and not yet taken ends UP. -/
theorem errorRate_due (hwindow : (portOf m p).errIx = (m.now - m.pwr.hubAt) / ms 1)
    (hmany : getF m (rCPL_DET_CFG p) fCPL_DET_CFG_ERR_MAX < (portOf m p).errN) (hnew : (portOf m p).errHit = false)
    (hup : portState (m |> setPort p { portOf m p with errHit := true } |> latchBit (rCPL_DET_STAT p) fCPL_DET_STAT_ERR_RATE) p = 4) :
    errorRate p m = (m |> setPort p { portOf m p with errHit := true } |> latchBit (rCPL_DET_STAT p) fCPL_DET_STAT_ERR_RATE |>
      portEvent p 5 (linkDown p 4 true)) := by
  have hdue : errorRateDue m p = true := by simp [errorRateDue, hwindow, hmany, hnew]
  rw [errorRate, hdue]
  exact inUp_up hup

/-! ### Failures of training (R230) -/

/-- Has the training of port `p` taken too long: 50 µs to RX_OK, or 1 ms from it to that of the partner? -/
def trainingLate (m : Mach) (p : Nat) : Bool :=
  if (portOf m p).rxOk then decide ((portOf m p).rxOkAt + ms 1 ≤ m.now) else decide ((portOf m p).trainAt + us 50 ≤ m.now)

/-- The failure is counted. -/
def failCounted (p : Nat) (m : Mach) : Mach := setPort p { portOf m p with fails := (portOf m p).fails + 1 } m

section
variable (hstate : portState m p = 3) (hlate : trainingLate m p = true)
include hstate hlate

theorem trainingFailure_not_skipped : ¬(!training m p || !trainingLate m p) = true := by
  simp [training, hstate, hlate]

/-- After its first and its second failure the port trains again. -/
theorem trainingFailure_retries (hfew : (portOf m p).fails < 2) : trainingFailure p m = portEvent p 7 (fun m =>
    if portState (failCounted p m) p = 3 then toTrain p (failCounted p m) else failCounted p m |> txLate p |> startTraining p) m :=
  (if_neg (trainingFailure_not_skipped hstate hlate)).trans (portEvent_congr (if_neg (by omega)))

/-- The third failure puts it into FAILED. -/
theorem trainingFailure_fails (hmany : 2 ≤ (portOf m p).fails) : trainingFailure p m = portEvent p 7 (fun m =>
    failCounted p m |> setPort p { portOf (failCounted p m) p with failedAt := (failCounted p m).now } |>
      setF (rCPL_STATE p) fCPL_STATE_LAST_CAUSE 8 |> setPortState p 9 |> raise (133 + p) noInst) m :=
  (if_neg (trainingFailure_not_skipped hstate hlate)).trans (portEvent_congr (if_pos (by omega)))

end

end Sys2Proof.Machine

open Sys2Proof Sys2Proof.Machine

/-- Settles O23: each event by the state of the port in which it acts. -/
theorem linkEventsComplete : Obligations.LinkEventsComplete := by
  refine ⟨fun p => ⟨happens_of_run (execLos · p) (fun _ _ => rfl) fun _ _ => rfl,
    fun a => happens_of_run (execLosHoldExpiry · p) (fun _ _ => rfl) ?losUp,
    fun a => happens_of_run (execLosHoldExpiry · p) (fun _ _ => rfl) ?losTrain,
    happens_of_run (execLol · p) (fun _ _ => rfl) ?lol, happens_of_run (execLoa · p) (fun _ _ => rfl) ?loa,
    happens_of_run (execErrorRateExceeded · p) (fun _ _ => rfl) ?errorRate,
    happens_of_run (execTransmitPllLossOfLock · p) (fun _ _ => rfl) fun _ hup => inUp_up hup,
    happens_of_run (execSquelchExit · p) (fun _ _ => rfl) fun _ hidle => if_pos hidle,
    happens_of_run (execSquelchExit · p) (fun _ _ => rfl) ?squelchStandby,
    happens_of_run (execExitTimer · p) (fun _ _ => rfl) ?exitTimer,
    happens_of_run (execResyncTimeout · p) (fun _ _ => rfl) ?resyncTimeout,
    happens_of_run (execDetectComplete · p) (fun _ _ => rfl) ?detectComplete,
    happens_of_run (execTrainingFailure · p) (fun _ _ => rfl) ?retries,
    happens_of_run (execTrainingFailure · p) (fun _ _ => rfl) ?fails,
    happens_of_run (execFailedTimeout · p) (fun _ _ => rfl) ?failedTimeout,
    fun a => happens_of_run (execIdleReqTimeout · p) (fun _ _ => rfl) ?idleReqTimeout,
    happens_of_run (execTxIdleEntry · p) (fun _ _ => rfl) fun _ hdue => if_pos hdue,
    happens_of_run (execTxIdleExit · p) (fun _ _ => rfl) ?txIdleExit,
    happens_of_run (execHeaderCheckFailure · p) (fun _ _ => rfl) fun _ hreceives => if_pos hreceives,
    happens_of_run (execCodeViolation · p) (fun _ _ => rfl) fun _ hreceives => if_pos hreceives⟩,
    happens_of_run execPortReferenceLoss (fun _ _ => rfl) ?refLoss,
    happens_of_run execPortReferenceRestored (fun _ _ => rfl) ?refRestored⟩
  case losUp =>
    rintro m ⟨hlos, hheld, hup⟩
    simp only [hlos, Nat.not_lt.mpr hheld, hup, if_false, if_true]
  case losTrain =>
    rintro m ⟨hlos, hheld, htrain⟩
    simp [hlos, Nat.not_lt.mpr hheld, htrain]
  case lol =>
    rintro m ⟨hon, hup⟩
    rw [detect_on _ _ hon]
    exact inUp_up hup
  case loa =>
    intro m hup
    refine (inUp_up hup).trans ?_
    rw [detect_on _ _ (by simp [hup])]
  case errorRate =>
    rintro m ⟨-, hwindow, hmany, hnew, hup⟩
    exact errorRate_due hwindow hmany hnew hup
  case squelchStandby =>
    intro m hstandby
    exact (if_neg (by simp [hstandby])).trans (if_pos (by simp [hstandby]))
  case exitTimer | resyncTimeout =>
    rintro m ⟨hstate, hlate⟩
    exact if_pos (by simp [hstate, hlate])
  case detectComplete =>
    rintro m ⟨hstate, hlate, href⟩
    exact if_pos (by simp [hstate, hlate, href])
  case retries =>
    rintro m ⟨hstate, hrx, hlate, hfew⟩
    exact trainingFailure_retries hstate (by simp [trainingLate, hrx, hlate]) hfew
  case fails =>
    rintro m ⟨hstate, hrx, hlate, hmany⟩
    exact trainingFailure_fails hstate (by simp [trainingLate, hrx, hlate]) hmany
  case failedTimeout =>
    rintro m ⟨hstate, hlate, hrole⟩
    exact if_pos (by simp [hstate, hlate, hrole])
  case idleReqTimeout =>
    rintro m ⟨hasked, hlate⟩
    simp only [hasked, hlate, if_true]
  case txIdleExit =>
    rintro m ⟨hup, hwaits⟩
    exact if_pos (by simp [hup, hwaits])
  case refLoss =>
    rintro m ⟨hruns, href⟩
    exact if_neg (by simp [hruns, href])
  case refRestored =>
    intro m href
    exact if_neg (by simp [href])
end

section
/-!
TILE_ENUMERATE, TILE_INFO and the forms of TILE_AUTH_POLICY (R264): the checks of a policy packet, and what a form does that passes them.
-/

namespace Sys2Proof.Machine

variable {p : Packet} {m : Mach}

/-- The FORM of a policy packet that is its whole first word. -/
theorem policyHead_of_eq {form : Nat} (hform : form < 4) (h : par p 0 = w32 form) : policyHead p form false = true := by
  have hforms : ∀ form < 4, (clean (w32 form) [(1, 0)] && bits (w32 form) 1 0 == form) = true := by decide
  rw [policyHead, h]
  exact hforms form hform

theorem policyHead_of_index {form : Nat} (hclean : clean (par p 0) [(12, 8), (1, 0)] = true) (hform : bits (par p 0) 1 0 = form) :
    policyHead p form true = true := by
  rw [policyHead, if_pos rfl, hclean, hform, beq_self_eq_true, Bool.and_self]

/-- R264: a home port in tile role that is the home of no other tile in use. -/
theorem tileCfgOk_of_free {t port : Nat} {w : Word} (hport : fget w fTIL_CFG_PORT = port) (hclean : clean w [(31, 30), (4, 0)] = true)
    (hlt : port < 24) (hrole : getF m (rCPL_CFG port) fCPL_CFG_ROLE = 1)
    (hfree : ∀ k < 24, k ≠ t → flag m (rTIL_CFG k) fTIL_CFG_EN = true → getF m (rTIL_CFG k) fTIL_CFG_PORT ≠ port) :
    tileCfgOk m t w = true := by
  subst hport
  have hhome : (List.range 24).any (fun k => k != t && flag m (rTIL_CFG k) fTIL_CFG_EN &&
      getF m (rTIL_CFG k) fTIL_CFG_PORT == fget w fTIL_CFG_PORT) = false := by
    rw [List.any_eq_false]
    intro k hk
    simpa [and_imp] using hfree k (List.mem_range.mp hk)
  simp only [tileCfgOk, hclean, hlt, hrole, hhome, decide_true, beq_self_eq_true, Bool.not_false, Bool.and_self]

end Sys2Proof.Machine

open Sys2Proof Sys2Proof.Machine

/-- Settles O24: every check of a packet is one of the conditions of its clause, so what is left of each row is its effect. -/
theorem tileCommandsComplete : Obligations.TileCommandsComplete := by
  refine ⟨answers_of_body (fun _ _ => rfl) ?enumerate, answers_of_body (fun _ _ => rfl) ?info, answers_of_body (fun _ _ => rfl) ?policy,
    answers_of_body (fun _ _ => rfl) ?timeouts, answers_of_body (fun _ _ => rfl) ?anchor, answers_of_body (fun _ _ => rfl) ?tile⟩
  case enumerate =>
    intro p m hlen
    exact withLen_ok (by simp [hlen])
  case info =>
    rintro p m ⟨hlen, hclean, ht⟩
    rw [withLen_ok (by simp [hlen]), hclean, require_ok, withTile_of_lt ht]
    rfl
  case policy =>
    rintro p m ⟨hlen, hform, hclean, hcap⟩
    rw [withLen_ok (by simp [hlen]), policyHead_of_eq (by decide) hform, hclean, decide_eq_true hcap]
    rfl
  case timeouts =>
    rintro p m ⟨hlen, hform, hranges⟩
    have htmo : tmoOk (par p 1) = true := by simpa [tmoOk, and_assoc] using hranges
    rw [withLen_ok (by simp [hlen]), policyHead_of_eq (by decide) hform, htmo]
    rfl
  case anchor =>
    rintro p m ⟨hlen, hclean, hform, hkey, hcurve⟩
    rw [withLen_ok (by simp [hlen]), policyHead_of_index hclean hform, hcurve, decide_eq_true hkey]
    rfl
  case tile =>
    rintro p m ⟨hlen, hclean, hform, ht, hcfg, hport, hrole, hfree⟩
    rw [withLen_ok (by simp [hlen]), policyHead_of_index hclean hform]
    dsimp only
    rw [tileCfgOk_of_free rfl hcfg hport hrole hfree, decide_eq_true ht]
    rfl
end

section
/-!
Reports of tiles (R200, R249 to R252, R255): what the device does with a report that comes, and which exchange it answers.
-/

namespace Sys2Proof.Machine

variable {b : Blk} {t : Nat} {m : Mach}

/-- R249 to R252: a report that comes, and for which the tile was asked, takes its effect once it has been recorded. -/
theorem takeReport_of_comes {kind : Nat} {wanted : Mach → Nat → Bool} {f : Nat → Mach → Mach} (h : ReportComes kind b t m)
    (hwanted : wanted (seqTaken b m) t = true) : takeReport kind wanted b f m = f t (reportNoted b t m) := by
  obtain ⟨htaken, hrole, hcarries, hup, htile, hok, hnew, hfew⟩ := h
  rw [takeReport, takeBlk_inUp htaken 5 (by rw [hrole, hcarries, Bool.and_self]) hup]
  simp only [htile, hok, hwanted, hnew, takeOnce, Bool.not_true, Bool.false_eq_true, if_true, if_false]
  exact if_neg (Nat.not_le.mpr hfew)

/-- A row that takes a report has the effect of the report where it comes and is wanted. -/
theorem happens_of_report {row : Nat → Instr} {kind : Nat} (wanted : Mach → Nat → Bool) (f : Nat → Mach → Mach)
    {guard : Mach → Prop} {eff : Mach → Mach} (hrow : ∀ a s, exec (row a) s = runEvent a (takeReport kind wanted b f) s)
    (hcomes : ∀ m, guard m → ReportComes kind b t m) (hwanted : ∀ m, guard m → wanted (seqTaken b m) t = true)
    (hf : ∀ m, guard m → f t (reportNoted b t m) = eff m) : Happens row guard eff :=
  happens_of_event hrow fun m hm => (takeReport_of_comes (hcomes m hm) (hwanted m hm)).trans (hf m hm)

/-! ### The instant of a block is its row's -/

theorem blkWord_retimed (a k : Nat) : blkWord { b with t := a } k = blkWord b k := rfl

theorem repPart_retimed (a : Nat) : repPart { b with t := a } = repPart b := rfl

theorem blkWords_retimed (a lo hi : Nat) : blkWords { b with t := a } lo hi = blkWords b lo hi := rfl

theorem healthReport_retimed (a : Nat) : healthReport { b with t := a } = healthReport b := by
  funext t m
  unfold healthReport
  rw [blkWord_retimed a 1, blkWord_retimed a 2]

theorem deadReport_retimed (a : Nat) : deadReport { b with t := a } = deadReport b := by
  funext t m
  unfold deadReport
  rw [blkWord_retimed a 1, repPart_retimed a, blkWords_retimed a]

/-! ### The rows that take a report -/

/-- What SIGNATURE does: each pair of it is compared (R200). -/
def signatureReport (b : Blk) (t : Nat) : Mach → Mach :=
  forEach (List.range (bits (blkWord b 1) 4 0)) fun k => sigReport t (blkWord b (2 + 2 * k)).toNat (blkWord b (3 + 2 * k)).toNat

/-- What IDENT does to the exchange that it answers (R258). -/
def identReport (b : Blk) (t : Nat) (m : Mach) : Mach :=
  match exchangeFor m t b.port 1 with
  | some (true, e) =>
    let e := { e with ident := blkWords b 0 44 }
    m |> setTile t { tileOf m t with ex := some e } |> identMain t e
  | some (false, e) => identOther t { e with ident := blkWords b 0 44 } m
  | none => m

/-- What AUTH_RESP does to the exchange that it answers (R255). -/
def authReport (b : Blk) (t : Nat) (m : Mach) : Mach :=
  match exchangeFor m t b.port 2 with
  | some (main, e) =>
    let e := { e with stage := 3, sigWords := blkWords b 2 17 }
    if main then setTile t { tileOf m t with ex := some e } m else setCheck t e m
  | none => m

theorem exec_health (a : Nat) (s : State) : exec (.health { b with t := a }) s =
    runEvent a (takeReport 1 unasked b (healthReport b)) s := by
  rw [← healthReport_retimed a]
  rfl

theorem exec_signature (a : Nat) (s : State) : exec (.signature { b with t := a }) s =
    runEvent a (takeReport 2 unasked b (signatureReport b)) s := by
  rfl

theorem exec_deadList (a : Nat) (s : State) : exec (.deadList { b with t := a }) s =
    runEvent a (takeReport 3 unasked b (deadReport b)) s := by
  rw [← deadReport_retimed a]
  rfl

theorem exec_ident (a : Nat) (s : State) : exec (.ident { b with t := a }) s =
    runEvent a (takeReport 4 (fun m t => (exchangeFor m t b.port 1).isSome) b (identReport b)) s := by
  rfl

theorem exec_authResp (a : Nat) (s : State) : exec (.authResp { b with t := a }) s =
    runEvent a (takeReport 5 (fun m t => answers m t b) b (authReport b)) s := by
  rfl

end Sys2Proof.Machine

open Sys2Proof Sys2Proof.Machine

/-- Settles O25: a report that comes is recorded, and its effect follows; IDENT and AUTH_RESP act by the exchange that they answer. -/
theorem tileReportsComplete : Obligations.TileReportsComplete := by
  intro b t
  refine ⟨happens_of_report unasked (healthReport b) exec_health (fun _ h => h) (fun _ _ => rfl) fun _ _ => rfl,
    happens_of_report unasked (signatureReport b) exec_signature (fun _ h => h) (fun _ _ => rfl) fun _ _ => rfl,
    happens_of_report unasked (deadReport b) exec_deadList (fun _ h => h) (fun _ _ => rfl) fun _ _ => rfl,
    fun e => happens_of_report _ (identReport b) exec_ident (fun _ h => h.1) (fun _ h => h.2.1) ?identMain,
    fun e => happens_of_report _ (identReport b) exec_ident (fun _ h => h.1) (fun _ h => h.2.1) ?identOther,
    fun e => happens_of_report _ (authReport b) exec_authResp (fun _ h => h.1) (fun _ h => h.2.1) ?authMain,
    fun e => happens_of_report _ (authReport b) exec_authResp (fun _ h => h.1) (fun _ h => h.2.1) ?authOther⟩
  case identMain | identOther =>
    rintro m ⟨-, -, hexchange⟩
    rw [identReport, hexchange]
  case authMain | authOther =>
    rintro m ⟨-, -, hexchange⟩
    rw [authReport, hexchange]
    rfl
end

section
/-!
The timers of a tile partner (R247, R250, R252, R255, R258): what each does where it has run out.
-/

namespace Sys2Proof.Machine

variable {t : Nat} {m : Mach} {e : Exchange}

/-! ### The end of a verification (R255) -/

/-- The verification on the carrying port ends first. -/
theorem authEnd_main (hex : (tileOf m t).ex = some e) (hstage : e.stage = 3) :
    authEnd t m = if answerOk e (idCert e) [idWord e 1, idWord e 2] = true then
        (if pinOk m t e = true then m |> setB (rTIL_STAT t) fTIL_STAT_AUTH true |> checksPass t e true else authFail t 6 m)
      else authFail t 5 m := by
  have hverified : (tileOf m t).ex.filter (fun e => e.stage == 3) = some e := by simp [hex, hstage]
  cases hanswer : answerOk e (idCert e) [idWord e 1, idWord e 2] <;> cases hpin : pinOk m t e <;>
    simp [authEnd, hverified, hanswer, hpin]

/-- With none on the carrying port, that of the first other port that waits for it. -/
theorem authEnd_other (hnone : ∀ x, (tileOf m t).ex = some x → x.stage ≠ 3)
    (hcheck : (tileOf m t).checks.find? (fun x => x.stage == 3) = some e) :
    authEnd t m = if answerOk e (refCert m t) (refSerial m t) = true then otherPortPasses t e m
      else otherPortFails t e.port 5 m := by
  have hnot : (tileOf m t).ex.filter (fun e => e.stage == 3) = none := by simpa [Option.filter_eq_none_iff] using hnone
  simp only [authEnd, hnot, hcheck]

/-! ### Requests without an answer (R255, R258) -/

/-- The exchange on the carrying port has waited its time. -/
theorem filter_waited_late {stage lim : Nat} {ex : Option Exchange} (hex : ex = some e) (hstage : e.stage = stage)
    (hlate : e.sentAt + ms lim ≤ m.now) : ex.filter (waited m stage lim) = some e := by
  simp [hex, waited, hstage, hlate]

/-- IDENT_REQ once more on another port `e` of the tile, or after the third the end of its check. -/
def askOther (t : Nat) (e : Exchange) (m : Mach) : Mach :=
  if 3 ≤ e.tries then
    m |> setF (rTIL_STAT t) fTIL_STAT_CAUSE 1 |> setTile t { tileOf m t with checks := withoutPort e.port (tileOf m t).checks }
  else
    let m := tileMsg t e.port 1 [] m
    setCheck t (askAgain e m) m

/-- IDENT_TMO on the ports of tile `t` other than the carrying one that had waited in `m`. -/
def askOthers (t : Nat) (m : Mach) : Mach → Mach :=
  forEach ((tileOf m t).checks.filter (waited m 1 (getF m rTIL_TMO fTIL_TMO_IDENT_TMO))) (askOther t)

section
variable (hex : (tileOf m t).ex = some e) (hstage : e.stage = 1)
  (hlate : e.sentAt + ms (getF m rTIL_TMO fTIL_TMO_IDENT_TMO) ≤ m.now)
include hex hstage hlate

theorem identTimeout_third (hmany : 3 ≤ e.tries) : identTimeout t m = askOthers t m (noIdent t m) := by
  simp only [identTimeout, filter_waited_late hex hstage hlate, if_pos hmany]
  rfl

theorem identTimeout_again (hfew : e.tries < 3) : identTimeout t m =
    askOthers t m (setTile t { tileOf (tileMsg t e.port 1 [] m) t with ex := some (askAgain e (tileMsg t e.port 1 [] m)) }
      (tileMsg t e.port 1 [] m)) := by
  simp only [identTimeout, filter_waited_late hex hstage hlate, if_neg (Nat.not_le.mpr hfew)]
  rfl

end

theorem identTimeout_idle (hnone : (tileOf m t).ex = none) : identTimeout t m = askOthers t m m := by
  simp only [identTimeout, hnone, Option.filter_none]
  rfl

/-- AUTH_TMO on the ports of tile `t` other than the carrying one that had waited in `m`. -/
def failOthers (t : Nat) (m : Mach) : Mach → Mach :=
  forEach ((tileOf m t).checks.filter (waited m 2 (getF m rTIL_TMO fTIL_TMO_AUTH_TMO)))
    fun e n => when ((tileOf n t).checks.contains e) (otherPortFails t e.port 5) n

theorem authTimeout_late (hex : (tileOf m t).ex = some e) (hstage : e.stage = 2)
    (hlate : e.sentAt + ms (getF m rTIL_TMO fTIL_TMO_AUTH_TMO) ≤ m.now) :
    authTimeout t m = failOthers t m (authFail t 5 m) := by
  simp only [authTimeout, filter_waited_late hex hstage hlate, Option.isSome_some, if_true]
  rfl

theorem authTimeout_idle (hnone : (tileOf m t).ex = none) : authTimeout t m = failOthers t m m := by
  simp only [authTimeout, hnone, Option.filter_none, Option.isSome_none, Bool.false_eq_true, if_false]
  rfl

end Sys2Proof.Machine

open Sys2Proof Sys2Proof.Machine

/-- Settles O26: each timer by the conditions under which it has run out. -/
theorem tileTimersComplete : Obligations.TileTimersComplete := by
  intro tile
  refine ⟨fun e => happens_of_run (execAuthenticationEnd · tile) (fun _ _ => rfl) fun _ h => authEnd_main h.1 h.2,
    fun e => happens_of_run (execAuthenticationEnd · tile) (fun _ _ => rfl) fun _ h => authEnd_other h.1 h.2,
    ⟨fun e => happens_of_run (execIdentTimeout · tile) (fun _ _ => rfl) ?identThird,
      fun e => happens_of_run (execIdentTimeout · tile) (fun _ _ => rfl) ?identAgain,
      happens_of_run (execIdentTimeout · tile) (fun _ _ => rfl) fun _ h => identTimeout_idle h⟩,
    ⟨fun e => happens_of_run (execAuthTimeout · tile) (fun _ _ => rfl) ?authLate,
      happens_of_run (execAuthTimeout · tile) (fun _ _ => rfl) fun _ h => authTimeout_idle h⟩,
    fun p => happens_of_run (execNoIdRetry · tile) (fun _ _ => rfl) ?noIdRetry,
    happens_of_run (execSilentTimeout · tile) (fun _ _ => rfl) ?silent,
    happens_of_run (execDeadListTimeout · tile) (fun _ _ => rfl) fun _ _ => rfl,
    happens_of_run (execTileAbsent · tile) (fun _ _ => rfl) ?absent,
    happens_of_run (execReportFlood · tile) (fun _ _ => rfl) ?flood⟩
  case identThird =>
    rintro m ⟨hex, hstage, hlate, hmany⟩
    exact identTimeout_third hex hstage hlate hmany
  case identAgain =>
    rintro m ⟨hex, hstage, hlate, hfew⟩
    exact identTimeout_again hex hstage hlate hfew
  case authLate =>
    rintro m ⟨hex, hstage, hlate⟩
    exact authTimeout_late hex hstage hlate
  case noIdRetry =>
    rintro m ⟨hport, hstate, hlate⟩
    simp only [hport, hstate, hlate, beq_self_eq_true, decide_true, Bool.and_self, if_true]
  case silent =>
    rintro m ⟨hstate, hlate⟩
    exact if_pos (by simp [hstate, hlate])
  case absent =>
    rintro m ⟨hlost, hstuck, hdown, hlate⟩
    exact if_neg (by simpa [hlost, hdown, hlate] using hstuck)
  case flood =>
    rintro m ⟨hwindow, hmany, hnew⟩
    exact if_pos (by simp [hwindow, hmany, hnew])
end

section
/-!
The chain, group, Aurora, gamma and colour-loop commands (R269, R273, R274, R276, R280, R281): what the body of each does where nothing
refuses it.
-/

namespace Sys2Proof.Machine

variable {p : Packet} {m : Mach} {n e : Nat}

/-! ### Values and members -/

/-- R273: values for channels that exist wait for the next tick, each for its own channel. -/
theorem chainWriteBody_of_values {first : Nat} (hn : bits (par p 0) 27 16 = n) (hfirst : bits (par p 0) 11 0 = first)
    (hlen : p.params.length = 1 + n) (hclean : clean (par p 0) [(27, 16), (11, 0)] = true) (hsome : 1 ≤ n) (hfits : first + n ≤ 3072)
    (hvals : ∀ v ∈ p.params.drop 1, clean v [(23, 4)] = true) :
    chainWriteBody p m = (forEach (p.params.drop 1).zipIdx (fun v => stage (.host (first + v.2) (bits v.1 23 4))) m, ok []) := by
  subst hn hfirst
  simp only [chainWriteBody, if_neg (not_not_intro hlen), hclean, hsome, hfits, List.all_eq_true.mpr hvals, decide_true, Bool.and_self,
    require_ok]

/-- R281: the devices that a read names exist, and the reply fits its path. -/
theorem chainReadbackBody_of_fits {k first : Nat} (hk : bits (par p 0) 21 16 = k) (hfirst : bits (par p 0) 12 8 = first)
    (hclean : clean (par p 0) [(21, 16), (12, 8), (1, 0)] = true) (hsome : 1 ≤ k) (hdevices : first + k ≤ 32)
    (hreply : 25 * k ≤ pathMax p.path) : chainReadbackBody p m =
      (m, ok ((List.range k).flatMap fun d => readbackWords m (bits (par p 0) 1 0) (first + d))) := by
  subst hk hfirst
  simp only [chainReadbackBody, hclean, hsome, hdevices, hreply, decide_true, Bool.and_self, require_ok]

/-- R281: a group takes its words at once and keeps its count of members, which changes with the members at the next tick. -/
theorem groupConfigBody_of_checked {g : Nat} (hn : bits (par p 0) 14 8 = n) (hg : bits (par p 0) 5 0 = g)
    (hlen : p.params.length = 4 + n) (hclean : clean (par p 0) [(14, 8), (5, 0)] = true) (hmost : n ≤ 64)
    (hcfg : grpCfgOk (par p 1) (par p 2) = true) (hprobe : grpProbeOk (par p 3) = true)
    (hmembers : groupMembersOk m g (p.params.drop 4) = true) : groupConfigBody p m =
      (m |> setReg (rCHN_GRP_CFG g) (par p 1) |>
        setF (rCHN_GRP_CFG g) fCHN_GRP_CFG_MEMBERS (getF m (rCHN_GRP_CFG g) fCHN_GRP_CFG_MEMBERS) |>
        setReg (rCHN_GRP_DER g) (par p 2) |> setReg (rCHN_GRP_PROBE g) (par p 3) |>
        stage (.members g ((p.params.drop 4).map fun w => bits w 13 0)), ok []) := by
  subst hn hg
  simp only [groupConfigBody, if_neg (not_not_intro hlen), hclean, hmost, hcfg, hprobe, hmembers, decide_true, Bool.and_self, require_ok]

/-! ### Programs and gamma tables -/

/-- R274: a program whose instructions pass their checks waits for the next tick, where its engine does not run. -/
theorem auroraLoadBody_of_stopped (hn : bits (par p 0) 23 16 = n) (he : bits (par p 0) 3 0 = e)
    (hlen : p.params.length = 1 + n) (hclean : clean (par p 0) [(23, 16), (3, 0)] = true) (hengine : e < 8) (hsome : 1 ≤ n)
    (hmost : n ≤ 64) (hinstrs : ∀ w ∈ p.params.drop 1, auroraOk n w = true) (hstopped : flag m (rAUR_STAT e) fAUR_STAT_RUN = false) :
    auroraLoadBody p m = (stage (.prog e (p.params.drop 1)) m, ok []) := by
  subst hn he
  simp only [auroraLoadBody, if_neg (not_not_intro hlen), hclean, hengine, hsome, hmost, List.all_eq_true.mpr hinstrs, hstopped,
    decide_true, Bool.and_self, require_ok, Bool.false_eq_true, if_false]

/-- R281: ENGINE 8 takes the 128 words of a gamma table. -/
theorem gammaLoadBody_of_table (hlen : p.params.length = 129) (hclean : clean (par p 0) [(23, 16), (3, 0)] = true)
    (hn : bits (par p 0) 23 16 = 128) (he : bits (par p 0) 3 0 = 8)
    (hentries : ∀ w ∈ p.params.drop 1, clean w [(27, 16), (11, 0)] = true) :
    gammaLoadBody p m = (stage (.gamma (p.params.drop 1)) m, ok []) := by
  have hcount : p.params.length = 1 + 128 := hlen
  simp only [gammaLoadBody, if_neg (not_not_intro hcount), hclean, hn, he, List.all_eq_true.mpr hentries, beq_self_eq_true,
    Bool.and_self, require_ok]

/-! ### AURORA_RUN -/

/-- R281: a row of AURORA_RUN starts or stops, as the row has it, an engine that has a program. -/
theorem auroraRunBody_of_prog {start : Bool} (he : bits (par p 0) 3 0 = e) (hclean : clean (par p 0) [(31, 31), (13, 8), (3, 0)] = true)
    (hstart : bit (par p 0) 31 = start) (hengine : e < 8) (hprog : hasProg m e = true) : auroraRunBody start p m =
      (if start then aurStart e (bits (par p 0) 13 8) m else setB (rAUR_STAT e) fAUR_STAT_RUN false m, ok []) := by
  subst he
  simp only [auroraRunBody, hclean, hstart, hengine, hprog, beq_self_eq_true, decide_true, Bool.and_self, require_ok, Bool.not_true,
    Bool.false_eq_true, if_false]
  cases start <;> rfl

end Sys2Proof.Machine

open Sys2Proof Sys2Proof.Machine

/-- Settles O27: every check of a packet is one of the conditions of its clause, so what is left of each row is what it stages or sets. -/
theorem chainRowsComplete : Obligations.ChainRowsComplete := by
  refine ⟨answers_of_body (fun _ _ => rfl) ?config, answers_of_body (fun _ _ => rfl) ?write, answers_of_body (fun _ _ => rfl) ?readback,
    answers_of_body (fun _ _ => rfl) ?group, answers_of_body (fun _ _ => rfl) ?probe, answers_of_body (fun _ _ => rfl) ?program,
    answers_of_body (fun _ _ => rfl) ?gamma, answers_of_body (fun _ _ => rfl) ?start, answers_of_body (fun _ _ => rfl) ?stop,
    answers_of_body (fun _ _ => rfl) ?colour⟩
  case config =>
    rintro p m ⟨hlen, hclean, hport⟩
    rw [withLen_ok (by simp [hlen]), hclean, hport, Bool.and_self, require_ok]
    rfl
  case write =>
    rintro p m ⟨hlen, hclean, hsome, hfits, hvals⟩
    exact chainWriteBody_of_values rfl rfl hlen hclean hsome hfits hvals
  case readback =>
    rintro p m ⟨hlen, hclean, hsome, hdevices, hreply⟩
    rw [withLen_ok (by simp [hlen])]
    exact chainReadbackBody_of_fits rfl rfl hclean hsome hdevices hreply
  case group =>
    rintro p m ⟨hlen, hclean, hmost, hcfg, hprobe, hmembers⟩
    exact groupConfigBody_of_checked rfl rfl hlen hclean hmost hcfg hprobe hmembers
  case probe =>
    rintro p m ⟨hlen, hclean, hprobe⟩
    rw [withLen_ok (by simp [hlen]), hclean, hprobe, Bool.and_self, require_ok]
  case program =>
    rintro p m ⟨hlen, hclean, hengine, hsome, hmost, hinstrs, hstopped⟩
    exact auroraLoadBody_of_stopped rfl rfl hlen hclean hengine hsome hmost hinstrs hstopped
  case gamma =>
    rintro p m ⟨hlen, hclean, hn, he, hentries⟩
    exact gammaLoadBody_of_table hlen hclean hn he hentries
  case start | stop =>
    rintro p m ⟨hlen, hclean, hstart, hengine, hprog⟩
    rw [withLen_ok (by simp [hlen])]
    exact auroraRunBody_of_prog rfl hclean hstart hengine hprog
  case colour =>
    rintro p m ⟨hlen, hcfg, htile, hlim, hred, hgreen, hsum⟩
    rw [withLen_ok (by simp [hlen])]
    simp only [hcfg, htile, hlim, bne_iff_ne.mpr hred, bne_iff_ne.mpr hgreen, hsum, decide_true, Bool.and_self, require_ok]
end

section
/-!
The 1 kHz tick (R269, R284, R363, R371, R395, R417): which of its parts run in which state.
-/

namespace Sys2Proof.Machine

/-- What a tick of a running hub does once it has counted and the steps of a calibration run are past (R284). -/
def controlTick (env : TickEnv) (n : Mach) : Mach :=
  let n := chainUpdate env false n
  let n := n |> switchBanks (swapDue n) |> forEach [0, 1, 2, 3] (tickMotor env)
  let k := getF n rGAR_TICK fGAR_TICK_TICK % 10
  n |> forEach [0, 1, 2, 3] (fun c m => m |> when (!hasBit env.overs (4 + c)) (outerSample c) |> freezeTest c) |>
    when (k == 0 && !hasBit env.overs 8) (levelSample (pitchNow n)) |> when (k == 5 && !hasBit env.overs 9) (colourSample env.pd)

section
variable {env : TickEnv} {m n : Mach}

/-- A tick acts in a running hub and in thermal hold. -/
theorem ticks_of_acts (hacts : hubRuns m = true ∨ m.pwr.st = 5) : ¬ (!(hubRuns m || m.pwr.st == 5)) = true := by
  rwa [Bool.not_eq_true', Bool.not_eq_false, Bool.or_eq_true, beq_iff_eq]

/-- R371 E5: the tick after the point of no return is the last one, under whichever image. -/
theorem tick_last (hacts : hubRuns m = true ∨ m.pwr.st = 5) (hlast : m.pwr.entry.any (fun e => e.step == 5) = true) :
    tick env m = lastTick env m := by
  rw [tick, if_neg (ticks_of_acts hacts), if_pos hlast]

variable (hlast : m.pwr.entry.any (fun e => e.step == 5) = false)
include hlast

/-- R395: under the golden image a tick only counts. -/
theorem tick_golden (hacts : hubRuns m = true ∨ m.pwr.st = 5) (hgolden : golden m = true) :
    tick env m = wrapInc rGAR_TICK fGAR_TICK_TICK { m with tickAt := m.now } := by
  rw [tick, if_neg (ticks_of_acts hacts), if_neg (ne_true_of_eq_false hlast), if_pos hgolden]

variable (hgolden : golden m = false)
include hgolden

/-- R363: in thermal hold the chains alone go on. -/
theorem tick_hold (hst : m.pwr.st = 5) :
    tick env m = chainUpdate env false (wrapInc rGAR_TICK fGAR_TICK_TICK { m with tickAt := m.now }) := by
  rw [tick, if_neg (ticks_of_acts (.inr hst)), if_neg (ne_true_of_eq_false hlast), if_neg (ne_true_of_eq_false hgolden), if_pos hst]

variable (hst : m.pwr.st ≠ 5) (hruns : hubRuns m = true)
include hst hruns

/-- R284, R371: in a running hub the tick counts and takes its step of a calibration run; then it goes on, but not after the last tick of an
entry. -/
theorem tick_runs (hn : calTick (wrapInc rGAR_TICK fGAR_TICK_TICK { m with tickAt := m.now }) = n) :
    tick env m = if n.pwr.entry.any (fun e => e.step == 6) = true then n else controlTick env n := by
  subst hn
  rw [tick, if_neg (ticks_of_acts (.inl hruns)), if_neg (ne_true_of_eq_false hlast), if_neg (ne_true_of_eq_false hgolden), if_neg hst]
  rfl

end

end Sys2Proof.Machine

open Sys2Proof Sys2Proof.Machine

/-- Settles O28: the clauses are the branches of the tick, in its order. -/
theorem tickCompletes : Obligations.TickCompletes := by
  intro env
  refine ⟨happens_of_event (fun _ _ => rfl) ?last, happens_of_event (fun _ _ => rfl) ?golden, happens_of_event (fun _ _ => rfl) ?hold,
    happens_of_event (fun _ _ => rfl) ?control, happens_of_event (fun _ _ => rfl) ?stopped⟩
  case last =>
    rintro m ⟨hacts, hlast⟩
    exact tick_last hacts hlast
  case golden =>
    rintro m ⟨hacts, hlast, hgolden⟩
    exact tick_golden hlast hacts hgolden
  case hold =>
    rintro m ⟨hst, hlast, hgolden⟩
    exact tick_hold hlast hgolden hst
  case control =>
    rintro m ⟨hst, hruns, hlast, hgolden, hgoes⟩
    exact (tick_runs hlast hgolden hst hruns rfl).trans (if_neg (ne_true_of_eq_false hgoes))
  case stopped =>
    rintro m ⟨hst, hruns, hlast, hgolden, hstops⟩
    exact (tick_runs hlast hgolden hst hruns rfl).trans (if_pos hstops)
end

section
/-!
The loop, injection, capture, ADC and motor commands (R289, R290, R296, R299, R301 to R303, R307): what the body of each does where nothing
refuses it.
-/

namespace Sys2Proof.Machine

variable {p : Packet} {m : Mach}

/-! ### Channels and banks -/

/-- R307: a channel takes words that are in range and share nothing with another channel. -/
theorem loopConfigBody_of_free {c : Nat} (hc : bits (par p 0) 1 0 = c) (hclean : clean (par p 0) [(1, 0)] = true)
    (hwords : motWordsOk p = true) (hfree : motShared m c p = false) (hcal : pending m .cal = false) :
    loopConfigBody p m =
      (let n := m |> setReg (rMOT_CFG c) (par p 1) |> setReg (rMOT_ENC c) (par p 2) |> setReg (rMOT_LIM c) (par p 3) |>
        setReg (rMOT_FRZ c) (par p 4) |> setReg (rMOT_ISENSE c) (par p 5) |> setReg (rMOT_HOME c) (par p 6) |>
        setReg (rMOT_TILES c) (par p 7)
      (n |> setMot c { motOf n c with reconfig := true } |> showAdc, ok [])) := by
  subst hc
  simp only [loopConfigBody, hclean, hwords, hfree, hcal, Bool.not_false, Bool.and_self, require_ok]
  rfl

/-- R289: a valid image in a RAW buffer of the context goes into the inactive bank while no swap of the loop is due. -/
theorem coefLoadBody_of_image {mem : Tab Byte} {l i : Nat} {image : List Nat} (hl : bits (par p 0) 3 0 = l)
    (hi : hIdx (par p 1).toNat = i) (himage : poolBytes mem i 0 688 = image) (hlen : p.params.length = 2)
    (hclean : clean (par p 0) [(3, 0)] = true) (hloop : l < 9) (hheld : bufRefused m (ctxN p) (par p 1).toNat = none)
    (hraw : rawBuf m i 688 = true) (hvalid : bankValid image = true) (hswap : flag m (rGAR_LOOP_STAT l) fGAR_LOOP_STAT_SWAP_PEND = false) :
    coefLoadBody p mem m = ⟨mem, putBank l (!bankSel m l) image m, ok [w32 (crc crc32c image)]⟩ := by
  subst hl hi himage
  simp only [coefLoadBody, if_neg (not_not_intro hlen), hclean, decide_eq_false (Nat.not_le.mpr hloop), hheld, hraw, hvalid, hswap,
    Bool.not_true, Bool.or_self, Bool.false_eq_true, if_false]

/-- The loops `ls` wait for the swap at the sample `at_`. -/
def awaitSwap (ls : List Nat) (at_ : Nat × Nat) : Mach → Mach :=
  forEach ls fun l m => m |> setLoop l { loopOf m l with swapAt := some at_ } |> setB (rGAR_LOOP_STAT l) fGAR_LOOP_STAT_SWAP_PEND true

/-- R290: loops whose inactive bank is valid, and that wait for no other swap, swap at one sample. -/
theorem bankSwapBody_of_valid {mask : Nat} (hmask : bits (par p 0) 8 0 = mask) (hclean : clean (par p 0) [(8, 0)] = true)
    (hsome : mask ≠ 0) (hloops : ∀ l ∈ members 9 mask,
      bankOk m l (!bankSel m l) = true ∧ flag m (rGAR_LOOP_STAT l) fGAR_LOOP_STAT_SWAP_PEND = false) :
    bankSwapBody p m = (awaitSwap (members 9 mask) (swapInstant m mask) m, ok [w32 (swapInstant m mask).1, w32 (swapInstant m mask).2]) := by
  subst hmask
  have hvalid : (members 9 (bits (par p 0) 8 0)).find? (fun l => !bankOk m l (!bankSel m l)) = none :=
    List.find?_eq_none.mpr fun l hl => by simp [(hloops l hl).1]
  have hidle : (members 9 (bits (par p 0) 8 0)).any (fun l => flag m (rGAR_LOOP_STAT l) fGAR_LOOP_STAT_SWAP_PEND) = false :=
    List.any_eq_false.mpr fun l hl => by simp [(hloops l hl).2]
  simp only [bankSwapBody, hclean, bne_iff_ne.mpr hsome, Bool.and_self, require_ok, hvalid, hidle, Bool.false_eq_true, if_false]
  rfl

/-! ### Injection -/

/-- The injection that TUNE_INJECT asks for. -/
def injectionOf (p : Packet) : InjRec :=
  { lp := bits (par p 0) 3 0, point := bits (par p 0) 9 8, signal := bits (par p 0) 13 12, ampl := sgn 32 (par p 1).toNat
    freq := bits (par p 2) 31 16, samples := bits (par p 2) 12 0, decim := bits (par p 3) 7 0 }

/-- R302: an injection into a closed loop starts, where none is under way. -/
theorem tuneInjectBody_of_closed {o : OpInfo} {l sig n : Nat} (hl : bits (par p 0) 3 0 = l) (hsig : bits (par p 0) 13 12 = sig)
    (hn : bits (par p 2) 12 0 = n) (hclean : clean (par p 0) [(13, 12), (9, 8), (3, 0)] = true) (hloop : l < 9) (hsignal : sig ≤ 2)
    (hpoint : bits (par p 0) 9 8 ≤ 1) (hcleanN : clean (par p 2) [(31, 16), (12, 0)] = true)
    (hfreq : sig = 1 → bits (par p 2) 31 16 ≤ 8 * loopRate l) (hsome : 1 ≤ n) (hmost : n ≤ 4096)
    (hcleanD : clean (par p 3) [(7, 0)] = true) (hdecim : 1 ≤ bits (par p 3) 7 0) (hnone : m.inject = none)
    (hclosed : loopClosed m l = true) : tuneInjectBody o p m =
      pend o .inject 0 p ({ m with inject := some (injectionOf p), capture := [] } |> setReg rGAR_CAP_STAT 0 |>
        setB rGAR_CAP_STAT fGAR_CAP_STAT_ACTIVE true |> setF rGAR_CAP_STAT fGAR_CAP_STAT_LOOP l) := by
  subst hl hsig hn
  have hslow : (bits (par p 0) 13 12 == 1 && decide (8 * loopRate (bits (par p 0) 3 0) < bits (par p 2) 31 16)) = false := by
    simpa using hfreq
  simp only [tuneInjectBody, hclean, hloop, hsignal, hpoint, hcleanN, hslow, hsome, hmost, hcleanD, hdecim, decide_true, Bool.not_false,
    Bool.and_self, require_ok, hnone, hclosed]
  rfl

/-- R302: records that exist, and whose reply fits its path, are read. -/
theorem captureReadBody_of_records {first n : Nat} (hfirst : bits (par p 0) 12 0 = first) (hn : bits (par p 1) 12 0 = n)
    (hclean : clean (par p 0) [(12, 0)] = true) (hcleanN : clean (par p 1) [(12, 0)] = true)
    (hvalid : flag m rGAR_CAP_STAT fGAR_CAP_STAT_VALID = true) (hheld : first + n ≤ m.capture.length) (hreply : 4 * n ≤ pathMax p.path) :
    captureReadBody p m =
      (m, ok (((m.capture.drop first).take n).flatMap fun (r, y, u, e) => [wordI r, wordI y, wordI u, wordI e])) := by
  subst hfirst hn
  simp only [captureReadBody, hclean, hcleanN, Bool.and_self, require_ok, hvalid, Bool.not_true, Bool.false_eq_true, if_false,
    Nat.not_lt.mpr hheld, Nat.not_lt.mpr hreply, or_self]

/-! ### Analog inputs -/

/-- R303: inputs whose words are in range take them, where the converters can bear the load. -/
theorem adcConfigBody_of_load {n first : Nat} {m' : Mach} (hn : bits (par p 0) 12 8 = n) (hfirst : bits (par p 0) 4 0 = first)
    (hm' : forEach (List.range n) (setAdcChan p first) m = m') (hlen : p.params.length = 1 + 3 * n)
    (hclean : clean (par p 0) [(12, 8), (4, 0)] = true) (hsome : 1 ≤ n) (hfits : first + n ≤ 24)
    (hwords : ∀ j < n, clean (par p (3 * j + 1)) [(31, 28)] = true ∧ fget (par p (3 * j + 1)) fADC_CH_CFG_RATE ≠ 3 ∧
      clean (par p (3 * j + 3)) [(31, 31), (27, 16), (11, 0)] = true)
    (hcal : pending m .cal = false) (hloadA : adcLoad m' false ≤ 1000000) (hloadB : adcLoad m' true ≤ 1000000) :
    adcConfigBody p m = (showAdc m', ok []) := by
  subst hn hfirst hm'
  have hall : (List.range (bits (par p 0) 12 8)).all (fun j => clean (par p (3 * j + 1)) [(31, 28)] &&
      fget (par p (3 * j + 1)) fADC_CH_CFG_RATE != 3 && clean (par p (3 * j + 3)) [(31, 31), (27, 16), (11, 0)]) = true := by
    simpa [and_assoc] using hwords
  simp only [adcConfigBody, if_neg (not_not_intro hlen), hclean, hsome, hfits, hall, decide_true, Bool.and_self, require_ok, hcal,
    Nat.not_lt.mpr hloadA, Nat.not_lt.mpr hloadB, or_self, Bool.false_eq_true, if_false]

/-! ### MOTOR_CMD -/

/-- What command `cmd` of MOTOR_CMD asks of its VALUE and of the channel (R296, R301). -/
def MotorTakes (cmd c : Nat) (v : Word) (m : Mach) : Prop :=
  (cmd = 0 → posMin m c ≤ sgn 32 v.toNat ∧ sgn 32 v.toNat ≤ posMax m c ∧ motFunc m c = 2) ∧
    (cmd = 1 → motFunc m c = 3 ∨ motFunc m c = 4) ∧ (cmd = 2 → v = 0 ∧ motState m c = 2) ∧
    (cmd = 3 → v = 0 ∧ releasable m c = true)

/-- What it does to the channel. -/
def motorDoes (cmd c : Nat) (v : Word) (m : Mach) : Mach :=
  if cmd = 0 then setMot c { motOf m c with cmdPos := sgn 32 v.toNat } m
  else if cmd = 1 then setMot c { motOf m c with cmdSpeed := v.toNat } m
  else if cmd = 2 then parkMotor c 7 m
  else releaseMotor c m

/-- A row of MOTOR_CMD answers as its command does to a channel that takes it. -/
theorem answers_of_motorRow {row : Packet → Instr} {cmd : Nat} {body : Nat → Word → Mach → Mach × Rep}
    (run : Packet → State → Host.Outcome State Fault Refusal) (hrun : ∀ p s, run p s = motorRow (row p) cmd body p s)
    (hbody : ∀ c v m, MotorTakes cmd c v m → body c v m = (motorDoes cmd c v m, ok []))
    (hrow : ∀ p s, exec (row p) s = run p s := by intros; rfl) :
    Answers row (native 0x6B 0 .topaz .any false false) noReply
      (fun p m => p.params.length = 2 ∧ clean (par p 0) [(10, 8), (1, 0)] = true ∧ bits (par p 0) 10 8 = cmd ∧ pending m .cal = false ∧
        MotorTakes cmd (bits (par p 0) 1 0) (par p 1) m)
      (fun _ _ => ok []) (fun p m => motorDoes cmd (bits (par p 0) 1 0) (par p 1) m) := by
  refine answers_of_body (fun p s => (hrow p s).trans (hrun p s)) ?_
  rintro p m ⟨hlen, hclean, hcmd, hcal, htakes⟩
  rw [withLen_ok (by simp [hlen]), hclean, hcmd, beq_self_eq_true, Bool.and_self, require_ok, hcal]
  exact hbody _ _ _ htakes

end Sys2Proof.Machine

open Sys2Proof Sys2Proof.Machine

/-- Settles O29: every check of a packet is one of the conditions of its clause, so what is left of each row is its effect. -/
theorem loopAndMotorRowsComplete : Obligations.LoopAndMotorRowsComplete := by
  refine ⟨answers_of_body (fun _ _ => rfl) ?config, answersMem_of_body (fun _ _ => rfl) ?load, answers_of_body (fun _ _ => rfl) ?swap,
    answers_of_body (fun _ _ => rfl) ?level, answers_of_body (fun _ _ => rfl) ?inject, answers_of_body (fun _ _ => rfl) ?capture,
    answers_of_body (fun _ _ => rfl) ?adc, ?motor⟩
  case config =>
    rintro p m ⟨hlen, hclean, hwords, hfree, hcal⟩
    rw [withLen_ok (by simp [hlen])]
    exact loopConfigBody_of_free rfl hclean hwords hfree hcal
  case load =>
    rintro p mem m ⟨hlen, hclean, hloop, hheld, hraw, hvalid, hswap⟩
    exact coefLoadBody_of_image rfl rfl rfl hlen hclean hloop hheld hraw hvalid hswap
  case swap =>
    rintro p m ⟨hlen, hclean, hsome, hloops⟩
    rw [withLen_ok (by simp [hlen])]
    exact bankSwapBody_of_valid rfl hclean hsome hloops
  case level =>
    rintro p m ⟨hlen, hclean, hmode, haim⟩
    rw [withLen_ok (by simp [hlen]), hclean, bne_iff_ne.mpr hmode, aimOk, decide_eq_true haim, Bool.and_self, Bool.and_self, require_ok]
  case inject =>
    rintro p m ⟨hlen, hclean, hloop, hsignal, hpoint, hcleanN, hfreq, hsome, hmost, hcleanD, hdecim, hnone, hclosed⟩
    rw [withLen_ok (by simp [hlen])]
    exact tuneInjectBody_of_closed rfl rfl rfl hclean hloop hsignal hpoint hcleanN hfreq hsome hmost hcleanD hdecim hnone hclosed
  case capture =>
    rintro p m ⟨hlen, hclean, hcleanN, hvalid, hheld, hreply⟩
    rw [withLen_ok (by simp [hlen])]
    exact captureReadBody_of_records rfl rfl hclean hcleanN hvalid hheld hreply
  case adc =>
    rintro p m ⟨hlen, hclean, hsome, hfits, hwords, hcal, hloadA, hloadB⟩
    exact adcConfigBody_of_load rfl rfl rfl hlen hclean hsome hfits hwords hcal hloadA hloadB
  case motor =>
    intro row hrow
    simp only [List.mem_cons, List.not_mem_nil, or_false] at hrow
    rcases hrow with rfl | rfl | rfl | rfl
    · refine answers_of_motorRow execMotorPosition (fun _ _ => rfl) fun c v m ⟨hposition, _, _, _⟩ => ?_
      obtain ⟨hmin, hmax, hswivel⟩ := hposition rfl
      exact (if_neg (by omega)).trans (if_neg (not_not_intro hswivel))
    · refine answers_of_motorRow execMotorSpeed (fun _ _ => rfl) fun c v m ⟨_, hspeed, _, _⟩ => ?_
      have hturns := hspeed rfl
      exact if_neg (by omega)
    · refine answers_of_motorRow execMotorPark (fun _ _ => rfl) fun c v m ⟨_, _, hpark, _⟩ => ?_
      obtain ⟨hv, hclosed⟩ := hpark rfl
      exact (if_neg (not_not_intro hv)).trans (if_neg (not_not_intro hclosed))
    · refine answers_of_motorRow execMotorRelease (fun _ _ => rfl) fun c v m ⟨_, _, _, hrelease⟩ => ?_
      obtain ⟨hv, hfree⟩ := hrelease rfl
      exact (if_neg (not_not_intro hv)).trans (if_neg (by simp [hfree]))
end

section
/-!
What the loops and motor channels meet (R285, R290 to R292, R295 to R298, R302, R304, R305): the end of an injection.
-/

namespace Sys2Proof.Machine

variable {j : InjRec} {m : Mach}

/-- What INJECTION_END does (R302): an injection ends with its last record, or without a result once its loop is no longer closed. -/
def injectionEnd (m : Mach) : Mach :=
  match m.inject with
  | none => m
  | some j =>
    if j.samples ≤ m.capture.length then endInject (ok []) m
    else if !loopClosed m j.lp then endInject (errW stSTATE_REJECT (viewReg m (rGAR_LOOP_STAT j.lp))) m
    else m

theorem exec_injectionEnd (t : Nat) (s : State) : exec (.injectionEnd t) s = runEvent t injectionEnd s := rfl

theorem injectionEnd_full (hj : m.inject = some j) (hfull : j.samples ≤ m.capture.length) : injectionEnd m = endInject (ok []) m := by
  rw [injectionEnd, hj]
  exact if_pos hfull

theorem injectionEnd_opened (hj : m.inject = some j) (hshort : m.capture.length < j.samples) (hopen : loopClosed m j.lp = false) :
    injectionEnd m = endInject (errW stSTATE_REJECT (viewReg m (rGAR_LOOP_STAT j.lp))) m := by
  rw [injectionEnd, hj]
  exact (if_neg (Nat.not_le.mpr hshort)).trans (if_pos (by rw [hopen, Bool.not_false]))

end Sys2Proof.Machine

open Sys2Proof Sys2Proof.Machine

/-- Settles O30: each event by the conditions under which it is due. -/
theorem loopEventsComplete : Obligations.LoopEventsComplete := by
  refine ⟨fun c u v pins => happens_of_run (execCurrentSample · c u v pins) (fun _ _ => rfl) ?sample,
    fun l => happens_of_run (execLoopOverrun · l) (fun _ _ => rfl) fun _ _ => rfl,
    happens_of_run execBankSwitch (fun _ _ => rfl) fun _ _ => rfl,
    fun bad => happens_of_run (execCoefCheck · bad) (fun _ _ => rfl) fun _ _ => rfl,
    fun c => ⟨happens_of_run (execFrozenFeedback · c) (fun _ _ => rfl) ?frozen,
      happens_of_run (execEncoderErrors · c) (fun _ _ => rfl) ?encoder,
      happens_of_run (execHomingComplete · c) (fun _ _ => rfl) ?homed,
      happens_of_run (execHomingTimeout · c) (fun _ _ => rfl) ?homingLate,
      happens_of_run (execMotorDriverFault · c) (fun _ _ => rfl) fun _ _ => rfl⟩,
    fun j => happens_of_event exec_injectionEnd fun _ h => injectionEnd_full h.1 h.2,
    fun j => happens_of_event exec_injectionEnd fun _ h => injectionEnd_opened h.1 h.2.1 h.2.2,
    fun k raw => happens_of_run (execAdcConversion · k raw) (fun _ _ => rfl) ?conversion⟩
  case sample =>
    intro m hruns
    exact if_pos hruns
  case frozen =>
    rintro m ⟨hclosed, hlong⟩
    exact if_pos (by simp [hclosed, hlong])
  case encoder =>
    rintro m ⟨hclosed, hmany⟩
    exact if_pos (by rw [hclosed, encoderBad, decide_eq_true hmany]; rfl)
  case homed =>
    rintro m ⟨hhoming, hstill⟩
    exact if_pos (by simp [hhoming, hstill])
  case homingLate =>
    rintro m ⟨hhoming, hlate⟩
    exact if_pos (by simp [hhoming, hlate])
  case conversion =>
    rintro m ⟨hon, hruns, hscans⟩
    exact if_pos (by rw [hon, hruns, hscans]; rfl)
end

section
/-!
The safety envelope (R174, R175, R317 to R321, R324): what the rows of SAFE_WRITE and SAFE_READ make of an envelope that passes its checks,
and what becomes of the copy of a compliance map that agrees with its CRC.
-/

namespace Sys2Proof.Machine

variable {who : Option Nat} {e : Env} {m : Mach}

/-! ### The checks of R317 -/

/-- No cause of R317 is found in an envelope that is taken. -/
theorem envCause_of_taken {write dataOk stateOk : Bool} {wait : Nat} {good : Prop} (htaken : EnvTaken write wait who e good m)
    (hdata : dataOk = true) (hstate : stateOk = true) : envCause m who e wait write dataOk stateOk = 0 := by
  obtain ⟨_, _, hnew, hwindow, hsync, hintime, hallowed, hlock, _⟩ := htaken
  have hnear : ¬ (inSync m who = false ∧ seqWin m who < (e.seq + 65536 - lastSeq m who) % 65536) :=
    fun hfar => Nat.not_lt.mpr (hwindow hfar.1) hfar.2
  have hbeat : ¬ (inSync m who = true ∧ e.obj ≠ 1) := fun hother => hother.2 (hsync hother.1)
  have hopen : ¬ (write = true ∧ e.obj = 6 ∧ locked m = true) :=
    fun ⟨hwrite, hobj, hlocked⟩ => Bool.false_ne_true ((hlock hwrite hobj).symm.trans hlocked)
  simp only [envCause, hnew, hnear, hbeat, Nat.not_lt.mpr hintime, hallowed, hdata, hopen, hstate, Bool.true_eq_false, if_false]

/-- An envelope that is taken has its effect once its producer has been accounted for. -/
theorem runEnv_of_taken {exact write : Bool} {ws : List Word} {wait : Nat} {good : Prop}
    {dataOk stateOk : Nat → List Word → Mach → Bool} {effect : Option Nat → Env → Mach → Mach × Rep}
    (hparse : parseEnv exact ws = .inr e) (htaken : EnvTaken write wait who e good m)
    (hdata : dataOk e.obj e.data m = true) (hstate : stateOk e.obj e.data m = true) :
    runEnv exact ws wait write dataOk stateOk effect m = effect who e (accountEnv who e write 0 m) := by
  have hcause := envCause_of_taken htaken hdata hstate
  obtain ⟨hon, hprod, _⟩ := htaken
  simp only [runEnv, hon, hparse, hprod, hcause, Bool.false_eq_true, if_false, if_true]

/-! ### SAFE_WRITE -/

/-- What a row of SAFE_WRITE makes of an envelope, in a Dratus packet (`p`) or in a frame. -/
def writeEnv (obj : Nat) (dataOk stateOk : List Word → Mach → Bool)
    (effect : Option Nat → Option Packet → List Word → Mach → Mach × Rep) (p : Option Packet) (ws : List Word) (wait : Nat) :
    Mach → Mach × Rep :=
  runEnv p.isSome ws wait true (fun o d m => o == obj && dataOk d m) (fun _ d m => stateOk d m) (fun who e m => effect who p e.data m)

section
variable {row : EnvSrc → Instr} {obj waitMs : Nat} {dataOk stateOk : List Word → Mach → Bool}
  {effect : Option Nat → Option Packet → List Word → Mach → Mach × Rep} {good : List Word → Mach → Prop}
  (run : EnvSrc → State → Host.Outcome State Fault Refusal)

theorem safeWrite_dratus (i : Instr) (p : Packet) (s : State) : safeWrite i obj dataOk stateOk effect (.dratus p waitMs) s =
    runDratus i opSafeWrite noReply
      (fun p m => writeEnv obj dataOk stateOk effect (some p) p.params (m.now - p.t + ms waitMs) m) p s := rfl

theorem safeWrite_native (i : Instr) (f : CanFrame) (t : Nat) (s : State) :
    safeWrite i obj dataOk stateOk effect (.native { f with t := t } waitMs) s = runEvent t (fun m =>
      if !nativeTaken m f then m else
      let (m, r) := writeEnv obj dataOk stateOk effect none f.words (ms waitMs) m
      when (m.pwr.st == 2 && r.status != stSAFETY_REJECT) (wakeEvent 8) m) s := rfl

theorem writeEnv_of_taken {p : Option Packet} {ws : List Word} {wait : Nat}
    (hgood : ∀ d m, good d m → dataOk d m = true ∧ stateOk d m = true) (hparse : parseEnv p.isSome ws = .inr e) (hobj : e.obj = obj)
    (htaken : EnvTaken true wait who e (good e.data m) m) :
    writeEnv obj dataOk stateOk effect p ws wait m = effect who p e.data (accountEnv who e true 0 m) := by
  have ⟨_, _, _, _, _, _, _, _, hright⟩ := htaken
  obtain ⟨hdata, hstate⟩ := hgood _ _ hright
  exact runEnv_of_taken hparse htaken (by simp [hobj, hdata]) hstate

/-- A SAFE_WRITE in a Dratus packet answers as the effect on its object does. -/
theorem answers_of_safeWrite {rep : Rep} {eff : Packet → Mach → Mach}
    (hrun : ∀ src s, run src s = safeWrite (row src) obj dataOk stateOk effect src s)
    (hgood : ∀ d m, good d m → dataOk d m = true ∧ stateOk d m = true)
    (heffect : ∀ p m, effect who (some p) e.data m = (eff p m, rep)) (hnow : rep.later = false)
    (hrow : ∀ src s, exec (row src) s = run src s := by intros; rfl) :
    Answers (fun p => row (.dratus p waitMs)) opSafeWrite noReply
      (fun p m => parseEnv true p.params = .inr e ∧ e.obj = obj ∧ EnvTaken true (m.now - p.t + ms waitMs) who e (good e.data m) m)
      (fun _ _ => rep) (fun p m => eff p (accountEnv who e true 0 m)) := by
  refine answers_of_body (fun p s => ((hrow _ s).trans (hrun _ s)).trans (safeWrite_dratus _ p s)) ?_ fun _ _ => hnow
  rintro p m ⟨hparse, hobj, htaken⟩
  rw [writeEnv_of_taken (p := some p) hgood hparse hobj htaken, heffect]

/-- A SAFE_WRITE in a native frame that Onyx takes has the effect on its object, and wakes the device from SLEEP. -/
theorem happens_of_safeWrite {f : CanFrame} {eff : Mach → Mach}
    (hrun : ∀ src s, run src s = safeWrite (row src) obj dataOk stateOk effect src s)
    (hgood : ∀ d m, good d m → dataOk d m = true ∧ stateOk d m = true)
    (heffect : ∀ m, effect who none e.data m = (eff m, ok []))
    (hrow : ∀ src s, exec (row src) s = run src s := by intros; rfl) :
    Happens (fun t => row (.native { f with t := t } waitMs))
      (fun m => nativeTaken m f = true ∧ parseEnv false f.words = .inr e ∧ e.obj = obj ∧
        EnvTaken true (ms waitMs) who e (good e.data m) m)
      (fun m =>
        let n := eff (accountEnv who e true 0 m)
        when (n.pwr.st == 2) (wakeEvent 8) n) := by
  refine happens_of_event (fun t s => ((hrow _ s).trans (hrun _ s)).trans (safeWrite_native _ f t s)) ?_
  rintro m ⟨hnative, hparse, hobj, htaken⟩
  have haccepted : ((ok []).status != stSAFETY_REJECT) = true := rfl
  simp only [hnative, writeEnv_of_taken (p := none) hgood hparse hobj htaken, heffect, haccepted, Bool.and_true, Bool.not_true,
    Bool.false_eq_true, if_false]

/-- A row of SAFE_WRITE whose effect answers OK writes its object. -/
theorem writesObject_of_safeWrite {eff : List Word → Mach → Mach}
    (hrun : ∀ src s, run src s = safeWrite (row src) obj dataOk stateOk effect src s)
    (hgood : ∀ d m, good d m → dataOk d m = true ∧ stateOk d m = true)
    (heffect : ∀ who p d m, effect who p d m = (eff d m, ok []))
    (hrow : ∀ src s, exec (row src) s = run src s := by intros; rfl) : WritesObject row obj good eff :=
  fun _ _ _ => ⟨answers_of_safeWrite run hrun hgood (fun _ _ => heffect _ _ _ _) rfl hrow,
    fun _ => happens_of_safeWrite run hrun hgood (fun _ => heffect _ _ _ _) hrow⟩

end

/-! ### COMPLIANCE_MAP -/

/-- Onyx's copy of a map is under way (R174), for a packet (`dratus`) or for a frame. -/
def copyStarted (who : Option Nat) (dratus : Bool) (d : List Word) (m : Mach) : Mach :=
  let t := bits (d.getD 0 0) 4 0
  let dim := (mapGeom m t).getD (0, 0)
  let c : MapCopy :=
    { beam := bits (d.getD 0 0) 9 8, handle := (d.getD 1 0).toNat, crc := d.getD 2 0, persist := bit (d.getD 0 0) 16, w := dim.1
      h := dim.2, slot := who, dratus := dratus, noSpace := !Config.mapRoom (zonesHeld m) (zoneCount dim.1 dim.2) }
  setTilePix t { pixOf m t with copies := (pixOf m t).copies ++ [c] } m

theorem startMap_dratus (p : Packet) (d : List Word) :
    startMap who (some p) d m = pend opSafeWrite .map (bits (d.getD 0 0) 4 0) p (copyStarted who true d m) := rfl

theorem startMap_native (d : List Word) : startMap who none d m = (copyStarted who false d m, ok []) := rfl

/-- The tile has the oldest copy `c` as its new set; the FALLBACK of the copy's producer ends, and the reply of a packet follows. -/
def copyTaken (mem : Tab Byte) (t : Nat) (c : MapCopy) (m : Mach) : Mach :=
  let set : MapSet := { w := c.w, h := c.h, zones := mapWords mem c, crc := c.crc, persist := c.persist }
  let m := match c.slot with
    | some k => endFallback k 4 m
    | none => m
  m |> setTilePix t { pixOf m t with setsNew := tput {} (pixOf m t).setsNew c.beam set } |> when c.dratus (finish .map t (ok []))

theorem exec_mapCopyDone {t : Nat} {tile : Fin 24} {s : State} (hon : hwSafe (atTime t s.blk) = false) :
    exec (.mapCopyDone t tile) s = .next (after (mapCopyDone s.mem tile (atTime t s.blk)) s) := by
  have hexec : exec (.mapCopyDone t tile) s = runEvent t (fun m => when (!hwSafe m) (mapCopyDone s.mem tile) m) s := rfl
  rw [hexec, runEvent_next, hon]
  rfl

/-- R175: a copy that agrees with its CRC, and for which the table region has room, is taken. -/
theorem mapCopyDone_agrees {mem : Tab Byte} {t : Nat} {c : MapCopy} {rest : List MapCopy} {n : Mach}
    (hn : setTilePix t { pixOf m t with copies := rest } m = n) (hcopies : (pixOf m t).copies = c :: rest) (hroom : c.noSpace = false)
    (hagrees : mapCopyOk mem n c = true) : mapCopyDone mem t m = copyTaken mem t c n := by
  subst hn
  simp only [mapCopyDone, hcopies, hroom, hagrees, Bool.not_true, Bool.false_eq_true, if_false]
  rfl

end Sys2Proof.Machine

open Sys2Proof Sys2Proof.Machine

/-- Settles O31: each row by its object's own checks and effect; a copy that agrees is taken. -/
theorem envelopeRowsComplete : Obligations.EnvelopeRowsComplete := by
  have hmap : ∀ d m, mapDataOk d m = true → mapDataOk d m = true ∧ anyState d m = true := fun _ _ hdata => ⟨hdata, rfl⟩
  refine ⟨writesObject_of_safeWrite execHeartbeat (fun _ _ => rfl) ?heartbeat fun _ _ _ _ => rfl,
    writesObject_of_safeWrite execBeamMode (fun _ _ => rfl) ?beam fun _ _ _ _ => rfl,
    writesObject_of_safeWrite execMaskEnable (fun _ _ => rfl) ?mask fun _ _ _ _ => rfl,
    writesObject_of_safeWrite execOutput (fun _ _ => rfl) ?output fun _ _ _ _ => rfl,
    writesObject_of_safeWrite execSafeConfig (fun _ _ => rfl) ?config fun _ _ _ _ => rfl,
    fun e who waitMs => ⟨answers_of_safeWrite execComplianceMap (fun _ _ => rfl) hmap (fun _ _ => startMap_dratus _ _) rfl,
      fun f => happens_of_safeWrite execComplianceMap (fun _ _ => rfl) hmap fun _ => startMap_native _⟩, ?copy⟩
  case heartbeat =>
    rintro d m rfl
    exact ⟨rfl, rfl⟩
  case beam | mask =>
    rintro d m ⟨hlen, hclean⟩
    exact ⟨by simp only [hlen, hclean, decide_true, Bool.and_self], rfl⟩
  case output =>
    rintro d m ⟨hlen, hclean, hon⟩
    refine ⟨by simp only [hlen, hclean, decide_true, Bool.and_self], ?_⟩
    rw [Bool.not_eq_true', List.any_eq_false]
    intro j hj
    obtain ⟨hstop, hfault⟩ := hon j hj
    simp [hstop, hfault]
  case config =>
    rintro d m ⟨hlen, hclean, hvalue⟩
    exact ⟨by simp only [hlen, hclean, hvalue, decide_true, Bool.and_self], rfl⟩
  case copy =>
    intro t tile c rest s m hon hcopies hroom hagrees
    rw [exec_mapCopyDone hon, mapCopyDone_agrees rfl hcopies hroom hagrees]
    rfl

/-- Settles O32: SAFE_READ by the envelope that it takes, SAFE_STATUS by the words that it shows. -/
theorem safeReadsComplete : Obligations.SafeReadsComplete := by
  refine ⟨fun e who => answers_of_body (fun _ _ => rfl) ?read, answers_of_body (fun _ _ => rfl) ?status⟩
  case read =>
    rintro p m ⟨hparse, htaken⟩
    have ⟨_, _, _, _, _, _, _, _, hdata⟩ := htaken
    exact runEnv_of_taken hparse htaken hdata rfl
  case status =>
    rintro p m ⟨hlen, hon⟩
    rw [withLen_ok (by simp [hlen]), hon]
    rfl
end

section
/-!
What Onyx sees and does of its own (R310, R312, R313, R318, R322 to R324, R327, R328): each event where it is due.
-/

namespace Sys2Proof.Machine

variable {m : Mach}

/-- A row that Onyx handles and that runs as `run` takes the effect that its event has under the guard. -/
theorem happens_of_onyxRun {row : Nat → Instr} (run : Nat → State → Host.Outcome State Fault Refusal) {f : Mach → Mach}
    {guard : Mach → Prop} {eff : Mach → Mach} (hrun : ∀ t s, run t s = runOnyx t f s) (hacts : ∀ m, guard m → onyxActs m = true)
    (hf : ∀ m, guard m → f m = eff m) (hrow : ∀ t s, exec (row t) s = run t s := by intros; rfl) : Happens row guard eff :=
  happens_of_onyx (fun t s => (hrow t s).trans (hrun t s)) hacts hf

/-- The condition of a latched cause is recorded each time that it is found. -/
theorem causeIs_latched {b : Nat} (hb : 16 ≤ b) : causeIs b true m = causeOn b m := by
  have hlatched : ¬ (true == hasBit m.saf.cond b && decide (b < 16)) = true := by simp [Nat.not_lt.mpr hb]
  rw [causeIs, if_neg hlatched, if_pos rfl]

/-- R310: a wrong readback of LIMP_N is a condition of CLOCK_IO. -/
theorem clockIo_limpBad (hbad : m.flt.limpBad = true) : clockIo m = causeOn 19 m := by
  rw [clockIo, hbad, Bool.or_true]
  exact causeIs_latched (by omega)

/-! ### Outputs (R324) -/

section
variable {j : Nat} {fb pin : Bool} (hen : flag m (rSAF_OUT_CFG j) fSAF_OUT_CFG_EN = true)
include hen

theorem outputMismatch_lost (hchecked : fbChecked m j = true) (hon : flag m (rSAF_OUT_STAT j) fSAF_OUT_STAT_OUT = true)
    (hopen : fbClosed m j fb = false) : outputMismatch j fb pin m = outputFails j 1 fb pin m := by
  simp only [outputMismatch, hen, hchecked, hon, hopen, Bool.not_true, Bool.not_false, Bool.and_self, Bool.false_eq_true, if_false, if_true]

theorem outputMismatch_stuck (hchecked : fbChecked m j = true) (hoff : flag m (rSAF_OUT_STAT j) fSAF_OUT_STAT_OUT = false)
    (hclosed : fbClosed m j fb = true) : outputMismatch j fb pin m = outputFails j 2 fb pin m := by
  simp only [outputMismatch, hen, hchecked, hoff, hclosed, Bool.not_true, Bool.not_false, Bool.and_self, Bool.and_false, Bool.false_eq_true,
    if_false, if_true]

/-- A wrong pin is found where the feedback is right or not yet checked. -/
theorem outputMismatch_pin (hright : fbChecked m j = false ∨ fbClosed m j fb = flag m (rSAF_OUT_STAT j) fSAF_OUT_STAT_OUT)
    (hpin : pin ≠ flag m (rSAF_OUT_STAT j) fSAF_OUT_STAT_OUT) : outputMismatch j fb pin m = outputFails j 3 fb pin m := by
  have hlost : (fbChecked m j && flag m (rSAF_OUT_STAT j) fSAF_OUT_STAT_OUT && !fbClosed m j fb) = false := by
    rcases hright with h | h <;> simp [h]
  have hstuck : (fbChecked m j && !flag m (rSAF_OUT_STAT j) fSAF_OUT_STAT_OUT && fbClosed m j fb) = false := by
    rcases hright with h | h <;> simp [h]
  simp only [outputMismatch, hen, hlost, hstuck, bne_iff_ne.mpr hpin, Bool.not_true, Bool.false_eq_true, if_false, if_true]

end

/-! ### The SAF tick (R310, R312, R327) -/

/-- What the SAF tick does before it judges LIMP_N: Onyx reads its pins again. -/
def pinsReadAgain (pins : SafPins) (m : Mach) : Mach :=
  { m with saf := { m.saf with tickAt := windowEnd m.pwr.safAt (ms 1) m } } |> readPins pins |> clockIo

theorem exec_safTick (pins : SafPins) (t : Nat) (s : State) : exec (.safTick ⟨t, pins⟩) s = runOnyx t (safTick pins) s := rfl

theorem safTick_due {pins : SafPins} (hdue : windowDue m.pwr.safAt (ms 1) m.saf.tickAt m = true) :
    safTick pins m = limpRises (pinsReadAgain pins m) := by
  rw [safTick, hdue]
  rfl

theorem limpRises_stays (h : causePresent m = true ∨ m.saf.limpHigh = true) : limpRises m = m := if_pos (by simpa using h)

theorem limpRises_rises (hcause : causePresent m = false) (hlow : m.saf.limpHigh = false) : limpRises m =
    ({ m with saf := { m.saf with limpHigh := true }, limpAt := m.now } |> setB rSAF_STAT fSAF_STAT_LIMP false) :=
  if_neg (by simp [hcause, hlow])

/-! ### SAF_ACK (R313) -/

theorem exec_qualifiedSafAckEdge (lowAt riseAt : Nat) (pins : SafPins) (t : Nat) (s : State) :
    exec (.qualifiedSafAckEdge t ⟨lowAt, riseAt, pins⟩) s =
      runOnyx t (fun m => when (ackQualified lowAt riseAt m) (ackEdge pins) m) s := rfl

theorem exec_ackStuck (riseAt : Nat) (t : Nat) (s : State) : exec (.ackStuck ⟨t, riseAt⟩) s = runOnyx t (ackStuck riseAt) s := rfl

theorem ackQualified_iff {lowAt riseAt : Nat} : ackQualified lowAt riseAt m = true ↔
    m.pwr.safAt ≤ lowAt ∧ m.saf.ackAt ≤ lowAt ∧
      lowAt + ms (getF m rSAF_GEN_CFG fSAF_GEN_CFG_ACK_LOW) ≤ riseAt ∧ riseAt + ms 10 ≤ m.now := by
  simp only [ackQualified, Bool.and_eq_true, decide_eq_true_eq, and_assoc]

end Sys2Proof.Machine

open Sys2Proof Sys2Proof.Machine

/-- Settles O33: each event by the conditions under which it is due. -/
theorem onyxEventsComplete : Obligations.OnyxEventsComplete := by
  refine ⟨fun k => happens_of_onyxRun (execProducerExpiry · k) (fun _ _ => rfl) (fun _ h => h.1) ?expiry,
    fun n => ⟨fun a b => happens_of_onyxRun (execSafetyInputChange · n a b) (fun _ _ => rfl) (fun _ h => h) fun _ _ => rfl,
      happens_of_onyxRun (execInputDiscrepancy · n) (fun _ _ => rfl) (fun _ h => h.1) ?discrepancy,
      fun changes => happens_of_onyxRun (execInputRateWindow · n changes) (fun _ _ => rfl) (fun _ h => h.1) ?rate,
      fun levels => happens_of_onyxRun (execTestPulse · n levels) (fun _ _ => rfl) (fun _ h => h.1) ?pulse⟩,
    fun j fb pin => happens_of_onyxRun (execOutputFeedbackMismatch · j fb pin) (fun _ _ => rfl) (fun _ h => h.1) ?lost,
    fun j fb pin => happens_of_onyxRun (execOutputFeedbackMismatch · j fb pin) (fun _ _ => rfl) (fun _ h => h.1) ?stuck,
    fun j fb pin => happens_of_onyxRun (execOutputFeedbackMismatch · j fb pin) (fun _ _ => rfl) (fun _ h => h.1) ?pin,
    happens_of_onyxRun execLimpReadback (fun _ _ => rfl) (fun _ h => h) ?readback,
    fun clk => happens_of_onyxRun (execClockMonitor · clk) (fun _ _ => rfl) (fun _ h => h.1) ?clock,
    fun pins => ⟨happens_of_onyx (exec_safTick pins) (fun _ h => h.1.1) ?limpStays,
      happens_of_onyx (exec_safTick pins) (fun _ h => h.1.1) ?limpRises⟩,
    happens_of_run execHwsafe (fun _ _ => rfl) fun _ hon => if_pos hon,
    fun lowAt riseAt pins => ⟨happens_of_onyx (exec_qualifiedSafAckEdge lowAt riseAt pins) (fun _ h => h.1) ?ack,
      happens_of_onyx (exec_qualifiedSafAckEdge lowAt riseAt pins) (fun _ h => h.1) ?unqualified⟩,
    fun riseAt => happens_of_onyx (exec_ackStuck riseAt) (fun _ h => h.1) ?ackHigh⟩
  case expiry =>
    rintro m ⟨_, hruns, hen, hlive, hlate⟩
    exact if_pos (by simp [hruns, hen, hlive, hlate])
  case discrepancy =>
    rintro m ⟨_, hused, hdiffer, hlate⟩
    exact if_pos (by simp [hused, hdiffer, hlate])
  case rate =>
    rintro m ⟨_, hused, hdue, hmany⟩
    refine (if_neg (by simp [hused, hdue])).trans ?_
    simp only [decide_eq_true hmany]
    rfl
  case pulse =>
    rintro m ⟨_, hdue⟩
    exact if_neg (by simp [hdue])
  case lost =>
    rintro m ⟨_, hen, hchecked, hon, hopen⟩
    exact outputMismatch_lost hen hchecked hon hopen
  case stuck =>
    rintro m ⟨_, hen, hchecked, hoff, hclosed⟩
    exact outputMismatch_stuck hen hchecked hoff hclosed
  case pin =>
    rintro m ⟨_, hen, hright, hpin⟩
    exact outputMismatch_pin hen hright hpin
  case readback =>
    intro m _
    exact congrArg (raise 5 noInst) (clockIo_limpBad rfl)
  case clock =>
    rintro m ⟨_, hruns, hentry, hpix⟩
    have hstands : (clk == 2 && !inRun m) = false := by simpa using hpix
    exact if_neg (by simp [hruns, hentry, hstands])
  case limpStays =>
    rintro m ⟨⟨_, hdue⟩, hstays⟩
    exact (safTick_due hdue).trans (limpRises_stays hstays)
  case limpRises =>
    rintro m ⟨⟨_, hdue⟩, hcause, hlow⟩
    exact (safTick_due hdue).trans (limpRises_rises hcause hlow)
  case ack =>
    rintro m ⟨_, hqualified⟩
    exact if_pos (ackQualified_iff.mpr hqualified)
  case unqualified =>
    rintro m ⟨_, hunqualified⟩
    exact if_neg (hunqualified ∘ ackQualified_iff.mp)
  case ackHigh =>
    rintro m ⟨_, hlong, hnew⟩
    exact if_neg (by simp [hlong, hnew])
end

section
/-!
What every command keeps: it answers a next state, leaves the waiting commands alone, and keeps the layer pool in its canonical form.
-/

namespace Sys2Proof.Machine

/-! ### Bodies that write the pool keep its form -/

section
variable {p : Packet} {mem : Tab Byte} {m : Mach} (h : Memory.wf mem)
include h

theorem writeInto_wf {i off : Nat} {data : List Word} : Memory.wf (writeInto i off data mem m).mem := by
  rw [writeInto, apply_ite MemRep.mem]
  split
  · exact h
  · exact poolWrite_wf h

theorem bufAllocBody_wf : Memory.wf (bufAllocBody p mem m).mem := by
  rcases bufAllocBody_cases p mem m with hkept | ⟨size, l, i, gen, -, -, hallocated⟩
  · rwa [hkept]
  · rw [hallocated]
    exact poolClear_wf h

theorem bufWriteBody_wf : Memory.wf (bufWriteBody p mem m).mem := by
  unfold bufWriteBody
  split
  · exact h
  · split
    · exact h
    · exact writeInto_wf h

theorem frameWriteBody_wf : Memory.wf (frameWriteBody p mem m).mem := by
  unfold frameWriteBody
  split
  · exact h
  · split
    · exact h
    · split
      · exact h
      · exact writeInto_wf h

theorem bamutEnableBody_wf : Memory.wf (bamutEnableBody p mem m).mem := by
  simp only [bamutEnableBody, apply_ite MemRep.mem]
  cases htiles : legacyTiles (bits (par p 0) 1 0) (legacyMap p) ⟨[], mem, m⟩ with
  | none => simpa using h
  | some r =>
    have hr : Memory.wf r.mem := legacyTiles_wf h htiles
    split_ifs <;> assumption

theorem pixelBlk_wf {b : Blk} : Memory.wf (pixelBlk b mem m).1 := by
  simp only [pixelBlk, apply_ite Prod.fst]
  split_ifs
  · exact streamPixels_wf h
  · exact h
  · exact h

theorem placementPlan_wf {plan : PlanEnv} : Memory.wf (placementPlan plan mem m).1 := by
  cases hfits : planFits (planMoves plan m) m with
  | false => rwa [placementPlan_undecided hfits]
  | true =>
    rw [placementPlan_decided hfits]
    exact foldl_wf (fun _ _ => poolZeroPage_wf) h

end

/-! ### The forms of a row -/

/-- The outcome `r` of a command in state `s` is a next state with the same waiting commands, whose pool is in its canonical form where that
of `s` is. -/
def Keeps (s : State) (r : Host.Outcome State Fault Refusal) : Prop :=
  ∃ t, r = .next t ∧ t.pending = s.pending ∧ (State.Safe s → State.Safe t)

section
variable {s : State}

theorem keeps_of_sameMem {r : Host.Outcome State Fault Refusal} (h : ∃ t, r = .next t ∧ t.pending = s.pending ∧ t.mem = s.mem) :
    Keeps s r := by
  obtain ⟨t, rfl, hpending, hmem⟩ := h
  exact ⟨t, rfl, hpending, fun hs => show Memory.wf t.mem from hmem ▸ hs⟩

/-- What keeps the waiting commands and the pool of a state with another block keeps those of the state itself. -/
theorem keeps_of_blk {m : Mach} {r : Host.Outcome State Fault Refusal} (h : Keeps { s with blk := m } r) : Keeps s r := h

theorem keeps_done (m : Mach) : Keeps s (done s m) := keeps_of_sameMem (done_keeps m)

theorem keeps_runEvent {t : Nat} {f : Mach → Mach} : Keeps s (runEvent t f s) := keeps_of_sameMem (runEvent_keeps t f)

theorem keeps_runEventMem {t : Nat} {f : Tab Byte → Mach → Tab Byte × Mach} (hf : ∀ {mem m}, Memory.wf mem → Memory.wf (f mem m).1) :
    Keeps s (runEventMem t f s) := ⟨_, runEventMem_next t f, rfl, fun hs => hf hs⟩

section
variable {i : Instr} {o : OpInfo} {rlen : Packet → Mach → Nat} {p : Packet}

theorem keeps_runDratus {body : Packet → Mach → Mach × Rep} : Keeps s (runDratus i o rlen body p s) := keeps_of_sameMem runDratus_keeps

theorem keeps_runDratusMem {body : Packet → Tab Byte → Mach → MemRep} (hbody : ∀ {mem m}, Memory.wf mem → Memory.wf (body p mem m).mem) :
    Keeps s (runDratusMem i o rlen body p s) := by
  obtain ⟨t, ht, hpending⟩ := runDratusMem_keeps (s := s) (i := i) (o := o) (rlen := rlen) (p := p) (body := body)
  refine ⟨t, ht, hpending, fun hs => ?_⟩
  rcases runDratusMem_starts_or_keeps ht with ⟨m, hstart⟩ | hkept
  · rw [runDratusMem_starts hstart, Host.Outcome.next.injEq] at ht
    have hmem : t.mem = (body p s.mem m).mem := by
      rw [← ht]
      split <;> rfl
    exact show Memory.wf t.mem from hmem ▸ hbody hs
  · exact show Memory.wf t.mem from hkept ▸ hs

theorem keeps_runDratusMem_of_reads {body : Packet → Tab Byte → Mach → MemRep} (hbody : ∀ p mem m, (body p mem m).mem = mem) :
    Keeps s (runDratusMem i o rlen body p s) := keeps_runDratusMem fun h => (hbody p _ _).symm ▸ h

theorem keeps_safeWrite {obj : Nat} {dataOk stateOk : List Word → Mach → Bool}
    {effect : Option Nat → Option Packet → List Word → Mach → Mach × Rep} {src : EnvSrc} :
    Keeps s (safeWrite i obj dataOk stateOk effect src s) := by
  unfold safeWrite
  cases src with
  | dratus p waitMs => exact keeps_runDratus
  | native f waitMs => exact keeps_runEvent

theorem keeps_badOpcode {ver op : Nat} : Keeps s (execBadOpcode p ver op s) := by
  unfold execBadOpcode
  split <;> exact keeps_done _

end

/-! ### The row of a packet that a carrier delivers -/

section
variable {p : Packet} {e : PktEnv} {op : Nat}

theorem keeps_regRead : Keeps s (execRegRead p s) := by
  unfold execRegRead
  exact keeps_runDratus

theorem keeps_runSystem : Keeps s (runSystem op e p s) := by
  unfold runSystem
  split
  -- SET_POWER
  case h_5 => split <;> exact keeps_runDratus
  -- SYSTEM_RESET
  case h_14 => split <;> exact keeps_runDratus
  -- REG_READ
  case h_15 => exact keeps_regRead
  -- no row
  case h_21 => exact keeps_badOpcode
  all_goals exact keeps_runDratus

theorem keeps_runPixel : Keeps s (runPixel op e p s) := by
  unfold runPixel
  split
  -- BUF_ALLOC
  case h_1 => exact keeps_runDratusMem bufAllocBody_wf
  -- BUF_WRITE
  case h_3 => exact keeps_runDratusMem bufWriteBody_wf
  -- BUF_READ
  case h_4 => exact keeps_runDratusMem_of_reads bufReadBody_mem
  -- STREAM_BIND
  case h_6 => split <;> exact keeps_runDratus
  -- WARP_MESH_LOAD
  case h_17 => exact keeps_runDratusMem_of_reads warpMeshBody_mem
  -- POSE_CONFIG
  case h_19 => split_ifs <;> exact keeps_runDratus
  -- no row
  case h_21 => exact keeps_badOpcode
  all_goals exact keeps_runDratus

theorem keeps_runPorts : Keeps s (runPorts op p s) := by
  unfold runPorts
  split
  -- UNIFORMITY_LOAD
  case h_2 => exact keeps_runDratusMem_of_reads uniformityBody_mem
  -- WEAR_TABLE_LOAD
  case h_3 => exact keeps_runDratusMem_of_reads wearTableBody_mem
  -- TRANSFER_CURVE_LOAD
  case h_4 => exact keeps_runDratusMem_of_reads curveBody_mem
  -- PORT_LOOPBACK
  case h_11 =>
    unfold runPorts.loopbackRow
    split <;> exact keeps_runDratus
  -- TILE_AUTH_POLICY
  case h_15 => split_ifs <;> exact keeps_runDratus
  -- TWIN_SET
  case h_16 => split <;> exact keeps_runDratus
  -- no row
  case h_18 => exact keeps_badOpcode
  all_goals exact keeps_runDratus

theorem keeps_runControl : Keeps s (runControl op p s) := by
  unfold runControl
  split
  -- AURORA_LOAD
  case h_5 => split <;> exact keeps_runDratus
  -- AURORA_RUN
  case h_6 => split <;> exact keeps_runDratus
  -- COEF_LOAD
  case h_10 => exact keeps_runDratusMem_of_reads coefLoadBody_mem
  -- MOTOR_CMD
  case h_12 =>
    unfold runControl.motorRow
    split <;> exact keeps_runDratus
  -- no row
  case h_17 => exact keeps_badOpcode
  all_goals exact keeps_runDratus

theorem keeps_runService : Keeps s (runService op e p s) := by
  unfold runService
  split
  -- UPD_BEGIN
  case h_1 => split <;> exact keeps_runDratus
  -- CAL_RUN
  case h_7 => split <;> exact keeps_runDratus
  -- SAFE_WRITE
  case h_9 =>
    dsimp only [runService.safeRow]
    split <;> exact keeps_safeWrite
  -- BAMUT_ENABLE
  case h_12 => exact keeps_runDratusMem bamutEnableBody_wf
  -- no row
  case h_13 => exact keeps_badOpcode
  all_goals exact keeps_runDratus

theorem keeps_runLegacy : Keeps s (runLegacy op e p s) := by
  unfold runLegacy
  split
  -- FRAME_WRITE
  case h_5 => exact keeps_runDratusMem frameWriteBody_wf
  -- no row
  case h_8 => exact keeps_badOpcode
  all_goals exact keeps_runDratus

theorem keeps_runRow {ver : Nat} : Keeps s (runRow ver op e p s) := by
  unfold runRow
  split_ifs
  · exact keeps_runLegacy
  · exact keeps_badOpcode
  · exact keeps_runSystem
  · exact keeps_runPixel
  · exact keeps_runPorts
  · exact keeps_runControl
  · exact keeps_runService

end

/-! ### The carriers -/

theorem keeps_deliver {t : Nat} {path : Fin 29} {e : PktEnv} {bs : List Nat} : Keeps s (deliver t path e bs s) := keeps_runRow

theorem keeps_writePkt {t : Nat} {cpt : Fin 2} {bytes : List Byte} {env : PktEnv} : Keeps s (execWritePkt t cpt bytes env s) := by
  unfold execWritePkt
  dsimp only
  split_ifs
  case neg => exact keeps_of_blk keeps_deliver
  all_goals exact keeps_done _

/-- A command that runs on the state that another leaves keeps what both keep. -/
theorem Keeps.bind {r : Host.Outcome State Fault Refusal} {f : State → Host.Outcome State Fault Refusal} (hr : Keeps s r)
    (hf : ∀ t, Keeps t (f t)) : Keeps s (match (generalizing := false) r with | .next t => f t | o => o) := by
  obtain ⟨t, rfl, hpending, hsafe⟩ := hr
  obtain ⟨u, hu, hpending', hsafe'⟩ := hf t
  exact ⟨u, hu, hpending'.trans hpending, hsafe' ∘ hsafe⟩

theorem keeps_takePackets {t : Nat} {port : Fin 24} {e : PktEnv} : ∀ (n : Nat) (s : State), Keeps s (takePackets t port e n s)
  | 0, s => ⟨s, rfl, rfl, id⟩
  | n + 1, s => by
    unfold takePackets
    dsimp only
    split_ifs
    · exact ⟨_, rfl, rfl, id⟩
    · exact (keeps_of_blk keeps_deliver).bind (keeps_takePackets n)

theorem keeps_command {b : Blk} {env : PktEnv} : Keeps s (execCommand b env s) := by
  unfold execCommand
  exact (keeps_done _).bind (keeps_takePackets _)

/-! ### Every command -/

/-- Every command answers a next state, leaves the waiting commands alone and keeps the form of the layer pool: by the form in which it
runs. -/
theorem keeps_exec (c : Instr) (s : State) : Keeps s (exec c s) := by
  unfold exec
  cases c with
  | bufAlloc => exact keeps_runDratusMem bufAllocBody_wf
  | bufWrite => exact keeps_runDratusMem bufWriteBody_wf
  | frameWrite => exact keeps_runDratusMem frameWriteBody_wf
  | bamutEnable => exact keeps_runDratusMem bamutEnableBody_wf
  | bufRead => exact keeps_runDratusMem_of_reads bufReadBody_mem
  | warpMeshLoad => exact keeps_runDratusMem_of_reads warpMeshBody_mem
  | uniformityLoad => exact keeps_runDratusMem_of_reads uniformityBody_mem
  | wearTableLoad => exact keeps_runDratusMem_of_reads wearTableBody_mem
  | transferCurveLoad => exact keeps_runDratusMem_of_reads curveBody_mem
  | coefLoad => exact keeps_runDratusMem_of_reads coefLoadBody_mem
  | pixel => exact keeps_runEventMem fun h => pixelBlk_wf h
  | placementPlan => exact keeps_runEventMem fun h => placementPlan_wf h
  | cvJobDone => exact keeps_runEventMem id
  | writePkt => exact keeps_writePkt
  | command => exact keeps_command
  | badOpcode => exact keeps_badOpcode
  | regRead => exact keeps_regRead
  | heartbeat | beamMode | maskEnable | complianceMap | output | safeConfig => exact keeps_safeWrite
  | nop | identify | contextOpen | contextClose | setPowerRun | setPowerIdle | setPowerSleep | setPowerDeep | setPowerOff | getStatus
    | loadQuery | provisionLock | setPermissions | eventSubscribe | pathBind | groupAssign | timeGet | restart | unprovision
    | regWrite | regModify | regReadList | regWriteList | regPoll | bufFree | bufInfo | streamBind | streamUnbind | layerCreate
    | layerDestroy | layerSet | layerAttach | stackSet | colourMatrixSet | commit | commitStatus | timingSet | racingSet | poseMsg
    | poseConfig | poseConfigGroup | poseConfigTile | placementMap | gainGlobalSet | wearSnapshot | repairConfig | derateConfig
    | complianceRead | portConfig | portStatus | loopbackOff | nearEndSerial | nearEndParallel | farEndRequest | farEndAccept | eyeScan
    | tileEnumerate | tileInfo | tileAuthPolicy | policyTimeouts | policyAnchor | policyTile | twinSet | twinRemove | spareSet
    | chainConfig | chainWrite | chainReadback | groupConfig | auroraLoad | gammaLoad | auroraStart | auroraStop | probeConfig
    | colourLoopSet | loopConfig | bankSwap | motorPosition | motorSpeed | motorPark | motorRelease | tuneInject | captureRead
    | adcConfig | levelSet | updBegin | updCancel | updData | updVerify | activate | confirm | settingsSave | calRun | calRunFactory
    | cvJob | safeRead | safeStatus | legacyNop | getId | legacyGetStatus | setGain | frameShow | sleep => exact keeps_runDratus
  | _ => exact keeps_runEvent

end

end Sys2Proof.Machine

open Sys2Proof Sys2Proof.Machine

/-- Settles O48: every command keeps the waiting commands. -/
theorem everyCommandCompletes : Obligations.EveryCommandCompletes := by
  intro c s
  obtain ⟨t, hnext, hpending, -⟩ := keeps_exec c s
  exact ⟨t, hnext, hpending⟩

/-- Settles O46: a step takes the front command, and with none waiting the next held packet. -/
theorem stepRunsFrontCommand : Obligations.StepRunsFrontCommand := by
  refine ⟨fun c s => rfl, fun s k h hempty hheld => ?held, fun s hempty hnone => ?idle⟩
  case held => rw [step, hempty, hheld]
  case idle => rw [step, hempty, hnone]

/-- Settles O49: a step runs a command on a state with the same layer pool, or idles. -/
theorem everyStepKeepsPoolCanonical : Obligations.EveryStepKeepsPoolCanonical := by
  intro s hs
  have runs (c : Instr) (u : State) (hu : u.mem = s.mem) : ∃ t, exec c u = .next t ∧ State.Safe t := by
    obtain ⟨t, hnext, -, hsafe⟩ := keeps_exec c u
    exact ⟨t, hnext, hsafe (show Memory.wf u.mem from hu ▸ hs)⟩
  unfold step
  split
  · exact runs _ _ rfl
  · split
    · exact runs _ _ rfl
    · exact ⟨s, rfl, hs⟩
end

section
/-!
The lock of the device, its restart, and SYSTEM_RESET's UNPROVISION (R453, R454).
-/

namespace Sys2Proof.Machine

variable {p : Packet} {m : Mach}

/-- R453: PROVISION_LOCK locks a device that is not locked, while no update or calibration is under way and Beryl takes writes. -/
theorem provisionLockBody_of_free (hfree : locked m = false) (hidle : updState m = 0) (hcal : pending m .cal = false)
    (hfits : layoutFits m = true) (hwrites : berylWrites m = true) : provisionLockBody true p m = (lockDevice m, ok []) := by
  simp [provisionLockBody, hfree, hidle, hcal, hfits, hwrites]

/-- R454: UNPROVISION arms a locked device while no group runs, every safety output is off and no update is under way. -/
theorem unprovisionBody_of_locked (hlocked : locked m = true) (hstopped : anyGrpRuns m = false) (hoff : outsOff m = true)
    (hidle : updState m = 0) : unprovisionBody m =
      ({ m with saf := { m.saf with unprov := some (m.now + sec 10) } } |> setB rHUB_LOCK fHUB_LOCK_ARMED true, ok []) := by
  simp [unprovisionBody, hlocked, hstopped, hoff, hidle]

/-- R454: SYSTEM_RESET with its KIND does what that kind does, outside an entry to a power state and an activation pause. -/
theorem answers_of_systemReset {row : Packet → Instr} {kind : Nat} {body : Mach → Mach × Rep} {guard : Packet → Mach → Prop}
    {eff : Packet → Mach → Mach} (hrow : ∀ p s, exec (row p) s = systemReset (row p) kind body p s)
    (hform : ∀ p m, guard p m → p.params.length = 1 ∧ par p 0 = w32 kind ∧ m.pwr.entry = none ∧ m.upd.pause = none)
    (hbody : ∀ p m, guard p m → body m = (eff p m, ok [])) :
    Answers row (native 0x0D 0 .topaz .h0 false false) noReply guard (fun _ _ => ok []) eff := by
  refine answers_of_body hrow (fun p m hguard => ?_) fun _ _ => rfl
  obtain ⟨hlen, hkind, hentry, hpause⟩ := hform p m hguard
  rw [withLen_ok (by simp [hlen]), hkind, beq_self_eq_true, require_ok, hentry, hpause]
  exact hbody p m hguard

end Sys2Proof.Machine

open Sys2Proof Sys2Proof.Machine

/-- Settles O3, by the body of each packet and the instant of the event. -/
theorem provisioningRowsComplete : Obligations.ProvisioningRowsComplete := by
  refine ⟨answers_of_body (fun _ _ => rfl) ?lock fun _ _ => rfl,
    answers_of_systemReset (body := restartBody) (fun _ _ => rfl) (fun _ _ h => h) fun _ _ _ => rfl,
    answers_of_systemReset (body := unprovisionBody) (fun _ _ => rfl) ?armForm ?arm,
    happens_of_run execUnprovisionTimeout (fun _ _ => rfl) ?timeout fun _ _ => rfl⟩
  case lock =>
    rintro p m ⟨hlen, hgolden, hfree, hidle, hcal, hfits, hwrites⟩
    rw [withLen_ok (by simp [hlen]), hgolden]
    exact provisionLockBody_of_free (p := p) hfree hidle hcal hfits hwrites
  case armForm =>
    rintro p m ⟨hlen, hkind, hentry, hpause, -⟩
    exact ⟨hlen, hkind, hentry, hpause⟩
  case arm =>
    rintro p m ⟨-, -, -, -, hlocked, hstopped, hoff, hidle⟩
    exact unprovisionBody_of_locked hlocked hstopped hoff hidle
  case timeout =>
    rintro m ⟨d, harmed, hdue⟩
    simp only [harmed, Nat.not_lt.mpr hdue, if_false]
end

section
/-!
SET_POWER (R368 to R371), and the legacy SLEEP, which acts as SET_POWER with STATE 2.
-/

namespace Sys2Proof.Machine

variable {m : Mach} {k : Nat}

/-- PWR_STAT names state `k` as the last one asked for. -/
def asked (k : Nat) (m : Mach) : Mach := setF rPWR_STAT fPWR_STAT_LAST_REQ k m

section
variable (hentry : m.pwr.entry = none) (hother : m.pwr.st ≠ k) (hpermitted : powerRefused (asked k m) k = false)
include hentry hother hpermitted

/-- R368: IDLE is left for RUN at once. -/
theorem setPowerTo_run (hrun : k = 0) : setPowerTo k m = (asked k m |> setReg rPWR_TARGET 0 |> setPower 0, ok []) := by
  subst hrun
  rw [asked] at hpermitted ⊢
  simp [setPowerTo, hentry, hother, hpermitted]

/-- R371: an entry to another state begins at step E1; to DEEP only with homes for the banks of Onyx's state (R370). -/
theorem setPowerTo_enters (hrun : k ≠ 0) (hbanks : k = 3 → homeBank (asked k m) 0 ≠ none ∧ homeBank (asked k m) 1 ≠ none) :
    setPowerTo k m = (asked k m |> startEntry k, ok []) := by
  have hhomes : ¬ (k = 3 ∧ ((homeBank (asked k m) 0).isNone ∨ (homeBank (asked k m) 1).isNone)) := by
    rintro ⟨hdeep, hnone⟩
    obtain ⟨h0, h1⟩ := hbanks hdeep
    simp [Option.isNone_iff_eq_none, h0, h1] at hnone
  rw [asked] at hpermitted hhomes ⊢
  simp only [setPowerTo, hentry, setF_pwr, hother, hpermitted, hhomes, hrun, Option.isSome_none, Bool.false_eq_true, if_false]

end

/-- A row of SET_POWER does what its STATE asks for. -/
theorem answers_of_setPower {row : Packet → Instr} {o : OpInfo} {guard : Packet → Mach → Prop} {eff : Packet → Mach → Mach}
    (hrow : ∀ p s, exec (row p) s = runDratus (row p) o noReply (setPowerBody k) p s)
    (hto : ∀ p m, guard p m → setPowerTo k m = (eff p m, ok []))
    (hform : ∀ p m, guard p m → p.params.length = 1 ∧ par p 0 = w32 k) :
    Answers row o noReply guard (fun _ _ => ok []) eff := by
  refine answers_of_body hrow (fun p m hguard => ?_) fun _ _ => rfl
  obtain ⟨hlen, hstate⟩ := hform p m hguard
  rw [setPowerBody, withLen_ok (by simp [hlen]), hstate, beq_self_eq_true, require_ok]
  exact hto p m hguard

end Sys2Proof.Machine

open Sys2Proof Sys2Proof.Machine

/-- Settles O4: RUN is entered at once, and an entry to any other state begins. -/
theorem setPowerRowsComplete : Obligations.SetPowerRowsComplete := by
  refine ⟨answers_of_setPower (fun _ _ => rfl) ?run fun _ _ h => ⟨h.1, h.2.1⟩,
    answers_of_setPower (fun _ _ => rfl) ?idle fun _ _ h => ⟨h.1, h.2.1⟩,
    answers_of_setPower (fun _ _ => rfl) ?sleep fun _ _ h => ⟨h.1, h.2.1⟩,
    answers_of_setPower (fun _ _ => rfl) ?deep fun _ _ h => ⟨h.1, h.2.1⟩,
    answers_of_setPower (fun _ _ => rfl) ?off fun _ _ h => ⟨h.1, h.2.1⟩,
    answers_of_body (fun _ _ => rfl) ?legacy fun _ _ => rfl⟩
  case run =>
    rintro p m ⟨-, -, hentry, hidle, hpermitted⟩
    exact setPowerTo_run hentry (by omega) hpermitted rfl
  case idle | sleep | off =>
    rintro p m ⟨-, -, hentry, hother, hpermitted⟩
    exact setPowerTo_enters hentry hother hpermitted (by omega) (by omega)
  case deep =>
    rintro p m ⟨-, -, hentry, hother, hpermitted, hbanks⟩
    exact setPowerTo_enters hentry hother hpermitted (by omega) fun _ => hbanks
  case legacy =>
    rintro p m ⟨hlen, hentry, hother, hpermitted⟩
    rw [withLen_ok (by simp [hlen])]
    exact setPowerTo_enters hentry hother hpermitted (by omega) (by omega)
end

section
/-!
The steps of an entry to a power state (R371 to R373).
-/

namespace Sys2Proof.Machine

variable {m : Mach} {e : EntryRec} {k src : Nat}

theorem entryStep_at (hentry : m.pwr.entry = some e) (hstep : e.step = k) : entryStep m k = some e := by
  simp [entryStep, hentry, hstep]

theorem entryStep_outside (hentry : m.pwr.entry = none) : entryStep m k = none := by simp [entryStep, hentry]

/-! ### Step E2 -/

section
variable (hhub : hubRuns m = true) (htopaz : topazStopped m = false) (hgolden : golden m = false)
include hhub htopaz hgolden

/-- R161: a slice of the wear map is written outside an entry too. -/
theorem wearSlice_outside (hentry : (writeSlice m).pwr.entry = none) : wearSlice m = writeSlice m := by
  simp [wearSlice, hhub, htopaz, hgolden, entryStep_outside hentry]

/-- R371: the entry goes on to E3 with the slice that completes the pass. -/
theorem wearSlice_goesOn (hstep : entryStep (writeSlice m) 2 = some e) (hwake : abortWake (writeSlice m) e = none) :
    wearSlice m = when (decide ((writeSlice m).nvm.wearPass ≠ m.nvm.wearPass)) (toStep 3) (writeSlice m) := by
  by_cases hpass : (writeSlice m).nvm.wearPass = m.nvm.wearPass <;> simp [wearSlice, hhub, htopaz, hgolden, hstep, hwake, hpass, when]

/-- R372: AP1. -/
theorem wearSlice_aborts (hstep : entryStep (writeSlice m) 2 = some e) (hwake : abortWake (writeSlice m) e = some src) :
    wearSlice m = abortEntry 1 e src (writeSlice m) := by
  simp [wearSlice, hhub, htopaz, hgolden, hstep, hwake]

end

/-! ### Step E3 -/

section
variable (hstep : entryStep m 3 = some e) (htopaz : topazStopped m = false)
include hstep htopaz

theorem waitForState_idle (hwake : abortWake (contextSaved e.target m) e = none) (hidle : e.target = 1) :
    waitForState m = (m |> contextSaved e.target |> endEntry |> setPower 1) := by
  simp only [waitForState, hstep, htopaz, hwake, Bool.false_eq_true, if_false]
  exact if_pos hidle

theorem waitForState_goesOn (hwake : abortWake (contextSaved e.target m) e = none) (hother : e.target ≠ 1) :
    waitForState m = (m |> contextSaved e.target |> toStep 4 |> forEach (List.range 24) idlePort) := by
  simp [waitForState, hstep, htopaz, hwake, hother]

/-- R372: AP2. -/
theorem waitForState_aborts (hwake : abortWake (contextSaved e.target m) e = some src) :
    waitForState m = (m |> contextSaved e.target |> abortEntry 2 e src) := by
  simp [waitForState, hstep, htopaz, hwake]

end

/-! ### Step E4 -/

section
variable (hstep : entryStep m 4 = some e) (hdrained : drained m = true)
include hstep hdrained

theorem entryDrain_goesOn (hwake : abortWake m e = none) : entryDrain m = (m |> toStep 5 |> causeOn 0) := by
  simp [entryDrain, hstep, hdrained, hwake]

/-- R372: AP3. -/
theorem entryDrain_aborts (hwake : abortWake m e = some src) :
    entryDrain m = (m |> forEach (idledPorts m) txExit |> abortEntry 3 e src) := by
  simp [entryDrain, hstep, hdrained, hwake]

end

/-! ### The final step -/

theorem stateReached_at (hstep : entryStep m 6 = some e) : stateReached m = latchWake e.wake
    (if e.target = 2 then
      m |> recordTime |> endEntry |> forEach (List.range 24) (fun p m => m |> endScan p |> stopPort p) |> setPower 2
    else if e.target = 3 then m |> recordTime |> endEntry |> setPower 3
    else m |> recordTime |> endEntry |> chipReset 0 4) := by
  rw [stateReached, hstep]

end Sys2Proof.Machine

open Sys2Proof Sys2Proof.Machine

/-- Settles O5: each step of an entry by whether a wake is to be acted on, the final one by the target. -/
theorem powerEntryStepsComplete : Obligations.PowerEntryStepsComplete := by
  refine ⟨happens_of_run execWearSliceWrite (fun _ _ => rfl) ?outside fun _ _ => rfl,
    fun e => ⟨happens_of_run execWearSliceWrite (fun _ _ => rfl) ?slice fun _ _ => rfl,
    fun src => happens_of_run execWearSliceWrite (fun _ _ => rfl) ?sliceWakes fun _ _ => rfl,
    happens_of_run execWaitForState (fun _ _ => rfl) ?idle fun _ _ => rfl,
    happens_of_run execWaitForState (fun _ _ => rfl) ?saved fun _ _ => rfl,
    fun src => happens_of_run execWaitForState (fun _ _ => rfl) ?savedWakes fun _ _ => rfl,
    happens_of_run execEntryDrain (fun _ _ => rfl) ?drained fun _ _ => rfl,
    fun src => happens_of_run execEntryDrain (fun _ _ => rfl) ?drainedWakes fun _ _ => rfl,
    happens_of_run execStateReached (fun _ _ => rfl) ?sleep fun _ _ => rfl,
    happens_of_run execStateReached (fun _ _ => rfl) ?deep fun _ _ => rfl,
    happens_of_run execStateReached (fun _ _ => rfl) ?off fun _ _ => rfl⟩⟩
  case outside =>
    rintro m ⟨hhub, htopaz, hgolden, hentry⟩
    exact wearSlice_outside hhub htopaz hgolden hentry
  case slice =>
    rintro m ⟨hhub, htopaz, hgolden, ⟨hentry, hstep⟩, hwake⟩
    exact wearSlice_goesOn hhub htopaz hgolden (entryStep_at hentry hstep) hwake
  case sliceWakes =>
    rintro m ⟨hhub, htopaz, hgolden, ⟨hentry, hstep⟩, hwake⟩
    exact wearSlice_aborts hhub htopaz hgolden (entryStep_at hentry hstep) hwake
  case idle =>
    rintro m ⟨⟨hentry, hstep⟩, htopaz, hwake, hidle⟩
    exact waitForState_idle (entryStep_at hentry hstep) htopaz hwake hidle
  case saved =>
    rintro m ⟨⟨hentry, hstep⟩, htopaz, hwake, hother⟩
    exact waitForState_goesOn (entryStep_at hentry hstep) htopaz hwake hother
  case savedWakes =>
    rintro m ⟨⟨hentry, hstep⟩, htopaz, hwake⟩
    exact waitForState_aborts (entryStep_at hentry hstep) htopaz hwake
  case drained =>
    rintro m ⟨⟨hentry, hstep⟩, hdrained, hwake⟩
    exact entryDrain_goesOn (entryStep_at hentry hstep) hdrained hwake
  case drainedWakes =>
    rintro m ⟨⟨hentry, hstep⟩, hdrained, hwake⟩
    exact entryDrain_aborts (entryStep_at hentry hstep) hdrained hwake
  case sleep =>
    rintro m ⟨⟨hentry, hstep⟩, htarget⟩
    rw [stateReached_at (entryStep_at hentry hstep), if_pos htarget]
  case deep =>
    rintro m ⟨⟨hentry, hstep⟩, htarget⟩
    rw [stateReached_at (entryStep_at hentry hstep), if_neg (by omega), if_pos htarget]
  case off =>
    rintro m ⟨⟨hentry, hstep⟩, htarget⟩
    rw [stateReached_at (entryStep_at hentry hstep), if_neg (by omega), if_neg (by omega)]
end

section
/-!
The sources that wake the device and the exits to RUN (R372, R375, R378).
-/

namespace Sys2Proof.Machine

variable {m : Mach} {k failed : Nat}

/-! ### Sources -/

/-- PWR_WAKE_SRC shows source `k`. -/
def sourceNoted (k : Nat) (m : Mach) : Mach := latchBits rPWR_WAKE_SRC fPWR_WAKE_SRC_SRC (2 ^ k) m

@[simp] theorem latchBits_pwr (a : Nat) (f : Fld) (v : Nat) (m : Mach) : (latchBits a f v m).pwr = m.pwr := rfl

/-- Source `k` is enabled, as source 6 always is. -/
def SourceEnabled (k : Nat) (m : Mach) : Prop := k = 6 ∨ hasBit (getF (sourceNoted k m) rPWR_WAKE_EN fPWR_WAKE_EN_EN) k = true

theorem sourceEnabled_iff : SourceEnabled k m ↔
    ¬ (!(k == 6 || hasBit (getF (sourceNoted k m) rPWR_WAKE_EN fPWR_WAKE_EN_EN) k)) = true := by
  simp [SourceEnabled, or_iff_not_imp_left]

theorem wakeEvent_disabled (h : ¬ SourceEnabled k m) : wakeEvent k m = sourceNoted k m :=
  if_pos (not_not.mp (h ∘ sourceEnabled_iff.mpr))

theorem wakeEvent_exits (h : SourceEnabled k m) (hentry : m.pwr.entry = none) (hst : m.pwr.st = 2 ∨ m.pwr.st = 3 ∨ m.pwr.st = 4) :
    wakeEvent k m = { setF rPWR_STAT fPWR_STAT_WAKE k (sourceNoted k m) with pwr := { m.pwr with exiting := true } } := by
  refine (if_neg (sourceEnabled_iff.mp h)).trans ?_
  simp only [latchBits_pwr, hentry, hst, if_true, setF_pwr]
  rfl

theorem wakeEvent_noted {e : EntryRec} (h : SourceEnabled k m) (hentry : m.pwr.entry = some e) (hfirst : e.wake = none) :
    wakeEvent k m = { sourceNoted k m with pwr := { m.pwr with entry := some { e with wake := some k } } } := by
  refine (if_neg (sourceEnabled_iff.mp h)).trans ?_
  simp only [latchBits_pwr, hentry, hfirst, Option.isSome_none, Bool.false_eq_true, if_false]
  rfl

theorem exec_wakePin (high : Bool) (cycles t : Nat) (s : State) : exec (.wakePin ⟨t, high, cycles⟩) s =
    runEvent t (fun m => when (wakeActs m && wakeHeld high cycles m) (wakeEvent 0) m) s := rfl

/-! ### Exits -/

section
variable (hexiting : m.pwr.exiting = true)
include hexiting

theorem exitComplete_sleep (hst : m.pwr.st = 2) : exitComplete failed m = (m |> wakeTime |> clocksStart |> wakeSleep failed) := by
  simp [exitComplete, hexiting, hst]

theorem exitComplete_deep (hst : m.pwr.st = 3) : exitComplete failed m = (m |> wakeTime |> clocksStart |> wakeDeep failed) := by
  simp [exitComplete, hexiting, hst]

theorem exitComplete_off (hst : m.pwr.st = 4) :
    exitComplete failed m = (m |> wakeTime |> clocksStart |> startUp 4 |> showWake (wakeTime m) |> showSource) := by
  simp [exitComplete, hexiting, hst]

end

/-- R381: with Onyx's two banks the device returns with what its banks kept. -/
theorem wakeDeep_kept (h0 : roleLost m failed 0 = false) (h1 : roleLost m failed 1 = false) :
    wakeDeep failed m = (m |> restoreDeep failed |> showWake m) := if_neg (by simp [h0, h1])

theorem wakeDeep_lost (h : roleLost m failed 0 = true ∨ roleLost m failed 1 = true) :
    wakeDeep failed m = (m |> chipReset 6 0 |> deepBanks m failed |> showWake m) := if_pos (by simpa using h)

end Sys2Proof.Machine

open Sys2Proof Sys2Proof.Machine

/-- Settles O6: each source by the conditions of its row, the exit by the state that it leaves, and what a source brings. -/
theorem wakeRowsComplete : Obligations.WakeRowsComplete := by
  refine ⟨fun high cycles => happens_of_event (exec_wakePin high cycles) ?pin,
    happens_of_run execCalendarAlarm (fun _ _ => rfl) ?alarm fun _ _ => rfl,
    happens_of_run execWakeTimer (fun _ _ => rfl) ?timer fun _ _ => rfl,
    fun failed => happens_of_run (execExitComplete · failed) (fun _ _ => rfl) (fun m h => exitComplete_sleep h.1 h.2) fun _ _ => rfl,
    fun failed => happens_of_run (execExitComplete · failed) (fun _ _ => rfl) ?kept fun _ _ => rfl,
    fun failed => happens_of_run (execExitComplete · failed) (fun _ _ => rfl) ?lost fun _ _ => rfl,
    fun failed => happens_of_run (execExitComplete · failed) (fun _ _ => rfl) (fun m h => exitComplete_off h.1 h.2) fun _ _ => rfl,
    fun k m => ⟨wakeEvent_disabled, wakeEvent_exits, fun e => wakeEvent_noted⟩⟩
  case pin =>
    rintro m ⟨hacts, hlevel, hlong⟩
    exact if_pos (by simp [hacts, wakeHeld, hlevel, hlong])
  case alarm =>
    rintro m ⟨hacts, hen, hdue⟩
    exact if_pos (by simp [hacts, hen, hdue])
  case timer =>
    rintro m ⟨hst, hset, hdue⟩
    exact if_pos (by simpa [hset, hdue, or_assoc] using hst)
  case kept =>
    rintro m ⟨hexiting, hst, h0, h1⟩
    exact (exitComplete_deep hexiting hst).trans (wakeDeep_kept h0 h1)
  case lost =>
    rintro m ⟨hexiting, hst, hlost⟩
    exact (exitComplete_deep hexiting hst).trans (wakeDeep_lost hlost)
end

section
/-!
The events of Jasper (R331, R337, R341 to R344, R348, R350): each where it is due.
-/

namespace Sys2Proof.Machine

variable {m : Mach}

/-- R350: Topaz writes a record while it runs on a running hub and no shutdown stops Beryl. -/
def LogsRecords (m : Mach) : Prop := topazStopped m = false ∧ hubRuns m = true ∧ m.thm.shutting = false

/-- A record has been written to its ring, or Beryl has failed to take it. -/
def logPut (ok : Bool) (r : LogRec) (m : Mach) : Mach := if ok then logEntry r m else raise 1 noInst m

section
variable {r : LogRec} {rest : List LogRec} (ok : Bool) (hlogs : LogsRecords m)
include hlogs

/-- The next closed record is written where the AON domain has none to be logged first. -/
theorem logWrite_closed (haon : m.flt.aonRec = none ∨ m.flt.aonDue = false) (hqueue : m.flt.logQ = r :: rest) :
    logWrite ok m = (({ m with flt := { m.flt with logQ := rest } } : Mach) |> showQueued |> logPut ok r) := by
  obtain ⟨htopaz, hhub, hshut⟩ := hlogs
  rcases haon with hnone | hdue
  · simp only [logWrite, htopaz, hhub, hshut, hnone, hqueue]
    rfl
  · cases hrec : m.flt.aonRec <;> simp only [logWrite, htopaz, hhub, hshut, hrec, hdue, hqueue] <;> rfl

/-- R348: the copy that the AON domain has kept since before the start goes first. -/
theorem logWrite_kept (hrec : m.flt.aonRec = some r) (hdue : m.flt.aonDue = true) :
    logWrite ok m = logPut ok r { m with flt := { m.flt with aonRec := none, aonDue := false } } := by
  obtain ⟨htopaz, hhub, hshut⟩ := hlogs
  simp only [logWrite, htopaz, hhub, hshut, hrec, hdue]
  rfl

end

end Sys2Proof.Machine

open Sys2Proof Sys2Proof.Machine

/-- Settles O35: each event of Jasper by the conditions under which it is due. -/
theorem faultEventsComplete : Obligations.FaultEventsComplete := by
  refine ⟨fun hits => happens_of_run (execFaultArrival · hits) (fun _ _ => rfl) (fun _ hhub => if_pos hhub) fun _ _ => rfl,
    fun src passed => happens_of_run (execRetryEnd · src passed) (fun _ _ => rfl) (fun _ hhub => if_pos hhub) fun _ _ => rfl,
    happens_of_run execRecHoldExpiry (fun _ _ => rfl) (fun _ hdue => if_pos (decide_eq_true hdue)) fun _ _ => rfl,
    happens_of_run (execParityScan · true) (fun _ _ => rfl) (fun _ hhub => if_pos (by simp [hhub])) fun _ _ => rfl,
    happens_of_run execFirstRegisterScan (fun _ _ => rfl) ?scan fun _ _ => rfl,
    fun r rest => happens_of_run (execLogWrite · true) (fun _ _ => rfl) ?written fun _ _ => rfl,
    fun r => happens_of_run (execLogWrite · true) (fun _ _ => rfl) ?kept fun _ _ => rfl,
    fun r rest => happens_of_run (execLogWrite · false) (fun _ _ => rfl) ?failed fun _ _ => rfl⟩
  case scan =>
    rintro m ⟨hstart, hfatal, hsafe⟩
    have hhigh : (!flag m rFLT_FATAL fFLT_FATAL_SET && !hwSafe m) = true := by simp [hfatal, hsafe]
    exact (if_neg (by simp [hstart])).trans (if_pos hhigh)
  case written =>
    rintro m ⟨htopaz, hhub, hshut, haon, hqueue⟩
    exact logWrite_closed true ⟨htopaz, hhub, hshut⟩ haon hqueue
  case kept =>
    rintro m ⟨htopaz, hhub, hshut, hrec, hdue⟩
    exact logWrite_kept true ⟨htopaz, hhub, hshut⟩ hrec hdue
  case failed =>
    rintro m ⟨htopaz, hhub, hshut, haon, hqueue⟩
    exact logWrite_closed false ⟨htopaz, hhub, hshut⟩ haon hqueue
end

section
/-!
The events of the thermal block (R354 to R366, R376): each where it is due.
-/

open Sys2Proof Sys2Proof.Machine

/-- Settles O36: each event of the thermal block by the conditions under which it is due. -/
theorem thermalRowsComplete : Obligations.ThermalRowsComplete := by
  refine ⟨fun reads pw => happens_of_run (execThermalSample · reads pw) (fun _ _ => rfl) ?sample fun _ _ => rfl,
    happens_of_run execModelBaseUpdate (fun _ _ => rfl) ?base fun _ _ => rfl,
    happens_of_run execShutdownStop (fun _ _ => rfl) ?stop fun _ _ => rfl,
    fun reads => happens_of_run (execHoldSensorSample · reads) (fun _ _ => rfl) ?hold fun _ _ => rfl,
    happens_of_run execThermalHoldEnd (fun _ _ => rfl) ?holdEnd fun _ _ => rfl,
    fun reads => happens_of_run (execSleepSensorSample · reads) (fun _ _ => rfl) ?sleep fun _ _ => rfl⟩
  case sample =>
    rintro m ⟨hhub, hshut, hdue⟩
    exact if_neg (by simp [hhub, hshut, hdue])
  case base =>
    rintro m ⟨hhub, hdue⟩
    exact if_pos (by simp [hhub, hdue])
  case stop =>
    intro m hshut
    exact if_neg (by simp [hshut])
  case hold =>
    rintro m ⟨hst, hdue⟩
    exact if_neg (by simp [hst, hdue])
  case holdEnd =>
    rintro m ⟨hst, hunlocked, hcool⟩
    exact if_pos (by simp [hst, hunlocked, hcool])
  case sleep =>
    rintro m ⟨hst, hdue⟩
    exact if_neg (by simp [hst, hdue])
end

section
/-!
The events of the supplies and of RESET_N (R365, R379, R384, R386, R388, R433 to R435): each in the states in which it acts.
-/

namespace Sys2Proof.Machine

variable {m : Mach}

/-- R435: RESET_N is low for `lowNs` from now on. -/
def heldLow (lowNs : Nat) (m : Mach) : Mach := { m with pwr := { m.pwr with rstLow := max m.pwr.rstLow (m.now + cdiv (3 * lowNs) 5) } }

/-- R435: a long pulse resets a device that is neither OFF nor unpowered. -/
theorem resetFalls_resets {lowNs : Nat} (hoff : m.pwr.st ≠ 4) (hpowered : m.pwr.st ≠ 6) (hlong : 10000 ≤ lowNs) :
    resetFalls lowNs m = (m |> heldLow lowNs |> endShutSeries |> startUp 1) := by
  have hpulse : resetPulse lowNs = true := by simp [resetPulse, hlong]
  simp only [resetFalls, hoff, hpowered, hpulse, false_and, or_self, if_false, if_true]
  rfl

/-- R433: a device that returns from OFF, or is unpowered, starts no earlier than RESET_N rises. -/
theorem resetFalls_holds {lowNs : Nat} (h : (m.pwr.st = 4 ∧ m.pwr.exiting = true) ∨ m.pwr.st = 6) : resetFalls lowNs m = heldLow lowNs m := by
  refine (if_neg ?_).trans (if_pos ?_)
  · rintro ⟨hoff, hstays⟩
    rcases h with ⟨-, hexiting⟩ | hunpowered
    · simp [hexiting] at hstays
    · omega
  · exact h.imp_left And.left

end Sys2Proof.Machine

open Sys2Proof Sys2Proof.Machine

/-- Settles O37: each event of the supplies by the state in which it falls. -/
theorem supplyRowsComplete : Obligations.SupplyRowsComplete := by
  refine ⟨happens_of_run execPowerUp (fun _ _ => rfl) ?up fun _ _ => rfl,
    fun lowNs => ⟨happens_of_run (execResetN · lowNs) (fun _ _ => rfl) (fun _ h => resetFalls_resets h.1 h.2.1 h.2.2) fun _ _ => rfl,
      happens_of_run (execResetN · lowNs) (fun _ _ => rfl) (fun _ => resetFalls_holds) fun _ _ => rfl⟩,
    happens_of_run execSupplyBrownOut (fun _ _ => rfl) ?brownOut fun _ _ => rfl,
    happens_of_run execVddSafExcursion (fun _ _ => rfl) ?saf fun _ _ => rfl,
    happens_of_run execSafPowerOnReset (fun _ _ => rfl) (fun _ _ => rfl) fun _ _ => rfl,
    happens_of_run execVaonLoss (fun _ _ => rfl) ?vaon fun _ _ => rfl,
    happens_of_run execBkupLost (fun _ _ => rfl) (fun _ _ => rfl) fun _ _ => rfl,
    happens_of_run execCrystalStop (fun _ _ => rfl) ?stands fun _ _ => rfl,
    happens_of_run execCrystalReturn (fun _ _ => rfl) ?returns fun _ _ => rfl⟩
  case up =>
    rintro m ⟨hst, hpin⟩
    exact if_neg (by simp [hst, hpin])
  case brownOut =>
    rintro m ⟨hoff, hpin⟩
    exact if_neg (by simpa [hoff] using hpin)
  case saf =>
    intro m hpowered
    exact if_pos (by simpa using hpowered)
  case vaon =>
    intro m _
    simp only [aonReset, beq_iff_eq]
    rfl
  case stands =>
    intro m hruns
    exact if_neg (by simp [hruns])
  case returns =>
    intro m hstopped
    exact if_neg (by simp [hstopped])
end

section
/-!
The steps of a start, and SETTINGS_SAVE (R329, R392 to R400).
-/

open Sys2Proof Sys2Proof.Machine

/-- Settles O38: each step of a start in the state that the step before it leaves. -/
theorem startRowsComplete : Obligations.StartRowsComplete := by
  refine ⟨fun torn bad => happens_of_run (execBoot · torn bad) (fun _ _ => rfl) ?boot fun _ _ => rfl,
    fun safOk => happens_of_run (execSelfTestEnd · true safOk) (fun _ _ => rfl) ?passed fun _ _ => rfl,
    fun safOk => happens_of_run (execSelfTestEnd · false safOk) (fun _ _ => rfl) ?failed fun _ _ => rfl,
    fun f => happens_of_run (execFlashLoadEnd · f) (fun _ _ => rfl) ?flash fun _ _ => rfl,
    happens_of_run execGroupStart (fun _ _ => rfl) ?groups fun _ _ => rfl,
    answers_of_body (fun _ _ => rfl) ?save fun _ _ => rfl⟩
  case boot =>
    rintro m ⟨hst, hbooted⟩
    exact if_neg (by simp [hst, hbooted])
  case passed =>
    rintro m ⟨hst, hbooted, hfirst, hsafe, hfatal⟩
    exact (if_neg (by simp [hst, hbooted, hfirst, hsafe])).trans (if_neg (by simp [hfatal]))
  case failed =>
    rintro m ⟨hst, hbooted, hfirst, hsafe⟩
    exact (if_neg (by simp [hst, hbooted, hfirst, hsafe])).trans (if_pos rfl)
  case flash =>
    rintro m ⟨hst, hbooted, hfirst⟩
    exact if_neg (by simp [hst, hbooted, hfirst])
  case groups =>
    rintro m ⟨hst, hbooted, hfirst, hgolden, hdue⟩
    exact if_neg (by simp [hst, hbooted, hfirst, hgolden, hdue])
  case save =>
    rintro p m ⟨hlen, htrial, hfits, hshut⟩
    rw [withLen_ok (by simp [hlen]), if_neg htrial, if_neg (by simp [hfits]), if_neg (by simp [berylWrites, hshut])]
    rfl
end

section
/-!
Firmware update (R363, R402 to R408): what each packet and each event does.
-/

namespace Sys2Proof.Machine

variable {p : Packet} {m : Mach}

/-- R363: a command that would write Beryl, to leave `n`, is answered INTERNAL once Beryl takes no more writes. -/
theorem unlessBerylStopped (n : Mach) : (if !berylWrites m then noBeryl m else (n, ok [])) =
    (if !berylWrites m then raise 314 noInst m else n, if berylWrites m then ok [] else errW stINTERNAL (w32 314)) := by
  cases berylWrites m <;> rfl

theorem later_unlessBerylStopped : (if berylWrites m then ok [] else errW stINTERNAL (w32 314)).later = false := by
  cases berylWrites m <;> rfl

/-! ### Data -/

/-- R403: a packet continues the data where the last one ended, within the length of the transfer. -/
def Continues (p : Packet) (m : Mach) : Prop :=
  2 ≤ p.params.length ∧ updState m = 1 ∧ (par p 0).toNat = (reg m rUPD_NEXT).toNat ∧
    (reg m rUPD_NEXT).toNat + 4 * (p.params.drop 1).length ≤ hdrXferLen (slotOf m (inactive m)).header

theorem Continues.accepted (h : Continues p m) : ¬ (updState m ≠ 1 ∨ (par p 0).toNat ≠ (reg m rUPD_NEXT).toNat ∨
    hdrXferLen (slotOf m (inactive m)).header < (reg m rUPD_NEXT).toNat + 4 * (p.params.drop 1).length) := by
  obtain ⟨-, hstate, hoff, hfits⟩ := h
  omega

/-- UPD_NEXT names the byte after the data of the packet. -/
def nextShown (p : Packet) (m : Mach) : Mach := setReg rUPD_NEXT (w32 ((reg m rUPD_NEXT).toNat + 4 * (p.params.drop 1).length)) m

section
variable (hnext : Continues p m)
include hnext

/-- R403: the data of a full image joins its body. -/
theorem updDataBody_full (hkind : hdrKind (slotOf m (inactive m)).header = 0) : updDataBody p m =
    if !berylWrites m then noBeryl m
    else (setSlot (inactive m) { slotOf m (inactive m) with
      body := (slotOf m (inactive m)).body ++ toBytes (wordsBytes (p.params.drop 1)) } (nextShown p m), ok []) := by
  simp only [updDataBody, if_neg (Nat.not_lt.mpr hnext.1), if_neg hnext.accepted, if_pos hkind]
  rfl

/-- R403: the whole records of a difference are applied to the active body; a rest waits for the next packet. -/
theorem updDataBody_delta (hkind : hdrKind (slotOf m (inactive m)).header ≠ 0) {part : List Word} {body : List Byte}
    (hrun : deltaRun (activeBody m) (hdrBodyLen (slotOf m (inactive m)).header) (m.upd.part ++ p.params.drop 1).length
      (m.upd.part ++ p.params.drop 1) (slotOf m (inactive m)).body = some (part, body)) : updDataBody p m =
    if !berylWrites m then noBeryl m
    else (setSlot (inactive m) { slotOf m (inactive m) with body := body }
      { nextShown p m with upd := { (nextShown p m).upd with part := part } }, ok []) := by
  simp only [updDataBody, if_neg (Nat.not_lt.mpr hnext.1), if_neg hnext.accepted, if_neg hkind, hrun]
  rfl

end

/-! ### Verification and activation -/

/-- R404: a body that is complete, has the hash of its header and whose mark Beryl takes passes. -/
theorem verifyCause_passes {r : SlotRec} (hwhole : hdrKind r.header = 1 → hdrBodyLen r.header ≤ r.body.length)
    (hhash : sha256 (r.body.map BitVec.toNat) = hdrHash r.header) : verifyCause r true = 0 := by
  have hshort : ¬ (hdrKind r.header = 1 ∧ r.body.length < hdrBodyLen r.header) := fun ⟨hkind, hlt⟩ => Nat.not_lt.mpr (hwhole hkind) hlt
  simp [verifyCause, hshort, hhash]

theorem exec_activationOverrun (t : Nat) (s : State) : exec (.activationOverrun t) s = runOnyx t activationOverrun s := rfl

end Sys2Proof.Machine

open Sys2Proof Sys2Proof.Machine

/-- Settles O39: each packet by its body, each event by the conditions under which it is due. -/
theorem updateRowsComplete : Obligations.UpdateRowsComplete := by
  refine ⟨answers_of_body (fun _ _ => rfl) ?begins ?beginsNow,
    answers_of_body (fun _ _ => rfl) ?cancel fun _ _ => later_unlessBerylStopped,
    answers_of_body (fun _ _ => rfl) ?full fun _ _ => later_unlessBerylStopped,
    fun part body => answers_of_body (fun _ _ => rfl) ?delta fun _ _ => later_unlessBerylStopped,
    answers_of_body (fun _ _ => rfl) ?verify fun _ _ => rfl,
    happens_of_run (execVerifyDone · true) (fun _ _ => rfl) ?verified fun _ _ => rfl,
    answers_of_body (fun _ _ => rfl) ?activate fun _ _ => rfl,
    fun failed => happens_of_run (execActivationTopazReset · failed) (fun _ _ => rfl) ?reset fun _ _ => rfl,
    happens_of_onyx exec_activationOverrun (fun _ h => h.1) ?overrun, happens_of_run execTrialMsSave (fun _ _ => rfl) ?save fun _ _ => rfl,
    happens_of_run execTrialTimeout (fun _ _ => rfl) ?timeout fun _ _ => rfl,
    fun k => answers_of_body (fun _ _ => rfl) ?confirm fun _ _ => rfl⟩
  case begins =>
    rintro p m ⟨hlen, hverify, htrial⟩
    rw [withLen_ok (by simp [hlen]), updBeginBody, if_neg (by omega)]
    by_cases hgood : headerCause m (toBytes (wordsBytes p.params)) = 0
    · simp only [hgood, ne_eq, not_true_eq_false, if_true, if_false]
      exact unlessBerylStopped _
    · simp only [hgood, ne_eq, not_false_eq_true, if_true, if_false]
      rfl
  case beginsNow =>
    intro p m
    dsimp only
    split_ifs <;> rfl
  case cancel =>
    rintro p m ⟨hlen, hbegun⟩
    have hstate : ¬ (updState m = 2 ∨ updState m = 4) := by omega
    have hwrites : (updState m == 1 || updState m == 3) = true := by simpa using hbegun
    simp only [withLen, hlen, updCancelBody, if_neg hstate, hwrites, Bool.true_and, if_pos hbegun]
    exact unlessBerylStopped _
  case full =>
    rintro p m ⟨hlen, hstate, hoff, hfits, hkind⟩
    exact (updDataBody_full ⟨hlen, hstate, hoff, hfits⟩ hkind).trans (unlessBerylStopped _)
  case delta =>
    rintro p m ⟨hlen, hstate, hoff, hfits, hkind, hrun⟩
    exact (updDataBody_delta ⟨hlen, hstate, hoff, hfits⟩ hkind hrun).trans (unlessBerylStopped _)
  case verify =>
    rintro p m ⟨hlen, hstate, hwhole⟩
    rw [withLen_ok (by simp [hlen]), if_pos ⟨hstate, hwhole⟩]
    rfl
  case verified =>
    rintro m ⟨hstate, hwrites, hwhole, hhash⟩
    simp only [verifyDone, hstate, hwrites, Bool.and_self, verifyCause_passes hwhole hhash, ne_eq, not_true_eq_false, if_false]
  case activate =>
    rintro p m ⟨hlen, hstate, hentry, hplan, hcal, hwrites⟩
    rw [withLen_ok (by simp [hlen])]
    simp only [activateBody, hstate, hentry, hplan, hcal, hwrites]
    rfl
  case reset =>
    rintro m ⟨hpause, hfirst⟩
    exact if_neg (by simp [Option.isSome_iff_ne_none.mp hpause, hfirst])
  case overrun =>
    rintro m ⟨-, hpaused, hlate⟩
    exact if_neg (by simp [hpaused, hlate])
  case save =>
    rintro m ⟨htopaz, hdue, hstate, hwrites⟩
    exact (if_pos (by simp [htopaz, hdue])).trans (if_neg (by simp [hstate, hwrites]))
  case timeout =>
    rintro m ⟨hstate, htopaz, hlong, hwrites⟩
    exact if_neg (by simp [hstate, htopaz, Nat.not_lt.mpr hlong, hwrites])
  case confirm =>
    rintro p m ⟨hlen, htrial, hstate, hwrites⟩
    rw [withLen_ok (by simp [hlen])]
    simp only [confirmBody, htrial, hstate, hwrites]
    rfl
end

section
/-!
Calibration runs and check-value jobs (R416 to R424): what begins them and what their end brings.
-/

namespace Sys2Proof.Machine

variable {p : Packet} {m : Mach}

/-- R416: a run starts while no group runs, no motor acts and no other run is under way. -/
theorem calStart_of_still {o : OpInfo} {key : Nat} (hstopped : anyGrpRuns m = false) (hmotors : anyMotorActs m = false)
    (hfree : pending m .cal = false) : calStart o key p m =
      pend o .cal key p (setB rCAL_STAT fCAL_STAT_RUN true { m with calAt := m.now, calTrained := false, calEye := none }) := by
  simp only [calStart, hstopped, hmotors, hfree]
  rfl

/-- R423: a unit takes a job of its owner, or of anyone while it is free; one that goes on from the register needs the owner. -/
theorem cvJobBody_of_free {u : Nat} (hu : bits (par p 0) 1 0 = u) (hok : jobOk p = true) (hheld : bufRefused m (ctxN p) (par p 8).toNat = none)
    (hfits : (par p 9).toNat + (par p 10).toNat ≤ (bufOf m (hIdx (par p 8).toNat)).size)
    (howner : flag m (rCVU_STAT u) fCVU_STAT_OWNED = true → getF m (rCVU_STAT u) fCVU_STAT_OWNER = ctxN p)
    (hidle : flag m (rCVU_STAT u) fCVU_STAT_RUN = false)
    (hgoesOn : bit (par p 0) 30 = true → flag m (rCVU_STAT u) fCVU_STAT_OWNED = true) :
    cvJobBody p m = pend opCvJob .cv u p (startJob u p m) := by
  subst hu
  have hmine : (flag m (rCVU_STAT (bits (par p 0) 1 0)) fCVU_STAT_OWNED && getF m (rCVU_STAT (bits (par p 0) 1 0)) fCVU_STAT_OWNER == ctxN p) =
      flag m (rCVU_STAT (bits (par p 0) 1 0)) fCVU_STAT_OWNED := by
    rw [Bool.and_eq_left_iff_imp, beq_iff_eq]
    exact howner
  have hnew : (bit (par p 0) 30 && !flag m (rCVU_STAT (bits (par p 0) 1 0)) fCVU_STAT_OWNED) = false := by
    simpa using hgoesOn
  simp only [cvJobBody, hok, hheld, Nat.not_lt.mpr hfits, hmine, hidle, hnew, Bool.and_not_self]
  rfl

end Sys2Proof.Machine

open Sys2Proof Sys2Proof.Machine

/-- Settles O40: each packet by its body, the end of a run by its kind, the end of a job by what its unit holds. -/
theorem calibrationRowsComplete : Obligations.CalibrationRowsComplete := by
  refine ⟨answers_of_body (fun _ _ => rfl) ?run fun _ _ => rfl, answers_of_body (fun _ _ => rfl) ?factory fun _ _ => rfl,
    fun out r => happens_of_run (execCalibrationDone · out) (fun _ _ => rfl) ?ends fun _ _ => rfl,
    fun out r => happens_of_run (execCalibrationDone · out) (fun _ _ => rfl) ?restores fun _ _ => rfl,
    happens_of_run (execCalibrationCheck · false) (fun _ _ => rfl) ?check fun _ _ => rfl,
    answers_of_body (fun _ _ => rfl) ?job fun _ _ => rfl,
    fun u t s => ?jobEnds⟩
  case run =>
    rintro p m ⟨hlen, hclean, hitems, hstopped, hmotors, hfree⟩
    rw [withLen_ok (by simp [hlen])]
    simp only [hclean, bne_iff_ne.mpr hitems, Bool.and_self, require_ok]
    exact calStart_of_still hstopped hmotors hfree
  case factory =>
    rintro p m ⟨hlen, hpar, hstopped, hmotors, hfree⟩
    rw [withLen_ok (by simp [hlen]), hpar, beq_self_eq_true, require_ok]
    exact calStart_of_still hstopped hmotors hfree
  case ends =>
    rintro m ⟨hrun, hitems⟩
    simp only [hrun]
    exact if_neg hitems
  case restores =>
    rintro m ⟨hrun, hfactory, hok, hwrites⟩
    simp only [hrun]
    refine (if_pos hfactory).trans (if_neg ?_)
    simp [hok, hwrites]
  case check =>
    rintro m ⟨htopaz, hhub, hused⟩
    exact if_pos (by simp [htopaz, hhub, hused])
  case job =>
    rintro p m ⟨hlen, hok, hheld, hfits, howner, hidle, hgoesOn⟩
    rw [withLen_ok (by simp [hlen])]
    exact cvJobBody_of_free rfl hok hheld hfits howner hidle hgoesOn
  case jobEnds =>
    intro m hrun
    have hdone : jobDone u s.mem m = _ := if_neg (by simpa using hrun)
    exact congrArg (fun n => Host.Outcome.next (after n s)) hdone
end

section
/-!
Registers whose write or read has a row of its own (R14, R30, R31, R203, R276, R342, R344, R347, R385, R411, R450).
-/

namespace Sys2Proof.Machine

variable {m : Mach} {a ctx : Nat} {v : Word}

/-! ### A write by a row of its own -/

/-- A row that writes a register by itself does what the write does, for an open context with permission (R451). -/
theorem happens_of_hubWrite {row : Nat → Instr} {guard : Mach → Prop} {eff : Mach → Mach}
    (hrow : ∀ t s, exec (row t) s = runEvent t (hubWrite ctx a v) s) (hok : addrOk a = true)
    (hmay : ∀ m, guard m → hubRuns m = true ∧ ctxOpen m ctx = true ∧ mayWrite m ctx a = true)
    (hwrite : ∀ m, guard m → (writeReg ctx a v m).blk = eff m) : Happens row guard eff := by
  refine happens_of_event hrow fun m hguard => ?_
  obtain ⟨hhub, hopen, hperm⟩ := hmay m hguard
  rw [hubWrite, if_pos (by simp [hhub, hopen, hok, hperm])]
  exact hwrite m hguard

/-- A register whose written word takes effect as it stands. -/
abbrev TakesWord (a : Nat) : Prop := a ≠ rGAR_LEVEL ∧ a ≠ rPWR_WAKE_EN ∧ instAt (rFLT_STICKY 0) 4 10 a = none

theorem takenWord_eq (h : TakesWord a) : takenWord m a v = v := by
  obtain ⟨hlevel, hwake, hsticky⟩ := h
  simp [takenWord, hlevel, hwake, hsticky]

/-- A register that is neither of the AON domain nor staged. -/
abbrev TakesAtOnce (a : Nat) : Prop := TakesWord a ∧ aonReg a = false ∧ timingAt a = none ∧ instAt (rCHN_PORT_CFG 0) 0x10 4 a = none

/-- A write to a register that takes it at once: the fields by their access, then the register's own effect. -/
theorem writeReg_atOnce {r : RegDesc} {is : List Nat} (hreg : regAt a = some (r, is)) (h : TakesAtOnce a)
    (hgrp : instAt (rCHN_GRP_STAT 0) 0x10 64 a = none) : (writeReg ctx a v m).blk =
      (m |> setReg a (writeFlds (mayConfig m ctx) (is.headD 0) r.flds (fresh m a) v (reg m a)).word |>
        writeEffect (mayConfig m ctx) a v) := by
  obtain ⟨hword, haon, htiming, hport⟩ := h
  simp only [writeReg, hreg, takenWord_eq hword, haon, htiming, hgrp, storeWord, hport]
  rfl

/-- CLOSE stores nothing and closes the record. -/
theorem writeReg_firstCtl : (writeReg ctx rFLT_FIRST_CTL (fset 0 fFLT_FIRST_CTL_CLOSE 1) m).blk =
    (m |> setReg rFLT_FIRST_CTL (reg m rFLT_FIRST_CTL) |> closeRecord) := by
  have hreg : regAt rFLT_FIRST_CTL = some (⟨0x90c, [], [⟨fFLT_FIRST_CTL_CLOSE, .wo, 0, false⟩]⟩, []) := rfl
  rw [writeReg_atOnce hreg (by decide) rfl]
  rfl

/-- RELEASE stores nothing and releases ERR_N. -/
theorem writeReg_errN : (writeReg ctx rFLT_ERRN (fset 0 fFLT_ERRN_RELEASE 1) m).blk =
    (m |> setReg rFLT_ERRN (reg m rFLT_ERRN) |> releaseErr) := by
  have hreg : regAt rFLT_ERRN = some (⟨0xa04, [], [⟨fFLT_ERRN_ACTIVE, .ro, 1, false⟩, ⟨fFLT_ERRN_FATAL, .ro, 0, false⟩,
    ⟨fFLT_ERRN_HWSAFE, .ro, 0, false⟩, ⟨fFLT_ERRN_RELEASE, .wo, 0, false⟩]⟩, []) := rfl
  rw [writeReg_atOnce hreg (by decide) rfl]
  rfl

/-- GO of a context that may configure stores nothing and clears the fences. -/
theorem writeReg_pfenceClr (hmay : mayConfig m ctx = true) : (writeReg ctx rFLT_PFENCE_CLR (fset 0 fFLT_PFENCE_CLR_GO 1) m).blk =
    (m |> setReg rFLT_PFENCE_CLR (reg m rFLT_PFENCE_CLR) |> clearFences) := by
  have hreg : regAt rFLT_PFENCE_CLR = some (⟨0xb20, [], [⟨fFLT_PFENCE_CLR_GO, .wol, 0, false⟩]⟩, []) := rfl
  rw [writeReg_atOnce hreg (by decide) rfl, hmay]
  rfl

/-- A write to NVM_LOG_SEL stores ENTRY and loads the entry that it names. -/
theorem writeReg_logSel : (writeReg ctx rNVM_LOG_SEL v m).blk =
    (m |> setReg rNVM_LOG_SEL (fset (reg m rNVM_LOG_SEL) fNVM_LOG_SEL_ENTRY (fget v fNVM_LOG_SEL_ENTRY)) |>
      loadEntry (fget v fNVM_LOG_SEL_ENTRY)) := by
  have hreg : regAt rNVM_LOG_SEL =
    some (⟨0x30, [], [⟨fNVM_LOG_SEL_BAD, .ro, 0, false⟩, ⟨fNVM_LOG_SEL_ENTRY, .rw, 0, false⟩]⟩, []) := rfl
  rw [writeReg_atOnce hreg (by decide) rfl]
  rfl

/-! ### The calendar (R31, R385) -/

/-- A write to the AON domain acts at once, or waits while another crosses. -/
theorem writeReg_aon {x : RegDesc × List Nat} (hreg : regAt a = some x) (haon : aonReg a = true) (hword : TakesWord a) :
    (writeReg ctx a v m).blk = aonWrite ⟨mayConfig m ctx, a, v⟩ m := by
  simp only [writeReg, hreg, takenWord_eq hword, haon, if_true]

theorem aonWrite_free {w : AonWr} (h : m.pwr.aonBusyTo ≤ m.now) : aonWrite w m = aonApply m.now w m := if_neg (Nat.not_lt.mpr h)

theorem aonWrite_waits {w : AonWr} (h : m.now < m.pwr.aonBusyTo) :
    aonWrite w m = { m with pwr := { m.pwr with aonQ := m.pwr.aonQ ++ [.write w] } } := if_pos h

theorem aonApply_timeLo {t : Nat} {may : Bool} : aonApply t ⟨may, rRTC_TIME_LO, v⟩ m =
    stageTime v { m with pwr := { m.pwr with aonBusyTo := t + aonCross } } := by
  rw [aonApply, if_pos rfl]

theorem aonApply_timeHi {t : Nat} {may : Bool} : aonApply t ⟨may, rRTC_TIME_HI, v⟩ m =
    loadTime t v { m with pwr := { m.pwr with aonBusyTo := t + aonCross } } := by
  rw [aonApply, if_neg (show rRTC_TIME_HI ≠ rRTC_TIME_LO by decide), if_pos rfl]

theorem writeReg_timeLo : (writeReg ctx rRTC_TIME_LO v m).blk = aonWrite ⟨mayConfig m ctx, rRTC_TIME_LO, v⟩ m :=
  writeReg_aon rfl (by decide) (by decide)

theorem writeReg_timeHi : (writeReg ctx rRTC_TIME_HI v m).blk = aonWrite ⟨mayConfig m ctx, rRTC_TIME_HI, v⟩ m :=
  writeReg_aon rfl (by decide) (by decide)

/-! ### The telltale (R14, R276) -/

/-- A one-bit field is set where its bit is. -/
theorem isSet_eq_bit {f : Fld} (h : f.len = 1) : isSet v f = bit v f.lo := by
  have hbit : (fget v f).testBit 0 = bit v f.lo := by rw [testBit_fget, h]; rfl
  have hlt : fget v f < 2 ^ f.len := Nat.mod_lt _ (by positivity)
  rw [h] at hlt
  rw [isSet, ← hbit]
  interval_cases fget v f <;> rfl

/-- The place of group `g`'s register of status. -/
theorem grpStat_facts (g : Fin 64) : regAt (rCHN_GRP_STAT g) = some (⟨0x100c, [(0x10, 64)], [⟨fCHN_GRP_STAT_TELLTALE, .w1c, 0, false⟩,
      ⟨fCHN_GRP_STAT_OFF, .ro, 0, false⟩, ⟨fCHN_GRP_STAT_FAILED, .ro, 0, false⟩, ⟨fCHN_GRP_STAT_UNDIAG, .ro, 0, false⟩,
      ⟨fCHN_GRP_STAT_G, .ro, 0xff, false⟩]⟩, [g.val]) ∧
    TakesAtOnce (rCHN_GRP_STAT g) ∧ instAt (rCHN_GRP_STAT 0) 0x10 64 (rCHN_GRP_STAT g) = some g.val ∧ addrOk (rCHN_GRP_STAT g) = true ∧
    addrBlock (rCHN_GRP_STAT g) = 9 := by
  revert g
  decide

/-- Such a register has no effect but the telltale's own. -/
theorem writeEffect_grpStat (g : Fin 64) {may : Bool} : writeEffect may (rCHN_GRP_STAT g) v m = m := by
  obtain ⟨-, -, -, -, hblock⟩ := grpStat_facts g
  have hne : ∀ b, addrBlock b ≠ 9 → rCHN_GRP_STAT g ≠ b := fun b hb heq => hb (heq ▸ hblock)
  simp [writeEffect, hblock, hne rFLT_FIRST_CTL (by decide), hne rFLT_ERRN (by decide), hne rFLT_PFENCE_CLR (by decide),
    hne rNVM_LOG_SEL (by decide), hne rWRP_POSE_CFG (by decide)]

/-- A written 1 counts where no failure is fresh (R14). -/
theorem isSet_telltale (w : Word) : isSet (fset 0 fCHN_GRP_STAT_TELLTALE 1 &&& ~~~w) fCHN_GRP_STAT_TELLTALE =
    !bit w fCHN_GRP_STAT_TELLTALE.lo := by
  have hone : bit (fset 0 fCHN_GRP_STAT_TELLTALE 1) fCHN_GRP_STAT_TELLTALE.lo = true := by decide
  rw [isSet_eq_bit rfl, bit_and, bit_not, hone]
  rfl

/-- A written 1 that is not fresh lies in the field's own bit. -/
theorem telltale_masked (w : Word) : fset 0 fCHN_GRP_STAT_TELLTALE 1 &&& ~~~w &&& fldMask fCHN_GRP_STAT_TELLTALE =
    w32 (2 ^ fCHN_GRP_STAT_TELLTALE.lo) &&& ~~~w := by
  have hone : fset 0 fCHN_GRP_STAT_TELLTALE 1 = w32 (2 ^ fCHN_GRP_STAT_TELLTALE.lo) := by decide
  have hmask : fldMask fCHN_GRP_STAT_TELLTALE = w32 (2 ^ fCHN_GRP_STAT_TELLTALE.lo) := by decide
  rw [hone, hmask, BitVec.and_comm, ← BitVec.and_assoc, BitVec.and_self]

/-- A write of 1 to TELLTALE clears it, but for a failure of the present HUB cycle. -/
theorem writeReg_telltale (g : Fin 64) : (writeReg ctx (rCHN_GRP_STAT g) (fset 0 fCHN_GRP_STAT_TELLTALE 1) m).blk =
    (let a := rCHN_GRP_STAT g
     let r := when (!bit (fresh m a) fCHN_GRP_STAT_TELLTALE.lo) (relight g) m
     setReg a (reg r a &&& ~~~ (w32 (2 ^ fCHN_GRP_STAT_TELLTALE.lo) &&& ~~~ fresh r a)) r) := by
  obtain ⟨hreg, ⟨hword, haon, htiming, hport⟩, hgrp, -, -⟩ := grpStat_facts g
  simp only [writeReg, hreg, takenWord_eq hword, haon, htiming, hgrp, isSet_telltale, storeWord, hport, writeEffect_grpStat]
  simp only [writeFlds, writeFld, List.foldl, telltale_masked]
  rfl

/-! ### Reads with an effect (R450) -/

/-- A row that reads a register by itself does what the read does. -/
theorem happens_of_hubRead {row : Nat → Instr} {eff : Mach → Mach} (hrow : ∀ t s, exec (row t) s = runEvent t (hubRead a) s)
    (hread : ∀ m, readRow a m = eff m) : Happens row (fun m => hubRuns m = true) eff :=
  happens_of_event hrow fun m hhub => (if_pos hhub).trans (hread m)

end Sys2Proof.Machine

open Sys2Proof Sys2Proof.Machine

/-- Settles O9: each row is a write or a read of one register; what that register does with the word is a lemma of its own above. -/
theorem registerEffectRowsComplete : Obligations.RegisterEffectRowsComplete := by
  unfold Obligations.RegisterEffectRowsComplete
  refine ⟨fun ctx => ⟨?close, ?release, ?clear, fun v => ⟨?stage, ?stageWaits, ?load, ?loadWaits⟩, fun v => ?log⟩,
    fun ctx g v => ?rate, fun ctx g => ?telltale, ?timeLo, ?aonLo, ?hubLoad, fun e => ?garLoad⟩
  case close => exact happens_of_hubWrite (fun _ _ => rfl) rfl (fun _ h => h) (fun _ _ => writeReg_firstCtl)
  case release => exact happens_of_hubWrite (fun _ _ => rfl) rfl (fun _ h => h) (fun _ _ => writeReg_errN)
  case clear =>
    exact happens_of_hubWrite (fun _ _ => rfl) rfl (fun _ h => h.1) (fun _ h => writeReg_pfenceClr h.2)
  case stage =>
    exact happens_of_hubWrite (fun _ _ => rfl) rfl (fun _ h => h.1)
      (fun _ h => writeReg_timeLo.trans ((aonWrite_free h.2).trans aonApply_timeLo))
  case stageWaits =>
    exact happens_of_hubWrite (fun _ _ => rfl) rfl (fun _ h => h.1)
      (fun _ h => writeReg_timeLo.trans (aonWrite_waits h.2))
  case load =>
    exact happens_of_hubWrite (fun _ _ => rfl) rfl (fun _ h => h.1)
      (fun _ h => writeReg_timeHi.trans ((aonWrite_free h.2).trans aonApply_timeHi))
  case loadWaits =>
    exact happens_of_hubWrite (fun _ _ => rfl) rfl (fun _ h => h.1)
      (fun _ h => writeReg_timeHi.trans (aonWrite_waits h.2))
  case log => exact happens_of_hubWrite (fun _ _ => rfl) rfl (fun _ h => h) (fun _ _ => writeReg_logSel)
  case rate =>
    have hok : ∀ g : Fin 8, addrOk (rSCN_RATE g) = true := by decide
    exact happens_of_hubWrite (fun _ _ => rfl) (hok g) (fun _ ⟨hhub, hopen, hperm, _⟩ => ⟨hhub, hopen, hperm⟩)
      (fun _ _ => rfl)
  case telltale =>
    obtain ⟨-, -, -, hok, -⟩ := grpStat_facts g
    exact happens_of_hubWrite (fun _ _ => rfl) hok (fun _ h => h) (fun _ _ => writeReg_telltale g)
  case timeLo => exact happens_of_hubRead (fun _ _ => rfl) (fun _ => rfl)
  case aonLo => exact happens_of_hubRead (fun _ _ => rfl) (fun _ => rfl)
  case hubLoad => exact happens_of_hubRead (fun _ _ => rfl) (fun _ => rfl)
  case garLoad =>
    refine happens_of_hubRead (fun _ _ => rfl) (fun _ => ?_)
    fin_cases e <;> rfl
end

section
/-!
The heartbeat of Topaz, its supervision and its return (R65, R326, R349), and the load windows (R76, R78, R459).
-/

namespace Sys2Proof.Machine

variable {m : Mach}

/-- Onyx supervises a Topaz that runs. -/
structure Supervised (m : Mach) : Prop where
  acts : onyxActs m = true
  hub : hubRuns m = true
  booted : m.upd.booted = true
  up : m.saf.topazDown = false

theorem Supervised.heeds (h : Supervised m) : (!onyxActs m || !hubRuns m || !m.upd.booted || m.saf.topazDown) = false := by
  simp [h.acts, h.hub, h.booted, h.up]

/-- R326: the count that Onyx expects renews the supervision. -/
theorem heartbeat_right {count : Nat} (h : Supervised m) (hright : ∀ c, m.saf.hb = some c → count % 2 ^ 32 = (c + 1) % 2 ^ 32) :
    heartbeat count m = goodBeat count m := by
  cases hlast : m.saf.hb with
  | none => simp [heartbeat, h.heeds, hlast]
  | some c =>
    simp only [heartbeat, h.heeds, hlast, beq_iff_eq.mpr (hright c hlast), Bool.true_or]
    rfl

/-- R326: a wrong count resets Topaz. -/
theorem heartbeat_wrong {count c : Nat} (h : Supervised m) (hlast : m.saf.hb = some c) (hwrong : count % 2 ^ 32 ≠ (c + 1) % 2 ^ 32)
    (hchecked : m.saf.hbPaused = false) : heartbeat count m = resetTopaz m := by
  simp only [heartbeat, h.heeds, hlast, beq_false_of_ne hwrong, hchecked]
  rfl

end Sys2Proof.Machine

open Sys2Proof Sys2Proof.Machine

/-- Settles O34, by the conditions under which each event is due. -/
theorem topazAndLoadEventsComplete : Obligations.TopazAndLoadEventsComplete := by
  refine ⟨fun count => happens_of_run (execTopazHeartbeat · count) (fun _ _ => rfl) ?right,
    fun count c => happens_of_run (execTopazHeartbeat · count) (fun _ _ => rfl) ?wrong,
    happens_of_run execTopazWatchdog (fun _ _ => rfl) ?missing, happens_of_run execTopazRestarted (fun _ _ => rfl) ?restarted,
    fun load gar0 gar1 => happens_of_run (execLoadWindow · load gar0 gar1) (fun _ _ => rfl) ?window⟩
  case right =>
    rintro m ⟨hacts, hhub, hbooted, hup, hright⟩
    exact heartbeat_right ⟨hacts, hhub, hbooted, hup⟩ hright
  case wrong =>
    rintro m ⟨hacts, hhub, hbooted, hup, hlast, hwrong, hchecked⟩
    exact heartbeat_wrong ⟨hacts, hhub, hbooted, hup⟩ hlast hwrong hchecked
  case missing =>
    rintro m ⟨hacts, hhub, hbooted, hup, hchecked, hlate⟩
    exact if_pos (by simp [hbChecked, hacts, hhub, hbooted, hup, hchecked, hlate])
  case restarted =>
    intro m hdown
    exact if_neg (by simp [hdown])
  case window =>
    rintro m ⟨hhub, hdue⟩
    exact if_neg (by simp [hhub, hdue])
end

section
/-!
The system opcodes (R72, R79, R80, R86): each does in its body what its row says, for a packet of the right length and form.
-/

namespace Sys2Proof.Machine

/-- Check 12 of R56 for a row of one length. -/
theorem withLen_eq {n : Nat} {body : Packet → Mach → Mach × Rep} {p : Packet} {m : Mach} (h : p.params.length = n) :
    withLen (· == n) body p m = body p m := withLen_ok (beq_iff_eq.mpr h)

end Sys2Proof.Machine

open Sys2Proof Sys2Proof.Machine

/-- Settles O1: each body answers the words of its registers, and only LOAD_QUERY's read has an effect. -/
theorem systemReportsAnswer : Obligations.SystemReportsAnswer := by
  refine ⟨answers_of_body (fun _ _ => rfl) ?nop, answers_of_body (fun _ _ => rfl) ?identify, answers_of_body (fun _ _ => rfl) ?status,
    answers_of_body (fun _ _ => rfl) ?load, answers_of_body (fun _ _ => rfl) ?time⟩
  case nop => exact fun p m hlen => withLen_ok (decide_eq_true hlen)
  case identify => exact fun _ _ => withLen_eq
  case status => exact fun _ _ => withLen_eq
  case load => exact fun _ _ => withLen_eq
  case time => exact fun _ _ => withLen_eq

/-- Settles O2: nothing refuses a packet whose words are clean and in range. -/
theorem contextRowsComplete : Obligations.ContextRowsComplete := by
  refine ⟨answers_of_body (fun _ _ => rfl) ?opens, answers_of_body (fun _ _ => rfl) ?closes,
    answers_of_body (fun _ _ => rfl) ?permissions, answers_of_body (fun _ _ => rfl) ?subscribe, answers_of_body (fun _ _ => rfl) ?bind,
    answers_of_body (fun _ _ => rfl) ?assign⟩
  case opens =>
    rintro p m ⟨hlen, hclean⟩
    rw [withLen_eq hlen, hclean, require_ok]
  case closes => exact fun _ _ => withLen_eq
  case permissions =>
    rintro p m ⟨hlen, hclean, hctx⟩
    rw [withLen_eq hlen]
    simp only [setPermissionsBody, hclean, bne_iff_ne.mpr hctx, Bool.and_self, require_ok]
  case subscribe =>
    rintro p m ⟨hlen, hclean⟩
    rw [withLen_eq hlen]
    simp only [eventSubscribeBody, hclean, require_ok]
  case bind =>
    rintro p m ⟨hlen, hclean, hpath⟩
    rw [withLen_eq hlen]
    simp only [pathBindBody, hclean, decide_eq_true hpath, Bool.and_self, require_ok]
  case assign =>
    rintro p m ⟨hlen, hclean, hgrp⟩
    rw [withLen_eq hlen]
    simp only [groupAssignBody, hclean, decide_eq_true hgrp, Bool.and_self, require_ok]
end

section
/-!
The Bamut-compatible rows (R88 to R90, R461): each does in its body what its row says where nothing refuses it.
-/

namespace Sys2Proof.Machine

variable {p : Packet} {mem : Tab Byte} {m : Mach}

/-- The form of BAMUT_ENABLE that R88 and R461 ask for: its words are in range, the context takes part in the group, and every mapped tile
belongs to the group and has a geometry. -/
structure BamutFormed (p : Packet) (m : Mach) : Prop where
  len : p.params.length = 4
  isClean : clean (par p 0) [(16, 16), (12, 8), (1, 0)] = true
  grp : bits (par p 0) 12 8 < 8
  part : takesPart m (bits (par p 0) 1 0) (bits (par p 0) 12 8) = true
  tiles : ∀ e ∈ legacyMap p, e.2 < 24 ∧ groupOf m e.2 = some (bits (par p 0) 12 8) ∧ (tileGeom m e.2).isSome = true

theorem BamutFormed.mapped (h : BamutFormed p m) : (legacyMap p).all
    (fun e => decide (e.2 < 24) && groupOf m e.2 == some (bits (par p 0) 12 8) && (tileGeom m e.2).isSome) = true :=
  List.all_eq_true.mpr fun e he => by simp [h.tiles e he]

section
variable (h : BamutFormed p m)
include h

/-- R88: EN = 0 withdraws the right to legacy commands. -/
theorem bamutEnableBody_withdraws (hen : bit (par p 0) 16 = false) :
    bamutEnableBody p mem m = ⟨mem, setB (rHUB_CTX_CFG (bits (par p 0) 1 0)) fHUB_CTX_CFG_BAMUT_CMD false m, ok []⟩ := by
  simp only [bamutEnableBody, h.len, h.isClean, decide_eq_true h.grp, h.part, h.mapped, hen]
  rfl

/-- R88, R89: EN = 1 sets up the legacy tiles of the map, within the limits. -/
theorem bamutEnableBody_enables {r : LegacyRes} (hen : bit (par p 0) 16 = true) (hpixels : legacyPixels m (legacyMap p) ≤ 6291456)
    (hroom : stackRoom m (bits (par p 0) 12 8) (legacyMap p).length = true)
    (htiles : legacyTiles (bits (par p 0) 1 0) (legacyMap p) ⟨[], mem, m⟩ = some r) :
    bamutEnableBody p mem m = ⟨r.mem,
      r.blk |> stackBelow (bits (par p 0) 12 8) (r.tab.filterMap (fun e => e.2.map legacyEntry)) |>
        setBamut (bits (par p 0) 1 0) { on := true, grp := bits (par p 0) 12 8, tiles := r.tab } |>
        setB (rHUB_CTX_CFG (bits (par p 0) 1 0)) fHUB_CTX_CFG_BAMUT_CMD true |> showPend (bits (par p 0) 12 8), ok []⟩ := by
  have hfits : ¬ (6291456 < legacyPixels m (legacyMap p) ∨ (!stackRoom m (bits (par p 0) 12 8) (legacyMap p).length) = true) := by
    simp [hpixels, hroom]
  simp only [bamutEnableBody, h.len, h.isClean, decide_eq_true h.grp, h.part, h.mapped, hen, if_neg hfits, htiles]
  rfl

end

end Sys2Proof.Machine

open Sys2Proof Sys2Proof.Machine

/-- Settles O19: the rows that report as O1's do, FRAME_WRITE as BUF_WRITE, and BAMUT_ENABLE by EN. -/
theorem legacyRowsComplete : Obligations.LegacyRowsComplete := by
  refine ⟨answers_of_body (fun _ _ => rfl) ?nop, answers_of_body (fun _ _ => rfl) ?getId, answers_of_body (fun _ _ => rfl) ?status,
    fun b => answersMem_of_body (fun _ _ => rfl) ?frameWrite, answersMem_of_body (fun _ _ => rfl) ?withdraws,
    fun r => answersMem_of_body (fun _ _ => rfl) ?enables⟩
  case nop => exact fun p m hlen => withLen_ok (decide_eq_true hlen)
  case getId => exact fun _ _ => withLen_eq
  case status => exact fun _ _ => withLen_eq
  case frameWrite =>
    rintro p mem m ⟨hlen, htile, hheld, halign, hfit⟩
    rw [frameWriteBody_of_held hlen htile hheld, writeInto_fits halign (by rwa [List.length_drop]), List.length_drop]
  case withdraws =>
    rintro p mem m ⟨hlen, hclean, hgrp, hpart, hmap, hen⟩
    exact bamutEnableBody_withdraws ⟨hlen, hclean, hgrp, hpart, hmap⟩ hen
  case enables =>
    rintro p mem m ⟨hlen, hclean, hen, hgrp, hpart, hmap, hpixels, hroom, htiles⟩
    exact bamutEnableBody_enables ⟨hlen, hclean, hgrp, hpart, hmap⟩ hen hpixels hroom htiles
end

section
/-!
A packet as bytes, and its bytes read back (R39, R40, R42, R47).
-/

namespace Sys2Proof.Machine

/-! ### Words and halves from their bytes -/

theorem leNat_wordBytes (w : Word) : leNat (wordBytes w) = w.toNat := by
  have hlt := w.isLt
  simp only [wordBytes, leNat, Nat.shiftRight_eq_div_pow]
  omega

theorem w32_leNat_wordBytes (w : Word) : w32 (leNat (wordBytes w)) = w := by
  rw [leNat_wordBytes, w32, BitVec.ofNat_toNat, BitVec.setWidth_eq]

theorem halfBytes_value {n : Nat} (h : n < 65536) : n % 256 + 256 * (n >>> 8 % 256) = n := by
  rw [Nat.shiftRight_eq_div_pow]
  omega

theorem halfBytes_lt {n b : Nat} (hb : b ∈ halfBytes n) : b < 256 := by
  simp only [halfBytes, List.mem_cons, List.not_mem_nil, or_false] at hb
  omega

theorem wordBytes_lt {w : Word} {b : Nat} (hb : b ∈ wordBytes w) : b < 256 :=
  wordsBytes_lt (ws := [w]) (by simpa [wordsBytes] using hb)

/-- From the k-th word of a list on, its bytes begin with those of that word. -/
theorem take_drop_wordsBytes (rest : List Nat) : ∀ {ws : List Word} {k : Nat} (hk : k < ws.length),
    ((wordsBytes ws ++ rest).drop (4 * k)).take 4 = wordBytes ws[k]
  | _ :: _, 0, _ => rfl
  | w :: ws, k + 1, hk => by
    have hcons : wordsBytes (w :: ws) ++ rest = wordBytes w ++ (wordsBytes ws ++ rest) := rfl
    have hlen : 4 * (k + 1) = (wordBytes w).length + 4 * k := by rw [show (wordBytes w).length = 4 from rfl]; omega
    rw [hcons, hlen, List.drop_length_add_append]
    exact take_drop_wordsBytes rest (Nat.lt_of_succ_lt_succ hk)

/-! ### The bytes of a packet -/

section
variable {ver op : Nat} {p : Packet}

theorem headerBytes_length : (headerBytes ver op p).length = 14 := rfl

theorem encodePacket_length : (encodePacket ver op p).length = 20 + 4 * p.params.length := by
  have hlen : (encodePacket ver op p).length = 16 + (wordsBytes p.params).length + 4 := by
    simp only [encodePacket, List.length_append]
    rfl
  rw [hlen, wordsBytes_length]
  omega

section
variable (hver : ver < 256) (hop : op < 256)
include hver hop

/-- The header that HCHK closes, the parameters, and the trailer (R39). -/
theorem encodePacket_eq :
    encodePacket ver op p = headerBytes ver op p ++ (halfBytes p.hchk.toNat ++ (wordsBytes p.params ++ wordBytes p.trailer)) := by
  simp only [encodePacket, headerBytes, packetHeader, Nat.mod_eq_of_lt hver, Nat.mod_eq_of_lt hop, List.append_assoc]

/-- HCHK covers the first 14 bytes (R42). -/
theorem take_header_encodePacket : (encodePacket ver op p).take 14 = headerBytes ver op p := by
  rw [encodePacket_eq hver hop, ← headerBytes_length (ver := ver) (op := op) (p := p), List.take_left]

/-- The trailer covers everything before it (R42). -/
theorem take_covered_encodePacket : (encodePacket ver op p).take (16 + 4 * p.params.length) = coveredBytes ver op p := by
  have hlen : (coveredBytes ver op p).length = 16 + 4 * p.params.length := by
    have h : (coveredBytes ver op p).length = 16 + (wordsBytes p.params).length := List.length_append
    rw [h, wordsBytes_length]
  have hsplit : encodePacket ver op p = coveredBytes ver op p ++ wordBytes p.trailer := by
    rw [encodePacket_eq hver hop, coveredBytes, List.append_assoc, List.append_assoc]
  rw [hsplit, ← hlen, List.take_left]

theorem encodePacket_lt {b : Nat} (hb : b ∈ encodePacket ver op p) : b < 256 := by
  have hbyte (x : Byte) : x.toNat < 256 := x.isLt
  simp only [encodePacket_eq hver hop, headerBytes, packetHeader, List.mem_append, List.mem_cons, List.not_mem_nil, or_false] at hb
  rcases hb with ((((hb | hb) | hb) | hb) | hb) | hb | hb | hb
  · rcases hb with rfl | rfl | rfl | rfl | rfl | rfl
    exacts [by decide, hver, hop, hbyte _, hbyte _, hbyte _]
  exacts [halfBytes_lt hb, halfBytes_lt hb, halfBytes_lt hb, halfBytes_lt hb, halfBytes_lt hb, wordsBytes_lt hb, wordBytes_lt hb]

/-- The bytes of a packet as a carrier brings them. -/
theorem map_toNat_encodePacket :
    ((encodePacket ver op p).map (BitVec.ofNat 8)).map BitVec.toNat = encodePacket ver op p := by
  rw [List.map_map]
  exact (List.map_congr_left fun b hb => Nat.mod_eq_of_lt (encodePacket_lt hver hop hb)).trans (List.map_id' _)

/-- Check 1 of R56 agrees exactly where HCHK does. -/
theorem headerHere_encodePacket : headerHere (encodePacket ver op p) = true ↔ p.hchk.toNat = packetHchk ver op p := by
  have hlen : 16 ≤ (encodePacket ver op p).length := by rw [encodePacket_length]; omega
  have hmagic : byteAt (encodePacket ver op p) 0 = 0xD7 := rfl
  have hhchk : halfAt (encodePacket ver op p) 14 = p.hchk.toNat := halfBytes_value p.hchk.isLt
  simp [headerHere, hlen, hmagic, hhchk, take_header_encodePacket hver hop, packetHchk]

end

theorem halfAt_plen_encodePacket : halfAt (encodePacket ver op p) 8 = p.plen.toNat := halfBytes_value p.plen.isLt

theorem packetSize_encodePacket (hplen : p.plen.toNat = p.params.length) :
    packetSize (encodePacket ver op p) = (encodePacket ver op p).length := by
  rw [packetSize, halfAt_plen_encodePacket, hplen, encodePacket_length]

/-- What follows the header of a packet: its parameters and its trailer. -/
theorem drop_encodePacket (n : Nat) :
    (encodePacket ver op p).drop (16 + n) = (wordsBytes p.params ++ wordBytes p.trailer).drop n := by
  rw [← List.drop_drop, encodePacket, List.append_assoc]
  rfl

theorem param_encodePacket {k : Nat} (hk : k < p.params.length) :
    w32 (leNat (((encodePacket ver op p).drop (16 + 4 * k)).take 4)) = p.params[k] := by
  rw [drop_encodePacket, take_drop_wordsBytes _ hk, w32_leNat_wordBytes]

theorem params_encodePacket (hplen : p.plen.toNat = p.params.length) :
    (List.range (halfAt (encodePacket ver op p) 8)).map
      (fun k => w32 (leNat (((encodePacket ver op p).drop (16 + 4 * k)).take 4))) = p.params := by
  rw [halfAt_plen_encodePacket, hplen]
  refine List.ext_getElem (by simp) fun k _ hk => ?_
  rw [List.getElem_map, List.getElem_range, param_encodePacket hk]

theorem trailer_encodePacket (hplen : p.plen.toNat = p.params.length) :
    w32 (leNat (((encodePacket ver op p).drop (packetSize (encodePacket ver op p) - 4)).take 4)) = p.trailer := by
  have hoff : packetSize (encodePacket ver op p) - 4 = 16 + (wordsBytes p.params).length := by
    rw [packetSize_encodePacket hplen, encodePacket_length, wordsBytes_length]
    omega
  rw [hoff, drop_encodePacket, List.drop_left]
  exact w32_leNat_wordBytes p.trailer

/-- The bytes of a packet read back as that packet. -/
theorem packetOf_encodePacket (hshort : p.short = false) (hplen : p.plen.toNat = p.params.length) :
    packetOf p.t p.path (encodePacket ver op p) = p := by
  have hhalf (x : BitVec 16) : BitVec.ofNat 16 (x.toNat % 256 + 256 * (x.toNat >>> 8 % 256)) = x := by
    rw [halfBytes_value x.isLt, BitVec.ofNat_toNat, BitVec.setWidth_eq]
  have hbyte (x : Byte) : BitVec.ofNat 8 x.toNat = x := by rw [BitVec.ofNat_toNat, BitVec.setWidth_eq]
  obtain ⟨t, path, flags, host, queue, seq, plen, status, resv, params, hchk, trailer, short⟩ := p
  subst hshort
  refine Packet.mk.injEq .. |>.mpr
    ⟨rfl, rfl, hbyte flags, hbyte host, hbyte queue, hhalf seq, hhalf plen, hhalf status, hhalf resv, params_encodePacket hplen,
      hhalf hchk, trailer_encodePacket hplen, rfl⟩

end

/-! ### A whole packet in its carrier -/

/-- A header at the front ends the search at once. -/
theorem findHeader_of_here {bs : List Nat} {lost : Bool} {n : Nat} (h : headerHere bs = true) : findHeader bs lost n = ⟨n, false, bs⟩ := by
  cases bs with
  | nil => cases h
  | cons b bs => rw [findHeader, if_pos h]

/-- R47: a write of exactly one packet, for which the target has room, delivers it. -/
theorem execWritePkt_whole {t : Nat} {cpt : Fin 2} {bytes : List Byte} {env : PktEnv} {s : State}
    (hhub : hubRuns (atTime t s.blk) = true) (hawake : (atTime t s.blk).pwr.st ≠ 2)
    (hhere : headerHere (bytes.map BitVec.toNat) = true)
    (hsize : (bytes.map BitVec.toNat).length = packetSize (bytes.map BitVec.toNat))
    (hroom : cptWaiting (atTime t s.blk) cpt + packetSize (bytes.map BitVec.toNat) ≤ 4096) :
    execWritePkt t cpt bytes env s =
      deliver t (cptPath cpt) env (bytes.map BitVec.toNat) { s with blk := atTime t s.blk } := by
  have hne : bytes.map BitVec.toNat ≠ [] := by
    intro hnil
    rw [hnil] at hhere
    cases hhere
  have hlive : cptLive (atTime t s.blk) = true := by rw [cptLive, hhub, Bool.true_or]
  have hwake : ((atTime t s.blk).pwr.st == 2) = false := beq_false_of_ne hawake
  simp only [execWritePkt, hlive, hwake, findHeader_of_here hhere, hhere, when, forEach, List.range_zero, List.foldl_nil, hne,
    ← hsize, Nat.lt_irrefl, decide_false, Bool.not_true, Bool.or_self, Bool.false_eq_true, if_false,
    Nat.not_lt.mpr (hsize ▸ hroom)]

end Sys2Proof.Machine

open Sys2Proof Sys2Proof.Machine

/-- Settles O57: each header field stands at its own bytes, and each word reads back from its four. -/
theorem packetBytesReadBack : Obligations.PacketBytesReadBack := by
  intro ver op p hver hop hshort hplen bs
  refine ⟨packetOf_encodePacket hshort hplen, rfl, Nat.mod_eq_of_lt hver, Nat.mod_eq_of_lt hop, packetSize_encodePacket hplen,
    headerHere_encodePacket hver hop, fun cpt env s => ?_⟩
  intro m hpath hhchk hhub hawake hroom
  have hbytes : (bs.map (BitVec.ofNat 8)).map BitVec.toNat = bs := map_toNat_encodePacket hver hop
  have hsize : packetSize bs = bs.length := packetSize_encodePacket hplen
  have hwhole := execWritePkt_whole (t := p.t) (cpt := cpt) (bytes := bs.map (BitVec.ofNat 8)) (env := env) (s := s) hhub hawake
    (by rw [hbytes]; exact (headerHere_encodePacket hver hop).mpr hhchk) (by rw [hbytes, hsize]) (by rwa [hbytes, hsize])
  have hexec : exec (.writePkt p.t cpt (bs.map (BitVec.ofNat 8)) env) s = execWritePkt p.t cpt (bs.map (BitVec.ofNat 8)) env s := rfl
  have hver' : byteAt bs 1 = ver := Nat.mod_eq_of_lt hver
  have hop' : byteAt bs 2 = op := Nat.mod_eq_of_lt hop
  rw [hexec, hwhole, hbytes, deliver, ← hpath, packetOf_encodePacket hshort hplen, hver', hop']

/-- Settles O56: the parameters and check values by computation, the coverage by the layout of the bytes. -/
theorem checkCodesAsSpecified : Obligations.CheckCodesAsSpecified := by
  refine ⟨rfl, by decide +kernel, rfl, by decide +kernel, fun ver op p hver hop => ⟨?hchk, ?trailer⟩⟩
  case hchk => rw [take_header_encodePacket hver hop, packetHchk]
  case trailer => rw [take_covered_encodePacket hver hop, packetTrailer]
end

section
/-!
The arrival of a packet (R54 to R62, R67): which answer each check of R56 gives, and what happens to a packet that passes them.
-/

namespace Sys2Proof.Machine

variable {i : Instr} {o : OpInfo} {known : Bool} {p : Packet} {s : State} {b m : Mach}

/-! ### A packet that does not start -/

theorem runDratusMem_stops {rlen : Packet → Mach → Nat} {body : Packet → Tab Byte → Mach → MemRep}
    (h : arrive i o true p s.blk = .stop m) : runDratusMem i o rlen body p s = .next (after m s) := by
  simp only [runDratusMem, h, done, after]

/-- Where row `i` carries the packet `x` and it ends at its arrival, the outcome `r` is what the arrival left. -/
def StopsAtArrival (i : Instr) (s : State) (x : Option (Packet × OpInfo)) (r : Host.Outcome State Fault Refusal) : Prop :=
  ∀ p o m, x = some (p, o) → arrive i o true p s.blk = .stop m → r = .next (after m s)

theorem stopsAtArrival_none {r : Host.Outcome State Fault Refusal} : StopsAtArrival i s none r := by
  intro p o m hrow
  cases hrow

theorem stopsAtArrival_runDratus {rlen : Packet → Mach → Nat} {body : Packet → Mach → Mach × Rep} :
    StopsAtArrival i s (some (p, o)) (runDratus i o rlen body p s) := by
  rintro p o m ⟨⟩ h
  exact runDratus_stops h

theorem stopsAtArrival_runDratusMem {rlen : Packet → Mach → Nat} {body : Packet → Tab Byte → Mach → MemRep} :
    StopsAtArrival i s (some (p, o)) (runDratusMem i o rlen body p s) := by
  rintro p o m ⟨⟩ h
  exact runDratusMem_stops h

/-- Every packet row has its packet arrive as the row of the opcode table that `rowOp` names. -/
theorem stopsAtArrival_exec (c : Instr) (s : State) : StopsAtArrival c s (rowOp c) (exec c s) := by
  unfold exec rowOp
  cases c with
  | bufAlloc | bufWrite | bufRead | warpMeshLoad | uniformityLoad | wearTableLoad | transferCurveLoad | coefLoad | bamutEnable
    | frameWrite => exact stopsAtArrival_runDratusMem
  | heartbeat src | beamMode src | maskEnable src | complianceMap src | output src | safeConfig src =>
    cases src with
    | dratus => exact stopsAtArrival_runDratus
    | native => exact stopsAtArrival_none
  | nop | identify | contextOpen | contextClose | setPowerRun | setPowerIdle | setPowerSleep | setPowerDeep | setPowerOff | getStatus
    | loadQuery | provisionLock | setPermissions | eventSubscribe | pathBind | groupAssign | timeGet | restart | unprovision
    | regWrite | regModify | regReadList | regWriteList | regPoll | bufFree | bufInfo | streamBind | streamUnbind | layerCreate
    | layerDestroy | layerSet | layerAttach | stackSet | colourMatrixSet | commit | commitStatus | timingSet | racingSet | poseMsg
    | poseConfig | poseConfigGroup | poseConfigTile | placementMap | gainGlobalSet | wearSnapshot | repairConfig | derateConfig
    | complianceRead | portConfig | portStatus | loopbackOff | nearEndSerial | nearEndParallel | farEndRequest | farEndAccept | eyeScan
    | tileEnumerate | tileInfo | tileAuthPolicy | policyTimeouts | policyAnchor | policyTile | twinSet | twinRemove | spareSet
    | chainConfig | chainWrite | chainReadback | groupConfig | auroraLoad | gammaLoad | auroraStart | auroraStop | probeConfig
    | colourLoopSet | loopConfig | bankSwap | motorPosition | motorSpeed | motorPark | motorRelease | tuneInject | captureRead
    | adcConfig | levelSet | updBegin | updCancel | updData | updVerify | activate | confirm | settingsSave | calRun | calRunFactory
    | cvJob | safeRead | safeStatus | legacyNop | getId | legacyGetStatus | setGain | frameShow | sleep => exact stopsAtArrival_runDratus
  | regRead =>
    unfold execRegRead
    exact stopsAtArrival_runDratus
  | _ => exact stopsAtArrival_none

/-- A packet that ends at its arrival leaves what the arrival left, whatever its row. -/
theorem exec_stops {c : Instr} (hrow : rowOp c = some (p, o)) (h : arrive c o true p s.blk = .stop m) : exec c s = .next (after m s) :=
  stopsAtArrival_exec c s p o m hrow h

/-! ### Checks 1 to 8 -/

theorem arrive_notRunning (h : atTime p.t b = m) (hfresh : m.resuming = false) (hhub : hubRuns m = false) (hawake : m.pwr.st ≠ 2) :
    arrive i o known p b = .stop m := by
  subst h
  simp [arrive, hfresh, hhub, hawake]

theorem arrive_outOfReach (h : atTime p.t b = m) (hfresh : m.resuming = false) (hout : outOfReach m p.path = true) :
    arrive i o known p b = .stop m := by
  subst h
  simp [arrive, hfresh, hout]

/-- Check 2 of R56: VERSION is neither 1 nor 0 with the right to legacy commands. -/
theorem versionOk_eq_false (ver op : Nat) : versionOk (opUnknown ver op) p m = false ↔
    ver ≠ 1 ∧ ¬ (ver = 0 ∧ flag m (rHUB_CTX_CFG (ctxN p)) fHUB_CTX_CFG_BAMUT_CMD = true) := by
  simp [versionOk, opUnknown]

theorem checkHeader_unbound (h : pathEnabled m p.path = false) : checkHeader i o known p m = .stop (countDisc p.path m) := by
  simp [checkHeader, h]

theorem checkHeader_garbled (hpath : pathEnabled m p.path = true) (h : p.hchk.toNat ≠ packetHchk o.ver o.op p) :
    checkHeader i o known p m = .stop (countHdrErr p.path m) := by
  simp [checkHeader, hpath, h]

theorem lengthOk_eq (p : Packet) :
    lengthOk p = !(decide (pathMax p.path < p.plen.toNat) || p.short || p.plen.toNat != p.params.length) := by
  simp only [lengthOk, bne, Bool.not_or, Bool.not_not, decide_not, ← Nat.not_le]

theorem contextOk_eq (o : OpInfo) (p : Packet) (m : Mach) :
    contextOk o p m = !(!ctxOpen m (ctxN p) && !(o.op == 0x00 || (o.ver == 1 && (o.op == 0x01 || o.op == 0x02)) ||
      (o.ver == 0 && o.op == 0x01))) := by
  simp only [contextOk, Bool.not_and, Bool.not_not, Bool.or_assoc]

/-- Checks 2 to 8 of a packet whose header is intact, one after the other; the first that fails answers. -/
theorem checkHeader_intact (hpath : pathEnabled m p.path = true) (hhchk : p.hchk.toNat = packetHchk o.ver o.op p)
    (hentry : m.pwr.entry = none) : checkHeader i o known p m =
      if versionOk o p m = false then .stop (send (replyTo o p) (err stBAD_OPCODE) m)
      else if hostMatches m p = false then .stop (send (replyTo o p) (err stNOT_OWNER) m)
      else if fieldsOk p = false then .stop (send (replyTo o p) (err stBAD_FIELD) m)
      else if lengthOk p = false then .stop (send (replyTo o p) (err stBAD_LENGTH) m)
      else if p.trailer.toNat ≠ packetTrailer o.ver o.op p then .stop (send (replyTo o p) (err stBAD_CHECK) m)
      else if known = false then .stop (send (replyTo o p) (err stBAD_OPCODE) m)
      else if contextOk o p m = false then .stop (send (replyTo o p) (errW stSTATE_REJECT (viewReg m (rHUB_CTX_CFG (ctxN p)))) m)
      else checkSeq i o p m := by
  simp only [checkHeader, hpath, hhchk, hentry, lengthOk_eq, contextOk_eq, versionOk, Option.isSome_none, bne_self_eq_false, bne_iff_ne,
    Bool.not_true, Bool.false_eq_true, if_false, Bool.not_eq_true', Bool.not_eq_false']

/-- A packet that passes checks 1 to 8 comes to check 9. -/
theorem arrive_checked (h : atTime p.t b = m) (htakes : Takes m) (hchecked : Checked o p m) :
    arrive i o true p b = checkSeq i o p m := by
  obtain ⟨hfresh, hhub, hawake, hentry⟩ := htakes
  obtain ⟨hreach, hpath, hhchk, hver, hhost, hfields, hlen, htrailer, hctx⟩ := hchecked
  rw [arrive_checks h hfresh hhub hawake hentry hreach, checkHeader_intact hpath hhchk hentry]
  simp [hver, hhost, hfields, hlen, htrailer, hctx]

/-! ### Checks 9 to 11, and the start -/

/-- A packet with the expected sequence is no duplicate. -/
theorem not_duplicate {q : QueueRec} (h : p.seq.toNat = q.expected) : ¬ (q.expected + 1) % 65536 = q.expected := by
  have hlt := p.seq.isLt
  rw [← h]
  omega

/-- R58: a gap in the sequence is answered with the sequence expected. -/
theorem checkSeq_gap (hgap : p.seq.toNat ≠ (queueOf m (ctxN p) (queueN p)).expected)
    (hnew : ¬ ((queueOf m (ctxN p) (queueN p)).any = true ∧ (p.seq.toNat + 1) % 65536 = (queueOf m (ctxN p) (queueN p)).expected)) :
    checkSeq i o p m = .stop (m |> bump (rHUB_CTX_STAT (ctxN p)) fHUB_CTX_STAT_SEQGAP_CNT |>
      send (replyTo o p) (errW stSEQ_GAP (w32 (queueOf m (ctxN p) (queueN p)).expected))) := by
  simp only [checkSeq, Bool.and_eq_true, beq_iff_eq, hnew, if_false, bne_iff_ne.mpr hgap, if_true]

section
variable (hseq : p.seq.toNat = (queueOf m (ctxN p) (queueN p)).expected)
include hseq

/-- R67: a packet that its context may not send is answered, and consumes its sequence. -/
theorem checkSeq_refused {st : Nat} (h : permission m o p = some st) :
    checkSeq i o p m = .stop (answer (replyTo o p) (err st) (advanced o p m)) := by
  simp only [checkSeq, Bool.and_eq_true, beq_iff_eq, not_duplicate hseq, and_false, if_false, bne_iff_ne, hseq, ne_eq,
    not_true_eq_false, h, advanced]

/-- R62, R76: a full queue or a deferred class. -/
theorem checkSeq_deferred (h : permission m o p = none) (hfull : 16 ≤ queueLoad m (ctxN p) (queueN p) ∨ deferred m o = true) :
    checkSeq i o p m = .stop (m |> bump (rHUB_CTX_STAT (ctxN p)) fHUB_CTX_STAT_DEFER_CNT |> send (replyTo o p) (err stDEFERRED)) := by
  simp only [checkSeq, Bool.and_eq_true, beq_iff_eq, not_duplicate hseq, and_false, if_false, bne_iff_ne, hseq, ne_eq,
    not_true_eq_false, h, Bool.or_eq_true, decide_eq_true_eq, hfull, if_true]

theorem checkSeq_accepted (h : permission m o p = none) (hroom : queueLoad m (ctxN p) (queueN p) < 16) (hnow : deferred m o = false) :
    checkSeq i o p m = startOrWait i o p (advanced o p m) := by
  simp only [checkSeq, Bool.and_eq_true, beq_iff_eq, not_duplicate hseq, and_false, if_false, bne_iff_ne, hseq, ne_eq,
    not_true_eq_false, h, hnow, Bool.or_eq_true, decide_eq_true_eq, Nat.not_le.mpr hroom, Bool.false_eq_true, or_self, advanced]

end

/-- R60, R77: an accepted packet starts, or waits. -/
theorem startOrWait_eq (i : Instr) (o : OpInfo) (p : Packet) (m : Mach) :
    startOrWait i o p m = if mayStart o p m = true then .go (started o p m) else .stop (hold i o p true m) := by
  rw [mayStart, startOrWait]
  split
  next hwaits => simp [hwaits]
  next hgoes => simp [hgoes, started]

/-- R62: a packet that waits is one more of its queue. -/
theorem queueLoad_hold (i : Instr) (o : OpInfo) (p : Packet) (m : Mach) :
    queueLoad (hold i o p true (advanced o p m)) (ctxN p) (queueN p) = queueLoad m (ctxN p) (queueN p) + 1 := by
  have haon : aonHolds (hold i o p true (advanced o p m)) (ctxN p) (some (queueN p)) = aonHolds m (ctxN p) (some (queueN p)) := rfl
  simp only [queueLoad, haon]
  simp only [hold, advanced, setQueue, List.filter_append, List.length_append]
  simp
  omega

/-! ### Check 10 (R67) -/

theorem permission_noGroup (h : bit (reg m (rHUB_CTX_OPPERM (ctxN p))) o.grp = false) : permission m o p = some stNOT_PERMITTED := by
  simp [permission, h]

theorem permission_noLegacy (hver : o.ver = 0) (h : bit (reg m (rHUB_CTX_OPPERM (ctxN p))) 8 = false) :
    permission m o p = some stNOT_PERMITTED := by
  simp [permission, hver, h]

theorem permission_notH0 (hissuer : o.issuer ≠ .any) (hctx : ctxN p ≠ 0) : permission m o p = some stNOT_PERMITTED := by
  simp [permission, hissuer, hctx]

theorem permission_locked (hgrp : bit (reg m (rHUB_CTX_OPPERM (ctxN p))) o.grp = true)
    (hlegacy : o.ver = 0 → bit (reg m (rHUB_CTX_OPPERM (ctxN p))) 8 = true) (hissuer : o.issuer = .h0p) (hctx : ctxN p = 0)
    (hlocked : locked m = true) : permission m o p = some stLOCKED := by
  have hmay : (!bit (reg m (rHUB_CTX_OPPERM (ctxN p))) o.grp || (o.ver == 0 && !bit (reg m (rHUB_CTX_OPPERM (ctxN p))) 8)) = false := by
    by_cases hver : o.ver = 0
    · simp [hgrp, hlegacy hver]
    · simp [hgrp, hver]
  simp only [permission, hmay]
  simp [hctx, hissuer, hlocked]

end Sys2Proof.Machine

open Sys2Proof Sys2Proof.Machine

/-- Settles O52: the checks come in the order of `checkHeader_intact`. -/
theorem headerChecksInOrder : Obligations.HeaderChecksInOrder := by
  intro c p o s hrow m refused
  refine ⟨fun hfresh hhub hawake => exec_stops hrow (arrive_notRunning rfl hfresh hhub hawake),
    fun ⟨hfresh, _⟩ hout => exec_stops hrow (arrive_outOfReach rfl hfresh hout), fun ⟨hfresh, hhub, hawake, hentry⟩ hreach => ?_⟩
  have harrive := arrive_checks (i := c) (o := o) (known := true) (m := m) rfl hfresh hhub hawake hentry hreach
  refine ⟨fun hpath => exec_stops hrow (harrive.trans (checkHeader_unbound hpath)),
    fun hpath => ⟨fun hhchk => exec_stops hrow (harrive.trans (checkHeader_garbled hpath hhchk)), fun hhchk => ?_⟩⟩
  have check2 := harrive.trans (checkHeader_intact hpath hhchk hentry)
  refine ⟨fun hver => exec_stops hrow (check2.trans (if_pos hver)), fun hver => ?_⟩
  have check3 := check2.trans (if_neg (by simp [hver]))
  refine ⟨fun hhost => exec_stops hrow (check3.trans (if_pos hhost)), fun hhost => ?_⟩
  have check4 := check3.trans (if_neg (by simp [hhost]))
  refine ⟨fun hfields => exec_stops hrow (check4.trans (if_pos hfields)), fun hfields => ?_⟩
  have check5 := check4.trans (if_neg (by simp [hfields]))
  refine ⟨fun hlen => exec_stops hrow (check5.trans (if_pos hlen)), fun hlen => ?_⟩
  have check6 := check5.trans (if_neg (by simp [hlen]))
  refine ⟨fun htrailer => exec_stops hrow (check6.trans (if_pos htrailer)), fun htrailer hctx => ?_⟩
  have check8 := (check6.trans (if_neg (not_not_intro htrailer))).trans (if_neg (by decide))
  exact exec_stops hrow (check8.trans (if_pos hctx))

/-- Settles O53: a gap stops at check 9; the expected sequence passes on to the start. -/
theorem seqGapNamesExpected : Obligations.SeqGapNamesExpected := by
  intro c p o s hrow m q htakes hchecked
  have harrive := arrive_checked (i := c) (b := s.blk) rfl htakes hchecked
  refine ⟨fun hgap hnew => exec_stops hrow (harrive.trans (checkSeq_gap hgap hnew)), fun hseq hperm hroom hnow hstart => ?_⟩
  rw [harrive, checkSeq_accepted hseq hperm hroom hnow, startOrWait_eq, if_pos hstart]

/-- Settles O54: a full queue defers; a packet that must wait is held. -/
theorem queueHoldsSixteen : Obligations.QueueHoldsSixteen := by
  intro c p o s hrow m htakes hchecked hseq hperm
  have harrive := arrive_checked (i := c) (b := s.blk) rfl htakes hchecked
  refine ⟨fun hfull => exec_stops hrow (harrive.trans (checkSeq_deferred hseq hperm (.inl hfull))), fun hroom hnow hwaits => ⟨?_, ?_⟩⟩
  · refine exec_stops hrow (harrive.trans ?_)
    rw [checkSeq_accepted hseq hperm hroom hnow, startOrWait_eq, if_neg (Bool.eq_false_iff.mp hwaits)]
  · exact queueLoad_hold c o p m

/-- Settles O55, by the order of the conditions of check 10. -/
theorem issuerRuleChecked : Obligations.IssuerRuleChecked := by
  intro c p o s hrow m perm refused htakes hchecked hseq
  have refuses {st : Nat} (h : permission m o p = some st) : refused st :=
    exec_stops hrow ((arrive_checked rfl htakes hchecked).trans (checkSeq_refused hseq h))
  exact ⟨fun hgrp => refuses (permission_noGroup hgrp), fun hver hlegacy => refuses (permission_noLegacy hver hlegacy),
    fun hissuer hctx => refuses (permission_notH0 hissuer hctx),
    fun hgrp hlegacy hissuer hctx hlocked => refuses (permission_locked hgrp hlegacy hissuer hctx hlocked)⟩

/-- Settles O45: without an opcode a packet ends at check 2 or at check 7. -/
theorem undefinedOpcodesAnswered : Obligations.UndefinedOpcodesAnswered := by
  intro p ver op s m legacy o hfresh hhub hawake hentry hreach hpath hhchk hcase
  have hstop : arrive (.badOpcode p ver op) (opUnknown ver op) false p s.blk = .stop (send (replyTo o p) (err stBAD_OPCODE) m) := by
    rw [arrive_checks (m := m) rfl hfresh hhub hawake hentry hreach, checkHeader_intact (o := opUnknown ver op) hpath hhchk hentry]
    rcases hcase with ⟨hver, hlegacy⟩ | ⟨hver, hhost, hfields, hmax, hshort, hplen, htrailer⟩
    · rw [if_pos ((versionOk_eq_false ver op).mpr ⟨hver, hlegacy⟩)]
      rfl
    · have hlen : lengthOk p = true := by simp [lengthOk, ← hplen, hmax, hshort]
      -- check 2, where it fails, gives the answer of check 7
      simp [hhost, hfields, hlen, htrailer, opUnknown, o]
  have hexec : exec (.badOpcode p ver op) s = execBadOpcode p ver op s := rfl
  rw [hexec, execBadOpcode, hstop]
  rfl
end

section
/-!
What the arrival of a packet and its reply change (R43, R44, R57, R59, R77), and what a port's transmitter changes (R219, R228, R229).
-/

namespace Sys2Proof.Machine

/-! ### Arrival -/

section
variable {i : Instr} {o : OpInfo} {known : Bool} {p : Packet} {b m n : Mach}

/-- A packet that starts moves the round of its class on, if it is for Topaz, and nothing else. -/
theorem started_frame (o : OpInfo) (p : Packet) (m : Mach) : ∃ k, started o p m = { m with rr := k } ∧
    (k = m.rr ∨ (o.exe = .topaz ∧ k = tput 0 m.rr o.cls (ctxN p + 1))) := by
  by_cases h : o.exe = .topaz
  · exact ⟨_, if_pos (beq_iff_eq.mpr h), .inr ⟨h, rfl⟩⟩
  · exact ⟨m.rr, if_neg (h ∘ beq_iff_eq.mp), .inl rfl⟩

/-- An accepted packet changes the record of its queue alone. -/
theorem advanced_frame (o : OpInfo) (p : Packet) (m : Mach) :
    ∃ q, advanced o p m = { m with queues := tput {} m.queues (8 * ctxN p + queueN p) q } := ⟨_, rfl⟩

theorem startOrWait_go (h : startOrWait i o p m = .go n) : n = started o p m := by
  rw [startOrWait_eq] at h
  split at h
  · exact (Gate.go.inj h).symm
  · cases h

/-- A packet starts as a duplicate that is executed again (R59), or as the next of its queue (R57). -/
theorem checkSeq_go (h : checkSeq i o p m = .go n) : n = started o p m ∨ n = started o p (advanced o p m) := by
  dsimp only [checkSeq] at h
  split at h
  · left
    split at h
    · cases h
    · split at h
      · split at h
        · cases h
        · exact startOrWait_go h
      · cases h
  · right
    split at h
    · cases h
    · split at h
      · cases h
      · split at h
        · cases h
        · exact startOrWait_go h

theorem go_of_ite {c : Prop} [Decidable c] {x g : Gate} (hx : x ≠ .go n) (h : (if c then x else g) = .go n) : g = .go n := by
  split at h
  · exact absurd h hx
  · exact h

theorem stop_ne_go : Gate.stop m ≠ .go n := nofun

theorem ite_ne_go {c : Prop} [Decidable c] {x g : Gate} (hx : x ≠ .go n) (hg : g ≠ .go n) : (if c then x else g) ≠ .go n :=
  fun h => hg (go_of_ite hx h)

/-- A packet that starts has passed checks 1 to 8. -/
theorem checkHeader_go (hentry : m.pwr.entry = none) (h : checkHeader i o known p m = .go n) : checkSeq i o p m = .go n := by
  cases hpath : pathEnabled m p.path with
  | false =>
    rw [checkHeader_unbound hpath] at h
    cases h
  | true =>
    by_cases hhchk : p.hchk.toNat = packetHchk o.ver o.op p
    · rw [checkHeader_intact hpath hhchk hentry] at h
      have hchecks := go_of_ite stop_ne_go (go_of_ite stop_ne_go (go_of_ite stop_ne_go h))
      exact go_of_ite stop_ne_go (go_of_ite stop_ne_go (go_of_ite stop_ne_go (go_of_ite stop_ne_go hchecks)))
    · rw [checkHeader_garbled hpath hhchk] at h
      cases h

/-- A packet starts where it resumes, or where it passes the checks at its instant. -/
theorem arrive_go (h : arrive i o known p b = .go n) : n = { atTime p.t b with resuming := false } ∨
    ((atTime p.t b).resuming = false ∧ checkHeader i o known p (atTime p.t b) = .go n) := by
  unfold arrive at h
  cases hfresh : (atTime p.t b).resuming with
  | true => exact .inl (Gate.go.inj ((if_pos hfresh).symm.trans h)).symm
  | false =>
    have hreach := (if_neg (ne_true_of_eq_false hfresh)).symm.trans h
    have hawake := go_of_ite (ite_ne_go (ite_ne_go stop_ne_go stop_ne_go) stop_ne_go) (go_of_ite stop_ne_go hreach)
    exact .inr ⟨rfl, go_of_ite (ite_ne_go stop_ne_go stop_ne_go) (go_of_ite stop_ne_go hawake)⟩

/-- What the arrival of a packet that starts leaves: only the record of its queue and the round of its class may differ. -/
theorem arrive_frame (hentry : (atTime p.t b).pwr.entry = none) (h : arrive i o known p b = .go m) :
    let n := { atTime p.t b with resuming := false }
    ∃ qs k, m = { n with queues := qs, rr := k } ∧ (qs = n.queues ∨ ∃ q, qs = tput {} n.queues (8 * ctxN p + queueN p) q) ∧
      (k = n.rr ∨ (o.exe = .topaz ∧ k = tput 0 n.rr o.cls (ctxN p + 1))) := by
  intro n
  rcases arrive_go h with rfl | ⟨hfresh, hchecks⟩
  · exact ⟨n.queues, n.rr, rfl, .inl rfl, .inl rfl⟩
  · have hn : n = atTime p.t b := by
      simp only [n, ← hfresh]
    rw [← hn] at hentry hchecks
    rcases checkSeq_go (checkHeader_go hentry hchecks) with rfl | rfl
    · obtain ⟨k, hk, hround⟩ := started_frame o p n
      exact ⟨n.queues, k, hk, .inl rfl, hround⟩
    · obtain ⟨q, hq⟩ := advanced_frame o p n
      rw [hq]
      obtain ⟨k, hk, hround⟩ := started_frame o p { n with queues := tput {} n.queues (8 * ctxN p + queueN p) q }
      exact ⟨_, k, hk, .inr ⟨q, rfl⟩, hround⟩

end

/-! ### Replies -/

section
variable {dest : ReplyTo} {r : Rep} {o : OutPkt} {m : Mach}

/-- A reply is kept in the record of its queue, or not at all, and sent. -/
theorem answer_frame (dest : ReplyTo) (r : Rep) (m : Mach) : ∃ qs,
    (qs = m.queues ∨ ∃ q, qs = tput {} m.queues (8 * dest.host + dest.queue) q) ∧
      answer dest r m = send dest r { m with queues := qs } := by
  dsimp only [answer]
  split
  · exact ⟨_, .inr ⟨_, rfl⟩, rfl⟩
  · exact ⟨m.queues, .inl rfl, rfl⟩

/-- R41: NO_ACK suppresses OK. -/
theorem send_suppressed (hack : dest.noAck = true) (hok : r.status = stOK) : send dest r m = m := by
  simp [send, hack, hok]

theorem send_sent (h : dest.noAck = true → r.status ≠ stOK) : send dest r m = emit (replyPkt dest r) m := by
  rw [send, if_neg]
  simpa using h

theorem emit_cpt (h : isCpt o.path = true) : emit o m = { m with wait := m.wait ++ [.reply o] } := if_pos h

theorem emit_out (h : isCpt o.path = false) : emit o m = sendOut o m := if_neg (Bool.eq_false_iff.mp h)

/-- A packet on a path that is no port leaves in one frame of its controller, or in none. -/
theorem sendOut_noPort (h : 24 ≤ o.path) : ∃ fs, sendOut o m = { m with sent := m.sent ++ [o], canTx := m.canTx ++ fs } ∧
    (o.path ≠ 26 → o.path ≠ 27 → fs = []) := by
  by_cases hcan : o.path = 26 ∨ o.path = 27
  · have hframe : sendOut o m = sendCan (o.path - 26) (outBytes o) { m with sent := m.sent ++ [o] } := by
      rw [sendOut, if_neg (Nat.not_lt.mpr h), if_pos hcan]
    exact ⟨_, hframe, fun h26 h27 => absurd hcan (not_or.mpr ⟨h26, h27⟩)⟩
  · refine ⟨[], ?_, fun _ _ => rfl⟩
    rw [sendOut, if_neg (Nat.not_lt.mpr h), if_neg hcan, List.append_nil]

end

/-! ### The transmitter of a port -/

/-- Between `m` and `m'` the transmitter of port `p` has sent blocks: its state register and its record may have changed, and
nothing else. -/
def PortSends (p : Nat) (m m' : Mach) : Prop := ∃ rs ps ts, m' = { m with regs := rs, ports := ps, tx := m.tx ++ ts } ∧
  (∀ a, a ≠ rCPL_STATE p → tget 0 rs a = tget 0 m.regs a) ∧ ∀ q, q ≠ p → tget {} ps q = tget {} m.ports q

section
variable {p : Nat} {m m' m'' : Mach}

theorem PortSends.refl (p : Nat) (m : Mach) : PortSends p m m :=
  ⟨m.regs, m.ports, [], by rw [List.append_nil], fun _ _ => rfl, fun _ _ => rfl⟩

theorem PortSends.trans (h : PortSends p m m') (h' : PortSends p m' m'') : PortSends p m m'' := by
  obtain ⟨rs, ps, ts, rfl, hregs, hports⟩ := h
  obtain ⟨rs', ps', ts', rfl, hregs', hports'⟩ := h'
  exact ⟨rs', ps', ts ++ ts', by rw [← List.append_assoc], fun a ha => (hregs' a ha).trans (hregs a ha),
    fun q hq => (hports' q hq).trans (hports q hq)⟩

theorem portSends_setPort (r : PortRec) (m : Mach) : PortSends p m (setPort p r m) :=
  ⟨m.regs, _, [], by rw [List.append_nil]; rfl, fun _ _ => rfl, fun _ hq => tget_tput_ne hq _⟩

theorem portSends_setB (f : Fld) (v : Bool) (m : Mach) : PortSends p m (setB (rCPL_STATE p) f v m) :=
  ⟨_, m.ports, [], by rw [List.append_nil]; rfl, fun _ ha => tget_tput_ne ha _, fun _ _ => rfl⟩

theorem portSends_txRaw (type seq : Nat) (words : List Word) (m : Mach) : PortSends p m (txRaw p type seq words m) :=
  ⟨m.regs, _, _, rfl, fun _ _ => rfl, fun _ hq => tget_tput_ne hq _⟩

theorem portSends_when {c : Bool} {f : Mach → Mach} (hf : ∀ m, PortSends p m (f m)) (m : Mach) : PortSends p m (when c f m) := by
  cases c
  · exact .refl p m
  · exact hf m

theorem portSends_forEach {α : Type} {f : α → Mach → Mach} (hf : ∀ x m, PortSends p m (f x m)) :
    ∀ (l : List α) (m : Mach), PortSends p m (forEach l f m)
  | [], m => .refl p m
  | x :: l, m => (hf x m).trans (portSends_forEach hf l (f x m))

theorem portSends_txFill (m : Mach) : PortSends p m (txFill p m) := portSends_txRaw _ _ _ m

theorem portSends_txSeq (type : Nat) (words : List Word) (m : Mach) : PortSends p m (txSeq p type words m) :=
  (portSends_when portSends_txFill m).trans ((portSends_txRaw _ _ _ _).trans (portSends_setPort _ _))

theorem portSends_txRun {avail : Nat} {words : Mach → List Word} {send : List Word → Mach → Mach}
    (hsend : ∀ ws m, PortSends p m (send ws m)) : ∀ (n used : Nat) (m : Mach), PortSends p m (txRun p avail words send n used m).2
  | 0, _, m => .refl p m
  | n + 1, used, m => by
    rw [txRun]
    split
    · exact .refl p m
    · exact (hsend _ m).trans (portSends_txRun hsend n _ _)

theorem portSends_txExit (m : Mach) : PortSends p m (txExit p m) := by
  rw [txExit]
  split
  · exact .refl p m
  · exact (portSends_setB _ _ m).trans ((portSends_forEach (fun _ => portSends_txRaw _ _ _) _ _).trans
      (portSends_when (portSends_txRun (portSends_txSeq 6) _ _) _))

theorem portSends_sendBlk (type : Nat) (words : List Word) (m : Mach) : PortSends p m (sendBlk p type words m) :=
  (portSends_txExit m).trans (portSends_txSeq type words _)

/-- R44, R211: a packet on a port goes out in COMMAND blocks. -/
theorem portSends_sendCommands (bytes : List Nat) (m : Mach) : PortSends p m (sendCommands p bytes m) :=
  portSends_forEach (fun run m => (portSends_forEach (fun _ => portSends_sendBlk _ _) run m).trans (portSends_txFill _)) _ m

theorem sendOut_port {o : OutPkt} (h : o.path < 24) : PortSends o.path { m with sent := m.sent ++ [o] } (sendOut o m) := by
  rw [sendOut, if_pos h]
  exact portSends_when (portSends_sendCommands _) _

end

end Sys2Proof.Machine

open Sys2Proof Sys2Proof.Machine

/-- Settles O58, by what the checks that a packet passes change, and by the path on which its reply leaves. -/
theorem arrivalAndReplyFrame : Obligations.ArrivalAndReplyFrame := by
  refine ⟨fun c o p b m => ?arrival, fun dest r m => ?reply, fun o m h => sendOut_noPort h, fun o m h => sendOut_port h,
    fun m h => settle_quiet h⟩
  case arrival =>
    intro n harrive hentry
    exact arrive_frame hentry harrive
  case reply =>
    obtain ⟨qs, hqueue, hanswer⟩ := answer_frame dest r m
    refine ⟨qs, hqueue, fun hack hok => hanswer.trans (send_suppressed hack hok), fun hsent => ⟨fun hcpt => ?_, fun hout => ?_⟩⟩
    · exact hanswer.trans ((send_sent hsent).trans (emit_cpt hcpt))
    · exact hanswer.trans ((send_sent hsent).trans (emit_out hout))
end

section
/-!
The carriers of packets (R44, R47 to R51, R211): whole packets run their rows; reads, discards and status of the CPT targets and CAN.
-/

namespace Sys2Proof.Machine

/-! ### A received block raises no fault unless the elastic buffer refuses it -/

section
variable {p : Nat} {b : Blk} {m : Mach}

theorem heard_flt (p : Nat) (m : Mach) : (heard p m).flt = m.flt := by
  dsimp only [heard]
  split
  · split <;> simp only [setB_flt, setPort_flt]
  · simp only [setB_flt, setPort_flt]

theorem adaptEq_flt (p : Nat) (m : Mach) : (adaptEq p m).flt = m.flt := by
  dsimp only [adaptEq, draw]
  split_ifs <;> simp only [setF_flt, setB_flt, setPort_flt]

theorem ebInsert_flt (p : Nat) (m : Mach) : (ebInsert p m).flt = m.flt := by
  dsimp only [ebInsert, when]
  split <;> rfl

theorem ebTake_flt (h : (ebTake p m).1 = true) : (ebTake p m).2.flt = m.flt := by
  dsimp only [ebTake] at h ⊢
  split_ifs at h ⊢
  · rfl
  · exact ebInsert_flt p _
  · exact ebInsert_flt p _

theorem checkSeqIn_flt (p seq next : Nat) (m : Mach) : (checkSeqIn p seq next m).flt = m.flt := by
  dsimp only [checkSeqIn]
  split
  · exact setPort_flt ..
  · split <;> simp only [errBlk, bump_flt, setPort_flt]

theorem seqTaken_flt (h : BlkTaken b m) : (seqTaken b m).flt = m.flt :=
  calc (seqTaken b m).flt = (blkHeard b m).2.flt := checkSeqIn_flt _ _ _ _
    _ = (adaptEq b.port (heard b.port m)).flt := ebTake_flt h.2
    _ = m.flt := (adaptEq_flt _ _).trans (heard_flt _ _)

end

/-! ### COMMAND blocks (R44, R211) -/

section
variable {b : Blk} {env : PktEnv} {s : State}

/-- The block after a COMMAND block that its port takes: its bytes have joined the stream. -/
def commandJoined (b : Blk) (m : Mach) : Mach :=
  let n := seqTaken b m
  setRx b.port { rxOf n b.port with buf := (rxOf n b.port).buf ++ commandBytes b } n

theorem setRx_flt (p : Nat) (r : RxRec) (m : Mach) : (setRx p r m).flt = m.flt := rfl

theorem commandJoined_flt {m : Mach} (h : BlkTaken b m) : (commandJoined b m).flt = m.flt := by
  rw [commandJoined, setRx_flt, seqTaken_flt h]

theorem commandJoined_of_empty {m : Mach} (h : rxOf (seqTaken b m) b.port = {}) :
    commandJoined b m = setRx b.port { buf := commandBytes b } (seqTaken b m) := by
  simp only [commandJoined, h]
  rfl

theorem rxOf_setRx (p : Nat) (r : RxRec) (m : Mach) : rxOf (setRx p r m) p = r := tget_tput_self _

/-- A COMMAND block that a host port in UP takes: the packets of the stream that are complete are taken. -/
theorem execCommand_joined (htaken : BlkTaken b (atTime b.t s.blk)) (hhost : hostRole (atTime b.t s.blk) b.port = true)
    (hup : portState (seqTaken b (atTime b.t s.blk)) b.port = 4) (hquiet : Quiet (atTime b.t s.blk)) :
    execCommand b env s = takePackets b.t b.port env
      ((rxOf (commandJoined b (atTime b.t s.blk)) b.port).buf.length / 20 + 1) { s with blk := commandJoined b (atTime b.t s.blk) } := by
  have hblock : takeBlk 4 (hostRole (atTime b.t s.blk) b.port) b
      (fun m => setRx b.port { rxOf m b.port with buf := (rxOf m b.port).buf ++ commandBytes b } m) (atTime b.t s.blk) =
      commandJoined b (atTime b.t s.blk) := takeBlk_inUp htaken 4 hhost hup
  have hjoins : Quiet (commandJoined b (atTime b.t s.blk)) := by
    rwa [Quiet, commandJoined_flt htaken]
  simp only [execCommand, hblock, done, settle_quiet hjoins]

variable {t : Nat} {port : Fin 24} {n : Nat}

/-- Without a whole packet the stream waits, from its next header on. -/
theorem takePackets_partial {f : Found} (hfound : findHeader (rxOf s.blk port).buf (rxOf s.blk port).lost 0 = f) (hnone : f.discards = 0)
    (hpart : headerHere f.rest = true → f.rest.length < packetSize f.rest) :
    takePackets t port env (n + 1) s = .next { s with blk := setRx port ⟨f.rest, f.lost⟩ s.blk } := by
  have hstop : (!headerHere f.rest || decide (f.rest.length < packetSize f.rest)) = true := by
    cases hhere : headerHere f.rest
    · rfl
    · simpa using hpart hhere
  simp only [takePackets, hfound, hnone, hstop, if_true]
  rfl

/-- One whole packet in the stream is taken, and nothing is left of it. -/
theorem takePackets_whole {bs : List Nat} {u : State} (hrx : rxOf s.blk port = { buf := bs }) (hhere : headerHere bs = true)
    (hsize : bs.length = packetSize bs)
    (hrow : deliver t ⟨port, by omega⟩ env bs { s with blk := setRx port {} s.blk } = .next u) :
    takePackets t port env (n + 1) s = takePackets t port env n u := by
  have hgoes : (!headerHere bs || decide (bs.length < packetSize bs)) = false := by simp [hhere, hsize]
  have hrest : bs.drop (packetSize bs) = [] := by rw [← hsize, List.drop_length]
  simp only [takePackets, hrx, findHeader_of_here hhere, hgoes, hrest, Bool.false_eq_true, if_false, forEach, List.range_zero,
    List.foldl_nil]
  rw [hrow]

end

/-! ### CPT transactions (R47, R48) -/

section
variable {cpt : Nat} {m : Mach} (hhub : hubRuns m = true)
include hhub

theorem readPkt_reply {r : OutPkt} (h : (cptBuffered m cpt 4096 m.wait).head? = some (.reply r)) : readPkt cpt m =
    { m with wait := dropFirst (itemFor cpt) m.wait, sent := m.sent ++ [r], spiOut := halfBytes (outBytes r).length ++ outBytes r } := by
  simp only [readPkt, hhub, h]
  rfl

theorem readPkt_event {c path code : Nat} {data : List Word}
    (h : (cptBuffered m cpt 4096 m.wait).head? = some (.event c path code data)) : readPkt cpt m =
      (let o := eventPkt c path code data m
       eventSent c { m with
        wait := dropFirst (itemFor cpt) m.wait, sent := m.sent ++ [o], spiOut := halfBytes (outBytes o).length ++ outBytes o }) := by
  simp only [readPkt, hhub, h]
  rfl

theorem readPkt_nothing (h : (cptBuffered m cpt 4096 m.wait).head? = none) : readPkt cpt m = { m with spiOut := [0, 0] } := by
  simp only [readPkt, hhub, h]
  rfl

end

/-- R51: a classical frame on the request identifier is counted. -/
theorem classicalFrame_matches {n id : Nat} {xtd : Bool} {m : Mach} (hhub : hubRuns m = true)
    (hen : flag m (rCAN_DRATUS_ID n) fCAN_DRATUS_ID_EN = true) (hxtd : flag m (rCAN_DRATUS_ID n) fCAN_DRATUS_ID_XTD = xtd)
    (hid : sameId xtd (getF m (rCAN_DRATUS_ID n) fCAN_DRATUS_ID_REQ_ID) id = true) : classicalFrame n xtd id m = countDisc (26 + n) m :=
  if_pos (by simp [hhub, hen, hxtd, hid])

end Sys2Proof.Machine

open Sys2Proof Sys2Proof.Machine

/-- Settles O43: a whole packet is found at the front of what its carrier brings, and its row completes as every row does. -/
theorem carriersRunTheirPacket : Obligations.CarriersRunTheirPacket := by
  refine ⟨fun t cpt bytes env s => ?write, fun b env s => ?joins, fun b env s => ?whole⟩
  case write =>
    intro m bs hhub hawake hhere hsize hroom
    obtain ⟨u, hu, -⟩ := keeps_runRow (ver := byteAt bs 1) (op := byteAt bs 2) (e := env) (p := packetOf t (cptPath cpt) bs)
      (s := { s with blk := m })
    exact ⟨u, hu, (execWritePkt_whole hhub hawake hhere hsize hroom).trans hu⟩
  case joins =>
    intro m n found htaken hhost hup hquiet hnone hpart n'
    have hexec : exec (.command b env) s = execCommand b env s := rfl
    rw [hexec, execCommand_joined htaken hhost hup hquiet]
    exact takePackets_partial (by rw [commandJoined, rxOf_setRx]) hnone hpart
  case whole =>
    intro m n bs htaken hhost hup hquiet hempty hhere hsize
    let joined : State := { s with blk := setRx b.port { buf := bs } n }
    obtain ⟨u, hu, -⟩ := keeps_deliver (t := b.t) (path := ⟨b.port, by omega⟩) (e := env) (bs := bs)
      (s := { joined with blk := setRx b.port {} joined.blk })
    obtain ⟨v, hv, -⟩ := keeps_takePackets (t := b.t) (port := b.port) (e := env) (bs.length / 20) u
    have hexec : exec (.command b env) s = execCommand b env s := rfl
    refine ⟨u, v, hu, hv, ?_⟩
    have htake : takePackets b.t b.port env (bs.length / 20 + 1) joined = takePackets b.t b.port env (bs.length / 20) u :=
      takePackets_whole (rxOf_setRx _ _ _) hhere hsize hu
    rw [hexec, execCommand_joined htaken hhost hup hquiet, commandJoined_of_empty hempty, rxOf_setRx]
    exact htake.trans hv

/-- Settles O44, by what the next item for the target is, and by the path of what is discarded. -/
theorem carrierEventsComplete : Obligations.CarrierEventsComplete := by
  refine ⟨fun cpt r => happens_of_run (execReadPkt · cpt) (fun _ _ => rfl) fun _ ⟨hhub, hnext⟩ => readPkt_reply hhub hnext,
    fun cpt c path code data => happens_of_run (execReadPkt · cpt) (fun _ _ => rfl) fun _ ⟨hhub, hnext⟩ => readPkt_event hhub hnext,
    fun cpt => happens_of_run (execReadPkt · cpt) (fun _ _ => rfl) fun _ ⟨hhub, hnext⟩ => readPkt_nothing hhub hnext,
    fun cpt => happens_of_run (execReadStat · cpt) (fun _ _ => rfl) ?stat,
    fun path => happens_of_run (execPacketDiscard · path) (fun _ _ => rfl) ?garbled,
    fun path => happens_of_run (execPacketDiscard · path) (fun _ _ => rfl) ?unbound,
    fun can id => happens_of_run (execClassicalCanFrame · can true id) (fun _ _ => rfl) ?extended,
    fun can id => happens_of_run (execClassicalCanFrame · can false id) (fun _ _ => rfl) ?base⟩
  case stat =>
    intro m hlive
    exact if_neg (by simp [hlive])
  case garbled =>
    rintro m ⟨hhub, hreach, hpath⟩
    exact (if_pos (by simp [hhub, hreach])).trans (if_pos hpath)
  case unbound =>
    rintro m ⟨hhub, hreach, hpath⟩
    exact (if_pos (by simp [hhub, hreach])).trans (if_neg (by simp [hpath]))
  case extended =>
    rintro m ⟨hhub, hen, hxtd, hid⟩
    exact classicalFrame_matches hhub hen hxtd (beq_iff_eq.mpr hid)
  case base =>
    rintro m ⟨hhub, hen, hxtd, hid⟩
    exact classicalFrame_matches hhub hen hxtd (beq_iff_eq.mpr hid)
end

section
/-!
The rows that read and write registers (R68, R80 to R82, R450, R451): what the body of each does where nothing refuses it, and that none
writes a SAF register.
-/

namespace Sys2Proof.Machine

variable {p : Packet} {m : Mach}

/-! ### Reads (R80, R450) -/

theorem regReadBody_of_span (hcount : countOk (par p 1) = true) (hspan : spanOk (par p 0).toNat (bits (par p 1) 8 0) = true) :
    regReadBody p m =
      (let r := readRegs (span (par p 0).toNat (bits (par p 1) 8 0)) m
       (r.2, ok r.1)) := by
  simp only [regReadBody, hcount, hspan, require_ok]
  rfl

theorem regReadListBody_of_ok (haddrs : (addrs p).all addrOk = true) :
    regReadListBody p m = ((readRegs (addrs p) m).2, ok (readRegs (addrs p) m).1) := by
  simp only [regReadListBody, haddrs]
  rfl

/-- R80: a poll whose first read matches answers at once. -/
theorem regPollBody_matches (hclean : clean (par p 3) [(19, 0)] = true) (hlo : 1 ≤ bits (par p 3) 19 0)
    (hhi : bits (par p 3) 19 0 ≤ 1000000) (haddr : addrOk (par p 0).toNat = true)
    (hmatch : viewReg m (par p 0).toNat &&& par p 1 = par p 2) :
    regPollBody p m = (readEffect (par p 0).toNat m, ok [viewReg m (par p 0).toNat]) := by
  simp only [regPollBody, hclean, decide_eq_true hlo, decide_eq_true hhi, Bool.and_self, require_ok, haddr, readReg, hmatch, if_true]
  rfl

section
variable {ctx q : Nat} {r : PollRec} (hpoll : m.polls.find? (pollOf ctx q) = some r)
include hpoll

theorem pollRead_matches (hhub : hubRuns m = true) (hmatch : viewReg m r.addr &&& r.mask = r.expect) : pollRead ctx q m =
    answer r.dest (ok [viewReg m r.addr])
      { readEffect r.addr m with polls := dropFirst (pollOf ctx q) (readEffect r.addr m).polls } := by
  simp only [pollRead, hhub, if_true, hpoll, readReg, hmatch]

theorem pollTimeout_ends (hlate : r.endsAt ≤ m.now) : pollTimeout ctx q m =
    answer r.dest (errW stTIMEOUT r.last) { m with polls := dropFirst (pollOf ctx q) m.polls } := by
  simp only [pollTimeout, hpoll, if_neg (Nat.not_lt.mpr hlate)]

end

/-! ### Writes (R81, R82, R451) -/

/-- A REG_WRITE of a right form is refused without write permission for the block, and otherwise writes. -/
theorem regWriteBody_formed (hcount : countOk (par p 1) = true) (hlen : p.params.length = 2 + bits (par p 1) 8 0)
    (hspan : spanOk (par p 0).toNat (bits (par p 1) 8 0) = true) : regWriteBody p m =
      if mayWrite m (ctxN p) (par p 0).toNat = true then
        writeReply (writeRegs (ctxN p) ((span (par p 0).toNat (bits (par p 1) 8 0)).zip (p.params.drop 2)) m)
      else (m, err stNOT_PERMITTED) := by
  have hlong : ¬ p.params.length < 2 := by omega
  rw [regWriteBody, if_neg hlong, hcount, require_ok, if_neg (not_not_intro hlen), hspan]
  cases mayWrite m (ctxN p) (par p 0).toNat <;> rfl

/-- A REG_WRITE_LIST of registers of the map likewise. -/
theorem regWriteListBody_formed (haddrs : ((writePairs p.params).all fun e => addrOk e.1) = true) : regWriteListBody p m =
      if ((writePairs p.params).all fun e => mayWrite m (ctxN p) e.1) = true then
        writeReply (writeRegs (ctxN p) (writePairs p.params) m)
      else (m, err stNOT_PERMITTED) := by
  simp only [regWriteListBody, haddrs]
  cases (writePairs p.params).all fun e => mayWrite m (ctxN p) e.1 <;> rfl

/-- A REG_MODIFY of a register that R82 lets it touch likewise. -/
theorem regModifyBody_formed (haddr : addrOk (par p 0).toNat = true) (hplain : specialReg (par p 0).toNat = false) :
    regModifyBody p m =
      if mayWrite m (ctxN p) (par p 0).toNat = true then
        let a := (par p 0).toNat
        let r := writeReg (ctxN p) a ((viewReg m a &&& ~~~ par p 1) ||| (par p 2 &&& par p 1)) (readEffect a m)
        (r.blk, { status := if r.refused then stLOCKED else stOK, params := [viewReg m a, viewReg r.blk a] })
      else (m, err stNOT_PERMITTED) := by
  simp only [regModifyBody, haddr, hplain, readReg]
  cases mayWrite m (ctxN p) (par p 0).toNat <;> rfl

/-! ### The SAF block (R68) -/

/-- Nobody has write permission for a SAF register. -/
theorem mayWrite_saf {ctx a : Nat} (h : addrBlock a = 14) : mayWrite m ctx a = false := by
  rw [mayWrite, h]
  rfl

theorem not_mayWrite_saf {ctx a : Nat} (h : addrBlock a = 14) : ¬ mayWrite m ctx a = true := Bool.eq_false_iff.mp (mayWrite_saf h)

theorem hubWrite_saf {ctx a : Nat} {v : Word} (h : addrBlock a = 14) : hubWrite ctx a v m = m := by
  rw [hubWrite, mayWrite_saf h, Bool.and_false]
  rfl

end Sys2Proof.Machine

open Sys2Proof Sys2Proof.Machine

/-- Settles O7: each body reads in order where its packet is in form, and a poll ends by its match or its time. -/
theorem registerReadRowsComplete : Obligations.RegisterReadRowsComplete := by
  refine ⟨fun p s m => ?read, fun p s m => ?list, fun p s m => ?poll, fun ctx q r => ?again, fun ctx q r => ?timeout⟩
  case read =>
    intro l o hstart hlen hcount hspan
    have hexec : exec (.regRead p) s = runDratus (.regRead p) o (fun _ _ => bits (par p 1) 8 0) (withLen (· == 2) regReadBody) p s := rfl
    rw [hexec, runDratus_starts hstart, withLen_eq hlen, regReadBody_of_span hcount hspan]
    rfl
  case list =>
    intro o hstart hlo hhi haddrs
    have hexec : exec (.regReadList p) s = runDratus (.regReadList p) o (fun p _ => p.params.length)
      (withLen (fun n => decide (1 ≤ n) && decide (n ≤ 256)) regReadListBody) p s := rfl
    rw [hexec, runDratus_starts hstart, withLen_ok (by simp [hlo, hhi]), regReadListBody_of_ok haddrs]
    rfl
  case poll =>
    intro hstart hlen hclean hlo hhi haddr hmatch
    have hexec : exec (.regPoll p) s = runDratus (.regPoll p) (opRegPoll p) (replyLen 1) (withLen (· == 4) regPollBody) p s := rfl
    rw [hexec, runDratus_starts hstart, withLen_eq hlen, regPollBody_matches hclean hlo hhi haddr hmatch]
    rfl
  case again =>
    exact happens_of_run (execPollRead · ctx q) (fun _ _ => rfl) fun _ ⟨hhub, hpoll, hmatch⟩ => pollRead_matches hpoll hhub hmatch
  case timeout =>
    exact happens_of_run (execRegPollTimeout · ctx q) (fun _ _ => rfl) fun _ ⟨hpoll, hlate⟩ => pollTimeout_ends hpoll hlate

/-- Settles O8: with permission for its block each row writes its registers in order. -/
theorem registerWriteRowsComplete : Obligations.RegisterWriteRowsComplete := by
  refine ⟨answers_of_body (fun _ _ => rfl) ?write, answers_of_body (fun _ _ => rfl) ?list, answers_of_body (fun _ _ => rfl) ?modify,
    fun ctx addr v => happens_of_run (execRegisterWrite · ctx addr v) (fun _ _ => rfl) ?own⟩
  case write =>
    rintro p m ⟨hcount, hlen, hspan, hmay⟩
    exact (regWriteBody_formed hcount hlen hspan).trans (if_pos hmay)
  case list =>
    rintro p m ⟨heven, hlo, hhi, haddrs, hmay⟩
    rw [withLen_ok (by simp [heven, hlo, hhi])]
    exact (regWriteListBody_formed haddrs).trans (if_pos hmay)
  case modify =>
    rintro p m ⟨hlen, haddr, hplain, hmay⟩
    rw [withLen_eq hlen]
    exact (regModifyBody_formed haddr hplain).trans (if_pos hmay)
  case own =>
    rintro m ⟨hhub, hopen, haddr, hmay⟩
    exact if_pos (by simp [hhub, hopen, haddr, hmay])

/-- Settles O59: there is no write permission for the SAF block. -/
theorem safetyRegistersNotWritable : Obligations.SafetyRegistersNotWritable := by
  refine ⟨answers_of_body (fun _ _ => rfl) ?write, answers_of_body (fun _ _ => rfl) ?modify, answers_of_body (fun _ _ => rfl) ?list,
    fun ctx addr v hsaf => happens_of_run (execRegisterWrite · ctx addr v) (fun _ _ => rfl) fun _ _ => hubWrite_saf hsaf⟩
  case write =>
    rintro p m ⟨hcount, hlen, hspan, hsaf⟩
    exact (regWriteBody_formed hcount hlen hspan).trans (if_neg (not_mayWrite_saf hsaf))
  case modify =>
    rintro p m ⟨hlen, haddr, hplain, hsaf⟩
    rw [withLen_eq hlen]
    exact (regModifyBody_formed haddr hplain).trans (if_neg (not_mayWrite_saf hsaf))
  case list =>
    rintro p m ⟨heven, hlo, hhi, haddrs, e, he, hsaf⟩
    rw [withLen_ok (by simp [heven, hlo, hhi])]
    exact (regWriteListBody_formed haddrs).trans (if_neg fun hmay => not_mayWrite_saf hsaf (List.all_eq_true.mp hmay e he))
end
